-- ==== Sys2Proof/Word.lean ====
section
/-!
DEFINITION. The words of the machine, and the plain records that events carry as operands.
Only types stand here; every operation on them is in Machine/.
-/
namespace Sys2Proof

/-- A scalar register, a pointer, a coordinate word (R93). -/
abbrev Word := BitVec 64
/-- One byte of memory. -/
abbrev Byte := BitVec 8
/-- A 32-bit instruction word (R67). -/
abbrev IWord := BitVec 32
/-- A vector register of 64 bytes (R139). -/
abbrev VReg := BitVec 512
/-- A segment descriptor (R283) or a scale register (R166). -/
abbrev Wide := BitVec 256

/-- The four outstanding-operation counters of a strand (R220). -/
inductive Cls where
  | ldc | stc | cpc | toc
  deriving DecidableEq, Repr

/-- One cadence of a program image, in source order (R28, R50). The object format that carries it is
not given by spec/ (log 8): the loader event receives it as an operand. -/
structure Cadence where
  entry   : Nat
  period  : Nat
  strands : Nat
  vregs   : Nat
  phase   : Nat
  deriving DecidableEq, Repr, Inhabited

/-- What the loader event receives beside the RCB: the cadences of the image and the scratchpad
offsets at which it places text and data (R98, R28), and the panel address of the launch record of R362, 0 where the region
is launched without one. -/
structure Image where
  cadences : List Cadence
  textOff  : Nat
  dataOff  : Nat
  launch   : Nat
  deriving DecidableEq, Repr, Inhabited

/-- The unit that an error or a self-test concerns (R379), in physical numbers. -/
inductive FaultUnit where
  /-- scratchpad bank 0 to 15 of a tile, its vector file 16, pennant file 17 or core 18 -/
  | tileSram (tile unit : Nat)
  | tileRouter (tile : Nat)
  | oscillator (tile : Nat)
  | channel (ch : Nat)
  /-- a lane of the links in a direction -/
  | linkLane (dir lane : Nat)
  /-- DCC, bridge, or all four links of the die -/
  | wholeDie
  deriving DecidableEq, Repr, Inhabited

/-- A firmware image as the boot ROM reads it from flash (R375): its digest, whether the ML-DSA-65
signature over that digest checks, and its security version. -/
structure FwImage where
  digest  : Nat
  sigOk   : Bool
  version : Nat
  deriving DecidableEq, Repr, Inhabited

/-- What a message from another panel or a host asks for (R364), addressed as firmware binds it. -/
inductive RemoteOp where
  | load (n : Nat) (sx : Bool)
  | store (bytes : List Byte)
  /-- four bits of a byte: a tensor store of an E2M1 element (R306, R364) -/
  | nibble (hi : Bool) (v : BitVec 4)
  | atomic (major : Nat) (ty : Nat) (v e : Word)
  | penWrite (v : Word) (stamp : BitVec 32)
  | penAdd (v : Word) (stamp : BitVec 32)
  | penSample (kind : Nat) (expect : Word)
  | copyIn (bytes : List Byte)
  | copyOut (n : Nat)
  /-- a piece of a grid exchange (R277) for the tile of a scratchpad target: descriptor ID, with the page-table root and the
  virtual address of a descriptor in a FLAT segment, region, partition, face, step and elements by box position -/
  | piece (grid : Nat) (place : Option (Nat × Nat)) (rcb part face step : Nat) (cells : List (Nat × Word))
  deriving DecidableEq, Repr, Inhabited

/-- Where a message from outside the panel aims: a tile's scratchpad, die memory, a pennant, or
a virtual address under the root bound to the requester (R291, R364). Dies and tiles are logical. -/
inductive RemoteTarget where
  | scratch (die tile off : Nat)
  | dieMem (die off : Nat)
  | pennant (die tile idx : Nat)
  | virt (root va : Nat)
  deriving DecidableEq, Repr, Inhabited

/-- One step of a grid direction on a mesh: North is toward row 0 (R323). -/
inductive Dir where
  | n | e | s | w
  deriving DecidableEq, Repr, Inhabited

/-- A firmware image as an edge die takes it on its Ultra Ethernet port 0, or over the management port (R375, R382). -/
structure PortImage where
  die  : Nat
  img  : FwImage
  mgmt : Bool := false
  deriving DecidableEq, Repr, Inhabited

/-- A lane of a die's link in a direction, as an error names it (R376, R379). -/
structure LinkLane where
  dir  : Dir
  lane : Nat
  deriving DecidableEq, Repr, Inhabited

end Sys2Proof
end

