-- ==== Sys2Proof/Syntax.lean ====
section
/-!
DEFINITION. The instructions: one constructor per row of spec/opcode_table.json. A word's operands stand in the
widths of its fields (R81, R89), in the order of the table; bit 30 (L, R68) belongs to the bundle and is no operand.
The rows without an encoding are events of the machine (spec/95); their operands say which unit takes the step
and, where the outside world decides something, what it decides. In events a tile `pt` is named by its place
144 x physical die + 12y + x, a die by its physical number, a region by the panel address of its RCB.
-/
namespace Sys2Proof

inductive Instr where
  /-- ADD (R100) -/
  | add (d : BitVec 5) (a : BitVec 5) (b : BitVec 5)
  /-- SUB (R100) -/
  | sub (d : BitVec 5) (a : BitVec 5) (b : BitVec 5)
  /-- ADDP (R102) -/
  | addp (d : BitVec 5) (a : BitVec 5) (b : BitVec 5)
  /-- MUL (R100) -/
  | mul (d : BitVec 5) (a : BitVec 5) (b : BitVec 5)
  /-- MULHU (R100) -/
  | mulhu (d : BitVec 5) (a : BitVec 5) (b : BitVec 5)
  /-- MULHS (R100) -/
  | mulhs (d : BitVec 5) (a : BitVec 5) (b : BitVec 5)
  /-- DIVU (R101) -/
  | divu (d : BitVec 5) (a : BitVec 5) (b : BitVec 5)
  /-- DIVS (R101) -/
  | divs (d : BitVec 5) (a : BitVec 5) (b : BitVec 5)
  /-- REMU (R101) -/
  | remu (d : BitVec 5) (a : BitVec 5) (b : BitVec 5)
  /-- REMS (R101) -/
  | rems (d : BitVec 5) (a : BitVec 5) (b : BitVec 5)
  /-- AND (R100) -/
  | and (d : BitVec 5) (a : BitVec 5) (b : BitVec 5)
  /-- OR (R100) -/
  | or (d : BitVec 5) (a : BitVec 5) (b : BitVec 5)
  /-- XOR (R100) -/
  | xor (d : BitVec 5) (a : BitVec 5) (b : BitVec 5)
  /-- ANDN (R100) -/
  | andn (d : BitVec 5) (a : BitVec 5) (b : BitVec 5)
  /-- SHL (R100) -/
  | shl (d : BitVec 5) (a : BitVec 5) (b : BitVec 5)
  /-- SHR (R100) -/
  | shr (d : BitVec 5) (a : BitVec 5) (b : BitVec 5)
  /-- SHA (R100) -/
  | sha (d : BitVec 5) (a : BitVec 5) (b : BitVec 5)
  /-- ROTL (R100) -/
  | rotl (d : BitVec 5) (a : BitVec 5) (b : BitVec 5)
  /-- CLZ (R100) -/
  | clz (d : BitVec 5) (a : BitVec 5)
  /-- CTZ (R100) -/
  | ctz (d : BitVec 5) (a : BitVec 5)
  /-- POPC (R100) -/
  | popc (d : BitVec 5) (a : BitVec 5)
  /-- MINS (R100) -/
  | mins (d : BitVec 5) (a : BitVec 5) (b : BitVec 5)
  /-- MINU (R100) -/
  | minu (d : BitVec 5) (a : BitVec 5) (b : BitVec 5)
  /-- MAXS (R100) -/
  | maxs (d : BitVec 5) (a : BitVec 5) (b : BitVec 5)
  /-- MAXU (R100) -/
  | maxu (d : BitVec 5) (a : BitVec 5) (b : BitVec 5)
  /-- SLT (R100) -/
  | slt (d : BitVec 5) (a : BitVec 5) (b : BitVec 5)
  /-- SLTU (R100) -/
  | sltu (d : BitVec 5) (a : BitVec 5) (b : BitVec 5)
  /-- SEQ (R100) -/
  | seq (d : BitVec 5) (a : BitVec 5) (b : BitVec 5)
  /-- MAD (R104) -/
  | mad (d : BitVec 5) (a : BitVec 5) (b : BitVec 5) (c : BitVec 5)
  /-- SEL (R104) -/
  | sel (d : BitVec 5) (a : BitVec 5) (b : BitVec 5) (c : BitVec 5)
  /-- BFX (R105) -/
  | bfx (d : BitVec 5) (a : BitVec 5) (p : BitVec 6) (n : BitVec 6)
  /-- BFI (R105) -/
  | bfi (d : BitVec 5) (a : BitVec 5) (p : BitVec 6) (n : BitVec 6)
  /-- LIL (R106) -/
  | lil (d : BitVec 5) (i : BitVec 19)
  /-- LIH (R106) -/
  | lih (d : BitVec 5) (h : BitVec 2) (i : BitVec 16)
  /-- TLD (R306) -/
  | tld (t : BitVec 5) (c : BitVec 5) (g : BitVec 3)
  /-- TST (R306) -/
  | tst (t : BitVec 5) (c : BitVec 5) (g : BitVec 3)
  /-- TLDV (R307) -/
  | tldv (v : BitVec 7) (c : BitVec 5) (g : BitVec 3)
  /-- TSTV (R307) -/
  | tstv (v : BitVec 7) (c : BitVec 5) (g : BitVec 3)
  /-- ADDI (R103) -/
  | addi (d : BitVec 5) (a : BitVec 5) (i : BitVec 14)
  /-- ANDI (R103) -/
  | andi (d : BitVec 5) (a : BitVec 5) (i : BitVec 14)
  /-- ORI (R103) -/
  | ori (d : BitVec 5) (a : BitVec 5) (i : BitVec 14)
  /-- XORI (R103) -/
  | xori (d : BitVec 5) (a : BitVec 5) (i : BitVec 14)
  /-- SHLI (R103) -/
  | shli (d : BitVec 5) (a : BitVec 5) (n : BitVec 6)
  /-- SHRI (R103) -/
  | shri (d : BitVec 5) (a : BitVec 5) (n : BitVec 6)
  /-- SHAI (R103) -/
  | shai (d : BitVec 5) (a : BitVec 5) (n : BitVec 6)
  /-- SLTI (R103) -/
  | slti (d : BitVec 5) (a : BitVec 5) (i : BitVec 14)
  /-- B (R107) -/
  | b (c : BitVec 3) (a : BitVec 5) (b : BitVec 5) (o : BitVec 11)
  /-- BZ (R107) -/
  | bz (a : BitVec 5) (o : BitVec 19)
  /-- BNZ (R107) -/
  | bnz (a : BitVec 5) (o : BitVec 19)
  /-- LOOP (R108) -/
  | loop (a : BitVec 5) (o : BitVec 19)
  /-- JMP (R109) -/
  | jmp (o : BitVec 24)
  /-- JAL (R109) -/
  | jal (o : BitVec 24)
  /-- NOP (R112) -/
  | nop
  /-- PEND (R54) -/
  | pend
  /-- ERET (R114) -/
  | eret
  /-- HALT (R208) -/
  | halt
  /-- TRAP (R113) -/
  | trap (c : BitVec 16)
  /-- BKPT (R207) -/
  | bkpt (c : BitVec 16)
  /-- JR (R110) -/
  | jr (a : BitVec 5)
  /-- JALR (R110) -/
  | jalr (d : BitVec 5) (a : BitVec 5)
  /-- SPAWN (R358) -/
  | spawn (d : BitVec 5) (a : BitVec 5)
  /-- TAKE (R359) -/
  | take (d : BitVec 5) (a : BitVec 5)
  /-- TDONE (R360) -/
  | tdone (a : BitVec 5)
  /-- RTSET (R326) -/
  | rtset (d : BitVec 5) (a : BitVec 5) (b : BitVec 5)
  /-- RTCLR (R327) -/
  | rtclr (a : BitVec 5)
  /-- SEGLD (R264) -/
  | segld (g : BitVec 3) (a : BitVec 5)
  /-- SEGST (R264) -/
  | segst (g : BitVec 3) (a : BitVec 5)
  /-- GBIND (R269) -/
  | gbind (g : BitVec 3) (a : BitVec 5)
  /-- GSTEP (R277) -/
  | gstep (g : BitVec 3) (a : BitVec 5)
  /-- GQRY (R282) -/
  | gqry (d : BitVec 5) (g : BitVec 3) (b : BitVec 5)
  /-- TMAP (R309) -/
  | tmap (d : BitVec 5) (a : BitVec 5) (g : BitVec 3)
  /-- TQRY (R202) -/
  | tqry (d : BitVec 5) (a : BitVec 5)
  /-- EVACK (R211) -/
  | evack (a : BitVec 5)
  /-- EVICT (R215) -/
  | evict (d : BitVec 5) (a : BitVec 5)
  /-- RESUME (R216) -/
  | resume (d : BitVec 5) (a : BitVec 5)
  /-- CTXSV (R218) -/
  | ctxsv (a : BitVec 5) (b : BitVec 5)
  /-- CTXLD (R219) -/
  | ctxld (a : BitVec 5) (b : BitVec 5)
  /-- SCOPEW (R318) -/
  | scopew (a : BitVec 5) (b : BitVec 5)
  /-- BUNTW (R322) -/
  | buntw (a : BitVec 5) (b : BitVec 5)
  /-- PLOTW (R310) -/
  | plotw (a : BitVec 5) (b : BitVec 5)
  /-- PCLR (R189) -/
  | pclr (a : BitVec 5)
  /-- LD (R254) -/
  | ld (t : BitVec 5) (b : BitVec 5) (w : BitVec 2) (x : BitVec 1) (d : BitVec 11)
  /-- LD_INDEX (R254) -/
  | ldIndex (t : BitVec 5) (b : BitVec 5) (x : BitVec 5) (w : BitVec 2) (s : BitVec 1) (d : BitVec 6)
  /-- LD_ACQ (R254) -/
  | ldAcq (t : BitVec 5) (b : BitVec 5) (w : BitVec 2) (x : BitVec 1) (g : BitVec 5)
  /-- ST (R254) -/
  | st (t : BitVec 5) (b : BitVec 5) (w : BitVec 2) (d : BitVec 11)
  /-- ST_INDEX (R254) -/
  | stIndex (t : BitVec 5) (b : BitVec 5) (x : BitVec 5) (w : BitVec 2) (d : BitVec 6)
  /-- ST_REL (R254) -/
  | stRel (t : BitVec 5) (b : BitVec 5) (w : BitVec 2) (g : BitVec 5)
  /-- PFX (R258) -/
  | pfx (b : BitVec 5) (x : BitVec 5) (d : BitVec 14)
  /-- FILL (R262) -/
  | fill (d : BitVec 5) (v : BitVec 5) (n : BitVec 5) (w : BitVec 2) (c : BitVec 6) (e : BitVec 1)
  /-- LDV (R255) -/
  | ldv (v : BitVec 7) (b : BitVec 5) (x : BitVec 5) (d : BitVec 7)
  /-- STV (R255) -/
  | stv (v : BitVec 7) (b : BitVec 5) (x : BitVec 5) (d : BitVec 7)
  /-- LDVS (R256) -/
  | ldvs (v : BitVec 7) (b : BitVec 5) (s : BitVec 5) (w : BitVec 2)
  /-- STVS (R256) -/
  | stvs (v : BitVec 7) (b : BitVec 5) (s : BitVec 5) (w : BitVec 2)
  /-- LDVX (R256) -/
  | ldvx (v : BitVec 7) (b : BitVec 5) (i : BitVec 7) (w : BitVec 2)
  /-- STVX (R256) -/
  | stvx (v : BitVec 7) (b : BitVec 5) (i : BitVec 7) (w : BitVec 2)
  /-- VLDF (R257) -/
  | vldf (t : BitVec 7) (b : BitVec 5) (r : BitVec 3) (s : BitVec 1) (f : BitVec 5)
  /-- VLDF_SCALES (R257) -/
  | vldfScales (t : BitVec 3) (b : BitVec 5) (r : BitVec 3) (s : BitVec 1)
  /-- VSTF (R257) -/
  | vstf (t : BitVec 7) (b : BitVec 5) (r : BitVec 3) (s : BitVec 1) (f : BitVec 5)
  /-- VSTF_SCALES (R257) -/
  | vstfScales (t : BitVec 3) (b : BitVec 5) (r : BitVec 3) (s : BitVec 1)
  /-- AADD (R259) -/
  | aadd (d : BitVec 5) (b : BitVec 5) (v : BitVec 5) (y : BitVec 2) (o : BitVec 2) (g : BitVec 5)
  /-- AMIN (R259) -/
  | amin (d : BitVec 5) (b : BitVec 5) (v : BitVec 5) (y : BitVec 2) (o : BitVec 2) (g : BitVec 5)
  /-- AMAX (R259) -/
  | amax (d : BitVec 5) (b : BitVec 5) (v : BitVec 5) (y : BitVec 2) (o : BitVec 2) (g : BitVec 5)
  /-- AFMAX (R259) -/
  | afmax (d : BitVec 5) (b : BitVec 5) (v : BitVec 5) (y : BitVec 2) (o : BitVec 2) (g : BitVec 5)
  /-- AAND (R259) -/
  | aand (d : BitVec 5) (b : BitVec 5) (v : BitVec 5) (y : BitVec 2) (o : BitVec 2) (g : BitVec 5)
  /-- AOR (R259) -/
  | aor (d : BitVec 5) (b : BitVec 5) (v : BitVec 5) (y : BitVec 2) (o : BitVec 2) (g : BitVec 5)
  /-- AXOR (R259) -/
  | axor (d : BitVec 5) (b : BitVec 5) (v : BitVec 5) (y : BitVec 2) (o : BitVec 2) (g : BitVec 5)
  /-- ASWP (R259) -/
  | aswp (d : BitVec 5) (b : BitVec 5) (v : BitVec 5) (y : BitVec 2) (o : BitVec 2) (g : BitVec 5)
  /-- ACAS (R259) -/
  | acas (d : BitVec 5) (b : BitVec 5) (v : BitVec 5) (y : BitVec 2) (o : BitVec 2) (g : BitVec 5)
  /-- FENCE (R347) -/
  | fence (o : BitVec 3) (g : BitVec 5) (s : BitVec 4)
  /-- WAIT (R224) -/
  | wait (a : BitVec 6) (b : BitVec 6) (c : BitVec 6) (d : BitVec 6)
  /-- CPY (R260) -/
  | cpy (d : BitVec 5) (a : BitVec 5) (n : BitVec 5) (p : BitVec 6) (e : BitVec 1)
  /-- CPYS (R261) -/
  | cpys (d : BitVec 5) (a : BitVec 5) (n : BitVec 5) (p : BitVec 6) (e : BitVec 1)
  /-- SEND (R354) -/
  | send (a : BitVec 5) (v : BitVec 7) (r : BitVec 1) (o : BitVec 4) (p : BitVec 6) (e : BitVec 1)
  /-- SYSR (R197) -/
  | sysr (d : BitVec 5) (n : BitVec 12)
  /-- SYSW (R197) -/
  | sysw (a : BitVec 5) (n : BitVec 12)
  /-- SYSW_PER (R55) -/
  | syswPer (a : BitVec 5)
  /-- SYSW_PPH (R55) -/
  | syswPph (a : BitVec 5)
  /-- SYSW_FCSR (R131) -/
  | syswFcsr (a : BitVec 5)
  /-- PWR (R184) -/
  | pwr (x : BitVec 1) (v : BitVec 5) (t : BitVec 6) (o : BitVec 2) (g : BitVec 5)
  /-- PRD (R185) -/
  | prd (x : BitVec 1) (e : BitVec 5) (f : BitVec 5) (t : BitVec 6) (o : BitVec 2) (g : BitVec 5)
  /-- PSAME (R185) -/
  | psame (x : BitVec 1) (e : BitVec 5) (f : BitVec 5) (t : BitVec 6) (o : BitVec 2) (g : BitVec 5)
  /-- PADD (R186) -/
  | padd (x : BitVec 1) (e : BitVec 5) (f : BitVec 5) (t : BitVec 6) (o : BitVec 2) (g : BitVec 5)
  /-- PMC (R187) -/
  | pmc (b : BitVec 6) (v : BitVec 5) (o : BitVec 2) (g : BitVec 5)
  /-- PSTAMP (R185) -/
  | pstamp (x : BitVec 1) (e : BitVec 5) (t : BitVec 6) (o : BitVec 2) (g : BitVec 5)
  /-- GLD (R274) -/
  | gld (d : BitVec 5) (c : BitVec 5) (s : BitVec 5) (g : BitVec 3) (k : BitVec 1)
  /-- GST (R274) -/
  | gst (d : BitVec 5) (c : BitVec 5) (g : BitVec 3)
  /-- GLDV (R274) -/
  | gldv (v : BitVec 7) (c : BitVec 5) (s : BitVec 5) (g : BitVec 3) (k : BitVec 1)
  /-- VADD (R144) -/
  | vadd (d : BitVec 7) (a : BitVec 7) (b : BitVec 7) (w : BitVec 2) (m : BitVec 1)
  /-- VSUB (R144) -/
  | vsub (d : BitVec 7) (a : BitVec 7) (b : BitVec 7) (w : BitVec 2) (m : BitVec 1)
  /-- VMUL (R144) -/
  | vmul (d : BitVec 7) (a : BitVec 7) (b : BitVec 7) (w : BitVec 2) (m : BitVec 1)
  /-- VMULH_SIGNED (R144) -/
  | vmulhSigned (d : BitVec 7) (a : BitVec 7) (b : BitVec 7) (w : BitVec 2) (m : BitVec 1)
  /-- VMULH_UNSIGNED (R144) -/
  | vmulhUnsigned (d : BitVec 7) (a : BitVec 7) (b : BitVec 7) (w : BitVec 2) (m : BitVec 1)
  /-- VMAD (R144) -/
  | vmad (d : BitVec 7) (a : BitVec 7) (b : BitVec 7) (w : BitVec 2) (m : BitVec 1)
  /-- VAND (R144) -/
  | vand (d : BitVec 7) (a : BitVec 7) (b : BitVec 7) (w : BitVec 2) (m : BitVec 1)
  /-- VOR (R144) -/
  | vor (d : BitVec 7) (a : BitVec 7) (b : BitVec 7) (w : BitVec 2) (m : BitVec 1)
  /-- VXOR (R144) -/
  | vxor (d : BitVec 7) (a : BitVec 7) (b : BitVec 7) (w : BitVec 2) (m : BitVec 1)
  /-- VSHL (R144) -/
  | vshl (d : BitVec 7) (a : BitVec 7) (b : BitVec 7) (w : BitVec 2) (m : BitVec 1)
  /-- VSHR (R144) -/
  | vshr (d : BitVec 7) (a : BitVec 7) (b : BitVec 7) (w : BitVec 2) (m : BitVec 1)
  /-- VSHA (R144) -/
  | vsha (d : BitVec 7) (a : BitVec 7) (b : BitVec 7) (w : BitVec 2) (m : BitVec 1)
  /-- VMIN_SIGNED (R144) -/
  | vminSigned (d : BitVec 7) (a : BitVec 7) (b : BitVec 7) (w : BitVec 2) (m : BitVec 1)
  /-- VMIN_UNSIGNED (R144) -/
  | vminUnsigned (d : BitVec 7) (a : BitVec 7) (b : BitVec 7) (w : BitVec 2) (m : BitVec 1)
  /-- VMAX_SIGNED (R144) -/
  | vmaxSigned (d : BitVec 7) (a : BitVec 7) (b : BitVec 7) (w : BitVec 2) (m : BitVec 1)
  /-- VMAX_UNSIGNED (R144) -/
  | vmaxUnsigned (d : BitVec 7) (a : BitVec 7) (b : BitVec 7) (w : BitVec 2) (m : BitVec 1)
  /-- VCMP (R145) -/
  | vcmp (k : BitVec 3) (a : BitVec 7) (b : BitVec 7) (c : BitVec 3) (w : BitVec 2)
  /-- VSEL (R146) -/
  | vsel (d : BitVec 7) (a : BitVec 7) (k : BitVec 3) (w : BitVec 2)
  /-- VMOV (R147) -/
  | vmov (d : BitVec 7) (a : BitVec 7) (m : BitVec 1)
  /-- VABS (R147) -/
  | vabs (d : BitVec 7) (a : BitVec 7) (w : BitVec 2) (m : BitVec 1)
  /-- VFSQRT (R149) -/
  | vfsqrt (d : BitVec 7) (a : BitVec 7) (w : BitVec 2) (m : BitVec 1)
  /-- VFRCP (R150) -/
  | vfrcp (d : BitVec 7) (a : BitVec 7) (w : BitVec 2) (m : BitVec 1)
  /-- VFRSQ (R150) -/
  | vfrsq (d : BitVec 7) (a : BitVec 7) (w : BitVec 2) (m : BitVec 1)
  /-- VFCLASS (R149) -/
  | vfclass (d : BitVec 7) (a : BitVec 7) (w : BitVec 2) (m : BitVec 1)
  /-- VIOTA (R147) -/
  | viota (d : BitVec 7) (w : BitVec 2) (m : BitVec 1)
  /-- VPERM (R156) -/
  | vperm (d : BitVec 7) (a : BitVec 7) (b : BitVec 7) (w : BitVec 2) (m : BitVec 1)
  /-- VROT (R156) -/
  | vrot (d : BitVec 7) (a : BitVec 7) (n : BitVec 6) (w : BitVec 2) (m : BitVec 1)
  /-- VBCAST (R157) -/
  | vbcast (d : BitVec 7) (s : BitVec 5) (w : BitVec 2) (m : BitVec 1)
  /-- VEXT (R157) -/
  | vext (d : BitVec 5) (a : BitVec 7) (n : BitVec 6) (w : BitVec 2) (x : BitVec 1)
  /-- VINS (R157) -/
  | vins (d : BitVec 7) (s : BitVec 5) (n : BitVec 6) (w : BitVec 2)
  /-- VRED (R158) -/
  | vred (d : BitVec 5) (a : BitVec 7) (o : BitVec 3) (x : BitVec 1) (w : BitVec 2) (m : BitVec 1)
  /-- VFRED (R158) -/
  | vfred (d : BitVec 5) (a : BitVec 7) (o : BitVec 3) (w : BitVec 2) (m : BitVec 1)
  /-- VCOMPRESS (R146) -/
  | vcompress (d : BitVec 7) (a : BitVec 7) (k : BitVec 3) (w : BitVec 2)
  /-- KAND (R160) -/
  | kand (d : BitVec 3) (a : BitVec 3) (b : BitVec 3)
  /-- KOR (R160) -/
  | kor (d : BitVec 3) (a : BitVec 3) (b : BitVec 3)
  /-- KXOR (R160) -/
  | kxor (d : BitVec 3) (a : BitVec 3) (b : BitVec 3)
  /-- KNOT (R160) -/
  | knot (d : BitVec 3) (a : BitVec 3)
  /-- KPOP (R160) -/
  | kpop (a : BitVec 3) (d : BitVec 5)
  /-- VPACK (R154) -/
  | vpack (d : BitVec 7) (a : BitVec 7) (b : BitVec 7) (w : BitVec 2) (s : BitVec 1)
  /-- VUNPACK (R154) -/
  | vunpack (d : BitVec 7) (a : BitVec 7) (h : BitVec 1) (w : BitVec 2) (x : BitVec 1)
  /-- VSCALE (R155) -/
  | vscale (d : BitVec 7) (a : BitVec 7) (q : BitVec 3) (w : BitVec 2) (r : BitVec 3) (s : BitVec 1)
  /-- VFADD (R148) -/
  | vfadd (d : BitVec 7) (a : BitVec 7) (b : BitVec 7) (w : BitVec 2) (m : BitVec 1)
  /-- VFSUB (R148) -/
  | vfsub (d : BitVec 7) (a : BitVec 7) (b : BitVec 7) (w : BitVec 2) (m : BitVec 1)
  /-- VFMUL (R148) -/
  | vfmul (d : BitVec 7) (a : BitVec 7) (b : BitVec 7) (w : BitVec 2) (m : BitVec 1)
  /-- VFMA (R148) -/
  | vfma (d : BitVec 7) (a : BitVec 7) (b : BitVec 7) (w : BitVec 2) (m : BitVec 1)
  /-- VFMS (R148) -/
  | vfms (d : BitVec 7) (a : BitVec 7) (b : BitVec 7) (w : BitVec 2) (m : BitVec 1)
  /-- VFNMA (R148) -/
  | vfnma (d : BitVec 7) (a : BitVec 7) (b : BitVec 7) (w : BitVec 2) (m : BitVec 1)
  /-- VFDIV (R148) -/
  | vfdiv (d : BitVec 7) (a : BitVec 7) (b : BitVec 7) (w : BitVec 2) (m : BitVec 1)
  /-- VFMIN (R148) -/
  | vfmin (d : BitVec 7) (a : BitVec 7) (b : BitVec 7) (w : BitVec 2) (m : BitVec 1)
  /-- VFMAX (R148) -/
  | vfmax (d : BitVec 7) (a : BitVec 7) (b : BitVec 7) (w : BitVec 2) (m : BitVec 1)
  /-- VFCMP (R151) -/
  | vfcmp (k : BitVec 3) (a : BitVec 7) (b : BitVec 7) (c : BitVec 3) (w : BitVec 2)
  /-- VFSGN (R148) -/
  | vfsgn (d : BitVec 7) (a : BitVec 7) (b : BitVec 7) (w : BitVec 2) (m : BitVec 1)
  /-- VCVT (R152) -/
  | vcvt (d : BitVec 7) (a : BitVec 7) (i : BitVec 1) (x : BitVec 4) (r : BitVec 3) (s : BitVec 1)
  /-- VCVTI (R153) -/
  | vcvti (d : BitVec 7) (a : BitVec 7) (f : BitVec 2) (t : BitVec 3) (r : BitVec 3) (s : BitVec 1)
  /-- VCVTF (R153) -/
  | vcvtf (d : BitVec 7) (a : BitVec 7) (f : BitVec 2) (t : BitVec 3) (r : BitVec 3) (s : BitVec 1)
  /-- FADD (R134) -/
  | fadd (d : BitVec 5) (a : BitVec 5) (b : BitVec 5) (f : BitVec 2) (r : BitVec 3)
  /-- FSUB (R134) -/
  | fsub (d : BitVec 5) (a : BitVec 5) (b : BitVec 5) (f : BitVec 2) (r : BitVec 3)
  /-- FMUL (R134) -/
  | fmul (d : BitVec 5) (a : BitVec 5) (b : BitVec 5) (f : BitVec 2) (r : BitVec 3)
  /-- FMA (R134) -/
  | fma (d : BitVec 5) (a : BitVec 5) (b : BitVec 5) (f : BitVec 2) (r : BitVec 3)
  /-- FDIV (R134) -/
  | fdiv (d : BitVec 5) (a : BitVec 5) (b : BitVec 5) (f : BitVec 2) (r : BitVec 3)
  /-- FSQRT (R134) -/
  | fsqrt (d : BitVec 5) (a : BitVec 5) (f : BitVec 2) (r : BitVec 3)
  /-- FMIN (R135) -/
  | fmin (d : BitVec 5) (a : BitVec 5) (b : BitVec 5) (f : BitVec 2)
  /-- FMAX (R135) -/
  | fmax (d : BitVec 5) (a : BitVec 5) (b : BitVec 5) (f : BitVec 2)
  /-- FCLASS (R136) -/
  | fclass (d : BitVec 5) (a : BitVec 5) (f : BitVec 2)
  /-- FCMP (R137) -/
  | fcmp (d : BitVec 5) (a : BitVec 5) (b : BitVec 5) (f : BitVec 2) (c : BitVec 3)
  /-- FCVT (R138) -/
  | fcvt (d : BitVec 5) (a : BitVec 5) (t : BitVec 3) (s : BitVec 3) (r : BitVec 3) (x : BitVec 1)
  /-- MODE_M (R164) -/
  | modeM (f : BitVec 4) (v : BitVec 7)
  /-- MODE_V (R164) -/
  | modeV
  /-- MOP (R168) -/
  | mop (a : BitVec 7) (b : BitVec 7) (c : BitVec 3) (d : BitVec 3) (f : BitVec 4)
  /-- MOPN (R168) -/
  | mopn (a : BitVec 7) (b : BitVec 7) (c : BitVec 3) (d : BitVec 3) (f : BitVec 4)
  /-- MDRAIN (R173) -/
  | mdrain (d : BitVec 5) (m : BitVec 5) (g : BitVec 1) (f : BitVec 4)
  /-- MDRAIN_REG (R173) -/
  | mdrainReg (m : BitVec 5) (g : BitVec 1) (f : BitVec 4) (v : BitVec 7)
  /-- MSCALE (R172) -/
  | mscale (a : BitVec 5) (r : BitVec 3)
  /-- MZERO (R172) -/
  | mzero
  /-- MTRN (R172) -/
  | mtrn
  /-- MQRY (R175) -/
  | mqry (d : BitVec 5)
  /-- REGION_ADMISSION (R46) -/
  | regionAdmission (rcb : Nat) (img : Image)
  /-- STRAND_START (R49) -/
  | strandStart (pt slot : Nat)
  /-- BOUNDARY_WAKE (R54) -/
  | boundaryWake (pt slot : Nat)
  /-- WAIT_RELEASE (R224) -/
  | waitRelease (pt slot : Nat)
  /-- FENCE_RELEASE (R347) -/
  | fenceRelease (pt slot : Nat)
  /-- HALT_COMPLETE (R208) -/
  | haltComplete (pt slot : Nat)
  /-- REGION_END (R47) -/
  | regionEnd (rcb : Nat)
  /-- QUIESCENCE_EVENT (R64) -/
  | quiescenceEvent (rcb : Nat)
  /-- PRIORITY_PREEMPTION (R58) -/
  | priorityPreemption (pt slot rcb : Nat)
  /-- STEAL_ROUND (R61) -/
  | stealRound (die rcb : Nat)
  /-- STEAL_GRANT (R61) -/
  | stealGrant (id : Nat)
  /-- STEAL_RECEIPT (R61) -/
  | stealReceipt (id : Nat)
  /-- PART_DEPART (R337) -/
  | partDepart (pid : Nat)
  /-- PART_CARRY (R337) -/
  | partCarry (pid : Nat)
  /-- PART_PERFORM (R337) -/
  | partPerform (pid : Nat)
  /-- OPERATION_COMPLETE (R337) -/
  | operationComplete (oid : Nat) (bad : Option (Nat × FaultUnit))
  /-- DEPOSIT (R182) -/
  | deposit (pt : Nat)
  /-- PWR_REL_ENTRY (R183) -/
  | pwrRelEntry (oid : Nat)
  /-- TILE_OP_APPLY (R167) -/
  | tileOpApply (pt slot : Nat)
  /-- MDRAIN_APPLY (R174) -/
  | mdrainApply (pt slot : Nat)
  /-- COPY_COMPLETE (R263) -/
  | copyComplete (oid : Nat)
  /-- SEND_COMPLETE (R354) -/
  | sendComplete (oid : Nat)
  /-- GSTEP_PROCESS (R277) -/
  | gstepProcess (oid : Nat)
  /-- GRID_PIECE_DEPOSIT (R273) -/
  | gridPieceDeposit (id : Nat)
  /-- MIRROR_COPY (R279) -/
  | mirrorCopy (id : Nat)
  /-- PAGE_WALK (R290) -/
  | pageWalk (pid : Nat)
  /-- TRANSLATION_DROP (R292) -/
  | translationDrop (pt i : Nat)
  /-- PLOT_CACHE_FILL (R304) -/
  | plotCacheFill (pt rcb x : Nat)
  /-- PLOT_CACHE_DROP (R297) -/
  | plotCacheDrop (pt i : Nat)
  /-- LOG_MERGE (R295) -/
  | logMerge (pt : Nat)
  /-- HARVEST (R296) -/
  | harvest (pt : Nat)
  /-- FLUSH (R296) -/
  | flush (pt : Nat)
  /-- REQUEST_COMPLETE (R296) -/
  | requestComplete (pt : Nat)
  /-- EVENT_DEPOSIT (R210) -/
  | eventDeposit (pt : Nat)
  /-- EVICT_COMPLETE (R215) -/
  | evictComplete (pt slot : Nat)
  /-- CTXSV_COMPLETE (R218) -/
  | ctxsvComplete (oid : Nat)
  /-- CTXLD_COMPLETE (R219) -/
  | ctxldComplete (oid : Nat)
  /-- CROSS_PANEL_REPLY (R190) -/
  | crossPanelReply (pt tag gen : Nat) (refused : Bool) (value : Word) (count : BitVec 32) (bytes : List Byte)
  /-- REQUEST_TIMEOUT (R365) -/
  | requestTimeout (pt tag : Nat)
  /-- REMOTE_REQUEST (R364) -/
  | remoteRequest (target : RemoteTarget) (op : RemoteOp)
  /-- HOST_WRITE (R346) -/
  | hostWrite (target : RemoteTarget) (bytes : List Byte)
  /-- PACING_GRANT (R353) -/
  | pacingGrant (src dst n : Nat)
  /-- DRIFT_ALARM (R22) -/
  | driftAlarm (pt : Nat)
  /-- THERMAL_THROTTLE (R232) -/
  | thermalThrottle (pt : Nat) (temp : BitVec 16)
  /-- DROOP_DETECT (R233) -/
  | droopDetect (row : Nat)
  /-- DROOP_RECOVERY (R232) -/
  | droopRecovery (row : Nat)
  /-- BUDGET_THROTTLE (R236) -/
  | budgetThrottle (die : Nat)
  /-- TURNS_CHANGE (R232) -/
  | turnsChange (pt rise : Nat)
  /-- DRAW_REFRESH (R234) -/
  | drawRefresh (die draw : Nat)
  /-- STATUS_BLOCK_REFRESH (R239) -/
  | statusBlockRefresh (die : Nat)
  /-- QUANTA_SEND (R235) -/
  | quantaSend (die : Nat) (dir : Dir) (q kind : Nat)
  /-- QUANTA_RECEIPT (R235) -/
  | quantaReceipt (id : Nat)
  /-- QUANTA_ACK (R235) -/
  | quantaAck (id : Nat)
  /-- QUANTA_RETURN (R235) -/
  | quantaReturn (id : Nat)
  /-- QUANTA_RECALL (R235) -/
  | quantaRecall (die : Nat) (dir : Dir) (q : Nat)
  /-- SIDEBAND_FAILURE (R235) -/
  | sidebandFailure (die : Nat) (dir : Dir)
  /-- CORRECTED_ERROR (R379) -/
  | correctedError (die : Nat) (u : FaultUnit)
  /-- SELF_TEST_RESULT (R379) -/
  | selfTestResult (die : Nat) (u : FaultUnit) (pass dead : Bool)
  /-- SPARE_COPY_END (R252) -/
  | spareCopyEnd (die g : Nat)
  /-- FLIT_TAG_FAILURE (R376) -/
  | flitTagFailure (die : Nat) (link : LinkLane)
  /-- PANEL_RESET (R374) -/
  | panelReset
  /-- POWER_REGION_ENERGISE (R374) -/
  | powerRegionEnergise
  /-- IMAGE_CHECK (R375) -/
  | imageCheck (die : Nat)
  /-- RECOVERY_IMAGE (R375) -/
  | recoveryImage (img : PortImage)
  /-- LINK_AUTHENTICATION (R376) -/
  | linkAuthentication (die : Nat) (dir : Dir) (ok : Bool) (key : Nat)
  /-- GET_MEASUREMENTS (R377) -/
  | getMeasurements (die : Nat)
  /-- INLET_OVERTEMP (R382) -/
  | inletOvertemp (temp : Nat)
  /-- LOCAL_WRITE_APPLY (R181) -/
  | localWriteApply (pt : Nat)
  /-- DRIFT_CHANGE (R22) -/
  | driftChange (pt d : Nat)
  /-- SIDEBAND_RESTORE (R235) -/
  | sidebandRestore (die : Nat) (dir : Dir)
  /-- FAULT_DOMAIN_TAKEDOWN (R380) -/
  | faultDomainTakedown (rcb : Nat)
  /-- REGION_ROLLBACK (R380) -/
  | regionRollback (rcb : Nat)
  /-- TURN_TABLE_CHANGE (R323) -/
  | turnTableChange (die : Nat) (tts : List Nat)
  /-- DCC_RESTART (R381) -/
  | dccRestart (die : Nat)
  deriving DecidableEq, Repr, Inhabited

end Sys2Proof
end

