-- ==== Sys2Proof/WellFormed.lean ====
section
/-!
DEFINITION. The conditions on the fields of a word that R82 to R92 give beside the fixed bits of its encoding. A word
that breaks one traps illegal encoding (R92). The one condition that depends on the strand, a v field below VLIM (R51),
is checked when the word issues. Events have no fields, so no condition.
-/
namespace Sys2Proof

/-- The rounding codes 5 and 6 are reserved (R76). -/
def rmOk (r : BitVec 3) : Bool := r != 5 && r != 6
/-- The condition codes 6 and 7 are reserved (R78). -/
def condOk (c : BitVec 3) : Bool := decide (c.toNat < 6)
/-- A relaxed order has scope field 0 (R75). -/
def ordOk (o : BitVec 2) (g : BitVec 5) : Bool := o != 0 || g == 0
/-- A pennant target that names an s register has its lowest bit 0 (R81). -/
def targetOk (x : BitVec 1) (t : BitVec 6) : Bool := x == 0 || t.toNat % 2 == 0
/-- Lanes of a vector register for the width code w (R90). -/
def lanes (w : BitVec 2) : Nat := 64 / 2 ^ w.toNat
/-- The format codes of R121 that VLDF and VSTF take with a v register: E8M0 (10) has words of its own. -/
def fmtOk (f : BitVec 5) : Bool := decide (f.toNat < 10) || decide (16 ≤ f.toNat ∧ f.toNat < 24)
/-- The numbers of the system registers (R196). -/
def sysregs : List Nat :=
  [0x001, 0x002, 0x010, 0x011, 0x012, 0x013, 0x020, 0x021, 0x030, 0x031, 0x032, 0x033, 0x034, 0x035, 0x036, 0x037,
   0x100, 0x101, 0x102, 0x103, 0x104, 0x105, 0x106, 0x107]
def isSysreg (n : BitVec 12) : Bool := sysregs.contains n.toNat

/-- The field conditions of an instruction. -/
def wellFormed : Instr → Bool
  | .add _ _ _ => true
  | .sub _ _ _ => true
  | .addp _ _ _ => true
  | .mul _ _ _ => true
  | .mulhu _ _ _ => true
  | .mulhs _ _ _ => true
  | .divu _ _ _ => true
  | .divs _ _ _ => true
  | .remu _ _ _ => true
  | .rems _ _ _ => true
  | .and _ _ _ => true
  | .or _ _ _ => true
  | .xor _ _ _ => true
  | .andn _ _ _ => true
  | .shl _ _ _ => true
  | .shr _ _ _ => true
  | .sha _ _ _ => true
  | .rotl _ _ _ => true
  | .clz _ _ => true
  | .ctz _ _ => true
  | .popc _ _ => true
  | .mins _ _ _ => true
  | .minu _ _ _ => true
  | .maxs _ _ _ => true
  | .maxu _ _ _ => true
  | .slt _ _ _ => true
  | .sltu _ _ _ => true
  | .seq _ _ _ => true
  | .mad _ _ _ _ => true
  | .sel _ _ _ _ => true
  | .bfx _ _ p n => p.toNat + n.toNat + 1 ≤ 64
  | .bfi _ _ p n => p.toNat + n.toNat + 1 ≤ 64
  | .lil _ _ => true
  | .lih _ _ _ => true
  | .tld _ _ _ => true
  | .tst _ _ _ => true
  | .tldv _ _ _ => true
  | .tstv _ _ _ => true
  | .addi _ _ _ => true
  | .andi _ _ _ => true
  | .ori _ _ _ => true
  | .xori _ _ _ => true
  | .shli _ _ _ => true
  | .shri _ _ _ => true
  | .shai _ _ _ => true
  | .slti _ _ _ => true
  | .b c _ _ _ => condOk c
  | .bz _ _ => true
  | .bnz _ _ => true
  | .loop _ _ => true
  | .jmp _ => true
  | .jal _ => true
  | .nop => true
  | .pend => true
  | .eret => true
  | .halt => true
  | .trap _ => true
  | .bkpt _ => true
  | .jr _ => true
  | .jalr _ _ => true
  | .spawn _ _ => true
  | .take _ _ => true
  | .tdone _ => true
  | .rtset _ _ _ => true
  | .rtclr _ => true
  | .segld _ _ => true
  | .segst _ _ => true
  | .gbind _ _ => true
  | .gstep _ _ => true
  | .gqry _ _ _ => true
  | .tmap _ _ _ => true
  | .tqry _ _ => true
  | .evack _ => true
  | .evict _ _ => true
  | .resume _ _ => true
  | .ctxsv _ _ => true
  | .ctxld _ _ => true
  | .scopew _ _ => true
  | .buntw _ _ => true
  | .plotw _ _ => true
  | .pclr _ => true
  | .ld _ _ w x _ => w != 3 || x == 0
  | .ldIndex _ _ _ w s _ => w != 3 || s == 0
  | .ldAcq _ _ w x _ => w != 3 || x == 0
  | .st _ _ _ _ => true
  | .stIndex _ _ _ _ _ => true
  | .stRel _ _ _ _ => true
  | .pfx _ _ _ => true
  | .fill _ _ _ _ c e => e != 0 || c == 0
  | .ldv _ _ _ _ => true
  | .stv _ _ _ _ => true
  | .ldvs _ _ _ _ => true
  | .stvs _ _ _ _ => true
  | .ldvx _ _ _ _ => true
  | .stvx _ _ _ _ => true
  | .vldf _ _ r _ f => rmOk r && fmtOk f
  | .vldfScales _ _ r _ => rmOk r
  | .vstf _ _ r _ f => rmOk r && fmtOk f
  | .vstfScales _ _ r _ => rmOk r
  | .aadd _ _ _ _ o g => ordOk o g
  | .amin _ _ _ _ o g => ordOk o g
  | .amax _ _ _ _ o g => ordOk o g
  | .afmax _ _ _ y o g => ordOk o g && (y == 0 || y == 2)
  | .aand _ _ _ _ o g => ordOk o g
  | .aor _ _ _ _ o g => ordOk o g
  | .axor _ _ _ _ o g => ordOk o g
  | .aswp _ _ _ _ o g => ordOk o g
  | .acas _ _ _ _ o g => ordOk o g
  | .fence o _ s => o != 0 && o.toNat ≤ 4 && s != 0
  | .wait _ _ _ _ => true
  | .cpy _ _ _ p e => e != 0 || p == 0
  | .cpys _ _ n p e => n.toNat ≤ 28 && (e != 0 || p == 0)
  | .send _ _ r o p e => (r != 0 || o == 0) && (e != 0 || p == 0)
  | .sysr _ n => isSysreg n
  | .sysw _ n => isSysreg n && n != 0x010 && n != 0x011 && n != 0x001
  | .syswPer _ => true
  | .syswPph _ => true
  | .syswFcsr _ => true
  | .pwr x _ t o g => targetOk x t && ordOk o g && (o == 0 || o == 2)
  | .prd x _ _ t o g => targetOk x t && ordOk o g && (o == 0 || o == 1)
  | .psame x _ _ t o g => targetOk x t && ordOk o g && (o == 0 || o == 1)
  | .padd x _ _ t o g => targetOk x t && ordOk o g
  | .pmc _ _ o g => ordOk o g && (o == 0 || o == 2)
  | .pstamp x _ t o g => targetOk x t && ordOk o g && (o == 0 || o == 1)
  | .gld _ _ _ _ _ => true
  | .gst _ _ _ => true
  | .gldv _ _ _ _ _ => true
  | .vadd _ _ _ _ _ => true
  | .vsub _ _ _ _ _ => true
  | .vmul _ _ _ _ _ => true
  | .vmulhSigned _ _ _ _ _ => true
  | .vmulhUnsigned _ _ _ _ _ => true
  | .vmad _ _ _ _ _ => true
  | .vand _ _ _ _ _ => true
  | .vor _ _ _ _ _ => true
  | .vxor _ _ _ _ _ => true
  | .vshl _ _ _ _ _ => true
  | .vshr _ _ _ _ _ => true
  | .vsha _ _ _ _ _ => true
  | .vminSigned _ _ _ _ _ => true
  | .vminUnsigned _ _ _ _ _ => true
  | .vmaxSigned _ _ _ _ _ => true
  | .vmaxUnsigned _ _ _ _ _ => true
  | .vcmp _ _ _ c _ => condOk c
  | .vsel _ _ _ _ => true
  | .vmov _ _ _ => true
  | .vabs _ _ _ _ => true
  | .vfsqrt _ _ _ _ => true
  | .vfrcp _ _ _ _ => true
  | .vfrsq _ _ _ _ => true
  | .vfclass _ _ _ _ => true
  | .viota _ _ _ => true
  | .vperm _ _ _ _ _ => true
  | .vrot _ _ n w _ => n.toNat < lanes w
  | .vbcast _ _ _ _ => true
  | .vext _ _ n w x => n.toNat < lanes w && (w != 3 || x == 0)
  | .vins _ _ n w => n.toNat < lanes w
  | .vred _ _ o _ _ _ => o.toNat ≤ 5
  | .vfred _ _ o _ _ => o.toNat ≤ 2
  | .vcompress _ _ _ _ => true
  | .kand _ _ _ => true
  | .kor _ _ _ => true
  | .kxor _ _ _ => true
  | .knot _ _ => true
  | .kpop _ _ => true
  | .vpack _ _ _ w _ => w != 0
  | .vunpack _ _ _ w x => w != 0 && (w != 3 || x == 0)
  | .vscale _ _ _ _ r _ => rmOk r
  | .vfadd _ _ _ _ _ => true
  | .vfsub _ _ _ _ _ => true
  | .vfmul _ _ _ _ _ => true
  | .vfma _ _ _ _ _ => true
  | .vfms _ _ _ _ _ => true
  | .vfnma _ _ _ _ _ => true
  | .vfdiv _ _ _ _ _ => true
  | .vfmin _ _ _ _ _ => true
  | .vfmax _ _ _ _ _ => true
  | .vfcmp _ _ _ c _ => condOk c
  | .vfsgn _ _ _ _ _ => true
  | .vcvt _ _ _ x r _ => x.toNat ≤ 8 && x != 1 && rmOk r
  | .vcvti _ _ _ _ r _ => rmOk r
  | .vcvtf _ _ _ _ r _ => rmOk r
  | .fadd _ _ _ _ r => rmOk r
  | .fsub _ _ _ _ r => rmOk r
  | .fmul _ _ _ _ r => rmOk r
  | .fma _ _ _ _ r => rmOk r
  | .fdiv _ _ _ _ r => rmOk r
  | .fsqrt _ _ _ r => rmOk r
  | .fmin _ _ _ _ => true
  | .fmax _ _ _ _ => true
  | .fclass _ _ _ => true
  | .fcmp _ _ _ _ c => condOk c
  | .fcvt _ _ t s r _ => t != s && !(4 ≤ t.toNat && 4 ≤ s.toNat) && rmOk r
  | .modeM f _ => f.toNat ≤ 8
  | .modeV => true
  | .mop _ _ c d f => f.toNat ≤ 8 && (4 ≤ f.toNat || (c == 0 && d == 0))
  | .mopn _ _ c d f => f.toNat ≤ 8 && (4 ≤ f.toNat || (c == 0 && d == 0))
  | .mdrain _ m g f => (g != 0 || m == 0) && f.toNat ≤ 8
  | .mdrainReg m g f _ => (g != 0 || m == 0) && f.toNat ≤ 8
  | .mscale _ r => rmOk r
  | .mzero => true
  | .mtrn => true
  | .mqry _ => true
  | .regionAdmission _ _ => true
  | .strandStart _ _ => true
  | .boundaryWake _ _ => true
  | .waitRelease _ _ => true
  | .fenceRelease _ _ => true
  | .haltComplete _ _ => true
  | .regionEnd _ => true
  | .quiescenceEvent _ => true
  | .priorityPreemption _ _ _ => true
  | .stealRound _ _ => true
  | .stealGrant _ => true
  | .stealReceipt _ => true
  | .partDepart _ => true
  | .partCarry _ => true
  | .partPerform _ => true
  | .operationComplete _ _ => true
  | .deposit _ => true
  | .pwrRelEntry _ => true
  | .tileOpApply _ _ => true
  | .mdrainApply _ _ => true
  | .copyComplete _ => true
  | .sendComplete _ => true
  | .gstepProcess _ => true
  | .gridPieceDeposit _ => true
  | .mirrorCopy _ => true
  | .pageWalk _ => true
  | .translationDrop _ _ => true
  | .plotCacheFill _ _ _ => true
  | .plotCacheDrop _ _ => true
  | .logMerge _ => true
  | .harvest _ => true
  | .flush _ => true
  | .requestComplete _ => true
  | .eventDeposit _ => true
  | .evictComplete _ _ => true
  | .ctxsvComplete _ => true
  | .ctxldComplete _ => true
  | .crossPanelReply _ _ _ _ _ _ _ => true
  | .requestTimeout _ _ => true
  | .remoteRequest _ _ => true
  | .hostWrite _ _ => true
  | .pacingGrant _ _ _ => true
  | .driftAlarm _ => true
  | .thermalThrottle _ _ => true
  | .droopDetect _ => true
  | .droopRecovery _ => true
  | .budgetThrottle _ => true
  | .turnsChange _ _ => true
  | .drawRefresh _ _ => true
  | .statusBlockRefresh _ => true
  | .quantaSend _ _ _ _ => true
  | .quantaReceipt _ => true
  | .quantaAck _ => true
  | .quantaReturn _ => true
  | .quantaRecall _ _ _ => true
  | .sidebandFailure _ _ => true
  | .correctedError _ _ => true
  | .selfTestResult _ _ _ _ => true
  | .spareCopyEnd _ _ => true
  | .flitTagFailure _ _ => true
  | .panelReset => true
  | .powerRegionEnergise => true
  | .imageCheck _ => true
  | .recoveryImage _ => true
  | .linkAuthentication _ _ _ _ => true
  | .getMeasurements _ => true
  | .inletOvertemp _ => true
  | .localWriteApply _ => true
  | .driftChange _ _ => true
  | .sidebandRestore _ _ => true
  | .faultDomainTakedown _ => true
  | .regionRollback _ => true
  | .turnTableChange _ _ => true
  | .dccRestart _ => true

/-- The instruction is a word of a bundle; the others are events of the machine (spec/95). -/
def isWord : Instr → Bool
  | .add _ _ _ => true
  | .sub _ _ _ => true
  | .addp _ _ _ => true
  | .mul _ _ _ => true
  | .mulhu _ _ _ => true
  | .mulhs _ _ _ => true
  | .divu _ _ _ => true
  | .divs _ _ _ => true
  | .remu _ _ _ => true
  | .rems _ _ _ => true
  | .and _ _ _ => true
  | .or _ _ _ => true
  | .xor _ _ _ => true
  | .andn _ _ _ => true
  | .shl _ _ _ => true
  | .shr _ _ _ => true
  | .sha _ _ _ => true
  | .rotl _ _ _ => true
  | .clz _ _ => true
  | .ctz _ _ => true
  | .popc _ _ => true
  | .mins _ _ _ => true
  | .minu _ _ _ => true
  | .maxs _ _ _ => true
  | .maxu _ _ _ => true
  | .slt _ _ _ => true
  | .sltu _ _ _ => true
  | .seq _ _ _ => true
  | .mad _ _ _ _ => true
  | .sel _ _ _ _ => true
  | .bfx _ _ _ _ => true
  | .bfi _ _ _ _ => true
  | .lil _ _ => true
  | .lih _ _ _ => true
  | .tld _ _ _ => true
  | .tst _ _ _ => true
  | .tldv _ _ _ => true
  | .tstv _ _ _ => true
  | .addi _ _ _ => true
  | .andi _ _ _ => true
  | .ori _ _ _ => true
  | .xori _ _ _ => true
  | .shli _ _ _ => true
  | .shri _ _ _ => true
  | .shai _ _ _ => true
  | .slti _ _ _ => true
  | .b _ _ _ _ => true
  | .bz _ _ => true
  | .bnz _ _ => true
  | .loop _ _ => true
  | .jmp _ => true
  | .jal _ => true
  | .nop => true
  | .pend => true
  | .eret => true
  | .halt => true
  | .trap _ => true
  | .bkpt _ => true
  | .jr _ => true
  | .jalr _ _ => true
  | .spawn _ _ => true
  | .take _ _ => true
  | .tdone _ => true
  | .rtset _ _ _ => true
  | .rtclr _ => true
  | .segld _ _ => true
  | .segst _ _ => true
  | .gbind _ _ => true
  | .gstep _ _ => true
  | .gqry _ _ _ => true
  | .tmap _ _ _ => true
  | .tqry _ _ => true
  | .evack _ => true
  | .evict _ _ => true
  | .resume _ _ => true
  | .ctxsv _ _ => true
  | .ctxld _ _ => true
  | .scopew _ _ => true
  | .buntw _ _ => true
  | .plotw _ _ => true
  | .pclr _ => true
  | .ld _ _ _ _ _ => true
  | .ldIndex _ _ _ _ _ _ => true
  | .ldAcq _ _ _ _ _ => true
  | .st _ _ _ _ => true
  | .stIndex _ _ _ _ _ => true
  | .stRel _ _ _ _ => true
  | .pfx _ _ _ => true
  | .fill _ _ _ _ _ _ => true
  | .ldv _ _ _ _ => true
  | .stv _ _ _ _ => true
  | .ldvs _ _ _ _ => true
  | .stvs _ _ _ _ => true
  | .ldvx _ _ _ _ => true
  | .stvx _ _ _ _ => true
  | .vldf _ _ _ _ _ => true
  | .vldfScales _ _ _ _ => true
  | .vstf _ _ _ _ _ => true
  | .vstfScales _ _ _ _ => true
  | .aadd _ _ _ _ _ _ => true
  | .amin _ _ _ _ _ _ => true
  | .amax _ _ _ _ _ _ => true
  | .afmax _ _ _ _ _ _ => true
  | .aand _ _ _ _ _ _ => true
  | .aor _ _ _ _ _ _ => true
  | .axor _ _ _ _ _ _ => true
  | .aswp _ _ _ _ _ _ => true
  | .acas _ _ _ _ _ _ => true
  | .fence _ _ _ => true
  | .wait _ _ _ _ => true
  | .cpy _ _ _ _ _ => true
  | .cpys _ _ _ _ _ => true
  | .send _ _ _ _ _ _ => true
  | .sysr _ _ => true
  | .sysw _ _ => true
  | .syswPer _ => true
  | .syswPph _ => true
  | .syswFcsr _ => true
  | .pwr _ _ _ _ _ => true
  | .prd _ _ _ _ _ _ => true
  | .psame _ _ _ _ _ _ => true
  | .padd _ _ _ _ _ _ => true
  | .pmc _ _ _ _ => true
  | .pstamp _ _ _ _ _ => true
  | .gld _ _ _ _ _ => true
  | .gst _ _ _ => true
  | .gldv _ _ _ _ _ => true
  | .vadd _ _ _ _ _ => true
  | .vsub _ _ _ _ _ => true
  | .vmul _ _ _ _ _ => true
  | .vmulhSigned _ _ _ _ _ => true
  | .vmulhUnsigned _ _ _ _ _ => true
  | .vmad _ _ _ _ _ => true
  | .vand _ _ _ _ _ => true
  | .vor _ _ _ _ _ => true
  | .vxor _ _ _ _ _ => true
  | .vshl _ _ _ _ _ => true
  | .vshr _ _ _ _ _ => true
  | .vsha _ _ _ _ _ => true
  | .vminSigned _ _ _ _ _ => true
  | .vminUnsigned _ _ _ _ _ => true
  | .vmaxSigned _ _ _ _ _ => true
  | .vmaxUnsigned _ _ _ _ _ => true
  | .vcmp _ _ _ _ _ => true
  | .vsel _ _ _ _ => true
  | .vmov _ _ _ => true
  | .vabs _ _ _ _ => true
  | .vfsqrt _ _ _ _ => true
  | .vfrcp _ _ _ _ => true
  | .vfrsq _ _ _ _ => true
  | .vfclass _ _ _ _ => true
  | .viota _ _ _ => true
  | .vperm _ _ _ _ _ => true
  | .vrot _ _ _ _ _ => true
  | .vbcast _ _ _ _ => true
  | .vext _ _ _ _ _ => true
  | .vins _ _ _ _ => true
  | .vred _ _ _ _ _ _ => true
  | .vfred _ _ _ _ _ => true
  | .vcompress _ _ _ _ => true
  | .kand _ _ _ => true
  | .kor _ _ _ => true
  | .kxor _ _ _ => true
  | .knot _ _ => true
  | .kpop _ _ => true
  | .vpack _ _ _ _ _ => true
  | .vunpack _ _ _ _ _ => true
  | .vscale _ _ _ _ _ _ => true
  | .vfadd _ _ _ _ _ => true
  | .vfsub _ _ _ _ _ => true
  | .vfmul _ _ _ _ _ => true
  | .vfma _ _ _ _ _ => true
  | .vfms _ _ _ _ _ => true
  | .vfnma _ _ _ _ _ => true
  | .vfdiv _ _ _ _ _ => true
  | .vfmin _ _ _ _ _ => true
  | .vfmax _ _ _ _ _ => true
  | .vfcmp _ _ _ _ _ => true
  | .vfsgn _ _ _ _ _ => true
  | .vcvt _ _ _ _ _ _ => true
  | .vcvti _ _ _ _ _ _ => true
  | .vcvtf _ _ _ _ _ _ => true
  | .fadd _ _ _ _ _ => true
  | .fsub _ _ _ _ _ => true
  | .fmul _ _ _ _ _ => true
  | .fma _ _ _ _ _ => true
  | .fdiv _ _ _ _ _ => true
  | .fsqrt _ _ _ _ => true
  | .fmin _ _ _ _ => true
  | .fmax _ _ _ _ => true
  | .fclass _ _ _ => true
  | .fcmp _ _ _ _ _ => true
  | .fcvt _ _ _ _ _ _ => true
  | .modeM _ _ => true
  | .modeV => true
  | .mop _ _ _ _ _ => true
  | .mopn _ _ _ _ _ => true
  | .mdrain _ _ _ _ => true
  | .mdrainReg _ _ _ _ => true
  | .mscale _ _ => true
  | .mzero => true
  | .mtrn => true
  | .mqry _ => true
  | .regionAdmission _ _ => false
  | .strandStart _ _ => false
  | .boundaryWake _ _ => false
  | .waitRelease _ _ => false
  | .fenceRelease _ _ => false
  | .haltComplete _ _ => false
  | .regionEnd _ => false
  | .quiescenceEvent _ => false
  | .priorityPreemption _ _ _ => false
  | .stealRound _ _ => false
  | .stealGrant _ => false
  | .stealReceipt _ => false
  | .partDepart _ => false
  | .partCarry _ => false
  | .partPerform _ => false
  | .operationComplete _ _ => false
  | .deposit _ => false
  | .pwrRelEntry _ => false
  | .tileOpApply _ _ => false
  | .mdrainApply _ _ => false
  | .copyComplete _ => false
  | .sendComplete _ => false
  | .gstepProcess _ => false
  | .gridPieceDeposit _ => false
  | .mirrorCopy _ => false
  | .pageWalk _ => false
  | .translationDrop _ _ => false
  | .plotCacheFill _ _ _ => false
  | .plotCacheDrop _ _ => false
  | .logMerge _ => false
  | .harvest _ => false
  | .flush _ => false
  | .requestComplete _ => false
  | .eventDeposit _ => false
  | .evictComplete _ _ => false
  | .ctxsvComplete _ => false
  | .ctxldComplete _ => false
  | .crossPanelReply _ _ _ _ _ _ _ => false
  | .requestTimeout _ _ => false
  | .remoteRequest _ _ => false
  | .hostWrite _ _ => false
  | .pacingGrant _ _ _ => false
  | .driftAlarm _ => false
  | .thermalThrottle _ _ => false
  | .droopDetect _ => false
  | .droopRecovery _ => false
  | .budgetThrottle _ => false
  | .turnsChange _ _ => false
  | .drawRefresh _ _ => false
  | .statusBlockRefresh _ => false
  | .quantaSend _ _ _ _ => false
  | .quantaReceipt _ => false
  | .quantaAck _ => false
  | .quantaReturn _ => false
  | .quantaRecall _ _ _ => false
  | .sidebandFailure _ _ => false
  | .correctedError _ _ => false
  | .selfTestResult _ _ _ _ => false
  | .spareCopyEnd _ _ => false
  | .flitTagFailure _ _ => false
  | .panelReset => false
  | .powerRegionEnergise => false
  | .imageCheck _ => false
  | .recoveryImage _ => false
  | .linkAuthentication _ _ _ _ => false
  | .getMeasurements _ => false
  | .inletOvertemp _ => false
  | .localWriteApply _ => false
  | .driftChange _ _ => false
  | .sidebandRestore _ _ => false
  | .faultDomainTakedown _ => false
  | .regionRollback _ => false
  | .turnTableChange _ _ => false
  | .dccRestart _ => false

/-- The word must be lone (R86). -/
def mustBeLone : Instr → Bool
  | .add _ _ _ => false
  | .sub _ _ _ => false
  | .addp _ _ _ => false
  | .mul _ _ _ => false
  | .mulhu _ _ _ => false
  | .mulhs _ _ _ => false
  | .divu _ _ _ => false
  | .divs _ _ _ => false
  | .remu _ _ _ => false
  | .rems _ _ _ => false
  | .and _ _ _ => false
  | .or _ _ _ => false
  | .xor _ _ _ => false
  | .andn _ _ _ => false
  | .shl _ _ _ => false
  | .shr _ _ _ => false
  | .sha _ _ _ => false
  | .rotl _ _ _ => false
  | .clz _ _ => false
  | .ctz _ _ => false
  | .popc _ _ => false
  | .mins _ _ _ => false
  | .minu _ _ _ => false
  | .maxs _ _ _ => false
  | .maxu _ _ _ => false
  | .slt _ _ _ => false
  | .sltu _ _ _ => false
  | .seq _ _ _ => false
  | .mad _ _ _ _ => false
  | .sel _ _ _ _ => false
  | .bfx _ _ _ _ => false
  | .bfi _ _ _ _ => false
  | .lil _ _ => false
  | .lih _ _ _ => false
  | .tld _ _ _ => false
  | .tst _ _ _ => false
  | .tldv _ _ _ => false
  | .tstv _ _ _ => false
  | .addi _ _ _ => false
  | .andi _ _ _ => false
  | .ori _ _ _ => false
  | .xori _ _ _ => false
  | .shli _ _ _ => false
  | .shri _ _ _ => false
  | .shai _ _ _ => false
  | .slti _ _ _ => false
  | .b _ _ _ _ => false
  | .bz _ _ => false
  | .bnz _ _ => false
  | .loop _ _ => false
  | .jmp _ => false
  | .jal _ => false
  | .nop => false
  | .pend => false
  | .eret => true
  | .halt => true
  | .trap _ => true
  | .bkpt _ => true
  | .jr _ => false
  | .jalr _ _ => false
  | .spawn _ _ => false
  | .take _ _ => false
  | .tdone _ => false
  | .rtset _ _ _ => false
  | .rtclr _ => false
  | .segld _ _ => false
  | .segst _ _ => false
  | .gbind _ _ => false
  | .gstep _ _ => false
  | .gqry _ _ _ => false
  | .tmap _ _ _ => false
  | .tqry _ _ => false
  | .evack _ => false
  | .evict _ _ => false
  | .resume _ _ => false
  | .ctxsv _ _ => false
  | .ctxld _ _ => false
  | .scopew _ _ => false
  | .buntw _ _ => false
  | .plotw _ _ => false
  | .pclr _ => false
  | .ld _ _ _ _ _ => false
  | .ldIndex _ _ _ _ _ _ => false
  | .ldAcq _ _ _ _ _ => false
  | .st _ _ _ _ => false
  | .stIndex _ _ _ _ _ => false
  | .stRel _ _ _ _ => false
  | .pfx _ _ _ => false
  | .fill _ _ _ _ _ _ => false
  | .ldv _ _ _ _ => false
  | .stv _ _ _ _ => false
  | .ldvs _ _ _ _ => false
  | .stvs _ _ _ _ => false
  | .ldvx _ _ _ _ => false
  | .stvx _ _ _ _ => false
  | .vldf _ _ _ _ _ => false
  | .vldfScales _ _ _ _ => false
  | .vstf _ _ _ _ _ => false
  | .vstfScales _ _ _ _ => false
  | .aadd _ _ _ _ _ _ => false
  | .amin _ _ _ _ _ _ => false
  | .amax _ _ _ _ _ _ => false
  | .afmax _ _ _ _ _ _ => false
  | .aand _ _ _ _ _ _ => false
  | .aor _ _ _ _ _ _ => false
  | .axor _ _ _ _ _ _ => false
  | .aswp _ _ _ _ _ _ => false
  | .acas _ _ _ _ _ _ => false
  | .fence _ _ _ => false
  | .wait _ _ _ _ => false
  | .cpy _ _ _ _ _ => false
  | .cpys _ _ _ _ _ => false
  | .send _ _ _ _ _ _ => false
  | .sysr _ _ => false
  | .sysw _ _ => false
  | .syswPer _ => false
  | .syswPph _ => false
  | .syswFcsr _ => false
  | .pwr _ _ _ _ _ => false
  | .prd _ _ _ _ _ _ => false
  | .psame _ _ _ _ _ _ => false
  | .padd _ _ _ _ _ _ => false
  | .pmc _ _ _ _ => false
  | .pstamp _ _ _ _ _ => false
  | .gld _ _ _ _ _ => false
  | .gst _ _ _ => false
  | .gldv _ _ _ _ _ => false
  | .vadd _ _ _ _ _ => false
  | .vsub _ _ _ _ _ => false
  | .vmul _ _ _ _ _ => false
  | .vmulhSigned _ _ _ _ _ => false
  | .vmulhUnsigned _ _ _ _ _ => false
  | .vmad _ _ _ _ _ => false
  | .vand _ _ _ _ _ => false
  | .vor _ _ _ _ _ => false
  | .vxor _ _ _ _ _ => false
  | .vshl _ _ _ _ _ => false
  | .vshr _ _ _ _ _ => false
  | .vsha _ _ _ _ _ => false
  | .vminSigned _ _ _ _ _ => false
  | .vminUnsigned _ _ _ _ _ => false
  | .vmaxSigned _ _ _ _ _ => false
  | .vmaxUnsigned _ _ _ _ _ => false
  | .vcmp _ _ _ _ _ => false
  | .vsel _ _ _ _ => false
  | .vmov _ _ _ => false
  | .vabs _ _ _ _ => false
  | .vfsqrt _ _ _ _ => false
  | .vfrcp _ _ _ _ => false
  | .vfrsq _ _ _ _ => false
  | .vfclass _ _ _ _ => false
  | .viota _ _ _ => false
  | .vperm _ _ _ _ _ => false
  | .vrot _ _ _ _ _ => false
  | .vbcast _ _ _ _ => false
  | .vext _ _ _ _ _ => false
  | .vins _ _ _ _ => false
  | .vred _ _ _ _ _ _ => false
  | .vfred _ _ _ _ _ => false
  | .vcompress _ _ _ _ => false
  | .kand _ _ _ => false
  | .kor _ _ _ => false
  | .kxor _ _ _ => false
  | .knot _ _ => false
  | .kpop _ _ => false
  | .vpack _ _ _ _ _ => false
  | .vunpack _ _ _ _ _ => false
  | .vscale _ _ _ _ _ _ => false
  | .vfadd _ _ _ _ _ => false
  | .vfsub _ _ _ _ _ => false
  | .vfmul _ _ _ _ _ => false
  | .vfma _ _ _ _ _ => false
  | .vfms _ _ _ _ _ => false
  | .vfnma _ _ _ _ _ => false
  | .vfdiv _ _ _ _ _ => false
  | .vfmin _ _ _ _ _ => false
  | .vfmax _ _ _ _ _ => false
  | .vfcmp _ _ _ _ _ => false
  | .vfsgn _ _ _ _ _ => false
  | .vcvt _ _ _ _ _ _ => false
  | .vcvti _ _ _ _ _ _ => false
  | .vcvtf _ _ _ _ _ _ => false
  | .fadd _ _ _ _ _ => false
  | .fsub _ _ _ _ _ => false
  | .fmul _ _ _ _ _ => false
  | .fma _ _ _ _ _ => false
  | .fdiv _ _ _ _ _ => false
  | .fsqrt _ _ _ _ => false
  | .fmin _ _ _ _ => false
  | .fmax _ _ _ _ => false
  | .fclass _ _ _ => false
  | .fcmp _ _ _ _ _ => false
  | .fcvt _ _ _ _ _ _ => false
  | .modeM _ _ => false
  | .modeV => false
  | .mop _ _ _ _ _ => false
  | .mopn _ _ _ _ _ => false
  | .mdrain _ _ _ _ => false
  | .mdrainReg _ _ _ _ => false
  | .mscale _ _ => false
  | .mzero => false
  | .mtrn => false
  | .mqry _ => false
  | .regionAdmission _ _ => false
  | .strandStart _ _ => false
  | .boundaryWake _ _ => false
  | .waitRelease _ _ => false
  | .fenceRelease _ _ => false
  | .haltComplete _ _ => false
  | .regionEnd _ => false
  | .quiescenceEvent _ => false
  | .priorityPreemption _ _ _ => false
  | .stealRound _ _ => false
  | .stealGrant _ => false
  | .stealReceipt _ => false
  | .partDepart _ => false
  | .partCarry _ => false
  | .partPerform _ => false
  | .operationComplete _ _ => false
  | .deposit _ => false
  | .pwrRelEntry _ => false
  | .tileOpApply _ _ => false
  | .mdrainApply _ _ => false
  | .copyComplete _ => false
  | .sendComplete _ => false
  | .gstepProcess _ => false
  | .gridPieceDeposit _ => false
  | .mirrorCopy _ => false
  | .pageWalk _ => false
  | .translationDrop _ _ => false
  | .plotCacheFill _ _ _ => false
  | .plotCacheDrop _ _ => false
  | .logMerge _ => false
  | .harvest _ => false
  | .flush _ => false
  | .requestComplete _ => false
  | .eventDeposit _ => false
  | .evictComplete _ _ => false
  | .ctxsvComplete _ => false
  | .ctxldComplete _ => false
  | .crossPanelReply _ _ _ _ _ _ _ => false
  | .requestTimeout _ _ => false
  | .remoteRequest _ _ => false
  | .hostWrite _ _ => false
  | .pacingGrant _ _ _ => false
  | .driftAlarm _ => false
  | .thermalThrottle _ _ => false
  | .droopDetect _ => false
  | .droopRecovery _ => false
  | .budgetThrottle _ => false
  | .turnsChange _ _ => false
  | .drawRefresh _ _ => false
  | .statusBlockRefresh _ => false
  | .quantaSend _ _ _ _ => false
  | .quantaReceipt _ => false
  | .quantaAck _ => false
  | .quantaReturn _ => false
  | .quantaRecall _ _ _ => false
  | .sidebandFailure _ _ => false
  | .correctedError _ _ => false
  | .selfTestResult _ _ _ _ => false
  | .spareCopyEnd _ _ => false
  | .flitTagFailure _ _ => false
  | .panelReset => false
  | .powerRegionEnergise => false
  | .imageCheck _ => false
  | .recoveryImage _ => false
  | .linkAuthentication _ _ _ _ => false
  | .getMeasurements _ => false
  | .inletOvertemp _ => false
  | .localWriteApply _ => false
  | .driftChange _ _ => false
  | .sidebandRestore _ _ => false
  | .faultDomainTakedown _ => false
  | .regionRollback _ => false
  | .turnTableChange _ _ => false
  | .dccRestart _ => false

end Sys2Proof
end

