-- ==== Sys2Proof/Decode.lean ====
section
/-!
DEFINITION. The decoder of a 32-bit word (R80 to R92) and the encoder, both from the same tables of spec/04. Fields are
read by division on the word as a number; a word that no row and no condition admits decodes to nothing (R92). The
class is bit 31, the lone bit L bit 30 and the major opcode bits 29:24 (R67).
-/
namespace Sys2Proof

/-- The n bits of w from bit lo up. -/
def field (n lo w : Nat) : BitVec n := BitVec.ofNat n (w / 2 ^ lo)

/-- The n bits of w from bit lo up are v. -/
def fixedAt (n lo v w : Nat) : Bool := w / 2 ^ lo % 2 ^ n == v

/-- Major 0x01 of class C: ADD, SUB, ADDP, MUL, MULHU, MULHS, DIVU, DIVS, REMU, REMS, AND, OR, XOR, ANDN, SHL, SHR, SHA, ROTL, CLZ, CTZ, POPC, MINS, MINU, MAXS, MAXU, SLT, SLTU, SEQ. -/
def decodeC01 (w : Nat) : Option Instr :=
  if fixedAt 9 0 0 w then some (.add (field 5 19 w) (field 5 14 w) (field 5 9 w))
  else if fixedAt 9 0 1 w then some (.sub (field 5 19 w) (field 5 14 w) (field 5 9 w))
  else if fixedAt 9 0 2 w then some (.addp (field 5 19 w) (field 5 14 w) (field 5 9 w))
  else if fixedAt 9 0 3 w then some (.mul (field 5 19 w) (field 5 14 w) (field 5 9 w))
  else if fixedAt 9 0 4 w then some (.mulhu (field 5 19 w) (field 5 14 w) (field 5 9 w))
  else if fixedAt 9 0 5 w then some (.mulhs (field 5 19 w) (field 5 14 w) (field 5 9 w))
  else if fixedAt 9 0 6 w then some (.divu (field 5 19 w) (field 5 14 w) (field 5 9 w))
  else if fixedAt 9 0 7 w then some (.divs (field 5 19 w) (field 5 14 w) (field 5 9 w))
  else if fixedAt 9 0 8 w then some (.remu (field 5 19 w) (field 5 14 w) (field 5 9 w))
  else if fixedAt 9 0 9 w then some (.rems (field 5 19 w) (field 5 14 w) (field 5 9 w))
  else if fixedAt 9 0 10 w then some (.and (field 5 19 w) (field 5 14 w) (field 5 9 w))
  else if fixedAt 9 0 11 w then some (.or (field 5 19 w) (field 5 14 w) (field 5 9 w))
  else if fixedAt 9 0 12 w then some (.xor (field 5 19 w) (field 5 14 w) (field 5 9 w))
  else if fixedAt 9 0 13 w then some (.andn (field 5 19 w) (field 5 14 w) (field 5 9 w))
  else if fixedAt 9 0 14 w then some (.shl (field 5 19 w) (field 5 14 w) (field 5 9 w))
  else if fixedAt 9 0 15 w then some (.shr (field 5 19 w) (field 5 14 w) (field 5 9 w))
  else if fixedAt 9 0 16 w then some (.sha (field 5 19 w) (field 5 14 w) (field 5 9 w))
  else if fixedAt 9 0 17 w then some (.rotl (field 5 19 w) (field 5 14 w) (field 5 9 w))
  else if fixedAt 14 0 18 w then some (.clz (field 5 19 w) (field 5 14 w))
  else if fixedAt 14 0 19 w then some (.ctz (field 5 19 w) (field 5 14 w))
  else if fixedAt 14 0 20 w then some (.popc (field 5 19 w) (field 5 14 w))
  else if fixedAt 9 0 21 w then some (.mins (field 5 19 w) (field 5 14 w) (field 5 9 w))
  else if fixedAt 9 0 22 w then some (.minu (field 5 19 w) (field 5 14 w) (field 5 9 w))
  else if fixedAt 9 0 23 w then some (.maxs (field 5 19 w) (field 5 14 w) (field 5 9 w))
  else if fixedAt 9 0 24 w then some (.maxu (field 5 19 w) (field 5 14 w) (field 5 9 w))
  else if fixedAt 9 0 25 w then some (.slt (field 5 19 w) (field 5 14 w) (field 5 9 w))
  else if fixedAt 9 0 26 w then some (.sltu (field 5 19 w) (field 5 14 w) (field 5 9 w))
  else if fixedAt 9 0 27 w then some (.seq (field 5 19 w) (field 5 14 w) (field 5 9 w))
  else none

/-- Major 0x02 of class C: MAD, SEL. -/
def decodeC02 (w : Nat) : Option Instr :=
  if fixedAt 4 0 0 w then some (.mad (field 5 19 w) (field 5 14 w) (field 5 9 w) (field 5 4 w))
  else if fixedAt 4 0 1 w then some (.sel (field 5 19 w) (field 5 14 w) (field 5 9 w) (field 5 4 w))
  else none

/-- Major 0x03 of class C: BFX, BFI. -/
def decodeC03 (w : Nat) : Option Instr :=
  if fixedAt 2 0 0 w then some (.bfx (field 5 19 w) (field 5 14 w) (field 6 8 w) (field 6 2 w))
  else if fixedAt 2 0 1 w then some (.bfi (field 5 19 w) (field 5 14 w) (field 6 8 w) (field 6 2 w))
  else none

/-- Major 0x04 of class C: LIL. -/
def decodeC04 (w : Nat) : Option Instr :=
  some (.lil (field 5 19 w) (field 19 0 w))

/-- Major 0x05 of class C: LIH. -/
def decodeC05 (w : Nat) : Option Instr :=
  if fixedAt 1 16 0 w then some (.lih (field 5 19 w) (field 2 17 w) (field 16 0 w))
  else none

/-- Major 0x06 of class C: TLD, TST. -/
def decodeC06 (w : Nat) : Option Instr :=
  if fixedAt 11 0 0 w then some (.tld (field 5 19 w) (field 5 14 w) (field 3 11 w))
  else if fixedAt 11 0 1024 w then some (.tst (field 5 19 w) (field 5 14 w) (field 3 11 w))
  else none

/-- Major 0x07 of class C: TLDV, TSTV. -/
def decodeC07 (w : Nat) : Option Instr :=
  if fixedAt 9 0 0 w then some (.tldv (field 7 17 w) (field 5 12 w) (field 3 9 w))
  else if fixedAt 9 0 256 w then some (.tstv (field 7 17 w) (field 5 12 w) (field 3 9 w))
  else none

/-- Major 0x08 of class C: ADDI. -/
def decodeC08 (w : Nat) : Option Instr :=
  some (.addi (field 5 19 w) (field 5 14 w) (field 14 0 w))

/-- Major 0x09 of class C: ANDI. -/
def decodeC09 (w : Nat) : Option Instr :=
  some (.andi (field 5 19 w) (field 5 14 w) (field 14 0 w))

/-- Major 0x0A of class C: ORI. -/
def decodeC0A (w : Nat) : Option Instr :=
  some (.ori (field 5 19 w) (field 5 14 w) (field 14 0 w))

/-- Major 0x0B of class C: XORI. -/
def decodeC0B (w : Nat) : Option Instr :=
  some (.xori (field 5 19 w) (field 5 14 w) (field 14 0 w))

/-- Major 0x0C of class C: SHLI. -/
def decodeC0C (w : Nat) : Option Instr :=
  if fixedAt 8 6 0 w then some (.shli (field 5 19 w) (field 5 14 w) (field 6 0 w))
  else none

/-- Major 0x0D of class C: SHRI. -/
def decodeC0D (w : Nat) : Option Instr :=
  if fixedAt 8 6 0 w then some (.shri (field 5 19 w) (field 5 14 w) (field 6 0 w))
  else none

/-- Major 0x0E of class C: SHAI. -/
def decodeC0E (w : Nat) : Option Instr :=
  if fixedAt 8 6 0 w then some (.shai (field 5 19 w) (field 5 14 w) (field 6 0 w))
  else none

/-- Major 0x0F of class C: SLTI. -/
def decodeC0F (w : Nat) : Option Instr :=
  some (.slti (field 5 19 w) (field 5 14 w) (field 14 0 w))

/-- Major 0x10 of class C: B. -/
def decodeC10 (w : Nat) : Option Instr :=
  some (.b (field 3 21 w) (field 5 16 w) (field 5 11 w) (field 11 0 w))

/-- Major 0x11 of class C: BZ. -/
def decodeC11 (w : Nat) : Option Instr :=
  some (.bz (field 5 19 w) (field 19 0 w))

/-- Major 0x12 of class C: BNZ. -/
def decodeC12 (w : Nat) : Option Instr :=
  some (.bnz (field 5 19 w) (field 19 0 w))

/-- Major 0x13 of class C: LOOP. -/
def decodeC13 (w : Nat) : Option Instr :=
  some (.loop (field 5 19 w) (field 19 0 w))

/-- Major 0x14 of class C: JMP. -/
def decodeC14 (w : Nat) : Option Instr :=
  some (.jmp (field 24 0 w))

/-- Major 0x15 of class C: JAL. -/
def decodeC15 (w : Nat) : Option Instr :=
  some (.jal (field 24 0 w))

/-- Major 0x16 of class C: NOP, PEND, ERET, HALT, TRAP, BKPT. -/
def decodeC16 (w : Nat) : Option Instr :=
  if fixedAt 24 0 0 w then some (.nop)
  else if fixedAt 24 0 262144 w then some (.pend)
  else if fixedAt 24 0 524288 w && fixedAt 1 30 1 w then some (.eret)
  else if fixedAt 24 0 786432 w && fixedAt 1 30 1 w then some (.halt)
  else if fixedAt 8 16 16 w && fixedAt 1 30 1 w then some (.trap (field 16 0 w))
  else if fixedAt 8 16 20 w && fixedAt 1 30 1 w then some (.bkpt (field 16 0 w))
  else none

/-- Major 0x17 of class C: JR, JALR, SPAWN, TAKE, TDONE, RTSET, RTCLR, SEGLD, SEGST, GBIND, GSTEP, GQRY, TMAP, TQRY, EVACK, EVICT, RESUME, CTXSV, CTXLD, SCOPEW, BUNTW, PLOTW, PCLR. -/
def decodeC17 (w : Nat) : Option Instr :=
  if fixedAt 14 0 0 w && fixedAt 5 19 0 w then some (.jr (field 5 14 w))
  else if fixedAt 14 0 1 w then some (.jalr (field 5 19 w) (field 5 14 w))
  else if fixedAt 14 0 2 w then some (.spawn (field 5 19 w) (field 5 14 w))
  else if fixedAt 14 0 3 w then some (.take (field 5 19 w) (field 5 14 w))
  else if fixedAt 14 0 4 w && fixedAt 5 19 0 w then some (.tdone (field 5 14 w))
  else if fixedAt 9 0 5 w then some (.rtset (field 5 19 w) (field 5 14 w) (field 5 9 w))
  else if fixedAt 14 0 6 w && fixedAt 5 19 0 w then some (.rtclr (field 5 14 w))
  else if fixedAt 14 0 7 w && fixedAt 2 22 0 w then some (.segld (field 3 19 w) (field 5 14 w))
  else if fixedAt 14 0 8 w && fixedAt 2 22 0 w then some (.segst (field 3 19 w) (field 5 14 w))
  else if fixedAt 14 0 9 w && fixedAt 2 22 0 w then some (.gbind (field 3 19 w) (field 5 14 w))
  else if fixedAt 14 0 10 w && fixedAt 2 22 0 w then some (.gstep (field 3 19 w) (field 5 14 w))
  else if fixedAt 9 0 11 w && fixedAt 2 17 0 w then some (.gqry (field 5 19 w) (field 3 14 w) (field 5 9 w))
  else if fixedAt 9 0 12 w && fixedAt 2 12 0 w then some (.tmap (field 5 19 w) (field 5 14 w) (field 3 9 w))
  else if fixedAt 14 0 13 w then some (.tqry (field 5 19 w) (field 5 14 w))
  else if fixedAt 14 0 14 w && fixedAt 5 19 0 w then some (.evack (field 5 14 w))
  else if fixedAt 14 0 15 w then some (.evict (field 5 19 w) (field 5 14 w))
  else if fixedAt 14 0 16 w then some (.resume (field 5 19 w) (field 5 14 w))
  else if fixedAt 9 0 17 w && fixedAt 5 19 0 w then some (.ctxsv (field 5 14 w) (field 5 9 w))
  else if fixedAt 9 0 18 w && fixedAt 5 19 0 w then some (.ctxld (field 5 14 w) (field 5 9 w))
  else if fixedAt 9 0 19 w && fixedAt 5 19 0 w then some (.scopew (field 5 14 w) (field 5 9 w))
  else if fixedAt 9 0 20 w && fixedAt 5 19 0 w then some (.buntw (field 5 14 w) (field 5 9 w))
  else if fixedAt 9 0 21 w && fixedAt 5 19 0 w then some (.plotw (field 5 14 w) (field 5 9 w))
  else if fixedAt 14 0 22 w && fixedAt 5 19 0 w then some (.pclr (field 5 14 w))
  else none

/-- Major 0x18 of class C: LD. -/
def decodeC18 (w : Nat) : Option Instr :=
  some (.ld (field 5 19 w) (field 5 14 w) (field 2 12 w) (field 1 11 w) (field 11 0 w))

/-- Major 0x19 of class C: LD_INDEX. -/
def decodeC19 (w : Nat) : Option Instr :=
  some (.ldIndex (field 5 19 w) (field 5 14 w) (field 5 9 w) (field 2 7 w) (field 1 6 w) (field 6 0 w))

/-- Major 0x1A of class C: LD_ACQ. -/
def decodeC1A (w : Nat) : Option Instr :=
  if fixedAt 4 0 0 w && fixedAt 2 9 1 w then some (.ldAcq (field 5 19 w) (field 5 14 w) (field 2 12 w) (field 1 11 w) (field 5 4 w))
  else none

/-- Major 0x1B of class C: ST. -/
def decodeC1B (w : Nat) : Option Instr :=
  if fixedAt 1 11 0 w then some (.st (field 5 19 w) (field 5 14 w) (field 2 12 w) (field 11 0 w))
  else none

/-- Major 0x1C of class C: ST_INDEX. -/
def decodeC1C (w : Nat) : Option Instr :=
  if fixedAt 1 6 0 w then some (.stIndex (field 5 19 w) (field 5 14 w) (field 5 9 w) (field 2 7 w) (field 6 0 w))
  else none

/-- Major 0x1D of class C: ST_REL. -/
def decodeC1D (w : Nat) : Option Instr :=
  if fixedAt 4 0 0 w && fixedAt 3 9 2 w then some (.stRel (field 5 19 w) (field 5 14 w) (field 2 12 w) (field 5 4 w))
  else none

/-- Major 0x1E of class C: PFX. -/
def decodeC1E (w : Nat) : Option Instr :=
  some (.pfx (field 5 19 w) (field 5 14 w) (field 14 0 w))

/-- Major 0x1F of class C: FILL. -/
def decodeC1F (w : Nat) : Option Instr :=
  some (.fill (field 5 19 w) (field 5 14 w) (field 5 9 w) (field 2 7 w) (field 6 1 w) (field 1 0 w))

/-- Major 0x20 of class C: LDV. -/
def decodeC20 (w : Nat) : Option Instr :=
  some (.ldv (field 7 17 w) (field 5 12 w) (field 5 7 w) (field 7 0 w))

/-- Major 0x21 of class C: STV. -/
def decodeC21 (w : Nat) : Option Instr :=
  some (.stv (field 7 17 w) (field 5 12 w) (field 5 7 w) (field 7 0 w))

/-- Major 0x22 of class C: LDVS. -/
def decodeC22 (w : Nat) : Option Instr :=
  if fixedAt 5 0 0 w then some (.ldvs (field 7 17 w) (field 5 12 w) (field 5 7 w) (field 2 5 w))
  else none

/-- Major 0x23 of class C: STVS. -/
def decodeC23 (w : Nat) : Option Instr :=
  if fixedAt 5 0 0 w then some (.stvs (field 7 17 w) (field 5 12 w) (field 5 7 w) (field 2 5 w))
  else none

/-- Major 0x24 of class C: LDVX. -/
def decodeC24 (w : Nat) : Option Instr :=
  if fixedAt 3 0 0 w then some (.ldvx (field 7 17 w) (field 5 12 w) (field 7 5 w) (field 2 3 w))
  else none

/-- Major 0x25 of class C: STVX. -/
def decodeC25 (w : Nat) : Option Instr :=
  if fixedAt 3 0 0 w then some (.stvx (field 7 17 w) (field 5 12 w) (field 7 5 w) (field 2 3 w))
  else none

/-- Major 0x26 of class C: VLDF, VLDF_SCALES. -/
def decodeC26 (w : Nat) : Option Instr :=
  if fixedAt 2 0 0 w && fixedAt 1 7 0 w then some (.vldf (field 7 17 w) (field 5 12 w) (field 3 9 w) (field 1 8 w) (field 5 2 w))
  else if fixedAt 8 0 168 w && fixedAt 4 20 0 w then some (.vldfScales (field 3 17 w) (field 5 12 w) (field 3 9 w) (field 1 8 w))
  else none

/-- Major 0x27 of class C: VSTF, VSTF_SCALES. -/
def decodeC27 (w : Nat) : Option Instr :=
  if fixedAt 2 0 0 w && fixedAt 1 7 0 w then some (.vstf (field 7 17 w) (field 5 12 w) (field 3 9 w) (field 1 8 w) (field 5 2 w))
  else if fixedAt 8 0 168 w && fixedAt 4 20 0 w then some (.vstfScales (field 3 17 w) (field 5 12 w) (field 3 9 w) (field 1 8 w))
  else none

/-- Major 0x28 of class C: AADD. -/
def decodeC28 (w : Nat) : Option Instr :=
  some (.aadd (field 5 19 w) (field 5 14 w) (field 5 9 w) (field 2 7 w) (field 2 5 w) (field 5 0 w))

/-- Major 0x29 of class C: AMIN. -/
def decodeC29 (w : Nat) : Option Instr :=
  some (.amin (field 5 19 w) (field 5 14 w) (field 5 9 w) (field 2 7 w) (field 2 5 w) (field 5 0 w))

/-- Major 0x2A of class C: AMAX. -/
def decodeC2A (w : Nat) : Option Instr :=
  some (.amax (field 5 19 w) (field 5 14 w) (field 5 9 w) (field 2 7 w) (field 2 5 w) (field 5 0 w))

/-- Major 0x2B of class C: AFMAX. -/
def decodeC2B (w : Nat) : Option Instr :=
  some (.afmax (field 5 19 w) (field 5 14 w) (field 5 9 w) (field 2 7 w) (field 2 5 w) (field 5 0 w))

/-- Major 0x2C of class C: AAND. -/
def decodeC2C (w : Nat) : Option Instr :=
  some (.aand (field 5 19 w) (field 5 14 w) (field 5 9 w) (field 2 7 w) (field 2 5 w) (field 5 0 w))

/-- Major 0x2D of class C: AOR. -/
def decodeC2D (w : Nat) : Option Instr :=
  some (.aor (field 5 19 w) (field 5 14 w) (field 5 9 w) (field 2 7 w) (field 2 5 w) (field 5 0 w))

/-- Major 0x2E of class C: AXOR. -/
def decodeC2E (w : Nat) : Option Instr :=
  some (.axor (field 5 19 w) (field 5 14 w) (field 5 9 w) (field 2 7 w) (field 2 5 w) (field 5 0 w))

/-- Major 0x2F of class C: ASWP. -/
def decodeC2F (w : Nat) : Option Instr :=
  some (.aswp (field 5 19 w) (field 5 14 w) (field 5 9 w) (field 2 7 w) (field 2 5 w) (field 5 0 w))

/-- Major 0x30 of class C: ACAS. -/
def decodeC30 (w : Nat) : Option Instr :=
  some (.acas (field 5 19 w) (field 5 14 w) (field 5 9 w) (field 2 7 w) (field 2 5 w) (field 5 0 w))

/-- Major 0x31 of class C: FENCE. -/
def decodeC31 (w : Nat) : Option Instr :=
  if fixedAt 12 0 0 w then some (.fence (field 3 21 w) (field 5 16 w) (field 4 12 w))
  else none

/-- Major 0x32 of class C: WAIT. -/
def decodeC32 (w : Nat) : Option Instr :=
  some (.wait (field 6 18 w) (field 6 12 w) (field 6 6 w) (field 6 0 w))

/-- Major 0x33 of class C: CPY. -/
def decodeC33 (w : Nat) : Option Instr :=
  if fixedAt 2 0 0 w then some (.cpy (field 5 19 w) (field 5 14 w) (field 5 9 w) (field 6 3 w) (field 1 2 w))
  else none

/-- Major 0x34 of class C: CPYS. -/
def decodeC34 (w : Nat) : Option Instr :=
  if fixedAt 2 0 0 w then some (.cpys (field 5 19 w) (field 5 14 w) (field 5 9 w) (field 6 3 w) (field 1 2 w))
  else none

/-- Major 0x35 of class C: SEND. -/
def decodeC35 (w : Nat) : Option Instr :=
  some (.send (field 5 19 w) (field 7 12 w) (field 1 11 w) (field 4 7 w) (field 6 1 w) (field 1 0 w))

/-- Major 0x36 of class C: SYSR. -/
def decodeC36 (w : Nat) : Option Instr :=
  if fixedAt 7 0 0 w then some (.sysr (field 5 19 w) (field 12 7 w))
  else none

/-- Major 0x37 of class C: SYSW, SYSW_PER, SYSW_PPH, SYSW_FCSR. -/
def decodeC37 (w : Nat) : Option Instr :=
  if fixedAt 19 0 2048 w then some (.syswPer (field 5 19 w))
  else if fixedAt 19 0 2176 w then some (.syswPph (field 5 19 w))
  else if fixedAt 19 0 128 w then some (.syswFcsr (field 5 19 w))
  else if fixedAt 7 0 0 w then some (.sysw (field 5 19 w) (field 12 7 w))
  else none

/-- Major 0x38 of class C: PWR. -/
def decodeC38 (w : Nat) : Option Instr :=
  if fixedAt 5 0 0 w then some (.pwr (field 1 23 w) (field 5 18 w) (field 6 12 w) (field 2 10 w) (field 5 5 w))
  else none

/-- Major 0x39 of class C: PRD. -/
def decodeC39 (w : Nat) : Option Instr :=
  some (.prd (field 1 23 w) (field 5 18 w) (field 5 13 w) (field 6 7 w) (field 2 5 w) (field 5 0 w))

/-- Major 0x3A of class C: PSAME. -/
def decodeC3A (w : Nat) : Option Instr :=
  some (.psame (field 1 23 w) (field 5 18 w) (field 5 13 w) (field 6 7 w) (field 2 5 w) (field 5 0 w))

/-- Major 0x3B of class C: PADD. -/
def decodeC3B (w : Nat) : Option Instr :=
  some (.padd (field 1 23 w) (field 5 18 w) (field 5 13 w) (field 6 7 w) (field 2 5 w) (field 5 0 w))

/-- Major 0x3C of class C: PMC. -/
def decodeC3C (w : Nat) : Option Instr :=
  if fixedAt 6 0 0 w then some (.pmc (field 6 18 w) (field 5 13 w) (field 2 11 w) (field 5 6 w))
  else none

/-- Major 0x3D of class C: PSTAMP. -/
def decodeC3D (w : Nat) : Option Instr :=
  if fixedAt 5 13 0 w then some (.pstamp (field 1 23 w) (field 5 18 w) (field 6 7 w) (field 2 5 w) (field 5 0 w))
  else none

/-- Major 0x3E of class C: GLD, GST. -/
def decodeC3E (w : Nat) : Option Instr :=
  if fixedAt 5 0 0 w then some (.gld (field 5 19 w) (field 5 14 w) (field 5 9 w) (field 3 6 w) (field 1 5 w))
  else if fixedAt 6 0 16 w && fixedAt 5 9 0 w then some (.gst (field 5 19 w) (field 5 14 w) (field 3 6 w))
  else none

/-- Major 0x3F of class C: GLDV. -/
def decodeC3F (w : Nat) : Option Instr :=
  if fixedAt 3 0 0 w then some (.gldv (field 7 17 w) (field 5 12 w) (field 5 7 w) (field 3 4 w) (field 1 3 w))
  else none

/-- Major 0x01 of class A: VADD. -/
def decodeA01 (w : Nat) : Option Instr :=
  some (.vadd (field 7 17 w) (field 7 10 w) (field 7 3 w) (field 2 1 w) (field 1 0 w))

/-- Major 0x02 of class A: VSUB. -/
def decodeA02 (w : Nat) : Option Instr :=
  some (.vsub (field 7 17 w) (field 7 10 w) (field 7 3 w) (field 2 1 w) (field 1 0 w))

/-- Major 0x03 of class A: VMUL. -/
def decodeA03 (w : Nat) : Option Instr :=
  some (.vmul (field 7 17 w) (field 7 10 w) (field 7 3 w) (field 2 1 w) (field 1 0 w))

/-- Major 0x04 of class A: VMULH_SIGNED. -/
def decodeA04 (w : Nat) : Option Instr :=
  some (.vmulhSigned (field 7 17 w) (field 7 10 w) (field 7 3 w) (field 2 1 w) (field 1 0 w))

/-- Major 0x05 of class A: VMULH_UNSIGNED. -/
def decodeA05 (w : Nat) : Option Instr :=
  some (.vmulhUnsigned (field 7 17 w) (field 7 10 w) (field 7 3 w) (field 2 1 w) (field 1 0 w))

/-- Major 0x06 of class A: VMAD. -/
def decodeA06 (w : Nat) : Option Instr :=
  some (.vmad (field 7 17 w) (field 7 10 w) (field 7 3 w) (field 2 1 w) (field 1 0 w))

/-- Major 0x07 of class A: VAND. -/
def decodeA07 (w : Nat) : Option Instr :=
  some (.vand (field 7 17 w) (field 7 10 w) (field 7 3 w) (field 2 1 w) (field 1 0 w))

/-- Major 0x08 of class A: VOR. -/
def decodeA08 (w : Nat) : Option Instr :=
  some (.vor (field 7 17 w) (field 7 10 w) (field 7 3 w) (field 2 1 w) (field 1 0 w))

/-- Major 0x09 of class A: VXOR. -/
def decodeA09 (w : Nat) : Option Instr :=
  some (.vxor (field 7 17 w) (field 7 10 w) (field 7 3 w) (field 2 1 w) (field 1 0 w))

/-- Major 0x0A of class A: VSHL. -/
def decodeA0A (w : Nat) : Option Instr :=
  some (.vshl (field 7 17 w) (field 7 10 w) (field 7 3 w) (field 2 1 w) (field 1 0 w))

/-- Major 0x0B of class A: VSHR. -/
def decodeA0B (w : Nat) : Option Instr :=
  some (.vshr (field 7 17 w) (field 7 10 w) (field 7 3 w) (field 2 1 w) (field 1 0 w))

/-- Major 0x0C of class A: VSHA. -/
def decodeA0C (w : Nat) : Option Instr :=
  some (.vsha (field 7 17 w) (field 7 10 w) (field 7 3 w) (field 2 1 w) (field 1 0 w))

/-- Major 0x0D of class A: VMIN_SIGNED. -/
def decodeA0D (w : Nat) : Option Instr :=
  some (.vminSigned (field 7 17 w) (field 7 10 w) (field 7 3 w) (field 2 1 w) (field 1 0 w))

/-- Major 0x0E of class A: VMIN_UNSIGNED. -/
def decodeA0E (w : Nat) : Option Instr :=
  some (.vminUnsigned (field 7 17 w) (field 7 10 w) (field 7 3 w) (field 2 1 w) (field 1 0 w))

/-- Major 0x0F of class A: VMAX_SIGNED. -/
def decodeA0F (w : Nat) : Option Instr :=
  some (.vmaxSigned (field 7 17 w) (field 7 10 w) (field 7 3 w) (field 2 1 w) (field 1 0 w))

/-- Major 0x10 of class A: VMAX_UNSIGNED. -/
def decodeA10 (w : Nat) : Option Instr :=
  some (.vmaxUnsigned (field 7 17 w) (field 7 10 w) (field 7 3 w) (field 2 1 w) (field 1 0 w))

/-- Major 0x11 of class A: VCMP. -/
def decodeA11 (w : Nat) : Option Instr :=
  if fixedAt 2 0 0 w then some (.vcmp (field 3 21 w) (field 7 14 w) (field 7 7 w) (field 3 4 w) (field 2 2 w))
  else none

/-- Major 0x12 of class A: VSEL. -/
def decodeA12 (w : Nat) : Option Instr :=
  if fixedAt 5 0 0 w then some (.vsel (field 7 17 w) (field 7 10 w) (field 3 7 w) (field 2 5 w))
  else none

/-- Major 0x13 of class A: VMOV, VABS, VFSQRT, VFRCP, VFRSQ, VFCLASS, VIOTA. -/
def decodeA13 (w : Nat) : Option Instr :=
  if fixedAt 9 1 0 w then some (.vmov (field 7 17 w) (field 7 10 w) (field 1 0 w))
  else if fixedAt 7 3 1 w then some (.vabs (field 7 17 w) (field 7 10 w) (field 2 1 w) (field 1 0 w))
  else if fixedAt 7 3 2 w then some (.vfsqrt (field 7 17 w) (field 7 10 w) (field 2 1 w) (field 1 0 w))
  else if fixedAt 7 3 3 w then some (.vfrcp (field 7 17 w) (field 7 10 w) (field 2 1 w) (field 1 0 w))
  else if fixedAt 7 3 4 w then some (.vfrsq (field 7 17 w) (field 7 10 w) (field 2 1 w) (field 1 0 w))
  else if fixedAt 7 3 5 w then some (.vfclass (field 7 17 w) (field 7 10 w) (field 2 1 w) (field 1 0 w))
  else if fixedAt 14 3 6 w then some (.viota (field 7 17 w) (field 2 1 w) (field 1 0 w))
  else none

/-- Major 0x14 of class A: VPERM. -/
def decodeA14 (w : Nat) : Option Instr :=
  some (.vperm (field 7 17 w) (field 7 10 w) (field 7 3 w) (field 2 1 w) (field 1 0 w))

/-- Major 0x15 of class A: VROT. -/
def decodeA15 (w : Nat) : Option Instr :=
  if fixedAt 1 3 0 w then some (.vrot (field 7 17 w) (field 7 10 w) (field 6 4 w) (field 2 1 w) (field 1 0 w))
  else none

/-- Major 0x16 of class A: VBCAST. -/
def decodeA16 (w : Nat) : Option Instr :=
  if fixedAt 9 3 0 w then some (.vbcast (field 7 17 w) (field 5 12 w) (field 2 1 w) (field 1 0 w))
  else none

/-- Major 0x17 of class A: VEXT. -/
def decodeA17 (w : Nat) : Option Instr :=
  if fixedAt 3 3 0 w then some (.vext (field 5 19 w) (field 7 12 w) (field 6 6 w) (field 2 1 w) (field 1 0 w))
  else none

/-- Major 0x18 of class A: VINS. -/
def decodeA18 (w : Nat) : Option Instr :=
  if fixedAt 1 0 0 w && fixedAt 3 3 0 w then some (.vins (field 7 17 w) (field 5 12 w) (field 6 6 w) (field 2 1 w))
  else none

/-- Major 0x19 of class A: VRED. -/
def decodeA19 (w : Nat) : Option Instr :=
  if fixedAt 5 3 0 w then some (.vred (field 5 19 w) (field 7 12 w) (field 3 9 w) (field 1 8 w) (field 2 1 w) (field 1 0 w))
  else none

/-- Major 0x1A of class A: VFRED. -/
def decodeA1A (w : Nat) : Option Instr :=
  if fixedAt 6 3 0 w then some (.vfred (field 5 19 w) (field 7 12 w) (field 3 9 w) (field 2 1 w) (field 1 0 w))
  else none

/-- Major 0x1B of class A: VCOMPRESS. -/
def decodeA1B (w : Nat) : Option Instr :=
  if fixedAt 5 0 0 w then some (.vcompress (field 7 17 w) (field 7 10 w) (field 3 7 w) (field 2 5 w))
  else none

/-- Major 0x1C of class A: KAND, KOR, KXOR, KNOT, KPOP. -/
def decodeA1C (w : Nat) : Option Instr :=
  if fixedAt 15 0 0 w then some (.kand (field 3 21 w) (field 3 18 w) (field 3 15 w))
  else if fixedAt 15 0 1 w then some (.kor (field 3 21 w) (field 3 18 w) (field 3 15 w))
  else if fixedAt 15 0 2 w then some (.kxor (field 3 21 w) (field 3 18 w) (field 3 15 w))
  else if fixedAt 18 0 3 w then some (.knot (field 3 21 w) (field 3 18 w))
  else if fixedAt 10 0 4 w && fixedAt 3 15 0 w && fixedAt 3 21 0 w then some (.kpop (field 3 18 w) (field 5 10 w))
  else none

/-- Major 0x1D of class A: VPACK. -/
def decodeA1D (w : Nat) : Option Instr :=
  some (.vpack (field 7 17 w) (field 7 10 w) (field 7 3 w) (field 2 1 w) (field 1 0 w))

/-- Major 0x1E of class A: VUNPACK. -/
def decodeA1E (w : Nat) : Option Instr :=
  if fixedAt 6 4 0 w then some (.vunpack (field 7 17 w) (field 7 10 w) (field 1 3 w) (field 2 1 w) (field 1 0 w))
  else none

/-- Major 0x1F of class A: VSCALE. -/
def decodeA1F (w : Nat) : Option Instr :=
  if fixedAt 1 0 0 w then some (.vscale (field 7 17 w) (field 7 10 w) (field 3 7 w) (field 2 5 w) (field 3 2 w) (field 1 1 w))
  else none

/-- Major 0x20 of class A: VFADD. -/
def decodeA20 (w : Nat) : Option Instr :=
  some (.vfadd (field 7 17 w) (field 7 10 w) (field 7 3 w) (field 2 1 w) (field 1 0 w))

/-- Major 0x21 of class A: VFSUB. -/
def decodeA21 (w : Nat) : Option Instr :=
  some (.vfsub (field 7 17 w) (field 7 10 w) (field 7 3 w) (field 2 1 w) (field 1 0 w))

/-- Major 0x22 of class A: VFMUL. -/
def decodeA22 (w : Nat) : Option Instr :=
  some (.vfmul (field 7 17 w) (field 7 10 w) (field 7 3 w) (field 2 1 w) (field 1 0 w))

/-- Major 0x23 of class A: VFMA. -/
def decodeA23 (w : Nat) : Option Instr :=
  some (.vfma (field 7 17 w) (field 7 10 w) (field 7 3 w) (field 2 1 w) (field 1 0 w))

/-- Major 0x24 of class A: VFMS. -/
def decodeA24 (w : Nat) : Option Instr :=
  some (.vfms (field 7 17 w) (field 7 10 w) (field 7 3 w) (field 2 1 w) (field 1 0 w))

/-- Major 0x25 of class A: VFNMA. -/
def decodeA25 (w : Nat) : Option Instr :=
  some (.vfnma (field 7 17 w) (field 7 10 w) (field 7 3 w) (field 2 1 w) (field 1 0 w))

/-- Major 0x26 of class A: VFDIV. -/
def decodeA26 (w : Nat) : Option Instr :=
  some (.vfdiv (field 7 17 w) (field 7 10 w) (field 7 3 w) (field 2 1 w) (field 1 0 w))

/-- Major 0x27 of class A: VFMIN. -/
def decodeA27 (w : Nat) : Option Instr :=
  some (.vfmin (field 7 17 w) (field 7 10 w) (field 7 3 w) (field 2 1 w) (field 1 0 w))

/-- Major 0x28 of class A: VFMAX. -/
def decodeA28 (w : Nat) : Option Instr :=
  some (.vfmax (field 7 17 w) (field 7 10 w) (field 7 3 w) (field 2 1 w) (field 1 0 w))

/-- Major 0x29 of class A: VFCMP. -/
def decodeA29 (w : Nat) : Option Instr :=
  if fixedAt 2 0 0 w then some (.vfcmp (field 3 21 w) (field 7 14 w) (field 7 7 w) (field 3 4 w) (field 2 2 w))
  else none

/-- Major 0x2A of class A: VFSGN. -/
def decodeA2A (w : Nat) : Option Instr :=
  some (.vfsgn (field 7 17 w) (field 7 10 w) (field 7 3 w) (field 2 1 w) (field 1 0 w))

/-- Major 0x2B of class A: VCVT. -/
def decodeA2B (w : Nat) : Option Instr :=
  if fixedAt 1 0 0 w then some (.vcvt (field 7 17 w) (field 7 10 w) (field 1 9 w) (field 4 5 w) (field 3 2 w) (field 1 1 w))
  else none

/-- Major 0x2C of class A: VCVTI. -/
def decodeA2C (w : Nat) : Option Instr :=
  if fixedAt 1 0 0 w then some (.vcvti (field 7 17 w) (field 7 10 w) (field 2 8 w) (field 3 5 w) (field 3 2 w) (field 1 1 w))
  else none

/-- Major 0x2D of class A: VCVTF. -/
def decodeA2D (w : Nat) : Option Instr :=
  if fixedAt 1 0 0 w then some (.vcvtf (field 7 17 w) (field 7 10 w) (field 2 8 w) (field 3 5 w) (field 3 2 w) (field 1 1 w))
  else none

/-- Major 0x2E of class A: FADD, FSUB, FMUL, FMA, FDIV, FSQRT, FMIN, FMAX, FCLASS. -/
def decodeA2E (w : Nat) : Option Instr :=
  if fixedAt 4 0 0 w then some (.fadd (field 5 19 w) (field 5 14 w) (field 5 9 w) (field 2 7 w) (field 3 4 w))
  else if fixedAt 4 0 1 w then some (.fsub (field 5 19 w) (field 5 14 w) (field 5 9 w) (field 2 7 w) (field 3 4 w))
  else if fixedAt 4 0 2 w then some (.fmul (field 5 19 w) (field 5 14 w) (field 5 9 w) (field 2 7 w) (field 3 4 w))
  else if fixedAt 4 0 3 w then some (.fma (field 5 19 w) (field 5 14 w) (field 5 9 w) (field 2 7 w) (field 3 4 w))
  else if fixedAt 4 0 4 w then some (.fdiv (field 5 19 w) (field 5 14 w) (field 5 9 w) (field 2 7 w) (field 3 4 w))
  else if fixedAt 4 0 5 w && fixedAt 5 9 0 w then some (.fsqrt (field 5 19 w) (field 5 14 w) (field 2 7 w) (field 3 4 w))
  else if fixedAt 7 0 6 w then some (.fmin (field 5 19 w) (field 5 14 w) (field 5 9 w) (field 2 7 w))
  else if fixedAt 7 0 7 w then some (.fmax (field 5 19 w) (field 5 14 w) (field 5 9 w) (field 2 7 w))
  else if fixedAt 7 0 8 w && fixedAt 5 9 0 w then some (.fclass (field 5 19 w) (field 5 14 w) (field 2 7 w))
  else none

/-- Major 0x2F of class A: FCMP. -/
def decodeA2F (w : Nat) : Option Instr :=
  if fixedAt 4 0 0 w then some (.fcmp (field 5 19 w) (field 5 14 w) (field 5 9 w) (field 2 7 w) (field 3 4 w))
  else none

/-- Major 0x30 of class A: FCVT. -/
def decodeA30 (w : Nat) : Option Instr :=
  if fixedAt 4 0 0 w then some (.fcvt (field 5 19 w) (field 5 14 w) (field 3 11 w) (field 3 8 w) (field 3 5 w) (field 1 4 w))
  else none

/-- Major 0x31 of class A: MODE_M, MODE_V. -/
def decodeA31 (w : Nat) : Option Instr :=
  if fixedAt 12 0 0 w && fixedAt 1 23 1 w then some (.modeM (field 4 19 w) (field 7 12 w))
  else if fixedAt 24 0 0 w then some (.modeV)
  else none

/-- Major 0x32 of class A: MOP. -/
def decodeA32 (w : Nat) : Option Instr :=
  some (.mop (field 7 17 w) (field 7 10 w) (field 3 7 w) (field 3 4 w) (field 4 0 w))

/-- Major 0x33 of class A: MOPN. -/
def decodeA33 (w : Nat) : Option Instr :=
  some (.mopn (field 7 17 w) (field 7 10 w) (field 3 7 w) (field 3 4 w) (field 4 0 w))

/-- Major 0x34 of class A: MDRAIN, MDRAIN_REG. -/
def decodeA34 (w : Nat) : Option Instr :=
  if fixedAt 9 0 0 w then some (.mdrain (field 5 19 w) (field 5 14 w) (field 1 13 w) (field 4 9 w))
  else if fixedAt 2 0 2 w && fixedAt 5 19 0 w then some (.mdrainReg (field 5 14 w) (field 1 13 w) (field 4 9 w) (field 7 2 w))
  else none

/-- Major 0x35 of class A: MSCALE. -/
def decodeA35 (w : Nat) : Option Instr :=
  if fixedAt 16 0 0 w then some (.mscale (field 5 19 w) (field 3 16 w))
  else none

/-- Major 0x36 of class A: MZERO, MTRN, MQRY. -/
def decodeA36 (w : Nat) : Option Instr :=
  if fixedAt 24 0 0 w then some (.mzero)
  else if fixedAt 24 0 1 w then some (.mtrn)
  else if fixedAt 19 0 2 w then some (.mqry (field 5 19 w))
  else none

/-- The C-class map (R80). -/
def decodeClassC (major w : Nat) : Option Instr :=
  if major = 0x01 then decodeC01 w
  else if major = 0x02 then decodeC02 w
  else if major = 0x03 then decodeC03 w
  else if major = 0x04 then decodeC04 w
  else if major = 0x05 then decodeC05 w
  else if major = 0x06 then decodeC06 w
  else if major = 0x07 then decodeC07 w
  else if major = 0x08 then decodeC08 w
  else if major = 0x09 then decodeC09 w
  else if major = 0x0A then decodeC0A w
  else if major = 0x0B then decodeC0B w
  else if major = 0x0C then decodeC0C w
  else if major = 0x0D then decodeC0D w
  else if major = 0x0E then decodeC0E w
  else if major = 0x0F then decodeC0F w
  else if major = 0x10 then decodeC10 w
  else if major = 0x11 then decodeC11 w
  else if major = 0x12 then decodeC12 w
  else if major = 0x13 then decodeC13 w
  else if major = 0x14 then decodeC14 w
  else if major = 0x15 then decodeC15 w
  else if major = 0x16 then decodeC16 w
  else if major = 0x17 then decodeC17 w
  else if major = 0x18 then decodeC18 w
  else if major = 0x19 then decodeC19 w
  else if major = 0x1A then decodeC1A w
  else if major = 0x1B then decodeC1B w
  else if major = 0x1C then decodeC1C w
  else if major = 0x1D then decodeC1D w
  else if major = 0x1E then decodeC1E w
  else if major = 0x1F then decodeC1F w
  else if major = 0x20 then decodeC20 w
  else if major = 0x21 then decodeC21 w
  else if major = 0x22 then decodeC22 w
  else if major = 0x23 then decodeC23 w
  else if major = 0x24 then decodeC24 w
  else if major = 0x25 then decodeC25 w
  else if major = 0x26 then decodeC26 w
  else if major = 0x27 then decodeC27 w
  else if major = 0x28 then decodeC28 w
  else if major = 0x29 then decodeC29 w
  else if major = 0x2A then decodeC2A w
  else if major = 0x2B then decodeC2B w
  else if major = 0x2C then decodeC2C w
  else if major = 0x2D then decodeC2D w
  else if major = 0x2E then decodeC2E w
  else if major = 0x2F then decodeC2F w
  else if major = 0x30 then decodeC30 w
  else if major = 0x31 then decodeC31 w
  else if major = 0x32 then decodeC32 w
  else if major = 0x33 then decodeC33 w
  else if major = 0x34 then decodeC34 w
  else if major = 0x35 then decodeC35 w
  else if major = 0x36 then decodeC36 w
  else if major = 0x37 then decodeC37 w
  else if major = 0x38 then decodeC38 w
  else if major = 0x39 then decodeC39 w
  else if major = 0x3A then decodeC3A w
  else if major = 0x3B then decodeC3B w
  else if major = 0x3C then decodeC3C w
  else if major = 0x3D then decodeC3D w
  else if major = 0x3E then decodeC3E w
  else if major = 0x3F then decodeC3F w
  else none

/-- The A-class map (R88). -/
def decodeClassA (major w : Nat) : Option Instr :=
  if major = 0x01 then decodeA01 w
  else if major = 0x02 then decodeA02 w
  else if major = 0x03 then decodeA03 w
  else if major = 0x04 then decodeA04 w
  else if major = 0x05 then decodeA05 w
  else if major = 0x06 then decodeA06 w
  else if major = 0x07 then decodeA07 w
  else if major = 0x08 then decodeA08 w
  else if major = 0x09 then decodeA09 w
  else if major = 0x0A then decodeA0A w
  else if major = 0x0B then decodeA0B w
  else if major = 0x0C then decodeA0C w
  else if major = 0x0D then decodeA0D w
  else if major = 0x0E then decodeA0E w
  else if major = 0x0F then decodeA0F w
  else if major = 0x10 then decodeA10 w
  else if major = 0x11 then decodeA11 w
  else if major = 0x12 then decodeA12 w
  else if major = 0x13 then decodeA13 w
  else if major = 0x14 then decodeA14 w
  else if major = 0x15 then decodeA15 w
  else if major = 0x16 then decodeA16 w
  else if major = 0x17 then decodeA17 w
  else if major = 0x18 then decodeA18 w
  else if major = 0x19 then decodeA19 w
  else if major = 0x1A then decodeA1A w
  else if major = 0x1B then decodeA1B w
  else if major = 0x1C then decodeA1C w
  else if major = 0x1D then decodeA1D w
  else if major = 0x1E then decodeA1E w
  else if major = 0x1F then decodeA1F w
  else if major = 0x20 then decodeA20 w
  else if major = 0x21 then decodeA21 w
  else if major = 0x22 then decodeA22 w
  else if major = 0x23 then decodeA23 w
  else if major = 0x24 then decodeA24 w
  else if major = 0x25 then decodeA25 w
  else if major = 0x26 then decodeA26 w
  else if major = 0x27 then decodeA27 w
  else if major = 0x28 then decodeA28 w
  else if major = 0x29 then decodeA29 w
  else if major = 0x2A then decodeA2A w
  else if major = 0x2B then decodeA2B w
  else if major = 0x2C then decodeA2C w
  else if major = 0x2D then decodeA2D w
  else if major = 0x2E then decodeA2E w
  else if major = 0x2F then decodeA2F w
  else if major = 0x30 then decodeA30 w
  else if major = 0x31 then decodeA31 w
  else if major = 0x32 then decodeA32 w
  else if major = 0x33 then decodeA33 w
  else if major = 0x34 then decodeA34 w
  else if major = 0x35 then decodeA35 w
  else if major = 0x36 then decodeA36 w
  else none

/-- The instruction that the fixed bits of a word name, before the conditions on its fields. -/
def decodeFields (w : Nat) : Option Instr :=
  if w / 2 ^ 31 % 2 = 0 then decodeClassC (w / 2 ^ 24 % 2 ^ 6) w else decodeClassA (w / 2 ^ 24 % 2 ^ 6) w

/-- The instruction of a word, or nothing where the word traps illegal encoding (R92). -/
def decodeWord (w : BitVec 32) : Option Instr := (decodeFields w.toNat).filter wellFormed

/-- A word with the field x placed from bit lo up, where it holds 0. -/
def put (x : BitVec n) (lo w : Nat) : Nat := w + x.toNat * 2 ^ lo

/-- The number of an instruction's word without L; events have none. -/
def encodeFields : Instr → Nat
  | .add d a b => put d 19 <| put a 14 <| put b 9 <| 0x01000000
  | .sub d a b => put d 19 <| put a 14 <| put b 9 <| 0x01000001
  | .addp d a b => put d 19 <| put a 14 <| put b 9 <| 0x01000002
  | .mul d a b => put d 19 <| put a 14 <| put b 9 <| 0x01000003
  | .mulhu d a b => put d 19 <| put a 14 <| put b 9 <| 0x01000004
  | .mulhs d a b => put d 19 <| put a 14 <| put b 9 <| 0x01000005
  | .divu d a b => put d 19 <| put a 14 <| put b 9 <| 0x01000006
  | .divs d a b => put d 19 <| put a 14 <| put b 9 <| 0x01000007
  | .remu d a b => put d 19 <| put a 14 <| put b 9 <| 0x01000008
  | .rems d a b => put d 19 <| put a 14 <| put b 9 <| 0x01000009
  | .and d a b => put d 19 <| put a 14 <| put b 9 <| 0x0100000A
  | .or d a b => put d 19 <| put a 14 <| put b 9 <| 0x0100000B
  | .xor d a b => put d 19 <| put a 14 <| put b 9 <| 0x0100000C
  | .andn d a b => put d 19 <| put a 14 <| put b 9 <| 0x0100000D
  | .shl d a b => put d 19 <| put a 14 <| put b 9 <| 0x0100000E
  | .shr d a b => put d 19 <| put a 14 <| put b 9 <| 0x0100000F
  | .sha d a b => put d 19 <| put a 14 <| put b 9 <| 0x01000010
  | .rotl d a b => put d 19 <| put a 14 <| put b 9 <| 0x01000011
  | .clz d a => put d 19 <| put a 14 <| 0x01000012
  | .ctz d a => put d 19 <| put a 14 <| 0x01000013
  | .popc d a => put d 19 <| put a 14 <| 0x01000014
  | .mins d a b => put d 19 <| put a 14 <| put b 9 <| 0x01000015
  | .minu d a b => put d 19 <| put a 14 <| put b 9 <| 0x01000016
  | .maxs d a b => put d 19 <| put a 14 <| put b 9 <| 0x01000017
  | .maxu d a b => put d 19 <| put a 14 <| put b 9 <| 0x01000018
  | .slt d a b => put d 19 <| put a 14 <| put b 9 <| 0x01000019
  | .sltu d a b => put d 19 <| put a 14 <| put b 9 <| 0x0100001A
  | .seq d a b => put d 19 <| put a 14 <| put b 9 <| 0x0100001B
  | .mad d a b c => put d 19 <| put a 14 <| put b 9 <| put c 4 <| 0x02000000
  | .sel d a b c => put d 19 <| put a 14 <| put b 9 <| put c 4 <| 0x02000001
  | .bfx d a p n => put d 19 <| put a 14 <| put p 8 <| put n 2 <| 0x03000000
  | .bfi d a p n => put d 19 <| put a 14 <| put p 8 <| put n 2 <| 0x03000001
  | .lil d i => put d 19 <| put i 0 <| 0x04000000
  | .lih d h i => put d 19 <| put h 17 <| put i 0 <| 0x05000000
  | .tld t c g => put t 19 <| put c 14 <| put g 11 <| 0x06000000
  | .tst t c g => put t 19 <| put c 14 <| put g 11 <| 0x06000400
  | .tldv v c g => put v 17 <| put c 12 <| put g 9 <| 0x07000000
  | .tstv v c g => put v 17 <| put c 12 <| put g 9 <| 0x07000100
  | .addi d a i => put d 19 <| put a 14 <| put i 0 <| 0x08000000
  | .andi d a i => put d 19 <| put a 14 <| put i 0 <| 0x09000000
  | .ori d a i => put d 19 <| put a 14 <| put i 0 <| 0x0A000000
  | .xori d a i => put d 19 <| put a 14 <| put i 0 <| 0x0B000000
  | .shli d a n => put d 19 <| put a 14 <| put n 0 <| 0x0C000000
  | .shri d a n => put d 19 <| put a 14 <| put n 0 <| 0x0D000000
  | .shai d a n => put d 19 <| put a 14 <| put n 0 <| 0x0E000000
  | .slti d a i => put d 19 <| put a 14 <| put i 0 <| 0x0F000000
  | .b c a b o => put c 21 <| put a 16 <| put b 11 <| put o 0 <| 0x10000000
  | .bz a o => put a 19 <| put o 0 <| 0x11000000
  | .bnz a o => put a 19 <| put o 0 <| 0x12000000
  | .loop a o => put a 19 <| put o 0 <| 0x13000000
  | .jmp o => put o 0 <| 0x14000000
  | .jal o => put o 0 <| 0x15000000
  | .nop => 0x16000000
  | .pend => 0x16040000
  | .eret => 0x16080000
  | .halt => 0x160C0000
  | .trap c => put c 0 <| 0x16100000
  | .bkpt c => put c 0 <| 0x16140000
  | .jr a => put a 14 <| 0x17000000
  | .jalr d a => put d 19 <| put a 14 <| 0x17000001
  | .spawn d a => put d 19 <| put a 14 <| 0x17000002
  | .take d a => put d 19 <| put a 14 <| 0x17000003
  | .tdone a => put a 14 <| 0x17000004
  | .rtset d a b => put d 19 <| put a 14 <| put b 9 <| 0x17000005
  | .rtclr a => put a 14 <| 0x17000006
  | .segld g a => put g 19 <| put a 14 <| 0x17000007
  | .segst g a => put g 19 <| put a 14 <| 0x17000008
  | .gbind g a => put g 19 <| put a 14 <| 0x17000009
  | .gstep g a => put g 19 <| put a 14 <| 0x1700000A
  | .gqry d g b => put d 19 <| put g 14 <| put b 9 <| 0x1700000B
  | .tmap d a g => put d 19 <| put a 14 <| put g 9 <| 0x1700000C
  | .tqry d a => put d 19 <| put a 14 <| 0x1700000D
  | .evack a => put a 14 <| 0x1700000E
  | .evict d a => put d 19 <| put a 14 <| 0x1700000F
  | .resume d a => put d 19 <| put a 14 <| 0x17000010
  | .ctxsv a b => put a 14 <| put b 9 <| 0x17000011
  | .ctxld a b => put a 14 <| put b 9 <| 0x17000012
  | .scopew a b => put a 14 <| put b 9 <| 0x17000013
  | .buntw a b => put a 14 <| put b 9 <| 0x17000014
  | .plotw a b => put a 14 <| put b 9 <| 0x17000015
  | .pclr a => put a 14 <| 0x17000016
  | .ld t b w x d => put t 19 <| put b 14 <| put w 12 <| put x 11 <| put d 0 <| 0x18000000
  | .ldIndex t b x w s d => put t 19 <| put b 14 <| put x 9 <| put w 7 <| put s 6 <| put d 0 <| 0x19000000
  | .ldAcq t b w x g => put t 19 <| put b 14 <| put w 12 <| put x 11 <| put g 4 <| 0x1A000200
  | .st t b w d => put t 19 <| put b 14 <| put w 12 <| put d 0 <| 0x1B000000
  | .stIndex t b x w d => put t 19 <| put b 14 <| put x 9 <| put w 7 <| put d 0 <| 0x1C000000
  | .stRel t b w g => put t 19 <| put b 14 <| put w 12 <| put g 4 <| 0x1D000400
  | .pfx b x d => put b 19 <| put x 14 <| put d 0 <| 0x1E000000
  | .fill d v n w c e => put d 19 <| put v 14 <| put n 9 <| put w 7 <| put c 1 <| put e 0 <| 0x1F000000
  | .ldv v b x d => put v 17 <| put b 12 <| put x 7 <| put d 0 <| 0x20000000
  | .stv v b x d => put v 17 <| put b 12 <| put x 7 <| put d 0 <| 0x21000000
  | .ldvs v b s w => put v 17 <| put b 12 <| put s 7 <| put w 5 <| 0x22000000
  | .stvs v b s w => put v 17 <| put b 12 <| put s 7 <| put w 5 <| 0x23000000
  | .ldvx v b i w => put v 17 <| put b 12 <| put i 5 <| put w 3 <| 0x24000000
  | .stvx v b i w => put v 17 <| put b 12 <| put i 5 <| put w 3 <| 0x25000000
  | .vldf t b r s f => put t 17 <| put b 12 <| put r 9 <| put s 8 <| put f 2 <| 0x26000000
  | .vldfScales t b r s => put t 17 <| put b 12 <| put r 9 <| put s 8 <| 0x260000A8
  | .vstf t b r s f => put t 17 <| put b 12 <| put r 9 <| put s 8 <| put f 2 <| 0x27000000
  | .vstfScales t b r s => put t 17 <| put b 12 <| put r 9 <| put s 8 <| 0x270000A8
  | .aadd d b v y o g => put d 19 <| put b 14 <| put v 9 <| put y 7 <| put o 5 <| put g 0 <| 0x28000000
  | .amin d b v y o g => put d 19 <| put b 14 <| put v 9 <| put y 7 <| put o 5 <| put g 0 <| 0x29000000
  | .amax d b v y o g => put d 19 <| put b 14 <| put v 9 <| put y 7 <| put o 5 <| put g 0 <| 0x2A000000
  | .afmax d b v y o g => put d 19 <| put b 14 <| put v 9 <| put y 7 <| put o 5 <| put g 0 <| 0x2B000000
  | .aand d b v y o g => put d 19 <| put b 14 <| put v 9 <| put y 7 <| put o 5 <| put g 0 <| 0x2C000000
  | .aor d b v y o g => put d 19 <| put b 14 <| put v 9 <| put y 7 <| put o 5 <| put g 0 <| 0x2D000000
  | .axor d b v y o g => put d 19 <| put b 14 <| put v 9 <| put y 7 <| put o 5 <| put g 0 <| 0x2E000000
  | .aswp d b v y o g => put d 19 <| put b 14 <| put v 9 <| put y 7 <| put o 5 <| put g 0 <| 0x2F000000
  | .acas d b v y o g => put d 19 <| put b 14 <| put v 9 <| put y 7 <| put o 5 <| put g 0 <| 0x30000000
  | .fence o g s => put o 21 <| put g 16 <| put s 12 <| 0x31000000
  | .wait a b c d => put a 18 <| put b 12 <| put c 6 <| put d 0 <| 0x32000000
  | .cpy d a n p e => put d 19 <| put a 14 <| put n 9 <| put p 3 <| put e 2 <| 0x33000000
  | .cpys d a n p e => put d 19 <| put a 14 <| put n 9 <| put p 3 <| put e 2 <| 0x34000000
  | .send a v r o p e => put a 19 <| put v 12 <| put r 11 <| put o 7 <| put p 1 <| put e 0 <| 0x35000000
  | .sysr d n => put d 19 <| put n 7 <| 0x36000000
  | .sysw a n => put a 19 <| put n 7 <| 0x37000000
  | .syswPer a => put a 19 <| 0x37000800
  | .syswPph a => put a 19 <| 0x37000880
  | .syswFcsr a => put a 19 <| 0x37000080
  | .pwr x v t o g => put x 23 <| put v 18 <| put t 12 <| put o 10 <| put g 5 <| 0x38000000
  | .prd x e f t o g => put x 23 <| put e 18 <| put f 13 <| put t 7 <| put o 5 <| put g 0 <| 0x39000000
  | .psame x e f t o g => put x 23 <| put e 18 <| put f 13 <| put t 7 <| put o 5 <| put g 0 <| 0x3A000000
  | .padd x e f t o g => put x 23 <| put e 18 <| put f 13 <| put t 7 <| put o 5 <| put g 0 <| 0x3B000000
  | .pmc b v o g => put b 18 <| put v 13 <| put o 11 <| put g 6 <| 0x3C000000
  | .pstamp x e t o g => put x 23 <| put e 18 <| put t 7 <| put o 5 <| put g 0 <| 0x3D000000
  | .gld d c s g k => put d 19 <| put c 14 <| put s 9 <| put g 6 <| put k 5 <| 0x3E000000
  | .gst d c g => put d 19 <| put c 14 <| put g 6 <| 0x3E000010
  | .gldv v c s g k => put v 17 <| put c 12 <| put s 7 <| put g 4 <| put k 3 <| 0x3F000000
  | .vadd d a b w m => put d 17 <| put a 10 <| put b 3 <| put w 1 <| put m 0 <| 0x81000000
  | .vsub d a b w m => put d 17 <| put a 10 <| put b 3 <| put w 1 <| put m 0 <| 0x82000000
  | .vmul d a b w m => put d 17 <| put a 10 <| put b 3 <| put w 1 <| put m 0 <| 0x83000000
  | .vmulhSigned d a b w m => put d 17 <| put a 10 <| put b 3 <| put w 1 <| put m 0 <| 0x84000000
  | .vmulhUnsigned d a b w m => put d 17 <| put a 10 <| put b 3 <| put w 1 <| put m 0 <| 0x85000000
  | .vmad d a b w m => put d 17 <| put a 10 <| put b 3 <| put w 1 <| put m 0 <| 0x86000000
  | .vand d a b w m => put d 17 <| put a 10 <| put b 3 <| put w 1 <| put m 0 <| 0x87000000
  | .vor d a b w m => put d 17 <| put a 10 <| put b 3 <| put w 1 <| put m 0 <| 0x88000000
  | .vxor d a b w m => put d 17 <| put a 10 <| put b 3 <| put w 1 <| put m 0 <| 0x89000000
  | .vshl d a b w m => put d 17 <| put a 10 <| put b 3 <| put w 1 <| put m 0 <| 0x8A000000
  | .vshr d a b w m => put d 17 <| put a 10 <| put b 3 <| put w 1 <| put m 0 <| 0x8B000000
  | .vsha d a b w m => put d 17 <| put a 10 <| put b 3 <| put w 1 <| put m 0 <| 0x8C000000
  | .vminSigned d a b w m => put d 17 <| put a 10 <| put b 3 <| put w 1 <| put m 0 <| 0x8D000000
  | .vminUnsigned d a b w m => put d 17 <| put a 10 <| put b 3 <| put w 1 <| put m 0 <| 0x8E000000
  | .vmaxSigned d a b w m => put d 17 <| put a 10 <| put b 3 <| put w 1 <| put m 0 <| 0x8F000000
  | .vmaxUnsigned d a b w m => put d 17 <| put a 10 <| put b 3 <| put w 1 <| put m 0 <| 0x90000000
  | .vcmp k a b c w => put k 21 <| put a 14 <| put b 7 <| put c 4 <| put w 2 <| 0x91000000
  | .vsel d a k w => put d 17 <| put a 10 <| put k 7 <| put w 5 <| 0x92000000
  | .vmov d a m => put d 17 <| put a 10 <| put m 0 <| 0x93000000
  | .vabs d a w m => put d 17 <| put a 10 <| put w 1 <| put m 0 <| 0x93000008
  | .vfsqrt d a w m => put d 17 <| put a 10 <| put w 1 <| put m 0 <| 0x93000010
  | .vfrcp d a w m => put d 17 <| put a 10 <| put w 1 <| put m 0 <| 0x93000018
  | .vfrsq d a w m => put d 17 <| put a 10 <| put w 1 <| put m 0 <| 0x93000020
  | .vfclass d a w m => put d 17 <| put a 10 <| put w 1 <| put m 0 <| 0x93000028
  | .viota d w m => put d 17 <| put w 1 <| put m 0 <| 0x93000030
  | .vperm d a b w m => put d 17 <| put a 10 <| put b 3 <| put w 1 <| put m 0 <| 0x94000000
  | .vrot d a n w m => put d 17 <| put a 10 <| put n 4 <| put w 1 <| put m 0 <| 0x95000000
  | .vbcast d s w m => put d 17 <| put s 12 <| put w 1 <| put m 0 <| 0x96000000
  | .vext d a n w x => put d 19 <| put a 12 <| put n 6 <| put w 1 <| put x 0 <| 0x97000000
  | .vins d s n w => put d 17 <| put s 12 <| put n 6 <| put w 1 <| 0x98000000
  | .vred d a o x w m => put d 19 <| put a 12 <| put o 9 <| put x 8 <| put w 1 <| put m 0 <| 0x99000000
  | .vfred d a o w m => put d 19 <| put a 12 <| put o 9 <| put w 1 <| put m 0 <| 0x9A000000
  | .vcompress d a k w => put d 17 <| put a 10 <| put k 7 <| put w 5 <| 0x9B000000
  | .kand d a b => put d 21 <| put a 18 <| put b 15 <| 0x9C000000
  | .kor d a b => put d 21 <| put a 18 <| put b 15 <| 0x9C000001
  | .kxor d a b => put d 21 <| put a 18 <| put b 15 <| 0x9C000002
  | .knot d a => put d 21 <| put a 18 <| 0x9C000003
  | .kpop a d => put a 18 <| put d 10 <| 0x9C000004
  | .vpack d a b w s => put d 17 <| put a 10 <| put b 3 <| put w 1 <| put s 0 <| 0x9D000000
  | .vunpack d a h w x => put d 17 <| put a 10 <| put h 3 <| put w 1 <| put x 0 <| 0x9E000000
  | .vscale d a q w r s => put d 17 <| put a 10 <| put q 7 <| put w 5 <| put r 2 <| put s 1 <| 0x9F000000
  | .vfadd d a b w m => put d 17 <| put a 10 <| put b 3 <| put w 1 <| put m 0 <| 0xA0000000
  | .vfsub d a b w m => put d 17 <| put a 10 <| put b 3 <| put w 1 <| put m 0 <| 0xA1000000
  | .vfmul d a b w m => put d 17 <| put a 10 <| put b 3 <| put w 1 <| put m 0 <| 0xA2000000
  | .vfma d a b w m => put d 17 <| put a 10 <| put b 3 <| put w 1 <| put m 0 <| 0xA3000000
  | .vfms d a b w m => put d 17 <| put a 10 <| put b 3 <| put w 1 <| put m 0 <| 0xA4000000
  | .vfnma d a b w m => put d 17 <| put a 10 <| put b 3 <| put w 1 <| put m 0 <| 0xA5000000
  | .vfdiv d a b w m => put d 17 <| put a 10 <| put b 3 <| put w 1 <| put m 0 <| 0xA6000000
  | .vfmin d a b w m => put d 17 <| put a 10 <| put b 3 <| put w 1 <| put m 0 <| 0xA7000000
  | .vfmax d a b w m => put d 17 <| put a 10 <| put b 3 <| put w 1 <| put m 0 <| 0xA8000000
  | .vfcmp k a b c w => put k 21 <| put a 14 <| put b 7 <| put c 4 <| put w 2 <| 0xA9000000
  | .vfsgn d a b w m => put d 17 <| put a 10 <| put b 3 <| put w 1 <| put m 0 <| 0xAA000000
  | .vcvt d a i x r s => put d 17 <| put a 10 <| put i 9 <| put x 5 <| put r 2 <| put s 1 <| 0xAB000000
  | .vcvti d a f t r s => put d 17 <| put a 10 <| put f 8 <| put t 5 <| put r 2 <| put s 1 <| 0xAC000000
  | .vcvtf d a f t r s => put d 17 <| put a 10 <| put f 8 <| put t 5 <| put r 2 <| put s 1 <| 0xAD000000
  | .fadd d a b f r => put d 19 <| put a 14 <| put b 9 <| put f 7 <| put r 4 <| 0xAE000000
  | .fsub d a b f r => put d 19 <| put a 14 <| put b 9 <| put f 7 <| put r 4 <| 0xAE000001
  | .fmul d a b f r => put d 19 <| put a 14 <| put b 9 <| put f 7 <| put r 4 <| 0xAE000002
  | .fma d a b f r => put d 19 <| put a 14 <| put b 9 <| put f 7 <| put r 4 <| 0xAE000003
  | .fdiv d a b f r => put d 19 <| put a 14 <| put b 9 <| put f 7 <| put r 4 <| 0xAE000004
  | .fsqrt d a f r => put d 19 <| put a 14 <| put f 7 <| put r 4 <| 0xAE000005
  | .fmin d a b f => put d 19 <| put a 14 <| put b 9 <| put f 7 <| 0xAE000006
  | .fmax d a b f => put d 19 <| put a 14 <| put b 9 <| put f 7 <| 0xAE000007
  | .fclass d a f => put d 19 <| put a 14 <| put f 7 <| 0xAE000008
  | .fcmp d a b f c => put d 19 <| put a 14 <| put b 9 <| put f 7 <| put c 4 <| 0xAF000000
  | .fcvt d a t s r x => put d 19 <| put a 14 <| put t 11 <| put s 8 <| put r 5 <| put x 4 <| 0xB0000000
  | .modeM f v => put f 19 <| put v 12 <| 0xB1800000
  | .modeV => 0xB1000000
  | .mop a b c d f => put a 17 <| put b 10 <| put c 7 <| put d 4 <| put f 0 <| 0xB2000000
  | .mopn a b c d f => put a 17 <| put b 10 <| put c 7 <| put d 4 <| put f 0 <| 0xB3000000
  | .mdrain d m g f => put d 19 <| put m 14 <| put g 13 <| put f 9 <| 0xB4000000
  | .mdrainReg m g f v => put m 14 <| put g 13 <| put f 9 <| put v 2 <| 0xB4000002
  | .mscale a r => put a 19 <| put r 16 <| 0xB5000000
  | .mzero => 0xB6000000
  | .mtrn => 0xB6000001
  | .mqry d => put d 19 <| 0xB6000002
  | .regionAdmission _ _ => 0
  | .strandStart _ _ => 0
  | .boundaryWake _ _ => 0
  | .waitRelease _ _ => 0
  | .fenceRelease _ _ => 0
  | .haltComplete _ _ => 0
  | .regionEnd _ => 0
  | .quiescenceEvent _ => 0
  | .priorityPreemption _ _ _ => 0
  | .stealRound _ _ => 0
  | .stealGrant _ => 0
  | .stealReceipt _ => 0
  | .partDepart _ => 0
  | .partCarry _ => 0
  | .partPerform _ => 0
  | .operationComplete _ _ => 0
  | .deposit _ => 0
  | .pwrRelEntry _ => 0
  | .tileOpApply _ _ => 0
  | .mdrainApply _ _ => 0
  | .copyComplete _ => 0
  | .sendComplete _ => 0
  | .gstepProcess _ => 0
  | .gridPieceDeposit _ => 0
  | .mirrorCopy _ => 0
  | .pageWalk _ => 0
  | .translationDrop _ _ => 0
  | .plotCacheFill _ _ _ => 0
  | .plotCacheDrop _ _ => 0
  | .logMerge _ => 0
  | .harvest _ => 0
  | .flush _ => 0
  | .requestComplete _ => 0
  | .eventDeposit _ => 0
  | .evictComplete _ _ => 0
  | .ctxsvComplete _ => 0
  | .ctxldComplete _ => 0
  | .crossPanelReply _ _ _ _ _ _ _ => 0
  | .requestTimeout _ _ => 0
  | .remoteRequest _ _ => 0
  | .hostWrite _ _ => 0
  | .pacingGrant _ _ _ => 0
  | .driftAlarm _ => 0
  | .thermalThrottle _ _ => 0
  | .droopDetect _ => 0
  | .droopRecovery _ => 0
  | .budgetThrottle _ => 0
  | .turnsChange _ _ => 0
  | .drawRefresh _ _ => 0
  | .statusBlockRefresh _ => 0
  | .quantaSend _ _ _ _ => 0
  | .quantaReceipt _ => 0
  | .quantaAck _ => 0
  | .quantaReturn _ => 0
  | .quantaRecall _ _ _ => 0
  | .sidebandFailure _ _ => 0
  | .correctedError _ _ => 0
  | .selfTestResult _ _ _ _ => 0
  | .spareCopyEnd _ _ => 0
  | .flitTagFailure _ _ => 0
  | .panelReset => 0
  | .powerRegionEnergise => 0
  | .imageCheck _ => 0
  | .recoveryImage _ => 0
  | .linkAuthentication _ _ _ _ => 0
  | .getMeasurements _ => 0
  | .inletOvertemp _ => 0
  | .localWriteApply _ => 0
  | .driftChange _ _ => 0
  | .sidebandRestore _ _ => 0
  | .faultDomainTakedown _ => 0
  | .regionRollback _ => 0
  | .turnTableChange _ _ => 0
  | .dccRestart _ => 0

/-- The word of an instruction, lone or not; an instruction that must be lone is (R86). -/
def encode (lone : Bool) (i : Instr) : BitVec 32 :=
  BitVec.ofNat 32 (encodeFields i + if lone || mustBeLone i then 2 ^ 30 else 0)

/-- Bit 30 of a word: it is lone (R68). -/
def wordLone (w : BitVec 32) : Bool := w.getLsbD 30
/-- Bit 31 of a word: its class is A (R67). -/
def wordIsA (w : BitVec 32) : Bool := w.getLsbD 31
/-- The two words of a bundle, word 0 at the lower address (R67). -/
def bundleWord0 (b : BitVec 64) : BitVec 32 := b.extractLsb' 0 32
def bundleWord1 (b : BitVec 64) : BitVec 32 := b.extractLsb' 32 32

/-- The instruction that the decoder reads from a word numbered as the table numbers its bits. -/
def decodeTableWord (nbits w : Nat) : Option Instr :=
  if nbits = 32 ∧ w < 2 ^ 32 then decodeWord (BitVec.ofNat 32 w) else none

end Sys2Proof
end

