-- ==== Sys2Proof/Config.lean ====
section
/-!
DEFINITION. The numbers the device fixes (spec/01, spec/03, spec/11) and the free values.
-/
namespace Sys2Proof.Config

/-- Dies of the panel (R17, R20). -/
def dies : Nat := 128
/-- Tiles of the physical mesh of a die (R17). -/
def tilesPerDie : Nat := 144
/-- Strand slots of a tile (R17). -/
def slots : Nat := 16
/-- Entries of a tile's vector register file (R139). -/
def vregEntries : Nat := 2048
/-- Bytes of a scratchpad (R17). -/
def scratchBytes : Nat := 1048576
/-- Bytes of a die's memory (R14). -/
def dieBytes : Nat := 68719476736
/-- Limit of the outstanding-operation counters (R223). -/
def counterMax : Nat := 63
/-- Entries of the context cache (R214). -/
def cacheEntries : Nat := 32
/-- Entries of a tile's grid table (R268). -/
def gridEntries : Nat := 16
/-- Entries of a tile's plot cache (R297). -/
def plotEntries : Nat := 32
/-- Request tags of a tile (R365). -/
def tags : Nat := 64
/-- Records of a die's ready queue and tokens of its outstanding table (R357). -/
def queueMax : Nat := 4096
/-- Start of the area that no page entry maps (R290), the die map block (R329) and the status block (R239). -/
def protectedOff : Nat := 0xFFFFF0000
def mapBlockOff : Nat := 0xFFFFFE000
def statusBlockOff : Nat := 0xFFFFFF000
/-- The dirty-page log of a tile (R293). -/
def logOff : Nat := 0xFEFC0
def logRD : Nat := 0xFEFC8
def logREQ : Nat := 0xFEFD0
def logHSEQ : Nat := 0xFEFD8
def logEntry : Nat := 0xFF000
/-- Largest text image (R98). -/
def textMax : Nat := 262144

/-! Free values: nothing constrains them. -/

/-- Which of the elements that write a byte of a CPYS destination leaves its value there, by command and byte (R261). -/
opaque overlapped : Nat → Nat → Nat

/-- SHAKE256 over a list of numbers; the encoding of what is measured is open (R377). -/
opaque shake256 : List Nat → Nat
/-- The contents of the boot ROM (R377). -/
opaque bootRom : Nat
/-- The fused secret of the panel, and the attestation key that boot derives from it (R377). -/
opaque fusedSecret : Nat
opaque attestKey : Nat → Nat
/-- The public half of a session key (R377). -/
opaque publicHalf : Nat → Nat
/-- The ML-DSA-65 signature of a report under a key (R377). -/
opaque sign : Nat → List Nat → Nat

end Sys2Proof.Config
end

