-- ==== Sys2Proof/Machine/State.lean ====
section
/-!
DEFINITION. The state of the panel (spec/01 to spec/25), as plain data, and the state after reset. Maps by number are
association lists in rising order of their keys; a key without an entry holds the reset value. A tile is numbered
pt = 144 x physical die + 12y + x, a strand slot 16 x pt + slot, a context cache entry 32 x pt + entry, a vector file
entry 2048 x pt + entry, a pennant 64 x pt + index. Memory is one list of cells: byte a of physical die d stands at
2^36 x d + a, scratchpad byte a of tile pt at 2^43 + 2^20 x pt + a.
-/
namespace Sys2Proof.Machine

/-- A map from numbers, in rising order of the keys. -/
abbrev SMap (α : Type) := List (Nat × α)

/-- The states of a strand (R57). -/
inductive RunState where
  | unarmed | armed | running | idle | held | parked | evicted | halted
  deriving DecidableEq, Repr, Inhabited

/-- A party (R334) or an outsider (R346). A parked access of an evicted strand belongs to its cache entry (R214). -/
inductive Party where
  | strand (key : Nat)
  | cached (key : Nat)
  | copy (pt : Nat)
  | trellis (die : Nat)
  | walker (die : Nat)
  | dcc (die : Nat)
  | outside (n : Nat)
  deriving DecidableEq, Repr, Inhabited

/-- The homes of R335, in physical numbers. `virt` is the home of a part through a FLAT segment that no walk has
translated yet (R290), `absent` that of an access whose target does not exist (R180, R247, R328), `cross`
that of an operation to another panel (R253). -/
inductive Home where
  | bank (pt b : Nat)
  | channel (die ch : Nat)
  | pens (pt : Nat)
  | agent (pt : Nat)
  | grid (pt : Nat)
  | sched (die : Nat)
  | router (pt : Nat)
  | tables (die : Nat)
  | virt
  | absent
  | cross
  deriving DecidableEq, Repr, Inhabited

/-- A set of logical tiles (R312, R316). A tile is named by 144 x logical die + n. -/
inductive TileSet where
  | empty
  | tile (lt : Nat)
  | die (d : Nat)
  | rect (c0 c1 r0 r1 x0 x1 y0 y1 : Nat)
  | map (lts : List Nat)
  | panel
  | system
  /-- the set together with one tile: the issuing tile lies in every scope of kind RECT and MAP (R316) -/
  | withTile (lt : Nat) (t : TileSet)
  deriving DecidableEq, Repr, Inhabited

/-- What a gate waits for: a part to be performed, an operation to complete, a tile operation to be applied. -/
inductive Need where
  | part (pid : Nat)
  | op (oid : Nat)
  | tile (toid : Nat)
  deriving DecidableEq, Repr, Inhabited

/-- A gate of R338 to R341 and R347: the needs whose homes lie in `scope` must be performed; with `own`, it binds a
part only where the part's own home lies in `scope` too. -/
structure Gate where
  needs : List Need
  scope : TileSet
  own   : Bool
  /-- the needs count wherever they lie: the gate of an acquiring access (R339) -/
  far   : Bool := false
  deriving DecidableEq, Repr, Inhabited

/-- A gate that an acquire or a FENCE lays on the strand's later accesses of the classes R, W, E, and with `x` on its
later operations to other panels (R339, R347). -/
structure GateRec where
  gate : Gate
  r : Bool
  w : Bool
  e : Bool
  x : Bool
  deriving DecidableEq, Repr, Inhabited

/-- A run of bytes between a place in memory and a place in an operation's buffer. -/
structure Seg where
  key : Nat
  buf : Nat
  len : Nat
  deriving DecidableEq, Repr, Inhabited

/-- One entry of a region's scope copy: the tile-set word and, for kind MAP, its tiles (R317). -/
structure Scope where
  word : Word := 0
  map  : List Nat := []
  deriving DecidableEq, Repr, Inhabited

/-- A task record in a queue (R356). `stolen` exempts it from the barriers of this queue (R61). -/
structure Record where
  entry  : Word
  arg    : Word
  region : Nat
  ctl    : BitVec 32
  token  : BitVec 32
  seq    : Nat
  stolen : Bool
  deriving DecidableEq, Repr, Inhabited

/-- What a part does at its home (R337). -/
inductive Act where
  /-- bytes of memory to the buffer of the operation -/
  | read (segs : List Seg)
  /-- bytes to memory, in order -/
  | write (cells : List Host.Cell)
  /-- bytes of the operation's buffer to memory -/
  | writeBuf (segs : List Seg)
  /-- four bits of bytes, low or high: stores of E2M1 elements (R306) -/
  | nibbles (ns : List (Nat × Bool × BitVec 4))
  /-- an atomic of R259 on the word in these runs: its major, type and operands -/
  | atomic (segs : List Seg) (major ty : Nat) (v e : Word)
  /-- the merge of an amax by MDRAIN (R174): AFMAX of type ty with the operation's `res`, on the word in these runs -/
  | amax (segs : List Seg) (ty : Nat)
  | penWrite (idx : Nat) (v : Word) (stamp : BitVec 32)
  | penAdd (idx : Nat) (v : Word) (stamp : BitVec 32)
  /-- sample of a pennant: 0 PRD, 1 PSAME with the expected hoist count, 2 PSTAMP -/
  | penSample (idx kind : Nat) (expect : BitVec 32)
  | spawn (r : Record)
  | take (rcb : Nat)
  | tdone (rcb : Nat) (token : BitVec 32)
  | rtset (i : Nat) (word : Word) (rcb : Nat)
  | rtclr (i rcb : Nat)
  | scopew (rcb e : Nat) (word : Word)
  | buntw (rcb slot : Nat)
  | plotw (rcb x : Nat)
  /-- a message to another panel: chip, tile, tag, generation, kind, operands (R364, R365) -/
  | message (m : List Nat)
  deriving DecidableEq, Repr, Inhabited

/-- A part of an operation (R248). Parts are numbered in the order of issue. `virt` holds, while the home is `virt`, the
page-table root and whether the access writes; the places in `act` are then virtual addresses (R288). -/
structure Part where
  pid   : Nat
  oid   : Nat
  party : Party
  src   : Nat
  home  : Home
  /-- 0 bulk, 1 pennant (R191), 2 unordered traffic (R336) -/
  lane  : Nat
  gates : List Gate
  cls   : Nat
  act   : Act
  root  : Nat := 0
  write : Bool := false
  /-- the log entries that the write appends when it is performed, each with the first virtual address of the leaf that
  translated it (R294) -/
  logs  : List (Nat × Nat) := []
  /-- the access is replayed: it is walked afresh (R292) -/
  fresh : Bool := false
  deriving DecidableEq, Repr, Inhabited

/-- What the completion of an operation does (R337). -/
inductive Ending where
  | none
  /-- `res` to s d -/
  | word (d : BitVec 5)
  /-- `res` to s e and `res2` to s f -/
  | words (e f : BitVec 5)
  /-- n bytes of the buffer to s d -/
  | bytes (d : BitVec 5) (n : Nat) (sx : Bool)
  /-- the buffer to v -/
  | vec (v : BitVec 7)
  /-- the buffer, converted from the memory format to the register format, to v (R257) -/
  | conv (v : BitVec 7) (src dst : Nat) (rm : BitVec 3) (sat : Bool)
  | scales (q : BitVec 3)
  /-- flags raised at completion (R132) -/
  | flags (f : BitVec 6)
  | seg (g : BitVec 3)
  /-- GBIND: the descriptor at a place, or at a virtual address under a root where `flat` (R269); `res` of the operation is its
  ID, once its first byte is read -/
  | bind (g : BitVec 3) (flat : Bool) (root key : Nat)
  /-- a grid load: the element to s d, and the status to s f with chk (R274); `ok` is false for codes 2 and 3 -/
  | cell (d : BitVec 5) (fmt : Nat) (chk : Option (BitVec 5)) (status : Word) (ok : Bool)
  | cells (v : BitVec 7) (chk : Option (BitVec 5)) (status : Word) (ok : Bool)
  /-- a tensor element of a format to s d, its high nibble where `hi` (R306) -/
  | elem (d : BitVec 5) (fmt : Nat) (hi : Bool)
  /-- lanes of a tensor run of a format to v; nibbles are gathered one per buffer byte (R307) -/
  | run (v : BitVec 7) (fmt : Nat) (nib : List Bool)
  /-- TAKE: the status to s d (R359) -/
  | take (d : BitVec 5)
  /-- CPY, CPYS, FILL (R263) -/
  | copy
  | send (hops dieHops code : Nat)
  | gstep (entry : Nat) (step : Nat)
  | evict (d : BitVec 5) (entry : Nat)
  | ctxsv (entry : Nat)
  | ctxld (entry : Nat)
  | plotw (x : Nat)
  /-- the stores and the merge of a drain (R174) -/
  | drain
  /-- the answer to another panel: 0 none, 1 n bytes of the buffer, by their sign where sx, 2 all bytes of the buffer,
  3 `res` and `res2` (R364) -/
  | answer (kind n : Nat) (sx : Bool)
  deriving DecidableEq, Repr, Inhabited

/-- An operation in flight. `engine` names the place that performs an engine command or message (R341). -/
structure Op where
  oid    : Nat
  party  : Party
  rcb    : Nat
  cls    : Option Cls
  fin    : Ending
  buf    : List Byte := []
  res    : Word := 0
  res2   : Word := 0
  stamp  : BitVec 32 := 0
  issued : Nat := 0
  pub    : Option Nat := none
  /-- the publication has been posted as this part -/
  pubPid : Option Nat := none
  count  : Word := 0
  engine : Option Home := none
  /-- an operation to another panel, for which no release and no FENCE without X waits (R340, R347) -/
  cross  : Bool := false
  /-- the access names a grid slot that it pins: tile entry and slot index (R276) -/
  pin    : List (Nat × Nat × Nat) := []
  /-- the units that its data came from, by physical die (R206, R379) -/
  units  : List (Nat × FaultUnit) := []
  addr   : Word := 0
  /-- plot entries of the region that the access was translated through, and those of them whose cached copy a PLOTW had
  overtaken (R310) -/
  uses   : List Nat := []
  oldUses : List Nat := []
  /-- gates of a command whose work is an event of its own (GSTEP) -/
  gates  : List Gate := []
  /-- a reply from another panel is still to come -/
  awaits : Bool := false
  /-- acts still to be posted: the destination of a CPY from another panel, written when the reply brings the bytes
  (R253); the merge of a drain to registers (R174); the append of a SPAWN and the writes of a TAKE (R358, R359) -/
  later  : List (Home × Act) := []
  /-- the parts that faulted (R212) -/
  parked : List Part := []
  /-- the virtual address of the first of them (R209, R290) -/
  faultVa : Nat := 0
  deriving DecidableEq, Repr, Inhabited

/-- A tile operation waiting to be applied (R167), with the sources it read at issue. -/
inductive TileKind where
  | zero
  | mop (neg : Bool) (mf : BitVec 4) (a b : VReg) (qa qb : Wide) (kc : BitVec 32)
  | trn
  | scale (x : Word)
  /-- with the operation of its merge, where it has one -/
  | drainReg (df : BitVec 4) (vd : BitVec 7) (oid : Option Nat)
  | drainMem (df : BitVec 4) (oid : Nat)
  deriving DecidableEq, Repr, Inhabited

structure TileOp where
  toid : Nat
  key  : Nat
  kind : TileKind
  k6   : Word
  k7   : Word
  rm   : BitVec 3
  /-- cycle from which the 64 cycles of R167 run -/
  since : Nat
  /-- the gates that an acquire or a FENCE lays on it (R339, R347) -/
  gates : List Gate := []
  deriving DecidableEq, Repr, Inhabited

/-- The hold of a strand that is Held or Parked: the WAIT, FENCE.seq or HALT it stands in (R208, R224, R347). -/
inductive Hold where
  | none
  | wait (limits : BitVec 24) (pos : Word) (paired : Bool)
  | fence (gates : List Gate) (pos : Word) (paired : Bool)
  | halt (pos : Word)
  deriving DecidableEq, Repr, Inhabited

/-- A strand: the whole of a context (R214) and what the tile keeps of it. -/
structure Strand where
  st     : RunState := .unarmed
  pc     : Word := 0
  s      : Vector Word 32 := Vector.replicate 32 0
  k      : Vector Word 8 := (Vector.replicate 8 0).set 0 (BitVec.allOnes 64)
  q      : Vector Wide 8 := Vector.replicate 8 0
  sg     : Vector Wide 8 := Vector.replicate 8 0
  ldc    : Nat := 0
  stc    : Nat := 0
  cpc    : Nat := 0
  toc    : Nat := 0
  fcsr   : Word := 0
  modew  : Word := 0
  per    : BitVec 24 := 0
  pph    : BitVec 24 := 0
  pidx   : Word := 0
  ovr    : BitVec 32 := 0
  vbase  : BitVec 11 := 0
  vlim   : BitVec 8 := 0
  xpc    : Word := 0
  xcause : BitVec 6 := 0
  xval   : Word := 0
  xbase  : Word := 0
  en     : Bool := false
  priv   : BitVec 4 := 0
  cadIdx : BitVec 8 := 0
  cadNum : BitVec 4 := 0
  rcbp   : Word := 0
  c0     : Int := 0
  /-- NBRTC of a context that CTXLD brought in, while RTC has not reached it, and the distance of the boundary that is to
  fall there from C0 (R219) -/
  due    : Option (Nat × Int) := none
  /-- the tile has reached the region's start cycle, and C0 holds it (R49) -/
  started : Bool := false
  hrec   : Word := 0
  /-- the position of the WAIT or FENCE that HREC records (R206, R215) -/
  holdPos : Word := 0
  hold   : Hold := .none
  /-- cycle of the last issue, if any (R56) -/
  last   : Option Nat := none
  gates  : List GateRec := []
  quiet  : Nat := 0
  /-- a reset event has happened in the body, and since the last TAKE (R63) -/
  busy   : Bool := false
  busyTake : Bool := false
  /-- flags of loads and of stores that have completed and that no WAIT covers yet, and those of the tile operations applied last,
  the newest first (R132) -/
  lateLd : BitVec 6 := 0
  lateSt : BitVec 6 := 0
  lateTo : List (BitVec 6) := []
  /-- the cycle at whose end its last held-back PWR.rel was applied (R181, R183) -/
  relAt  : Option Nat := none
  /-- loads that completed uncorrectable since the last release of a WAIT, by XVAL (R206) -/
  badLoads : List Word := []
  /-- counters that stood at 63 and have fallen, with the cycle in which they last did (R223) -/
  relieved : List (Cls × Nat) := []
  /-- the cycle in which it was released from a hold: it may issue from the next one on (R224) -/
  freed    : Option Nat := none
  /-- CTXLD found bits 1:0 of the image's PC other than 0 (R71, R97) -/
  oddPc    : Bool := false
  /-- the state in which it was evicted (R216) -/
  was    : RunState := .unarmed
  deriving DecidableEq, Repr, Inhabited

inductive CacheSt where
  | empty | loading | held | bad
  deriving DecidableEq, Repr, Inhabited

/-- An entry of the context cache (R214). While an eviction waits, `slot` names the slot and `reason` and `cause` the
notice to raise; `kept` says that a reserved region keeps the slot. -/
structure CacheEntry where
  st     : CacheSt := .empty
  strand : Strand := {}
  slot   : Nat := 0
  kept   : Bool := false
  reason : Nat := 0
  cause  : Nat := 0
  /-- the EVICT that waits for this entry, if an instruction asked -/
  oid    : Option Nat := none
  /-- the tile whose slot the context was evicted from (R216) -/
  home   : Nat := 0
  deriving DecidableEq, Repr, Inhabited

/-- A pennant (R176). -/
structure Pennant where
  hoist : BitVec 32 := 0
  stamp : BitVec 32 := 0
  value : Word := 0
  deriving DecidableEq, Repr, Inhabited

/-- A partition entry of a grid descriptor (R320), and the descriptor as GBIND reads it (R319). -/
structure PartEntry where
  storage : Nat
  virt : Bool
  n    : Nat
  die  : Nat
  chip : Nat
  ok   : Bool
  deriving DecidableEq, Repr, Inhabited

structure GridDesc where
  rank  : Nat
  fmt   : Nat
  w     : Nat
  d     : Nat
  r     : Nat
  mirror : Bool
  m     : Nat
  buddy : Nat
  g     : List Nat
  p     : List Nat
  bc    : List Nat
  fixed : List Word
  parts : List PartEntry
  deriving DecidableEq, Repr, Inhabited

/-- A slot of a ghost buffer: tag, state, arrived, contributors (R268). -/
structure Slot where
  tag   : BitVec 32 := 0xFFFFFFFF
  state : BitVec 2 := 0
  arrived : BitVec 4 := 0
  contrib : BitVec 4 := 0
  deriving DecidableEq, Repr, Inhabited

/-- An entry of a tile's grid table (R268); `part` is the number of its partition in the descriptor. -/
structure GridEntry where
  id    : Nat := 0
  rcb   : Nat := 0
  desc  : GridDesc := default
  part  : Nat := 0
  pstep : BitVec 32 := 0xFFFFFFFF
  mstep : BitVec 32 := 0xFFFFFFFF
  slots : List Slot := List.replicate 12 {}
  /-- the page-table root of a descriptor that lies at a virtual address, and that address (R273) -/
  place : Option (Nat × Nat) := none
  /-- the logical buddy die in use; none while it is lost or the grid is not mirrored (R279) -/
  buddy : Option Nat := none
  /-- faces at which a partition that a graft restored still takes ring slots at its steps (R280) -/
  restored : List Nat := []
  /-- a GBIND of the tile has found the entry; false while only a piece or a graft has placed it (R273) -/
  bound : Bool := false
  deriving DecidableEq, Repr, Inhabited

/-- A route entry (R324). -/
structure Route where
  word  : Word := 0
  v     : Bool := false
  owner : Nat := 0
  deriving DecidableEq, Repr, Inhabited

/-- A leaf of a page table cached by a tile (R292): root, first virtual address, size 2^bits, physical place of the
frame, the leaf entry's logical die and offset, W and D as loaded, and the mark of R294. -/
structure Leaf where
  root  : Nat
  va    : Nat
  bits  : Nat
  die   : Nat
  frame : Nat
  w     : Bool
  d     : Bool
  ldie  : Nat
  off   : Nat
  logged : Bool
  deriving DecidableEq, Repr, Inhabited

/-- An entry of a tile's plot cache (R297). -/
structure Plot where
  rcb : Nat
  x   : Nat
  img : VReg
  /-- a PLOTW has written the entry since the copy was made, and the tile is still to drop it (R310) -/
  old : Bool := false
  deriving DecidableEq, Repr, Inhabited

/-- A cross-panel operation that waits for its reply under a request tag (R365). `kind` says which completion value and
stamp R190 and R253 give: 0 load of n bytes, 1 store, 2 atomic, 3 copy, 4 PWR, 5 PRD, 6 PSAME, 7 PSTAMP, 8 PADD,
9 tensor load of format n. -/
structure Request where
  cp    : Nat
  stamp : BitVec 32
  kind  : Nat
  n     : Nat
  sx    : Bool
  slot  : Nat
  issued : Nat
  chip  : Nat
  oid   : Option Nat
  rcb   : Nat := 0
  deriving DecidableEq, Repr, Inhabited

structure Tag where
  gen : BitVec 4 := 0
  req : Option Request := none
  deriving DecidableEq, Repr, Inhabited

/-- The registers and tables of a tile. `skew` is its local cycle less the panel's nominal cycles (log 2). -/
structure Tile where
  skew     : Int := 0
  /-- where the oscillator may stand between its local cycle and the next, in millionths of a cycle: least and greatest (R22, log 33) -/
  phase    : Nat × Nat := (0, 999999)
  rtcOff   : Nat := 0
  /-- its skew and offset of RTC over time, the newest first: the local cycle from which each pair holds (R219) -/
  clock    : List (Nat × Int × Nat) := []
  /-- RTC in each of the last 8 local cycles, the newest first (R228) -/
  rtcPast  : List Nat := []
  drift    : BitVec 10 := 0
  /-- how often d has risen above 400 without its alarm being raised yet (R22) -/
  alarmDue : Nat := 0
  temp     : BitVec 16 := 0
  turns    : Nat := 16
  /-- frame of the last change of E (R232) -/
  turnsAt  : Option Nat := none
  /-- the smallest demand on the tile at the end of its previous cycle (R232) -/
  seen     : Nat := 16
  /-- the thermal demand, and the time of its last change (R232) -/
  thermal  : Nat := 16
  thermalAt : Nat := 0
  /-- the droop demand on the tile (R232) -/
  droop    : Nat := 16
  lastSlot : Nat := 15
  lastIssue : Option Nat := none
  mlat     : Word := 0
  latedrop : BitVec 32 := 0
  /-- the cycle of the newest late replies and how many fell in it (R230) -/
  lateAt   : Nat := 0
  lateNow  : Nat := 0
  evp      : BitVec 32 := 0
  pfp      : BitVec 16 := 0
  qp       : Bool := false
  dp       : Bool := false
  ap       : Bool := false
  tp       : Bool := false
  /-- the region whose quiescence set QP (R64) -/
  qpOwner  : Nat := 0
  /-- the cycle in which an EVACK last cleared QP (R210) -/
  qpClear  : Option Nat := none
  /-- event words raised and not yet given to the deposit port (R210) -/
  events   : List Word := []
  /-- the cycle of the newest raises of events, their words, and which of them found their bit set (R211) -/
  raisedAt : Option Nat := none
  raised   : List (Word × Bool) := []
  lastDeposit : Option Nat := none
  /-- the cycle in which a SEND of the tile last completed (R229) -/
  sendAt   : Option Nat := none
  /-- the cycle in which the pennant file has gone on from its local samples (R182) -/
  penCycle : Option Nat := none
  /-- pennants written in that cycle, as its local samples see them (R181, R182) -/
  penOld   : List (Nat × Pennant) := []
  /-- HV and FL of REQ written 0 to 1 since the DCC last saw them (R296) -/
  hvNew    : Bool := false
  flNew    : Bool := false
  cache    : SMap CacheEntry := []
  grid     : SMap GridEntry := []
  plots    : List Plot := []
  leaves   : List Leaf := []
  tags     : SMap Tag := []
  routes   : SMap Route := []
  /-- the operation whose parts the service agent hands on (R250) -/
  agentOp  : Option Nat := none
  deriving DecidableEq, Repr, Inhabited

/-- The queue state of a die's scheduler (R357) and the times of R61. -/
structure Sched where
  ready : List Record := []
  out   : List (Nat × BitVec 32) := []
  seq   : Nat := 0
  rounds  : SMap Nat := []
  empties : SMap Nat := []
  deriving DecidableEq, Repr, Inhabited

/-- The counts of a die's power agent (R234); the lists stand in the order north, east, south, west. -/
structure Power where
  held : Nat := 360
  out  : List Nat := [0, 0, 0, 0]
  lent : List Nat := [0, 0, 0, 0]
  owed : List Nat := [0, 0, 0, 0]
  set  : Nat := 0
  draw : Nat := 0
  /-- recalls asked of this die by each neighbour and not yet repaid -/
  recalled : List Nat := [0, 0, 0, 0]
  deriving DecidableEq, Repr, Inhabited

/-- The registers of a physical die. -/
structure Die where
  pts     : SMap Nat := []
  tt      : SMap (BitVec 8) := []
  chspare : Vector (BitVec 8) 8 := Vector.replicate 8 31
  mapSeq  : Word := 0
  mapRtc  : Word := 0
  statSeq : Word := 0
  power   : Power := {}
  errs    : Vector (BitVec 32) 11 := Vector.replicate 11 0
  budget  : Nat := 16
  budgetAt : Nat := 0
  sched   : Sched := {}
  tests   : List FaultUnit := []
  /-- channel copies running: group and position (R252) -/
  copies  : List (Nat × Nat) := []
  /-- link lanes taken out of service, per direction (R379) -/
  lanes   : List Nat := [0, 0, 0, 0]
  failed  : Bool := false
  digestOk : Bool := false
  /-- the security version in the die's fuses (R375) -/
  fuse    : Nat := 0
  /-- per direction: the pair of link ends has run its authentication, and the link is up (R376) -/
  linkTried : List Bool := [false, false, false, false]
  linkUp  : List Bool := [false, false, false, false]
  /-- keys of the traffic that this end sends, and of the traffic that the base die sends to it (R376) -/
  linkKey : List Nat := [0, 0, 0, 0]
  baseKey : List Nat := [0, 0, 0, 0]
  /-- sidebands that failed and are not restored (R235) -/
  sideDown : List Bool := [false, false, false, false]
  /-- parts a bridge may cross under grants (R353), by destination die -/
  grants  : SMap Nat := []
  /-- the source that this die granted last (R353) -/
  granted : Option Nat := none
  deriving DecidableEq, Repr, Inhabited

/-- A power region (R232, R237): its limit, the firings of its detector, the time of its last firing or of the last
rise of the droop demands on its tiles, and the time by which the demands fall after a firing. -/
structure PowerRegion where
  csl    : Nat := 40
  count  : Nat := 0
  clearAt : Nat := 0
  fallBy : Option Nat := none
  deriving DecidableEq, Repr, Inhabited

/-- The states of a region (R47). -/
inductive RegionSt where
  | submitted | admitted | running | refused | ended
  deriving DecidableEq, Repr, Inhabited

/-- A context in memory, saved by CTXSV, as the detector of its region keeps it: bits 15:4 of STRANDID, the quiet count, whether a
reset event has happened since (R47, R63), and the tile that it was evicted from (R216). -/
structure Away where
  id    : Nat
  quiet : Nat
  busy  : Bool
  busyTake : Bool
  home  : Nat
  deriving DecidableEq, Repr, Inhabited

/-- A region as the loader holds it: the effective fields of R313, in physical terms where a tile is meant. -/
structure Region where
  rcb     : Nat := 0
  parent  : Nat := 0
  st      : RegionSt := .submitted
  cause   : Nat := 0
  set     : TileSet := .empty
  /-- the effective S field (R45), and the start time in force (R48) -/
  start   : Nat := 0
  startAt : Nat := 0
  permin  : Nat := 0
  permax  : Nat := 0
  strands : Nat := 0
  prio    : Nat := 0
  reserved : Bool := false
  domain  : Nat := 0
  kq      : Nat := 0
  quanta  : Nat := 0
  step    : Nat := 0
  runtime : Nat := 0
  descBase  : Nat := 0
  descCount : Nat := 0
  scopeBase : Nat := 0
  plotBase  : Nat := 0
  plotCount : Nat := 0
  buntBase  : Nat := 0
  gridBase  : Nat := 0
  gridCount : Nat := 0
  root    : Nat := 0
  textIdx : Nat := 0
  dataIdx : Nat := 0
  image   : Image := default
  textLen : Nat := 0
  dataLen : Nat := 0
  /-- the tiles on which the image was placed -/
  tiles   : List Nat := []
  scopes  : List Scope := []
  /-- the detector has raised its event and is not re-armed (R64) -/
  quieted : Bool := false
  /-- tiles on which the raised event waits for QP to clear (R210) -/
  qWait   : List Nat := []
  /-- the launch argument (R362) -/
  arg     : Word := 0
  /-- contexts that CTXSV saved to memory and no CTXLD has brought back (R47, R64) -/
  away    : List Away := []
  /-- strands of it were lost with a tile, and no rollback has armed them again (R380, R381) -/
  lost    : Bool := false
  deriving DecidableEq, Repr, Inhabited

/-- A write of a tile's pennant file that waits to land (R181, R182). -/
inductive PenAct where
  | set (v : Word) (stamp : BitVec 32)
  | add (v : Word) (stamp : BitVec 32)
  | clear
  deriving DecidableEq, Repr, Inhabited

/-- A local pennant write, applied at the end of cycle `due`; a PADD writes the old value to s e of the strand, a
held-back release completes its operation (R181, R183, R186). -/
structure LocalWrite where
  pid : Nat
  pt  : Nat
  due : Nat
  idx : Nat
  act : PenAct
  key : Nat
  e   : Option (BitVec 5)
  oid : Option Nat
  deriving DecidableEq, Repr, Inhabited

/-- A write at a tile's deposit port (R182), with the part that it performs; `answer` says that another panel waits for
its result (R190). -/
structure Deposit where
  pt  : Nat
  idx : Nat
  act : PenAct
  pid : Option Nat
  oid : Option Nat
  answer : Bool := false
  deriving DecidableEq, Repr, Inhabited

/-- A local PWR.rel held back until its earlier accesses are performed (R183). -/
structure HeldRel where
  oid  : Nat
  pt   : Nat
  party : Party
  idx  : Nat
  v    : Word
  stamp : BitVec 32
  gates : List Gate
  /-- the cycle at whose end its gates stood open -/
  openAt : Option Nat := none
  deriving DecidableEq, Repr, Inhabited

/-- A piece of a grid exchange on its way (R272, R273): the die of the engine that sends it, the tile and the number of the
partition that it is for, the descriptor's ID and region, the face and the step, and the elements by box position. With
`ring` it goes to the partition's ring on the buddy die (R278); with `all` it stands for the pieces of all contributors
(R280). -/
structure Piece where
  id    : Nat
  src   : Nat
  pt    : Nat
  part  : Nat
  grid  : Nat
  rcb   : Nat
  desc  : GridDesc
  face  : Nat
  step  : BitVec 32
  cells : List (Nat × Word)
  ring  : Bool
  all   : Bool
  /-- the page-table root of a descriptor that lies at a virtual address, and that address (R273) -/
  place : Option (Nat × Nat) := none
  deriving DecidableEq, Repr, Inhabited

/-- A slot of a ghost ring: face, ring index, slot word, elements by box position (R278). -/
structure RingSlot where
  face  : Nat
  idx   : Nat
  slot  : Slot
  cells : List (Nat × Word)
  deriving DecidableEq, Repr, Inhabited

/-- What the buddy die, a logical one, holds of a partition (R278): two copies of the interior and the ring. -/
structure Mirror where
  /-- the ID that the partition's grid entry held (R268) -/
  id    : Nat
  desc  : GridDesc
  rcb   : Nat
  part  : Nat
  buddy : Nat
  tags  : List (BitVec 32) := [0xFFFFFFFF, 0xFFFFFFFF]
  done  : List Bool := [false, false]
  cells : List (List Word) := [[], []]
  ring  : List RingSlot := []
  deriving DecidableEq, Repr, Inhabited

/-- A mirror copy in progress (R279). -/
structure MirrorJob where
  id    : Nat
  pt    : Nat
  entry : Nat
  step  : BitVec 32
  cells : List Word
  deriving DecidableEq, Repr, Inhabited

/-- A steal on its way (R61): `stage` 0 asks `asked`, 1 brings the record back. -/
structure Steal where
  id    : Nat
  rcb   : Nat
  thief : Nat
  asked : Nat
  left  : List Nat
  stage : Nat
  task  : Option Record
  deriving DecidableEq, Repr, Inhabited

/-- Quanta on the sideband (R235): kind 0 grant, 1 repayment, 2 repayment of recalled quanta; `stage` 0 sent, 1
received and to be acknowledged, 2 to be returned. -/
structure Transfer where
  id    : Nat
  src   : Nat
  dir   : Dir
  q     : Nat
  kind  : Nat
  stage : Nat
  deriving DecidableEq, Repr, Inhabited

/-- A request of a REQ word that the DCC has seen (R296): what is done of it. -/
structure LogReq where
  pt : Nat
  hv : Bool
  fl : Bool
  /-- tiles still to be merged, with the WR of the merge's start; tiles still to drop their leaves -/
  merges  : List (Nat × Nat)
  flushes : List Nat
  deriving DecidableEq, Repr, Inhabited

/-- What the word being issued is, set by the step before it calls exec (R69, R70). `old` is the strand as the bundle
found it, which the A-class word of a pair reads; `lag` says how many of the strand's tile operations apply between its
reads and its write of block registers (R161); `bad` names a register whose read is uncorrectable (R206). -/
inductive IssueRes where
  | none | done | trapped | blocked
  deriving DecidableEq, Repr, Inhabited

structure Issue where
  pt     : Nat := 0
  slot   : Nat := 0
  pos    : Word := 0
  base   : Word := 0
  next   : Word := 0
  bundle : BitVec 64 := 0
  word   : IWord := 0
  paired : Bool := false
  old    : Option Strand := none
  lag    : Nat := 0
  bad    : Option Nat := none
  /-- the entry of the region's plot table that the word needs and the tile's cache lacks (R304) -/
  want   : Option Nat := none
  /-- a PFX of this word starts its translation (R258) -/
  fetch  : Bool := false
  /-- v registers as the word's sources see them where that is not as they now stand (R141) -/
  oldV   : List (Nat × VReg) := []
  res    : IssueRes := .none
  deriving DecidableEq, Repr, Inhabited

/-- One choice of the order of steps (R337): an issue, in which the operations of `early` complete between the reads and
the writes of the bundle (R96, R141), and, with `fetch`, its PFX starts a translation (R258); an event; or the passing of
one nominal cycle, in which the tiles of `slow` do not advance; with `tick` false only the tiles of `fast` advance (R22).
`offs` are changes of RTC offsets (R23), `temps` new temperatures (R201). -/
inductive Turn where
  | issue (pt slot lag : Nat) (bad : Option Nat) (early : List Nat) (fetch : Bool)
  | event (i : Instr)
  | pass (tick : Bool) (slow fast : List Nat) (offs : List (Nat × Nat)) (temps : List (Nat × BitVec 16))
  /-- firmware's work in boot phases 3, 4 and 6 (R374) -/
  | selfTest (bad : List Nat) (grade : Nat) (pts : List (Nat × Nat × Nat)) (fp : List (Nat × Nat × Nat))
  | trim (d : List (Nat × Nat))
  /-- the thermal threshold, and what firmware has the DCC do of a lasting fault: 0 the ladder, 1 a graft in place of a spare
  or a removal, 2 the end of the regions in place of a graft, 3 nothing, 4 the end of the regions in place of every rung
  (R378) -/
  | threshold (n : Nat)
  | policy (n : Nat)
  /-- what the supervisor does of an error of a fault domain: 1 an end, 2 a rollback where it is possible (R380) -/
  | faultPolicy (domain n : Nat)
  /-- the droop demands of a power region fall after a firing of its detector (R232) -/
  | droopFall (row : Nat)
  /-- an Ultra Ethernet port, numbered 4 x edge die + port, goes down or up (R16, R382) -/
  | port (n : Nat) (down : Bool)
  /-- another buddy die for the partition of a tile's grid entry (R279) -/
  | buddy (pt entry die : Nat)
  /-- one of the waiting answers leaves the panel (R16) -/
  | answer (n : Nat)
  | configure (chip : Nat) (dmap : List (Nat × Nat × Nat)) (csl : List (Nat × Nat)) (tmo threshold : Nat)
  deriving DecidableEq, Repr, Inhabited

/-- The state of the panel. -/
structure State where
  mem     : List Host.Cell
  strands : SMap Strand
  vregs   : SMap VReg
  pens    : SMap Pennant
  tiles   : SMap Tile
  dies    : SMap Die
  rows    : SMap PowerRegion
  /-- nominal cycles since panel reset; panel reference time is 10/11 of them in ns -/
  ticks   : Nat
  chip    : BitVec 22
  gradeB  : Bool
  /-- physical die and state of a logical die; a position without an entry is active on the die of its number -/
  dmap    : SMap (Nat × Nat)
  threshold : Nat
  policy  : Nat
  /-- the policy chosen for a fault domain: 1 an end, 2 a rollback; none chosen yet without an entry (R380) -/
  domains : SMap Nat
  /-- Ultra Ethernet ports that are down (R382) -/
  portsDown : List Nat
  tmo     : Nat
  inlet   : Nat
  bootPhase : Nat
  energised : Nat
  /-- reference time of the last energising in ns (R374) -/
  energisedAt : Nat
  flash   : FwImage
  /-- the attestation key, derived at boot from a fused secret (R377) -/
  attest  : Option Nat
  recovery : Bool
  regions : List Region
  ops     : List Op
  posts   : List Part
  chan    : List Part
  arrived : List Part
  tileOps : List TileOp
  locals  : List LocalWrite
  deposits : List Deposit
  heldRels : List HeldRel
  pieces  : List Piece
  mirrors : List Mirror
  jobs    : List MirrorJob
  steals  : List Steal
  transfers : List Transfer
  logReqs : List LogReq
  /-- answers to outsiders on their way to a port, each with the physical die that gives it, if any (R16, log 92) -/
  answers : List (Option Nat × List Nat)
  /-- answers given to outsiders: hosts and other panels (R364, R377); the model's own record (log 7) -/
  outbox  : List (List Nat)
  /-- errors that a region's fault domain has heard of and not yet answered: region and cause (R380) -/
  reports : List (Nat × Nat)
  nextId  : Nat
  iss     : Issue
  agenda  : List Turn
  deriving DecidableEq, Repr

/-- Reasons for a stop. No rule of spec/ stops the panel as a whole: every error that a rule describes is a trap, an
event or a status, so no meaning raises one. -/
inductive Fault where
  /-- Raised by no meaning: kept so that the outcome type has the host's form. Safe. -/
  | unreachable
  deriving DecidableEq, Repr

/-- Reasons why a step has no meaning. -/
inductive Refusal where
  /-- An instruction whose arm has no meaning yet; raised by Dispatch alone. Safe. -/
  | notModelled (mnemonic : String)
  deriving DecidableEq, Repr

/-- The panel right after panel reset (spec/03, 05 to 20, 25): every register at its reset value, no region, nothing
in flight, and the boot before phase 1 (R374). The values that no rule gives are those of log 1 to 4. -/
def State.reset : State where
  mem := []
  strands := []
  vregs := []
  pens := []
  tiles := []
  dies := []
  rows := []
  ticks := 0
  chip := 0
  gradeB := false
  dmap := []
  threshold := 95
  policy := 0
  domains := []
  portsDown := []
  tmo := 2000000
  inlet := 0
  bootPhase := 0
  energised := 0
  energisedAt := 0
  flash := { digest := 0, sigOk := true, version := 0 }
  attest := none
  recovery := false
  regions := []
  ops := []
  posts := []
  chan := []
  arrived := []
  tileOps := []
  locals := []
  deposits := []
  heldRels := []
  pieces := []
  mirrors := []
  jobs := []
  steals := []
  transfers := []
  logReqs := []
  answers := []
  outbox := []
  reports := []
  nextId := 0
  iss := {}
  agenda := []

end Sys2Proof.Machine
end

