-- ==== Sys2Proof/Machine/Bits.lean ====
section
/-!
DEFINITION. Numbers and bytes: fields of words, two's complement, little-endian byte order (R7), lanes of vector
registers (R140).
-/
namespace Sys2Proof.Machine

/-- The n bits of x from bit lo up, as a number. -/
def bitsOf (lo n x : Nat) : Nat := x / 2 ^ lo % 2 ^ n

/-- Bit i of a number. -/
def bitOf (i x : Nat) : Bool := x / 2 ^ i % 2 == 1

/-- The number x of n bits read as two's complement. -/
def toSigned (n x : Nat) : Int := if x % 2 ^ n < 2 ^ (n - 1) then (x % 2 ^ n : Nat) else (x % 2 ^ n : Nat) - (2 ^ n : Nat)

/-- An integer kept to n bits. -/
def ofInt (n : Nat) (x : Int) : Nat := (x % (2 ^ n : Nat)).toNat

/-- A word of 64 bits from a number. -/
def word (x : Nat) : Word := BitVec.ofNat 64 x

/-- The low n bits of x extended to 64: by their sign where sx, else by zeros. -/
def extend (sx : Bool) (n : Nat) (x : Nat) : Word := if sx then BitVec.ofInt 64 (toSigned n x) else word (x % 2 ^ n)

/-- Sign extension of an immediate field (R74). -/
def imm {n : Nat} (x : BitVec n) : Word := x.signExtend 64

/-- The n bytes of a number, lowest first (R7). -/
def toBytes : Nat → Nat → List Byte
  | 0, _ => []
  | n + 1, x => BitVec.ofNat 8 x :: toBytes n (x / 256)

/-- The number that bytes hold, lowest first (R7). -/
def ofBytes : List Byte → Nat
  | [] => 0
  | b :: bs => b.toNat + 256 * ofBytes bs

/-- Lane i of a register of lanes of n bits (R140). -/
def lane (n i x : Nat) : Nat := x / 2 ^ (n * i) % 2 ^ n

/-- The number whose lanes of n bits are the list, lane 0 first. -/
def ofLanes (n : Nat) : List Nat → Nat
  | [] => 0
  | x :: xs => x % 2 ^ n + 2 ^ n * ofLanes n xs

/-- Width in bits of the lane code w (R77). -/
def laneBits (w : BitVec 2) : Nat := 8 * 2 ^ w.toNat

/-- Division rounded up. -/
def ceilDiv (a b : Nat) : Nat := (a + b - 1) / b

/-- Place n of a list replaced. -/
def setNth {α : Type} (l : List α) (n : Nat) (x : α) : List α := l.set n x

/-- Place n of a list changed. -/
def modNth {α : Type} (l : List α) (n : Nat) (f : α → α) : List α :=
  match l[n]? with
  | some x => l.set n (f x)
  | none => l

/-- The least number below n that satisfies p, counting from start. -/
def findFrom (p : Nat → Bool) (start : Nat) : Nat → Option Nat
  | 0 => none
  | n + 1 => if p start then some start else findFrom p (start + 1) n

/-- The value at a key of a map, or the default. -/
def SMap.get {α : Type} (m : SMap α) (k : Nat) (dflt : α) : α :=
  match m with
  | [] => dflt
  | (j, x) :: r => if j = k then x else SMap.get r k dflt

/-- The map with the value at a key replaced, keys rising. -/
def SMap.put {α : Type} (m : SMap α) (k : Nat) (v : α) : SMap α :=
  match m with
  | [] => [(k, v)]
  | (j, x) :: r => if j < k then (j, x) :: SMap.put r k v else if j = k then (k, v) :: r else (k, v) :: (j, x) :: r

end Sys2Proof.Machine
end

