-- ==== Sys2Proof/Machine/Ops.lean ====
section
/-!
DEFINITION. The named operations over memory and registers, taking a trap (R204) and returning from one (R114), and the
eviction of a strand (R215). Every reader and writer of State goes through these.
-/
namespace Sys2Proof.Machine

/-! ## Memory -/

/-- The address is that of a byte TT in the map block of a die, which is 0x5F at panel reset (R329). -/
def isTurnTable (k : Nat) : Bool :=
  decide (k < 2 ^ 43 ∧ Config.mapBlockOff + 576 ≤ k % 2 ^ 36 ∧ k % 2 ^ 36 < Config.mapBlockOff + 720)
/-- The byte that an address without a cell reads as: memory is 0 at panel reset (R243), but for the turn tables (R329). -/
def memDefault (k : Nat) : Byte := if isTurnTable k then 0x5F else 0

def memGet (m : List Host.Cell) (k : Nat) : Byte :=
  match m with
  | [] => memDefault k
  | (j, b) :: r => if j = k then b else memGet r k

/-- A cell in its place among rising addresses. -/
def memInsert (m : List Host.Cell) (k : Nat) (b : Byte) : List Host.Cell :=
  match m with
  | [] => [(k, b)]
  | (j, c) :: r => if j < k then (j, c) :: memInsert r k b else (k, b) :: (j, c) :: r

def memDrop (m : List Host.Cell) (k : Nat) : List Host.Cell :=
  match m with
  | [] => []
  | (j, c) :: r => if j = k then memDrop r k else (j, c) :: memDrop r k

/-- One byte written; a byte equal to the default leaves no cell. -/
def memPut (m : List Host.Cell) (k : Nat) (b : Byte) : List Host.Cell :=
  if b = memDefault k then memDrop m k else memInsert (memDrop m k) k b

/-- Every address of the list is above k. -/
def memAbove (k : Nat) (m : List Host.Cell) : Bool := m.all (fun c => decide (k < c.1))

/-- The canonical form of memory: addresses strictly rising, no cell holding the default. -/
def Memory.wf (m : List Host.Cell) : Bool :=
  match m with
  | [] => true
  | (k, b) :: r => b != memDefault k && memAbove k r && Memory.wf r

/-- The n bytes from an address up. -/
def memBytes (m : List Host.Cell) (k : Nat) : Nat → List Byte
  | 0 => []
  | n + 1 => memGet m k :: memBytes m (k + 1) n

/-- Bytes written from an address up. -/
def memPutBytes (m : List Host.Cell) (k : Nat) : List Byte → List Host.Cell
  | [] => m
  | b :: bs => memPutBytes (memPut m k b) (k + 1) bs

/-- Cells written in order. -/
def memPutCells (m : List Host.Cell) : List Host.Cell → List Host.Cell
  | [] => m
  | c :: cs => memPutCells (memPut m c.1 c.2) cs

/-- The little-endian number of n bytes (R7). -/
def memNat (m : List Host.Cell) (k n : Nat) : Nat := ofBytes (memBytes m k n)

/-- The place of a byte of a die's memory, and of a scratchpad byte. -/
def dieKey (d off : Nat) : Nat := d * 2 ^ 36 + off
def scratchBase : Nat := 2 ^ 43
def scratchKey (pt a : Nat) : Nat := scratchBase + pt * 2 ^ 20 + a

/-! ## The parts of State by number -/

def State.strand (s : State) (key : Nat) : Strand := SMap.get s.strands key {}
def State.setStrand (s : State) (key : Nat) (x : Strand) : State := { s with strands := SMap.put s.strands key x }
def State.modStrand (s : State) (key : Nat) (f : Strand → Strand) : State := s.setStrand key (f (s.strand key))
def State.tile (s : State) (pt : Nat) : Tile := SMap.get s.tiles pt {}
def State.setTile (s : State) (pt : Nat) (x : Tile) : State := { s with tiles := SMap.put s.tiles pt x }
def State.modTile (s : State) (pt : Nat) (f : Tile → Tile) : State := s.setTile pt (f (s.tile pt))
def State.die (s : State) (d : Nat) : Die := SMap.get s.dies d {}
def State.setDie (s : State) (d : Nat) (x : Die) : State := { s with dies := SMap.put s.dies d x }
def State.modDie (s : State) (d : Nat) (f : Die → Die) : State := s.setDie d (f (s.die d))
def State.row (s : State) (r : Nat) : PowerRegion := SMap.get s.rows r {}
def State.modRow (s : State) (r : Nat) (f : PowerRegion → PowerRegion) : State :=
  { s with rows := SMap.put s.rows r (f (s.row r)) }
def State.pen (s : State) (pt i : Nat) : Pennant := SMap.get s.pens (pt * 64 + i) {}
def State.setPen (s : State) (pt i : Nat) (p : Pennant) : State := { s with pens := SMap.put s.pens (pt * 64 + i) p }
/-- The local cycle of a tile (R53). -/
def State.cycle (s : State) (pt : Nat) : Nat := (s.ticks + (s.tile pt).skew).toNat
/-- A pennant as a local sample of its tile sees it: before the writes of the present cycle (R181, R182). -/
def State.penSeen (s : State) (pt i : Nat) : Pennant :=
  if (s.tile pt).penCycle = some (s.cycle pt) then ((s.tile pt).penOld.lookup i).getD (s.pen pt i) else s.pen pt i
/-- A write of a tile's pennant file; what the pennant held before the cycle's writes is kept for its local samples. -/
def State.writePen (s : State) (pt i : Nat) (p : Pennant) : State :=
  (s.setPen pt i p).modTile pt (fun t =>
    let old := if t.penCycle = some (s.cycle pt) then t.penOld else []
    { t with penCycle := some (s.cycle pt)
             penOld := if (old.lookup i).isSome then old else (i, s.pen pt i) :: old })
def State.entry (s : State) (pt e : Nat) : CacheEntry := SMap.get (s.tile pt).cache e {}
def State.setEntry (s : State) (pt e : Nat) (x : CacheEntry) : State :=
  s.modTile pt (fun t => { t with cache := SMap.put t.cache e x })
def State.gridEntry (s : State) (pt e : Nat) : GridEntry := SMap.get (s.tile pt).grid e {}
def State.setGridEntry (s : State) (pt e : Nat) (x : GridEntry) : State :=
  s.modTile pt (fun t => { t with grid := SMap.put t.grid e x })
def State.region? (s : State) (rcb : Nat) : Option Region := s.regions.find? (fun r => r.rcb == rcb)
def State.region (s : State) (rcb : Nat) : Region := (s.region? rcb).getD {}
def State.modRegion (s : State) (rcb : Nat) (f : Region → Region) : State :=
  { s with regions := s.regions.map (fun r => if r.rcb == rcb then f r else r) }

/-- Byte reads and writes of memory. -/
def State.bytes (s : State) (k n : Nat) : List Byte := memBytes s.mem k n
def State.nat (s : State) (k n : Nat) : Nat := memNat s.mem k n
def State.setBytes (s : State) (k : Nat) (bs : List Byte) : State := { s with mem := memPutBytes s.mem k bs }
def State.setNat (s : State) (k n x : Nat) : State := s.setBytes k (toBytes n x)

/-- A fresh number. -/
def State.fresh (s : State) : State := { s with nextId := s.nextId + 1 }

/-! ## The issuing strand -/

/-- The number of the issuing strand, and the strand as it now stands. -/
def State.key (s : State) : Nat := s.iss.pt * 16 + s.iss.slot
def State.me (s : State) : Strand := s.strand s.key
def State.setMe (s : State) (x : Strand) : State := s.setStrand s.key x
/-- The strand as the word's sources see it: as the bundle found it (R69). -/
def State.src (s : State) : Strand := s.iss.old.getD s.me
def State.pt (s : State) : Nat := s.iss.pt

/-- s0 reads as 0 (R94). -/
def Strand.reg (x : Strand) (n : BitVec 5) : Word := if n = 0 then 0 else x.s[n.toNat]'n.isLt
/-- A write of s0 is discarded (R94). -/
def Strand.setReg (x : Strand) (n : BitVec 5) (v : Word) : Strand :=
  if n = 0 then x else { x with s := x.s.set n.toNat v n.isLt }
/-- k0 reads as all ones (R142). -/
def Strand.mask (x : Strand) (n : BitVec 3) : Word := if n = 0 then BitVec.allOnes 64 else x.k[n.toNat]'n.isLt
/-- A write of k0 is discarded (R142). -/
def Strand.setMask (x : Strand) (n : BitVec 3) (v : Word) : Strand :=
  if n = 0 then x else { x with k := x.k.set n.toNat v n.isLt }
def Strand.scale (x : Strand) (n : BitVec 3) : Wide := x.q[n.toNat]'n.isLt
def Strand.setScale (x : Strand) (n : BitVec 3) (v : Wide) : Strand := { x with q := x.q.set n.toNat v n.isLt }
def Strand.seg (x : Strand) (n : BitVec 3) : Wide := x.sg[n.toNat]'n.isLt
def Strand.setSeg (x : Strand) (n : BitVec 3) (v : Wide) : Strand := { x with sg := x.sg.set n.toNat v n.isLt }

/-- A source s register of the word. -/
def State.rs (s : State) (n : BitVec 5) : Word := s.src.reg n
/-- A destination s register of the word. -/
def State.setS (s : State) (n : BitVec 5) (v : Word) : State := s.setMe (s.me.setReg n v)

/-- The entry of the vector file that holds register v of a strand (R51). -/
def vIndex (key : Nat) (x : Strand) (v : Nat) : Nat := key / 16 * 2048 + x.vbase.toNat + v
def State.vget (s : State) (key v : Nat) : VReg := SMap.get s.vregs (vIndex key (s.strand key) v) 0
def State.vset (s : State) (key v : Nat) (x : VReg) : State :=
  { s with vregs := SMap.put s.vregs (vIndex key (s.strand key) v) x }
/-- A vector source of the word. -/
def State.vs (s : State) (v : BitVec 7) : VReg :=
  match s.iss.oldV.lookup v.toNat with
  | some x => x
  | none => s.vget s.key v.toNat

/-! ## Ends of a word -/

/-- The word is performed: the strand goes on at the next position (R99). -/
def State.done (s : State) : State :=
  { s.setMe { s.me with pc := s.iss.next } with iss := { s.iss with res := .done } }
/-- The word is performed and control goes to a position. -/
def State.goto (s : State) (pc : Word) : State :=
  { s.setMe { s.me with pc := pc } with iss := { s.iss with res := .done } }
/-- The strand is not ready to issue the word; nothing changes (R223, R344). -/
def State.block (s : State) : State := { s with iss := { s.iss with res := .blocked } }

/-- A strand that is privileged (R199), and the bits of PRIV (R198). -/
def Strand.p (x : Strand) : Bool := x.priv.getLsbD 0
def Strand.pp (x : Strand) : Bool := x.priv.getLsbD 1
def Strand.xh (x : Strand) : Bool := x.priv.getLsbD 2
def Strand.be (x : Strand) : Bool := x.priv.getLsbD 3
def privWord (be xh pp p : Bool) : BitVec 4 := BitVec.ofNat 4 (be.toNat * 8 + xh.toNat * 4 + pp.toNat * 2 + p.toNat)

/-! ## Eviction (R215) -/

/-- HREC of a strand: its hold, when that stands in word 0 of a pair (R215). -/
def holdRecord (h : Hold) : Word :=
  match h with
  | .wait l _ true => word (2 ^ 63 + 2 ^ 61 + l.toNat)
  | .fence _ _ true => word (2 ^ 63 + 2 ^ 62)
  | _ => 0
/-- The position saved for a strand: at the word of a lone hold, else where it stands (R215). -/
def savedPc (x : Strand) : Word :=
  match x.hold with
  | .wait _ pos false => pos
  | .fence _ pos false => pos
  | .halt pos => pos
  | _ => x.pc

/-- The position of the word that a hold stands in. -/
def holdPosition (h : Hold) : Word :=
  match h with | .wait _ pos _ => pos | .fence _ pos _ => pos | .halt pos => pos | .none => 0

def lowestEntry (s : State) (pt : Nat) : Option Nat := findFrom (fun e => (s.entry pt e).st == .empty) 0 32

/-- A quiet count of the region has returned to 0: its detector is re-armed (R64). -/
def State.rearm (s : State) (key : Nat) : State :=
  s.modRegion (s.strand key).rcbp.toNat (fun r => { r with quieted := false, qWait := [] })

/-- Strand `key` leaves every state for Evicted and waits for its operations in entry e (R215). -/
def State.startEvict (s : State) (key e reason cause : Nat) (oid : Option Nat) : State :=
  let x := s.strand key
  let kept := (s.region x.rcbp.toNat).reserved
  let y := { x with st := .evicted, was := x.st, hrec := holdRecord x.hold, holdPos := holdPosition x.hold, pc := savedPc x
                    hold := .none }
  ((s.rearm key).setStrand key y).setEntry (key / 16) e
    { st := .loading, strand := y, slot := key % 16, kept := kept, reason := reason, cause := cause, oid := oid, home := key / 16 }

/-- A record for the fault domain of a region (R206, R380), read by the supervisor. -/
def State.tellDomain (s : State) (rcb what : Nat) : State := { s with outbox := s.outbox ++ [[0, rcb, what]] }
/-- The report of an error, which the supervisor may answer once with an end or a rollback (R380). -/
def State.report (s : State) (rcb what : Nat) : State := { s.tellDomain rcb what with reports := s.reports ++ [(rcb, what)] }

/-- One more of a die's counts of R240, saturating. -/
def bump32 (x : BitVec 32) : BitVec 32 := if x = 0xFFFFFFFF then x else x + 1
def State.bump (s : State) (d : Nat) (i : Fin 11) : State := s.modDie d (fun x => { x with errs := x.errs.set i (bump32 x.errs[i]) })
/-- A self-test of a unit of a die starts where none of it runs (R379). -/
def State.startTest (s : State) (d : Nat) (u : FaultUnit) : State :=
  s.modDie d (fun x => { x with tests := if x.tests.contains u then x.tests else x.tests ++ [u] })
/-- An uncorrectable error of a unit is reported to a region's fault domain and counted, and the unit is tested (R206,
R240, R379). -/
def State.tellError (s : State) (d : Nat) (u : FaultUnit) (rcb what : Nat) : State :=
  ((s.report rcb what).bump d 4).startTest d u

/-! ## Traps -/

/-- Eviction by a trap: into the lowest Empty entry, or Halted where none is free (R204). -/
def State.trapEvict (s : State) (key reason cause : Nat) : State :=
  match lowestEntry s (key / 16) with
  | some e => s.startEvict key e reason cause none
  | none => (s.modStrand key (fun x => { x with st := .halted, hold := .none })).report (s.strand key).rcbp.toNat cause

/-- trap(cause) of a strand at position a (R204), with the XPC and XVAL that the raising rule states. -/
def State.trapAt (s : State) (key : Nat) (a : Word) (cause : BitVec 6) (xpc xval : Word) : State :=
  let x := s.strand key
  if x.xh then (s.setStrand key { x with pc := a }).trapEvict key 2 cause.toNat
  else
    let y := { x with xcause := cause, xpc := xpc, xval := xval }
    if y.xbase.getLsbD 0 then
      s.setStrand key { y with priv := privWord y.be true y.p true, pc := y.xbase &&& ~~~7 }
    else (s.setStrand key { y with pc := xpc }).trapEvict key 1 cause.toNat

/-- The word traps at its position (R72, R204). -/
def State.trapWith (s : State) (cause : BitVec 6) (xpc xval : Word) : State :=
  let t := s.trapAt s.key s.iss.pos cause xpc xval
  { t with iss := { t.iss with res := .trapped } }
def State.trap (s : State) (cause : BitVec 6) (xval : Word) : State := s.trapWith cause s.iss.pos xval

/-- The return from a trap: P from PP, out of the handler, at XPC (R114). -/
def State.eret (s : State) : State :=
  let x := s.me
  (s.setMe { x with priv := privWord x.be false x.pp x.pp }).goto x.xpc

/-- The causes of R203. -/
def causeEncoding : BitVec 6 := 1
def causeBundle : BitVec 6 := 2
def causePrivilege : BitVec 6 := 3
def causeLimit : BitVec 6 := 4
def causeRights : BitVec 6 := 5
def causeCarry : BitVec 6 := 6
def causeStale : BitVec 6 := 7
def causeExpired : BitVec 6 := 8
def causePlot : BitVec 6 := 9
def causeMode : BitVec 6 := 10
def causeBreak : BitVec 6 := 11
def causeTrap : BitVec 6 := 12
def causeData : BitVec 6 := 13

/-! ## Counters (R220) and quiet counts (R63) -/

def Strand.count (x : Strand) (c : Cls) : Nat :=
  match c with | .ldc => x.ldc | .stc => x.stc | .cpc => x.cpc | .toc => x.toc
def Strand.setCount (x : Strand) (c : Cls) (n : Nat) : Strand :=
  match c with
  | .ldc => { x with ldc := n } | .stc => { x with stc := n } | .cpc => { x with cpc := n } | .toc => { x with toc := n }
def State.addCount (s : State) (key : Nat) (c : Cls) : State := s.modStrand key (fun x => x.setCount c (x.count c + 1))
/-- A completion; one that brings a counter down from 63 is noted with its cycle (R222, R223). -/
def State.subCount (s : State) (key : Nat) (c : Cls) : State :=
  s.modStrand key (fun x =>
    let y := x.setCount c (x.count c - 1)
    if Config.counterMax ≤ x.count c then
      { y with relieved := (c, s.cycle (key / 16)) :: y.relieved.filter (fun r => r.1 != c) }
    else y)
/-- The strand is not ready to issue an operation of the class: its counter stands at 63, or did until this cycle (R223). -/
def State.full (s : State) (c : Cls) : Bool :=
  decide (Config.counterMax ≤ s.me.count c) || s.me.relieved.contains (c, s.cycle s.pt)
/-- A write, store, atomic, copy or the like resets the quiet count and re-arms the region's detector (R63, R64). -/
def State.touch (s : State) (key : Nat) : State :=
  (s.rearm key).modStrand key (fun x => { x with quiet := 0, busy := true, busyTake := true })

/-! ## Time -/

/-- Panel reference time in ns: a cycle is nominally 10/11 ns (R22, R23). -/
def State.refNs (s : State) : Nat := s.ticks * 10 / 11
/-- RTC of a tile (R23, R228). -/
def State.rtc (s : State) (pt : Nat) : Nat := s.refNs + (s.tile pt).rtcOff
/-- boundary(b) of a strand (R53). -/
def boundary (x : Strand) (b : Nat) : Int := x.c0 + 64 * (x.pph.toNat + b * x.per.toNat : Nat)

end Sys2Proof.Machine
end

