-- ==== Sys2Proof/Machine/Maps.lean ====
section
/-!
DEFINITION. Tile and die maps (R19, R329, R330), the topology word (R202), tile sets and scopes (R312, R316), panel
addresses (R311) and descriptors (R283).
-/
namespace Sys2Proof.Machine

/-! ## Maps -/

/-- PTS of the tile at place i of a physical die: 0 active, 1 removed, 2 removed with a dead router (R329). -/
def State.pts (s : State) (d i : Nat) : Nat := SMap.get (s.die d).pts i 0
/-- The places of a die's active tiles, in the order of their logical numbers (R330). -/
def State.ltp (s : State) (d : Nat) : List Nat := (List.range 144).filter (fun i => s.pts d i == 0)
/-- Active tiles of a physical die. -/
def State.active (s : State) (d : Nat) : Nat := if (s.die d).pts = [] then 144 else (s.ltp d).length
/-- Physical die and DMAP state of a logical die (R329). -/
def State.dmapOf (s : State) (l : Nat) : Nat × Nat := SMap.get s.dmap l (l, 0)
/-- The physical die of a logical position that is not vacant. -/
def State.physDie (s : State) (l : Nat) : Option Nat :=
  if l < 128 ∧ (s.dmapOf l).2 ≠ 2 then some (s.dmapOf l).1 else none
/-- The logical die of a physical one. -/
def State.logDie (s : State) (d : Nat) : Option Nat :=
  if s.dmap = [] then (if d < 128 then some d else none)
  else findFrom (fun l => (s.dmapOf l).1 == d && (s.dmapOf l).2 != 2) 0 128
/-- T of a logical die; 0 for a vacant position (R19, R331). -/
def State.tOf (s : State) (l : Nat) : Nat := match s.physDie l with | some d => s.active d | none => 0
/-- The place of logical tile n of logical die l. -/
def State.physTile (s : State) (l n : Nat) : Option Nat :=
  match s.physDie l with
  | none => none
  | some d =>
    if (s.die d).pts = [] then (if n < 144 then some (d * 144 + n) else none)
    else match (s.ltp d)[n]? with | some i => some (d * 144 + i) | none => none
/-- The logical tile, 144 x logical die + n, of a place. -/
def State.logTile (s : State) (pt : Nat) : Option Nat :=
  match s.logDie (pt / 144) with
  | none => none
  | some l =>
    if (s.die (pt / 144)).pts = [] then some (l * 144 + pt % 144)
    else match (s.ltp (pt / 144)).findIdx? (· == pt % 144) with
      | some n => some (l * 144 + n)
      | none => none

/-- T, rows and last-row count of a die as the topology word packs them (R202). -/
def shapeWord (t : Nat) : Nat :=
  t * 2 ^ 56 + (t + 11) / 12 % 16 * 2 ^ 52 + (if t % 12 = 0 then 0 else t % 12) * 2 ^ 48
/-- TQRY selector 1 for a logical die (R202). -/
def State.dieWord (s : State) (l : Nat) : Word :=
  word (shapeWord (s.tOf l) + l * 2 ^ 22 + s.chip.toNat)
/-- TOPO of a tile (R202). -/
def State.topo (s : State) (pt : Nat) : Word :=
  match s.logTile pt with
  | some lt =>
    let n := lt % 144
    word (shapeWord (s.tOf (lt / 144)) + n * 2 ^ 40 + n % 12 * 2 ^ 36 + n / 12 * 2 ^ 32 + lt / 144 * 2 ^ 22 + s.chip.toNat)
  | none => 0
/-- GRADE of a tile (R201). -/
def State.grade (s : State) (pt : Nat) : Word := word (s.gradeB.toNat * 256 + s.active (pt / 144))

/-! ## Tile sets -/

/-- A logical tile lies in a set. -/
def TileSet.has (t : TileSet) (lt : Nat) : Bool :=
  match t with
  | .empty => false
  | .tile l => l == lt
  | .die d => lt / 144 == d
  | .rect c0 c1 r0 r1 x0 x1 y0 y1 =>
    let d := lt / 144; let n := lt % 144
    decide (c0 ≤ d % 8 ∧ d % 8 ≤ c1 ∧ r0 ≤ d / 8 ∧ d / 8 ≤ r1 ∧ x0 ≤ n % 12 ∧ n % 12 ≤ x1 ∧ y0 ≤ n / 12 ∧ n / 12 ≤ y1)
  | .map l => l.contains lt
  | .panel => true
  | .system => true
  | .withTile l u => l == lt || u.has lt

/-- The set reaches the homes of other panels (R316). -/
def TileSet.isSystem (t : TileSet) : Bool :=
  match t with
  | .system => true
  | .withTile _ u => u.isSystem
  | _ => false

/-- A logical die holds a tile of the set (R316). -/
def State.setHasDie (s : State) (t : TileSet) (l : Nat) : Bool :=
  match t with
  | .panel => true
  | .system => true
  | .die d => d == l
  | .tile lt => lt / 144 == l
  | _ => (List.range (s.tOf l)).any (fun n => t.has (l * 144 + n))

/-- The place lies in the set. -/
def State.placeIn (s : State) (t : TileSet) (pt : Nat) : Bool :=
  match s.logTile pt with
  | some lt => t.has lt
  | none => match t with | .panel => true | .system => true | _ => false

def State.dieIn (s : State) (t : TileSet) (d : Nat) : Bool :=
  match s.logDie d with
  | some l => s.setHasDie t l
  | none => match t with | .panel => true | .system => true | _ => false

/-- A home lies in a scope (R316, R341). An untranslated home may lie anywhere. -/
def State.homeIn (s : State) (t : TileSet) (h : Home) : Bool :=
  match h with
  | .bank pt _ => s.placeIn t pt
  | .pens pt => s.placeIn t pt
  | .agent pt => s.placeIn t pt
  | .grid pt => s.placeIn t pt
  | .router pt => s.placeIn t pt
  | .channel d _ => s.dieIn t d
  | .sched d => s.dieIn t d
  | .tables d => s.dieIn t d
  | .virt => true
  | .absent => false
  | .cross => t.isSystem

/-- The tiles that a bitmap of 18,432 bits at a panel address names (R312). -/
def State.bitmap (s : State) (key : Nat) : List Nat :=
  (List.range 18432).filter (fun i => ((memGet s.mem (key + i / 8)).toNat / 2 ^ (i % 8)) % 2 == 1)

/-- A panel address: logical die and offset to a place, where the position is not vacant (R311). -/
def State.panelKey (s : State) (a : Nat) : Option Nat :=
  match s.physDie (bitsOf 36 7 a) with
  | some d => some (dieKey d (a % 2 ^ 36))
  | none => none

/-- A RECT word is valid (R312). -/
def rectOk (w : Nat) : Bool :=
  decide (bitsOf 0 3 w ≤ bitsOf 3 3 w ∧ bitsOf 6 4 w ≤ bitsOf 10 4 w ∧ bitsOf 14 4 w ≤ bitsOf 18 4 w ∧
    bitsOf 22 4 w ≤ bitsOf 26 4 w ∧ bitsOf 18 4 w ≤ 11 ∧ bitsOf 26 4 w ≤ 11)
def rectSet (w : Nat) : TileSet :=
  .rect (bitsOf 0 3 w) (bitsOf 3 3 w) (bitsOf 6 4 w) (bitsOf 10 4 w) (bitsOf 14 4 w) (bitsOf 18 4 w) (bitsOf 22 4 w)
    (bitsOf 26 4 w)

/-- The set of a scope entry for a strand's tile (R316). An invalid entry acts as entry 5. -/
def State.scopeSet (s : State) (lt : Nat) (region : TileSet) (c : Scope) : TileSet :=
  let w := c.word.toNat
  match bitsOf 60 4 w with
  | 1 => .tile lt
  | 2 => .tile lt
  | 3 => .die (lt / 144)
  | 4 => region
  | 5 => .panel
  | 6 => .system
  | 7 => if rectOk w then .withTile lt (rectSet w) else .system
  | 8 => .withTile lt (.map c.map)
  | _ => .system

/-- The set that the .gN field of a strand's access names (R316, R341). -/
def State.scope (s : State) (key g : Nat) : TileSet :=
  let lt := (s.logTile (key / 16)).getD 0
  let r := s.region (s.strand key).rcbp.toNat
  match g with
  | 0 => .tile lt
  | 1 => .tile lt
  | 2 => .die (lt / 144)
  | 3 => r.set
  | 4 => .panel
  | 5 => .system
  | g => s.scopeSet lt r.set ((r.scopes[g - 6]?).getD {})

/-- The region is the other or a descendant of it (R199). -/
def State.within (s : State) (rcb ancestor : Nat) : Bool :=
  go s 128 rcb ancestor
where
  /-- the chain of parents, followed for at most `fuel` regions -/
  go (s : State) (fuel rcb ancestor : Nat) : Bool :=
    match fuel with
    | 0 => false
    | f + 1 => rcb == ancestor || (match s.region? rcb with
      | some r => r.parent != 0 && go s f r.parent ancestor
      | none => false)

/-! ## Descriptors (R283) -/

def dValid (d : Wide) : Bool := d.getLsbD 255
def dCpe (d : Wide) : Bool := d.getLsbD 230
def dCp (d : Wide) : Nat := bitsOf 224 6 d.toNat
def dKindField (d : Wide) : Nat := bitsOf 192 32 d.toNat
def dHomeTile (d : Wide) : Nat := bitsOf 175 8 d.toNat
def dHomeDie (d : Wide) : Nat := bitsOf 168 7 d.toNat
def dChip (d : Wide) : Nat := bitsOf 144 22 d.toNat
def dKind (d : Wide) : Nat := bitsOf 136 3 d.toNat
def dLimit (d : Wide) : Nat := bitsOf 64 53 d.toNat
def dBase (d : Wide) : Nat := bitsOf 0 53 d.toNat
def dR (d : Wide) : Bool := d.getLsbD 128
def dW (d : Wide) : Bool := d.getLsbD 129
def dX (d : Wide) : Bool := d.getLsbD 130
def dA (d : Wide) : Bool := d.getLsbD 131
def dP (d : Wide) : Bool := d.getLsbD 132
def dG (d : Wide) : Bool := d.getLsbD 133
def dT (d : Wide) : Bool := d.getLsbD 134
/-- A descriptor with its reserved bits as 0 (R11, R283). -/
def wideBits (d : Wide) : Wide :=
  d &&& ~~~(BitVec.ofNat 256 ((2 ^ 24 - 1) * 2 ^ 231 + (2 ^ 9 - 1) * 2 ^ 183 + 3 * 2 ^ 166 + 31 * 2 ^ 139 + 2 ^ 135 +
    (2 ^ 11 - 1) * 2 ^ 117 + (2 ^ 11 - 1) * 2 ^ 53))
def kindFlat : Nat := 1
def kindLocal : Nat := 2
def kindTile : Nat := 3
def kindGrid : Nat := 4
def kindShard : Nat := 5

/-- A descriptor from its fields: kind, rights, chip, home, base, limit, kind field. -/
def descriptor (kind rights chip die tile base limit field : Nat) : Wide :=
  BitVec.ofNat 256 (base + limit * 2 ^ 64 + rights * 2 ^ 128 + kind * 2 ^ 136 + chip * 2 ^ 144 + die * 2 ^ 168 +
    tile * 2 ^ 175 + field * 2 ^ 192 + 2 ^ 255)

/-- The physical channel of a die offset under the sparing in force (R251). -/
def State.channelOf (s : State) (d off : Nat) : Nat :=
  let l := off % 2 ^ 36 / 256 % 152
  let g := l / 19
  let fp := ((s.die d).chspare.toList[g]?).getD 31
  20 * g + (if fp.toNat = l % 19 then 19 else l % 19)

end Sys2Proof.Machine
end

