-- ==== Sys2Proof/Machine/Paths.lean ====
section
/-!
DEFINITION. Paths of parts and messages: the default path in a die (R350), across the die mesh (R351), and the path that
a route word names (R325, R326).
-/
namespace Sys2Proof.Machine

/-- The routers entered from (x, y) to (x', y'), first along x, then along y (R350); a router is 12y + x. -/
def pathXY (x y x' y' : Nat) : List Nat :=
  (if x ≤ x' then (List.range (x' - x)).map (fun k => 12 * y + x + k + 1)
   else (List.range (x - x')).map (fun k => 12 * y + x - k - 1)) ++
  (if y ≤ y' then (List.range (y' - y)).map (fun k => 12 * (y + k + 1) + x')
   else (List.range (y - y')).map (fun k => 12 * (y - k - 1) + x'))

/-- Attach tiles of the ports (R351). -/
def attach (d : Dir) : Nat × Nat :=
  match d with | .n => (6, 0) | .e => (11, 6) | .s => (6, 11) | .w => (0, 6)

/-- The port by which a part leaves physical die a for b, and the port by which it arrives (R351). -/
def exitPort (a b : Nat) : Dir :=
  if a / 8 = b / 8 then (if a % 8 < b % 8 then .e else .w) else if b / 8 < a / 8 then .n else .s
def arrivalPort (a b : Nat) : Dir :=
  if a % 8 = b % 8 then (if b / 8 < a / 8 then .s else .n) else if a % 8 < b % 8 then .w else .e
/-- Crossings of links between two physical dies. -/
def dieHops (a b : Nat) : Nat := (a % 8 - b % 8) + (b % 8 - a % 8) + ((a / 8 - b / 8) + (b / 8 - a / 8))

/-- Stage 1 and stage 3 of the default path between two places, and its die hops (R351). -/
def stage1 (src dst : Nat) : List Nat :=
  let i := src % 144
  if src / 144 = dst / 144 then pathXY (i % 12) (i / 12) (dst % 144 % 12) (dst % 144 / 12)
  else let t := attach (exitPort (src / 144) (dst / 144)); pathXY (i % 12) (i / 12) t.1 t.2
def stage3 (src dst : Nat) : List Nat :=
  if src / 144 = dst / 144 then []
  else let t := attach (arrivalPort (src / 144) (dst / 144)); pathXY t.1 t.2 (dst % 144 % 12) (dst % 144 / 12)
/-- The router at which stage 3 begins. -/
def stage3Entry (src dst : Nat) : List Nat :=
  if src / 144 = dst / 144 then []
  else let t := attach (arrivalPort (src / 144) (dst / 144)); [12 * t.2 + t.1]

/-- The number of a direction: north 0, east 1, south 2, west 3. -/
def dirNo (d : Dir) : Nat := match d with | .n => 0 | .e => 1 | .s => 2 | .w => 3
/-- The neighbour of a physical die (R15). -/
def dieAt (d : Nat) (dir : Dir) : Option Nat :=
  match dir with
  | .n => if 8 ≤ d then some (d - 8) else none
  | .e => if d % 8 < 7 then some (d + 1) else none
  | .s => if d < 120 then some (d + 8) else none
  | .w => if 0 < d % 8 then some (d - 1) else none
/-- The links crossed from one physical die to another, each by the die it leaves and its direction: first along the
column, then along the row (R351). -/
def linksOn : Nat → Nat → Nat → List (Nat × Dir)
  | 0, _, _ => []
  | n + 1, a, b =>
    if a = b then []
    else let dir := exitPort a b; (a, dir) :: linksOn n ((dieAt a dir).getD b) b
def backDir (d : Dir) : Dir := match d with | .n => .s | .e => .w | .s => .n | .w => .e
/-- The authentication of a link end has failed (R376). -/
def State.endDown (s : State) (d : Nat) (dir : Dir) : Bool :=
  (s.die d).linkTried.getD (dirNo dir) false && !(s.die d).linkUp.getD (dirNo dir) false
/-- A link stays down where one of its ends failed (R376). -/
def State.linkDown (s : State) (l : Nat × Dir) : Bool :=
  s.endDown l.1 l.2 || (dieAt l.1 l.2).any (fun b => s.endDown b (backDir l.2))
/-- Some link of the way from one physical die to another is down. -/
def State.cutOff (s : State) (a b : Nat) : Bool := (linksOn 23 a b).any s.linkDown

/-- Hops along a list of routers up to and with the first dead one, and whether there is one (R350, R354). -/
def State.deadOn (s : State) (d : Nat) (path : List Nat) : Option Nat :=
  path.findIdx? (fun i => s.pts d i == 2)

/-- The default path between two places passes a dead router (R350). -/
def State.refusedPath (s : State) (src dst : Nat) : Bool :=
  (s.deadOn (src / 144) (stage1 src dst)).isSome ||
    (s.deadOn (dst / 144) (stage3Entry src dst ++ stage3 src dst)).isSome

/-- Stage 1 from a place toward another physical die passes a dead router (R351). -/
def State.exitRefused (s : State) (src d : Nat) : Bool :=
  let t := attach (exitPort (src / 144) d)
  d != src / 144 && (s.deadOn (src / 144) (pathXY (src % 144 % 12) (src % 144 / 12) t.1 t.2)).isSome

/-- The leg i of a route word: direction and length (R325). -/
def legDir (w i : Nat) : Nat := bitsOf (6 * i + 4) 2 w
def legLen (w i : Nat) : Nat := bitsOf (6 * i) 4 w
def opposite (a b : Nat) : Bool := (a + 2) % 4 == b
/-- Bit of TT for a turn from direction a to b, with 0 N, 1 E, 2 S, 3 W (R323); going straight needs none. -/
def turnBit (a b : Nat) : Option Nat :=
  match a, b with
  | 1, 0 => some 0 | 1, 2 => some 1 | 3, 0 => some 2 | 3, 2 => some 3
  | 0, 1 => some 4 | 0, 3 => some 5 | 2, 1 => some 6 | 2, 3 => some 7
  | _, _ => none
def State.tt (s : State) (d i : Nat) : BitVec 8 := SMap.get (s.die d).tt i 0x5F
/-- One hop from (x, y); none where it leaves the mesh. -/
def hop (x y dir : Nat) : Option (Nat × Nat) :=
  match dir with
  | 0 => if y = 0 then none else some (x, y - 1)
  | 1 => if x = 11 then none else some (x + 1, y)
  | 2 => if y = 11 then none else some (x, y + 1)
  | _ => if x = 0 then none else some (x - 1, y)

/-- The routers that n hops in a direction enter. -/
def hopList (dir : Nat) : Nat → Nat → Nat → List Nat
  | 0, _, _ => []
  | n + 1, x, y => match hop x y dir with
    | none => []
    | some (x', y') => (12 * y' + x') :: hopList dir n x' y'
def legsFrom (w : Nat) : Nat → Nat → Nat → Nat → List Nat
  | 0, _, x, y => pathXY x y (bitsOf 56 4 w) (bitsOf 52 4 w)
  | n + 1, i, x, y =>
    let l := hopList (legDir w i) (legLen w i) x y
    let q := l.getLastD (12 * y + x)
    l ++ legsFrom w n (i + 1) (q % 12) (q / 12)
/-- The routers that a message on a route enters: the legs, then its dimension-order continuation (R325). -/
def routePath (pt w : Nat) : List Nat := legsFrom w (bitsOf 60 4 w) 0 (pt % 144 % 12) (pt % 144 / 12)

/-- The route of a word from a place of a die passes a router (R328). -/
def routePasses (pt w i : Nat) : Bool := (routePath pt w).contains i

/-- Where a check of a route stands: position, direction before, code and router of the first failure (R326). -/
structure RouteAt where
  x : Nat
  y : Nat
  prev : Option Nat
  code : Nat := 0
  atX : Nat := 0
  atY : Nat := 0
  path : List Nat := []
  deriving DecidableEq, Repr

/-- n hops in a direction. -/
def State.hops (s : State) (d dir : Nat) : Nat → RouteAt → RouteAt
  | 0, r => r
  | n + 1, r =>
    if r.code ≠ 0 then r
    else match hop r.x r.y dir with
      | none => { r with code := 2 }
      | some (x, y) =>
        let r := { r with x := x, y := y, path := r.path ++ [12 * y + x] }
        if s.pts d (12 * y + x) = 2 then { r with code := 4, atX := x, atY := y } else s.hops d dir n r

/-- One leg or segment (R326). `leg` says that it is a leg: its length 0 or a repeated direction is a code 2. -/
def State.segment (s : State) (d dir len : Nat) (leg : Bool) (r : RouteAt) : RouteAt :=
  if r.code ≠ 0 then r
  else if leg && (len == 0 || r.prev == some dir) then { r with code := 2 }
  else if len = 0 then r
  else
    let bad := match r.prev with
      | none => false
      | some p => opposite p dir || (match turnBit p dir with
        | some b => !(s.tt d (12 * r.y + r.x)).getLsbD b
        | none => false)
    if bad then { r with code := 3, atX := r.x, atY := r.y }
    else let q := s.hops d dir len r; { q with prev := some dir }

def State.legs (s : State) (d w : Nat) : Nat → Nat → RouteAt → RouteAt
  | 0, _, r => r
  | n + 1, i, r => s.legs d w n (i + 1) (s.segment d (legDir w i) (legLen w i) true r)

/-- The route word is checked from a place: code, router and path (R325, R326). -/
def State.routeCheck (s : State) (pt : Nat) (rw : Word) : RouteAt :=
  let w := rw.toNat
  let d := pt / 144
  let n := bitsOf 60 4 w
  let x' := bitsOf 56 4 w
  let y' := bitsOf 52 4 w
  let r0 : RouteAt := { x := pt % 144 % 12, y := pt % 144 / 12, prev := none }
  let reserved := decide (8 < n) || bitsOf 48 4 w != 0 ||
    (List.range 8).any (fun i => decide (n ≤ i) && bitsOf (6 * i) 6 w != 0)
  let r1 := if reserved then { r0 with code := 2 } else s.legs d w n 0 r0
  let r2 := s.segment d (if r1.x ≤ x' then 1 else 3) ((x' - r1.x) + (r1.x - x')) false r1
  let r3 := s.segment d (if r2.y ≤ y' then 2 else 0) ((y' - r2.y) + (r2.y - y')) false r2
  let r4 := if x' = pt % 144 % 12 ∧ y' = pt % 144 / 12 then { r3 with code := 2 } else r3
  if r4.code = 0 ∧ s.pts d (12 * y' + x') ≠ 0 then { r4 with code := 4, atX := x', atY := y' } else r4

/-- sD of RTSET (R326). -/
def routeStatus (r : RouteAt) : Word :=
  if r.code = 3 ∨ r.code = 4 then word (r.code + r.atX * 256 + r.atY * 4096) else word r.code

end Sys2Proof.Machine
end

