-- ==== Sys2Proof/Machine/Leaves.lean ====
section
/-!
DEFINITION. Page tables (R288 to R290), as one reading of memory: a walk is one step of the machine here. Cached leaves
(R292), the home that a part waiting in a queue is bound for, and the bytes of a task record (R356).
-/
namespace Sys2Proof.Machine

/-- Two runs of bytes share one: n from a and m from b. -/
def rangesMeet (a n b m : Nat) : Bool := decide (0 < n ∧ 0 < m ∧ a < b + m ∧ b < a + n)

/-- Bytes of a table or frame at a die offset meet the die status block (R239, R290). -/
def meetsStatus (off n : Nat) : Bool := rangesMeet off n Config.statusBlockOff 4096

/-- Index of level l of a virtual address (R288). -/
def walkIndex (l va : Nat) : Nat := match l with | 1 => bitsOf 38 10 va | 2 => bitsOf 25 13 va | _ => bitsOf 16 9 va
def tableSize (l : Nat) : Nat := match l with | 1 => 8192 | 2 => 65536 | _ => 4096
def tableAlign (l : Nat) : Nat := match l with | 1 => 8192 | 2 => 65536 | _ => 4096

/-- The walk from level l of the table at logical die d, offset t: the leaf, or none for a fault (R290). -/
def State.walkFrom (s : State) (root va : Nat) (write : Bool) : Nat → Nat → Nat → Nat → Option Leaf
  | 0, _, _, _ => none
  | f + 1, l, d, t =>
    match s.physDie d with
    | none => none
    | some p =>
      let off := (t + 8 * walkIndex l va) % 2 ^ 36
      let e := s.nat (dieKey p off) 8
      if !bitOf 0 e then none
      else if bitOf 1 e then
        (if l = 1 then none
         else
           let bits := if l = 2 then 25 else 16
           let frame := bitsOf 12 24 e * 4096 / 2 ^ bits * 2 ^ bits
           match s.physDie (bitsOf 36 7 e) with
           | none => none
           | some q =>
             if meetsStatus frame (2 ^ bits) || (write && !bitOf 4 e) then none
             else some { root := root, va := va / 2 ^ bits * 2 ^ bits, bits := bits, die := q, frame := frame,
                         w := bitOf 4 e, d := bitOf 3 e, ldie := d, off := off, logged := false })
      else if l = 3 then none
      else
        let l' := l + 1
        let t' := bitsOf 12 24 e * 4096 / tableAlign l' * tableAlign l'
        if meetsStatus t' (tableSize l') then none else s.walkFrom root va write f l' (bitsOf 36 7 e) t'

/-- A walk from a root, given as a panel address with bits 12:0 read as 0 (R288). -/
def State.walk (s : State) (root va : Nat) (write : Bool) : Option Leaf :=
  s.walkFrom root va write 3 1 (bitsOf 36 7 root) (root % 2 ^ 36 / 8192 * 8192)

/-- The physical dies whose tables the walk from level l reads (R290). -/
def State.tablesFrom (s : State) (va : Nat) : Nat → Nat → Nat → Nat → List Nat
  | 0, _, _, _ => []
  | f + 1, l, d, t =>
    match s.physDie d with
    | none => []
    | some p =>
      let e := s.nat (dieKey p ((t + 8 * walkIndex l va) % 2 ^ 36)) 8
      let t' := bitsOf 12 24 e * 4096 / tableAlign (l + 1) * tableAlign (l + 1)
      p :: (if !bitOf 0 e || bitOf 1 e || l == 3 || meetsStatus t' (tableSize (l + 1)) then []
            else s.tablesFrom va f (l + 1) (bitsOf 36 7 e) t')
/-- The other dies that a walk for a tile of die d crosses to. -/
def State.walkDies (s : State) (d root va : Nat) : List Nat :=
  (s.tablesFrom va 3 1 (bitsOf 36 7 root) (root % 2 ^ 36 / 8192 * 8192)).filter (fun p => p != d)

/-- A crossing of dies uses up a grant, and waits without one or over a link that is down (R353, R376). -/
def State.crossTo (s : State) (src : Nat) (dst : Option Nat) : Option State :=
  match dst with
  | none => some s
  | some d =>
    let n := SMap.get (s.die src).grants d 0
    if n = 0 ∨ s.cutOff src d = true then none else some (s.modDie src (fun x => { x with grants := SMap.put x.grants d (n - 1) }))
def State.crossAll (s : State) (src : Nat) (dsts : List Nat) : Option State :=
  dsts.foldl (fun (u : Option State) d => u.bind (fun t => t.crossTo src (some d))) (some s)
/-- The reads of a walk cross to other dies. -/
def State.crossWalk (s : State) (d root va : Nat) : Option State := s.crossAll d (s.walkDies d root va)

def leafCovers (e : Leaf) (root va : Nat) : Bool := e.root == root && va / 2 ^ e.bits * 2 ^ e.bits == e.va

/-- The cached leaf of a tile that an access meets; one without W serves no write (R292). -/
def State.cachedLeaf (s : State) (pt root va : Nat) : Option Leaf :=
  (s.tile pt).leaves.find? (fun e => leafCovers e root va)

/-- A leaf enters a tile's translation cache in place of an older copy. -/
def State.cacheLeaf (s : State) (pt : Nat) (e : Leaf) : State :=
  s.modTile pt (fun t => { t with leaves := e :: t.leaves.filter (fun x => !(x.root == e.root && x.va == e.va && x.bits == e.bits)) })

/-- Bit b set in the leaf entry of a leaf: A by the walker (R290), D by a merge (R295). -/
def State.orLeaf (s : State) (ldie off b : Nat) : State :=
  match s.physDie ldie with
  | none => s
  | some d =>
    let k := dieKey d off
    let x := s.nat k 8
    if bitOf b x then s else s.setNat k 8 (x + 2 ^ b)

/-- A walk for a tile that ends in a leaf: A is set and the tile caches the leaf (R291, R292). -/
def State.walkInto (s : State) (pt root va : Nat) (write : Bool) : Option (State × Leaf) :=
  match s.walk root va write with
  | none => none
  | some e => some ((s.orLeaf e.ldie e.off 2).cacheLeaf pt e, e)

/-- The place of a virtual address under a leaf. -/
def leafKey (e : Leaf) (va : Nat) : Nat := dieKey e.die (e.frame + va % 2 ^ e.bits)

/-- The log entry of a leaf (R294). -/
def logWord (e : Leaf) : Nat :=
  2 ^ 63 + e.ldie * 2 ^ 56 + (if e.bits = 25 then 2 ^ 55 else 0) + e.off / 8 * 8

/-- The virtual address of a part's first byte. -/
def actKey (a : Act) : Nat :=
  match a with
  | .read (g :: _) => g.key
  | .write (c :: _) => c.1
  | .writeBuf (g :: _) => g.key
  | .nibbles ((k, _, _) :: _) => k
  | .atomic (g :: _) _ _ _ _ => g.key
  | .amax (g :: _) _ => g.key
  | _ => 0
/-- The virtual addresses at which the bytes of an act enter a page: the first one, and in the word of an atomic that goes on in
another page of 64 KiB the first one there (R245, R259). -/
def actPages (a : Act) : List Nat :=
  let next (gs : List Seg) : List Nat := ((gs.map Seg.key).filter (fun k => k / 2 ^ 16 != actKey a / 2 ^ 16)).take 1
  actKey a :: (match a with | .atomic gs _ _ _ _ => next gs | .amax gs _ => next gs | _ => [])
/-- An act with its places moved. -/
def actMap (f : Nat → Nat) (a : Act) : Act :=
  match a with
  | .read gs => .read (gs.map (fun g => { g with key := f g.key }))
  | .writeBuf gs => .writeBuf (gs.map (fun g => { g with key := f g.key }))
  | .write cs => .write (cs.map (fun c => (f c.1, c.2)))
  | .nibbles ns => .nibbles (ns.map (fun n => (f n.1, n.2)))
  | .atomic gs m t v x => .atomic (gs.map (fun g => { g with key := f g.key })) m t v x
  | .amax gs t => .amax (gs.map (fun g => { g with key := f g.key })) t
  | a => a
/-- The place of a virtual address under the leaves that serve an access. -/
def leavesKey (es : List Leaf) (root va : Nat) : Nat :=
  match es.find? (fun e => leafCovers e root va) with | some e => leafKey e va | none => va

/-- The cached leaves that serve a part through a FLAT segment, one for each page that it enters; none where one is missing, or
serves no write of the part. -/
def State.leavesOf (s : State) (p : Part) : Option (List Leaf) :=
  (actPages p.act).foldr (fun a l =>
    match (s.cachedLeaf p.src p.root a).filter (fun e => !p.write || e.w), l with
    | some e, some l => some (e :: l)
    | _, _ => none) (some [])

/-- The home under a leaf of a part through a FLAT segment. -/
def State.leafHome (s : State) (e : Leaf) (p : Part) : Home :=
  .channel e.die (s.channelOf e.die (leafKey e (actKey p.act) % 2 ^ 36))
/-- The home that a part waiting in a queue is bound for, as the tables now stand, be it that it will fault there; none
where no leaf is present. A replayed part is walked afresh. -/
def State.homeOf (s : State) (p : Part) : Option Home :=
  if p.home ≠ .virt then some p.home
  else
    let cached := if p.fresh then none else s.cachedLeaf p.src p.root (actKey p.act)
    match cached with
    | some e => some (s.leafHome e p)
    | none => (s.walk p.root (actKey p.act) false).map (fun e => s.leafHome e p)

/-! ## Task records (R356) -/

/-- Bytes placed in a buffer. -/
def overlay (buf : List Byte) (i : Nat) (bs : List Byte) : List Byte := buf.take i ++ bs ++ buf.drop (i + bs.length)

/-- The record that memory holds; reserved bits of ENTRY and CTL read as 0. -/
def recordOf (bs : List Byte) (rcb : Nat) : Record :=
  let nat (o n : Nat) : Nat := ofBytes ((bs.drop o).take n)
  { entry := word (nat 0 4), arg := word (nat 8 8), region := rcb, ctl := BitVec.ofNat 32 (nat 24 4 % 2 ^ 11), token := 0,
    seq := 0, stolen := false }
def ctlAny (c : BitVec 32) : Bool := c.getLsbD 7
/-- The die whose queue an append goes to: the record's, or the issuing tile's own (R356, R358). -/
def State.queueDie (s : State) (src : Nat) (r : Record) : Option Nat :=
  if ctlAny r.ctl then some (src / 144) else s.physDie (r.ctl.toNat % 128)

/-! ## Grid descriptors (R319, R320) -/

/-- The header of a grid descriptor (R319); G and P read as 1 for axes at or above the rank. -/
def gridHeader (bs : List Byte) : GridDesc :=
  let nat (o n : Nat) : Nat := ofBytes ((bs.drop o).take n)
  let h := nat 0 8
  let rank := h % 4
  let axis (l : List Nat) : List Nat := (List.range 3).map (fun a => if a < rank then l.getD a 1 else 1)
  { rank := rank, fmt := bitsOf 2 5 h, w := bitsOf 7 4 h, d := bitsOf 11 3 h, r := bitsOf 14 4 h, mirror := bitOf 18 h
    m := bitsOf 19 16 h, buddy := bitsOf 35 7 h, g := axis [nat 8 4, nat 12 4, nat 16 4], p := axis [nat 24 4, nat 28 4, nat 32 4]
    bc := (List.range 6).map (fun f => bitsOf (3 * f + 32) 3 (nat 32 8))
    fixed := (List.range 6).map (fun f => word (nat (40 + 8 * f) 8)), parts := [] }

/-- A partition entry (R320). -/
def partEntry (bs : List Byte) : PartEntry :=
  let a := ofBytes (bs.take 8)
  let b := ofBytes ((bs.drop 8).take 8)
  { storage := bitsOf 0 48 a, virt := bitOf 48 a, n := bitsOf 0 8 b, die := bitsOf 8 7 b, chip := bitsOf 15 22 b
    ok := bitsOf 49 15 a == 0 && bitsOf 37 27 b == 0 && bitsOf 0 3 a == 0 }

def partCount (d : GridDesc) : Nat := d.p.getD 0 1 * d.p.getD 1 1 * d.p.getD 2 1
/-- The descriptor that bytes hold. -/
def gridDesc (bs : List Byte) : GridDesc :=
  let d := gridHeader bs
  { d with parts := (List.range (partCount d)).map (fun i => partEntry ((bs.drop (128 + 16 * i)).take 16)) }

/-- Bytes that GBIND checks at issue (R269). -/
def gridBytes (d : GridDesc) : Nat :=
  if d.rank = 0 ∨ (List.range d.rank).any (fun a => d.p.getD a 1 = 0 || decide (2 ^ 24 < d.p.getD a 1)) = true then 128
  else 128 + 16 * partCount d

end Sys2Proof.Machine
end

