-- ==== Sys2Proof/Machine/Mem.lean ====
section
/-!
DEFINITION. Accesses: forming an address (R244), where it lands (R245), the checks at issue (R246), the split into parts
(R248), gates (R338 to R341) and the posting of parts (R337). Parts and operations are numbered in the order of issue.
-/
namespace Sys2Proof.Machine

/-! ## Protected bytes (R98, R246, R293) -/

/-- A write to scratchpad bytes a .. a + n - 1 of a tile meets a text window. -/
def State.meetsText (s : State) (pt a n : Nat) : Bool :=
  s.regions.any (fun r => (r.st == .admitted || r.st == .running) && r.tiles.contains pt &&
    rangesMeet a n r.image.textOff r.textLen)

/-- It meets bytes that no write may meet; an ST of 8 bytes to REQ is the exception (R293). -/
def State.protectedBytes (s : State) (pt a n : Nat) (isSt : Bool) : Bool :=
  s.meetsText pt a n ||
    (rangesMeet a n Config.logOff (Config.scratchBytes - Config.logOff) && !(isSt && a == Config.logREQ && n == 8))

/-! ## Checks (R246) -/

/-- The right an access needs. -/
inductive Right where
  | read | write | atomic
  deriving DecidableEq, Repr

/-- Where the bytes of an access lie. -/
inductive Land where
  | scratch (pt base : Nat)
  /-- a tile's scratchpad that no default path reaches (R350) -/
  | refused (pt base : Nat)
  | flat (root base : Nat)
  | absent
  | cross (chip : Nat)
  deriving DecidableEq, Repr, Inhabited

/-- An access at issue: its pointer, its pieces as offset and length, and what its rule says of it. `crossOk` holds
where R253 admits the access to another panel, `flatOk` where a FLAT segment is accepted. -/
structure Access where
  p       : Word
  o       : Int
  pieces  : List (Int × Nat)
  right   : Right
  crossOk : Bool := false
  flatOk  : Bool := true
  badFmt  : Bool := false
  condOk  : Bool := true
  isSt    : Bool := false

/-- The segment field of a pointer, and the offset it holds. -/
def ptrSeg (p : Word) : BitVec 3 := BitVec.ofNat 3 (p.toNat / 2 ^ 53)
def ptrOff (p : Word) : Nat := p.toNat % 2 ^ 53
def ptrFmt (p : Word) : Nat := bitsOf 59 5 p.toNat
def ptrBlock (p : Word) : Nat := bitsOf 56 3 p.toNat

/-- XVAL of a failed check: p[63:53] : o[52:0] (R246). -/
def addrXval (p : Word) (o : Int) : Word := word (p.toNat / 2 ^ 53 * 2 ^ 53 + ofInt 53 o)

def hasRight (d : Wide) (r : Right) : Bool := match r with | .read => dR d | .write => dW d | .atomic => dA d

/-- Where a descriptor's bytes lie for the issuing tile (R245, R247, R350). -/
def State.land (s : State) (pt : Nat) (rcb : Nat) (d : Wide) : Land :=
  if dKind d = kindFlat then
    (if dChip d ≠ s.chip.toNat then .cross (dChip d) else .flat (s.region rcb).root (dBase d))
  else if dKind d = kindTile then
    (if dChip d ≠ s.chip.toNat then .cross (dChip d)
     else match s.physTile (dHomeDie d) (dHomeTile d) with
      | none => .absent
      | some q => if q = pt then .scratch pt (dBase d) else if s.refusedPath pt q then .refused q (dBase d) else .scratch q (dBase d))
  else .scratch pt (dBase d)

/-- Bytes at the top of an address space that no descriptor of a valid table reaches (log 9). -/
def landTop (l : Land) : Nat := match l with | .scratch _ _ => 2 ^ 20 | .refused _ _ => 2 ^ 20 | .flat _ _ => 2 ^ 48 | _ => 2 ^ 54
def landBase (l : Land) : Nat := match l with | .scratch _ b => b | .refused _ b => b | .flat _ b => b | _ => 0

/-- The checks of R246 in their order: the cause and XVAL of the first that fails, or where the access lands. A
piece of 0 bytes makes no limit check. -/
def State.check (s : State) (a : Access) : Except (BitVec 6 × Word) Land :=
  let d := s.src.seg (ptrSeg a.p)
  let x := addrXval a.p a.o
  let kindOk := dKind d == kindLocal || dKind d == kindTile || (dKind d == kindFlat && a.flatOk)
  if !kindOk || !hasRight d a.right || a.badFmt then .error (causeRights, x)
  else
    let l := s.land s.pt s.me.rcbp.toNat d
    match l with
    | .cross c =>
      if !a.crossOk || !dCpe d then .error (causeRights, x)
      else if a.pieces.any (fun q => decide (0 < q.2 ∧ (q.1 < 0 ∨ dLimit d < q.1 + q.2))) then .error (causeLimit, x)
      else if !a.condOk then .error (causeRights, x)
      else .ok (.cross c)
    | l =>
      if a.pieces.any (fun q => decide (0 < q.2 ∧ (q.1 < 0 ∨ dLimit d < q.1 + q.2 ∨ landTop l < landBase l + q.1 + q.2))) then
        .error (causeLimit, x)
      else
        let hit := match l with
          | .scratch pt b => a.right != .read && a.pieces.any (fun q => s.protectedBytes pt (b + q.1.toNat) q.2 a.isSt)
          | .refused pt b => a.right != .read && a.pieces.any (fun q => s.protectedBytes pt (b + q.1.toNat) q.2 a.isSt)
          | _ => false
        if hit || !a.condOk then .error (causeRights, x) else .ok l

/-! ## Splitting into parts (R248) -/

/-- A run of n bytes from a, cut at multiples of blk: the line, and the run with its place in the buffer. -/
def cutRun (blk : Nat) : Nat → Nat → Nat → Nat → List (Nat × Seg)
  | 0, _, _, _ => []
  | f + 1, a, n, buf =>
    if n = 0 then []
    else
      let m := min n (blk - a % blk)
      (a / blk, { key := a, buf := buf, len := m }) :: cutRun blk f (a + m) (n - m) (buf + m)

/-- Runs one after another in the buffer, cut into lines. -/
def cutRuns (blk : Nat) : List (Nat × Nat) → Nat → List (Nat × Seg)
  | [], _ => []
  | (a, n) :: r, buf => cutRun blk (n / blk + 2) a n buf ++ cutRuns blk r (buf + n)

def addToLine (m : List (Nat × List Seg)) (x : Nat × Seg) : List (Nat × List Seg) :=
  if m.any (fun e => e.1 == x.1) then m.map (fun e => if e.1 == x.1 then (e.1, e.2 ++ [x.2]) else e) else m ++ [(x.1, [x.2])]

/-- The runs of an access by the line they lie in: one part each, in the order of the access, so that lanes of one home go in
theirs (R256). -/
def byLine (xs : List (Nat × Seg)) : List (Nat × List Seg) := xs.foldl addToLine []

/-- The home and the runs, in places of memory, of each part of an access of a tile. -/
def lines (pt : Nat) (l : Land) (pieces : List (Int × Nat)) : List (Home × List Seg) :=
  match l with
  | .scratch q b =>
    (byLine (cutRuns 64 (pieces.map (fun x => (b + x.1.toNat, x.2))) 0)).map (fun x =>
      (if q = pt then Home.bank q (x.1 % 16) else Home.agent q,
       x.2.map (fun g => { g with key := scratchKey q g.key })))
  | .flat _ b => (byLine (cutRuns 256 (pieces.map (fun x => (b + x.1.toNat, x.2))) 0)).map (fun x => (Home.virt, x.2))
  | .refused _ _ => []
  | .absent => []
  | .cross _ => []

/-- One part at the home of the first byte, with all runs of the access (R248, log 89). -/
def onePart (ls : List (Home × List Seg)) (f : List Seg → Act) : List (Home × Act) :=
  (ls.head?.map (fun x => (x.1, f (ls.flatMap Prod.snd)))).toList

/-- The cells of a store of the bytes at the buffer places of the runs. -/
def cellsOf (bs : List Byte) (gs : List Seg) : List Host.Cell :=
  (gs.map (fun g => (List.range g.len).map (fun i => (g.key + i, bs.getD (g.buf + i) 0)))).flatten

/-- n bytes of 0. -/
def zeros (n : Nat) : List Byte := List.replicate n 0

/-- The bytes an access of n bytes at offset o of a landing would read as memory now stands; unmapped bytes are 0. -/
def State.peek (s : State) (l : Land) (o n : Nat) : List Byte :=
  match l with
  | .scratch q b => s.bytes (scratchKey q (b + o)) n
  | .flat root b => (List.range n).map (fun i => match s.walk root (b + o + i) false with
      | some e => memGet s.mem (leafKey e (b + o + i))
      | none => 0)
  | _ => zeros n

/-! ## What waits -/

def Op.hasParked (o : Op) (pid : Nat) : Bool := o.parked.any (fun p => p.pid == pid)

/-- Every part that is posted, carried, at its home or parked. -/
def State.allParts (s : State) : List Part := s.posts ++ s.chan ++ s.arrived ++ (s.ops.map Op.parked).flatten

/-- The home of a part not yet performed: through a FLAT segment the one that the tables give, which may be anywhere while
no leaf is present; a local pennant write is a part of its pennant file (R181). -/
def State.partHome? (s : State) (pid : Nat) : Option Home :=
  match s.allParts.find? (fun p => p.pid == pid) with
  | some p => some ((s.homeOf p).getD .virt)
  | none =>
    match s.locals.find? (fun l => l.pid == pid) with
    | some l => some (.pens l.pt)
    | none => (s.deposits.find? (fun d => d.pid == some pid)).map (fun d => .pens d.pt)

/-- The tile of an operation's party. -/
def opTile (o : Op) : Nat :=
  match o.party with | .strand k => k / 16 | .cached k => k / 32 | .copy pt => pt | _ => 0
/-- The record of a SPAWN as memory now stands (R358): what it has read, and the bytes that it is still to read. -/
def State.spawnRecord (s : State) (o : Op) (rcb : Nat) : Record :=
  recordOf ((s.allParts.filter (fun p => p.oid == o.oid)).foldl (fun b p => match p.act with
    | .read gs => gs.foldl (fun b g => overlay b g.buf (s.bytes g.key g.len)) b
    | _ => b) o.buf) rcb
/-- The place that performs an operation as a whole, where it has one (R341): for a SPAWN the die of the queue; for the
merge of a drain to registers, the home of its word until it is performed there. -/
def State.opHome? (s : State) (o : Op) : Option Home :=
  match o.engine, o.later with
  | some .virt, (_, .spawn b) :: _ =>
    some (match s.queueDie (opTile o) (s.spawnRecord o b.region) with | some d => .sched d | none => .absent)
  | some h, _ => some h
  | none, (h, a) :: _ =>
    some ((s.homeOf { pid := 0, oid := o.oid, party := o.party, src := opTile o, home := h, lane := 0, gates := [], cls := 0
                      act := a, root := o.addr.toNat }).getD .virt)
  | none, [] => (s.allParts.find? (fun p => p.oid == o.oid)).map (fun p => (s.homeOf p).getD .virt)

/-- Bytes of a GBIND's descriptor beyond the n read at issue, where the header that `bs` begins with asks for them and the segment
has room (R269, log 104). -/
def bindRest (o : Op) (bs : List Byte) (flat : Bool) (root key : Nat) : List (Home × Act) :=
  let n := o.buf.length
  let need := gridBytes (gridHeader bs)
  if need ≤ n ∨ o.count.toNat < need then []
  else
    let l : Land := if flat then .flat root key else .scratch ((key - scratchBase) / 2 ^ 20) (key % 2 ^ 20)
    (lines (opTile o) l [((n : Int), need - n)]).map (fun x => (x.1, Act.read (x.2.map (fun g => { g with buf := g.buf + n }))))
/-- The homes that a GBIND may still read once its header is read: those that the header asks for as memory now stands. A header
that is not mapped may ask for any entries that its segment has room for, at any pseudo-channel: `none` (log 104). -/
def State.bindHomes (s : State) (o : Op) : Option (List Home) :=
  match o.fin with
  | .bind _ flat root key =>
    if !s.allParts.any (fun p => p.oid == o.oid) then some []
    else if flat && o.count.toNat > o.buf.length && [key, key + 127].any (fun a => (s.walk root a false).isNone) then none
    else
      let bs := s.peek (if flat then .flat root key else .scratch ((key - scratchBase) / 2 ^ 20) (key % 2 ^ 20)) 0 128
      some ((bindRest o bs flat root key).map (fun x => (s.homeOf { pid := 0, oid := o.oid, party := o.party, src := opTile o, home := x.1
                                                                    lane := 0, gates := [], cls := 0, act := x.2, root := root }).getD .virt))
  | _ => some []

/-- A need is not yet met and its home lies in the scope. That of a GBIND is met once its descriptor is read. -/
def State.needOpen (s : State) (scope : TileSet) (n : Need) : Bool :=
  match n with
  | .part pid => match s.partHome? pid with | some h => s.homeIn scope h | none => false
  | .op oid => match s.ops.find? (fun o => o.oid == oid) with
    | some o => (match o.fin with
      | .bind _ _ _ _ =>
        (s.allParts.filter (fun p => p.oid == oid)).any (fun p => s.homeIn scope ((s.homeOf p).getD .virt)) ||
          ((s.bindHomes o).getD [.virt]).any (s.homeIn scope)
      | _ => match s.opHome? o with | some h => s.homeIn scope h | none => false)
    | none => false
  | .tile t => match s.tileOps.find? (fun o => o.toid == t) with
    | some o => s.placeIn scope (o.key / 16)
    | none => false

/-- A gate waits for a need: one whose home lies in its scope, or any (R339, R340). -/
def State.gateWaits (s : State) (g : Gate) : Bool := g.needs.any (s.needOpen (if g.far then .system else g.scope))
/-- A gate keeps back a part bound for a home. -/
def State.gateClosed (s : State) (g : Gate) (h : Home) : Bool := (!g.own || s.homeIn g.scope h) && s.gateWaits g

/-- The merge of a drain to registers, a write of the strand that is posted at application (R174). -/
def isMerge (o : Op) : Bool := (match o.fin with | .drain => true | _ => false) && !o.later.isEmpty
/-- A GBIND, which reads its descriptor in parts of which some may be posted later (R269). -/
def isBind (o : Op) : Bool := match o.fin with | .bind _ _ _ _ => true | _ => false
/-- A PWR.rel held back in front of its pennant file (R183). -/
def isHeldRel (o : Op) : Bool := match o.engine with | some (.pens _) => true | _ => false
/-- A write at a pennant file that performs a party's part (R182). -/
def State.depositOf (s : State) (p : Party) (d : Deposit) : Bool :=
  d.pid.isSome && s.ops.any (fun o => d.oid == some o.oid && o.party == p)
/-- A pennant write is of class W, a PADD of class R as well, and a PCLR of none (R347). -/
def PenAct.counts (a : PenAct) (r w : Bool) : Bool := match a with | .add _ _ => w || r | .set _ _ => w | .clear => false

/-- The part belongs to an engine command or message, which counts as a whole (R341). -/
def State.inCommand (s : State) (p : Part) : Bool := s.ops.any (fun o => o.oid == p.oid && o.engine.isSome)

/-- What a party has issued and not yet had performed at homes of this panel, of the classes given: its parts, its pennant
writes on their way, its engine commands and messages, and its tile operations (R340, R347). -/
def State.pending (s : State) (p : Party) (r w e tiles : Bool) : List Need :=
  let want (c : Nat) : Bool := (r && bitOf 0 c) || (w && bitOf 1 c) || (e && bitOf 2 c)
  let pen (a : PenAct) : Bool := a.counts r w
  ((s.allParts.filter (fun q => q.party == p && q.home != .cross && want q.cls && !s.inCommand q)).map (fun q => Need.part q.pid)) ++
  ((s.locals.filter (fun l => Party.strand l.key == p && pen l.act)).map (fun l => Need.part l.pid)) ++
  ((s.deposits.filter (fun d => s.depositOf p d && pen d.act)).filterMap (fun d => d.pid.map Need.part)) ++
  ((s.ops.filter (fun o => o.party == p && !o.cross && (if o.engine.isSome && !isHeldRel o then e else
      (w && (isHeldRel o || isMerge o)) || (e && isBind o)))).map (fun o => Need.op o.oid)) ++
  (if tiles then (s.tileOps.filter (fun o => Party.strand o.key == p)).map (fun o => Need.tile o.toid) else [])
/-- What a release of a party waits for (R340): a PCLR too. -/
def State.pendingOf (s : State) (p : Party) : List Need :=
  s.pending p true true true false ++
    (s.locals.filter (fun l => Party.strand l.key == p && l.act == .clear)).map (fun l => Need.part l.pid)
/-- The earlier accesses of a FENCE with these classes (R347). -/
def State.pendingClasses (s : State) (p : Party) (r w e : Bool) : List Need := s.pending p r w e e

/-! ## Posting -/

def landRoot (l : Land) : Nat := match l with | .flat r _ => r | _ => 0

/-- One part, appended to its party's post queue. -/
def State.post (s : State) (p : Part) : State := State.fresh { s with posts := s.posts ++ [{ p with pid := s.nextId }] }

/-- Parts of one operation, in order. -/
def State.postAll (s : State) (proto : Part) : List (Home × Act) → State
  | [] => s
  | (h, a) :: r => (s.post { proto with home := h, act := a }).postAll proto r

/-- Gates that earlier acquires and fences lay on an access of the classes (R339, R347). -/
def gatesFor (gs : List GateRec) (cls : Nat) : List Gate :=
  (gs.filter (fun g => (g.r && bitOf 0 cls) || (g.w && bitOf 1 cls) || (g.e && bitOf 2 cls))).map GateRec.gate
/-- The same for an operation to another panel. -/
def gatesCross (gs : List GateRec) (cls : Nat) : List Gate :=
  ((gs.filter (fun g => g.x && ((g.r && bitOf 0 cls) || (g.w && bitOf 1 cls) || (g.e && bitOf 2 cls)))).map
    GateRec.gate).map (fun g => { g with own := false })
/-- The same for an engine command that is performed at a place. -/
def State.gatesEngine (s : State) (gs : List GateRec) (h : Home) : List Gate :=
  ((gs.filter (fun g => g.e && (!g.gate.own || s.homeIn g.gate.scope h))).map GateRec.gate).map
    (fun g => { g with own := false })

/-- A gate keeps back an operation of the classes at a home that takes effect at issue and waits in no queue (R344). -/
def State.localGated (s : State) (cls : Nat) (h : Home) : Bool := (gatesFor s.me.gates cls).any (fun g => s.gateClosed g h)

/-- The order of an access: acquire, release, and the scope (R339, R340). -/
structure Ord where
  acq   : Bool := false
  rel   : Bool := false
  scope : TileSet := .empty

/-- The order of a 2-bit ord field and a scope field (R75). -/
def State.ord (s : State) (o : BitVec 2) (g : BitVec 5) : Ord :=
  { acq := o == 1 || o == 3, rel := o == 2 || o == 3, scope := s.scope s.key g.toNat }

/-- The release gate of an access of a party. -/
def State.relGate (s : State) (party : Party) (rel : Bool) (scope : TileSet) : List Gate :=
  if rel then [{ needs := s.pendingOf party, scope := scope, own := false }] else []

/-- Access classes of R347. -/
def clsR : Nat := 1
def clsW : Nat := 2
def clsRW : Nat := 3
def clsE : Nat := 4

/-- An operation of the issuing strand with its parts: the operation is recorded and counted, its parts are posted with
their gates, and an acquire gates what follows (R337, R339, R340). -/
def State.issueOp (s : State) (op : Op) (cls : Nat) (ord : Ord) (lane : Nat) (root : Nat) (write : Bool)
    (parts : List (Home × Act)) : State :=
  let party := Party.strand s.key
  let x := s.me
  let gates := s.relGate party ord.rel ord.scope ++ gatesFor x.gates cls
  let oid := s.nextId
  let op := { op with oid := oid, party := party, rcb := x.rcbp.toNat, stamp := x.pidx.setWidth 32,
                      issued := s.cycle s.pt }
  let first := oid + 1
  let s1 := State.fresh { s with ops := s.ops ++ [op] }
  let s2 := s1.postAll { pid := 0, oid := oid, party := party, src := s.pt, home := .absent, lane := lane, gates := gates,
                         cls := cls, act := .read [], root := root, write := write } parts
  let s3 := match op.cls with | some c => s2.addCount s.key c | none => s2
  if ord.acq then
    let needs := (List.range parts.length).map (fun i => Need.part (first + i))
    s3.modStrand s.key (fun y => { y with gates := y.gates ++
      [{ gate := { needs := needs, scope := ord.scope, own := true, far := true }, r := true, w := true, e := true,
         x := ord.scope.isSystem }] })
  else s3

/-- Gates whose needs are all met are dropped: they keep nothing back any more. -/
def State.pruneGates (s : State) (key : Nat) : State :=
  s.modStrand key (fun x => { x with gates := x.gates.filter (fun g => s.gateWaits g.gate) })

/-- A load of n bytes of the issuing strand, complete as `fin` says. -/
def State.issueLoad (s : State) (l : Land) (pieces : List (Int × Nat)) (n : Nat) (fin : Ending) (addr : Word) (ord : Ord) :
    State :=
  s.issueOp { oid := 0, party := .strand 0, rcb := 0, cls := some .ldc, fin := fin, buf := zeros n, addr := addr } clsR ord 0
    (landRoot l) false ((lines s.pt l pieces).map (fun x => (x.1, Act.read x.2)))

/-- A store of bytes of the issuing strand. -/
def State.issueStore (s : State) (l : Land) (pieces : List (Int × Nat)) (bs : List Byte) (ord : Ord) : State :=
  (s.issueOp { oid := 0, party := .strand 0, rcb := 0, cls := some .stc, fin := .none } clsW ord 0
    (landRoot l) true ((lines s.pt l pieces).map (fun x => (x.1, Act.write (cellsOf bs x.2))))).touch s.key

/-! ## Other panels (R253, R365) -/

def State.freeTag (s : State) : Option Nat :=
  findFrom (fun i => (SMap.get (s.tile s.pt).tags i {}).req.isNone) 0 Config.tags

/-- A cross-panel operation of the issuing strand takes a tag and is sent. It waits behind the gates that a FENCE lays on
operations to other panels, and behind its own release. -/
def State.issueCross (s : State) (chip cp : Nat) (kind n : Nat) (sx : Bool) (cls : Nat) (args : List Nat) (ord : Ord := {})
    (oid : Option Nat := none) : State :=
  match s.freeTag with
  | none => s.block
  | some t =>
    let x := s.me
    let gates := s.relGate (.strand s.key) ord.rel ord.scope ++ gatesCross x.gates cls
    let tag := SMap.get (s.tile s.pt).tags t {}
    let pid := s.nextId
    let part : Part := { pid := pid, oid := pid, party := .strand s.key, src := s.pt, home := .cross, lane := 2,
                         gates := gates, cls := cls, act := .message ([1, chip, s.pt, t, tag.gen.toNat, kind] ++ args) }
    let s1 := State.fresh { s with posts := s.posts ++ [part] }
    let req : Request := { cp := cp, stamp := x.pidx.setWidth 32, kind := kind, n := n, sx := sx, slot := s.iss.slot,
                           issued := s.refNs, chip := chip, oid := oid, rcb := x.rcbp.toNat }
    let s2 := s1.modTile s.pt (fun y => { y with tags := SMap.put y.tags t { tag with req := some req } })
    (if bitOf 1 cls || bitOf 2 cls then s2.touch s.key else s2).done

/-- The end of an access's meaning: its traps, or the effect on where it lands. -/
def State.access (s : State) (a : Access) (eff : Land → State) : State :=
  match s.check a with
  | .error (c, x) => s.trap c x
  | .ok l => eff l

end Sys2Proof.Machine
end

