-- ==== Sys2Proof/Machine/LoadStore.lean ====
section
/-!
DEFINITION. Loads and stores of scalars and vectors, the prefetch, and descriptor transfer (R254 to R256, R258, R264).
-/
namespace Sys2Proof.Machine

def relaxed : Ord := {}

/-- What a message to another panel says of its target: kind, home and offset (R364). -/
def State.crossArgs (s : State) (p : Word) (o : Int) (rest : List Nat) : List Nat :=
  let d := s.src.seg (ptrSeg p)
  [dKind d, dHomeDie d, dHomeTile d, (dBase d + o).toNat] ++ rest
def State.crossCp (s : State) (p : Word) : Nat := dCp (s.src.seg (ptrSeg p))

/-- LD: 2^w bytes at offset o of the pointer p to s t (R254). -/
def State.ldScalar (s : State) (t : BitVec 5) (p : Word) (o : Int) (w : BitVec 2) (sx : Bool) (ord : Ord) (plain : Bool) :
    State :=
  let n := 2 ^ w.toNat
  s.access { p := p, o := o, pieces := [(o, n)], right := .read, crossOk := plain } (fun l =>
    match l with
    | .cross c => s.issueCross c (s.crossCp p) 0 n sx clsR (s.crossArgs p o [n])
    | l => if s.full .ldc then s.block else (s.issueLoad l [(o, n)] n (.bytes t n sx) (addrXval p o) ord).done)

/-- ST: the low 2^w bytes of s t (R254). -/
def State.stScalar (s : State) (t : BitVec 5) (p : Word) (o : Int) (w : BitVec 2) (ord : Ord) (plain : Bool) : State :=
  let n := 2 ^ w.toNat
  let bs := toBytes n (s.rs t).toNat
  s.access { p := p, o := o, pieces := [(o, n)], right := .write, crossOk := plain, isSt := true } (fun l =>
    match l with
    | .cross c => s.issueCross c (s.crossCp p) 1 n false clsW (s.crossArgs p o (n :: bs.map BitVec.toNat))
    | l => if s.full .stc then s.block else (s.issueStore l [(o, n)] bs ord).done)

/-- The offset of a pointer with an index and a displacement (R244). -/
def effOff (p : Word) (x : Word) (disp : Int) : Int := (ptrOff p : Nat) + x.toInt + disp

abbrev Out := Host.Outcome State Fault Refusal

def execLd (t b : BitVec 5) (w : BitVec 2) (x : BitVec 1) (d : BitVec 11) (s : State) : Out :=
  .next (s.ldScalar t (s.rs b) (effOff (s.rs b) 0 d.toInt) w (x == 1) relaxed true)
def execLdIndex (t b x : BitVec 5) (w : BitVec 2) (sx : BitVec 1) (d : BitVec 6) (s : State) : Out :=
  .next (s.ldScalar t (s.rs b) (effOff (s.rs b) (s.rs x) d.toInt) w (sx == 1) relaxed true)
def execLdAcq (t b : BitVec 5) (w : BitVec 2) (x : BitVec 1) (g : BitVec 5) (s : State) : Out :=
  .next (s.ldScalar t (s.rs b) (effOff (s.rs b) 0 0) w (x == 1) (s.ord 1 g) false)
def execSt (t b : BitVec 5) (w : BitVec 2) (d : BitVec 11) (s : State) : Out :=
  .next (s.stScalar t (s.rs b) (effOff (s.rs b) 0 d.toInt) w relaxed true)
def execStIndex (t b x : BitVec 5) (w : BitVec 2) (d : BitVec 6) (s : State) : Out :=
  .next (s.stScalar t (s.rs b) (effOff (s.rs b) (s.rs x) d.toInt) w relaxed true)
def execStRel (t b : BitVec 5) (w : BitVec 2) (g : BitVec 5) (s : State) : Out :=
  .next (s.stScalar t (s.rs b) (effOff (s.rs b) 0 0) w (s.ord 2 g) false)

/-- A load of pieces to register v, and a store of register v to pieces; neither goes to another panel (R253). -/
def State.ldVec (s : State) (v : BitVec 7) (p : Word) (o : Int) (pieces : List (Int × Nat)) : State :=
  s.access { p := p, o := o, pieces := pieces, right := .read } (fun l =>
    if s.full .ldc then s.block else (s.issueLoad l pieces 64 (.vec v) (addrXval p o) relaxed).done)
def State.stVec (s : State) (bs : List Byte) (p : Word) (o : Int) (pieces : List (Int × Nat)) : State :=
  s.access { p := p, o := o, pieces := pieces, right := .write } (fun l =>
    if s.full .stc then s.block else (s.issueStore l pieces bs relaxed).done)

def execLdv (v : BitVec 7) (b x : BitVec 5) (d : BitVec 7) (s : State) : Out :=
  let o := effOff (s.rs b) (s.rs x) (64 * d.toInt)
  .next (s.ldVec v (s.rs b) o [(o, 64)])
def execStv (v : BitVec 7) (b x : BitVec 5) (d : BitVec 7) (s : State) : Out :=
  let o := effOff (s.rs b) (s.rs x) (64 * d.toInt)
  .next (s.stVec (toBytes 64 (s.vs v).toNat) (s.rs b) o [(o, 64)])

/-- Lanes of 2^w bytes: 64 >> w of them, at o + i x stride (R256). -/
def stridedPieces (o stride : Int) (w : BitVec 2) : List (Int × Nat) :=
  (List.range (lanes w)).map (fun (i : Nat) => (o + i * stride, 2 ^ w.toNat))
/-- At o + n x the signed lane i of the index register (R256). -/
def indexedPieces (o : Int) (vi : VReg) (w : BitVec 2) : List (Int × Nat) :=
  (List.range (lanes w)).map (fun i => (o + (2 ^ w.toNat : Nat) * toSigned (laneBits w) (lane (laneBits w) i vi.toNat), 2 ^ w.toNat))

def execLdvs (v : BitVec 7) (b r : BitVec 5) (w : BitVec 2) (s : State) : Out :=
  let o := effOff (s.rs b) 0 0
  .next (s.ldVec v (s.rs b) o (stridedPieces o (s.rs r).toInt w))
def execStvs (v : BitVec 7) (b r : BitVec 5) (w : BitVec 2) (s : State) : Out :=
  let o := effOff (s.rs b) 0 0
  .next (s.stVec (toBytes 64 (s.vs v).toNat) (s.rs b) o (stridedPieces o (s.rs r).toInt w))
def execLdvx (v : BitVec 7) (b : BitVec 5) (i : BitVec 7) (w : BitVec 2) (s : State) : Out :=
  let o := effOff (s.rs b) 0 0
  .next (s.ldVec v (s.rs b) o (indexedPieces o (s.vs i) w))
def execStvx (v : BitVec 7) (b : BitVec 5) (i : BitVec 7) (w : BitVec 2) (s : State) : Out :=
  let o := effOff (s.rs b) 0 0
  .next (s.stVec (toBytes 64 (s.vs v).toNat) (s.rs b) o (indexedPieces o (s.vs i) w))

/-- The FLAT page of a byte is to be translated where the tile has no copy of its leaf, as a read of the byte would have it: a
walk that no access waits for. A check that fails changes nothing (R258). -/
def State.prefetch (s : State) (p : Word) (o : Int) : State :=
  match s.check { p := p, o := o, pieces := [(o, 1)], right := .read } with
  | .ok (.flat root base) =>
    if (s.cachedLeaf s.pt root (base + o).toNat).isSome then s
    else s.post { pid := 0, oid := s.nextId, party := .walker (s.pt / 144), src := s.pt, home := .virt, lane := 2, gates := [], cls := 0
                  act := .read [{ key := (base + o).toNat, buf := 0, len := 0 }], root := root }
  | _ => s
/-- PFX may start a translation, which the issue chooses and a later step makes (R258, log 61). -/
def execPfx (b x : BitVec 5) (d : BitVec 14) (s : State) : Out :=
  .next (if s.iss.fetch then (s.prefetch (s.rs b) (effOff (s.rs b) (s.rs x) d.toInt)).done else s.done)

/-! ## Panel addresses -/

/-- The home and runs of n bytes at a panel address; none where the position is vacant (R311, R331). -/
def State.panelLines (s : State) (a n : Nat) : List (Home × List Seg) :=
  match s.physDie (bitsOf 36 7 a) with
  | none => []
  | some d => (byLine (cutRuns 256 [(a % 2 ^ 36, n)] 0)).map (fun x =>
      (Home.channel d (s.channelOf d (256 * x.1)), x.2.map (fun g => { g with key := dieKey d g.key })))

/-- An operation of the issuing strand of a counted class with parts of class E or as given. -/
def State.issuePlain (s : State) (c : Cls) (fin : Ending) (cls n : Nat) (parts : List (Home × Act)) : State :=
  s.issueOp { oid := 0, party := .strand 0, rcb := 0, cls := some c, fin := fin, buf := zeros n } cls relaxed 0 0 false parts

/-- Entry e of the region's descriptor table (R264, R287). -/
def State.descEntry (s : State) (e : Nat) : Nat := (s.region s.me.rcbp.toNat).descBase / 64 * 64 + 32 * e

def execSegld (g : BitVec 3) (a : BitVec 5) (s : State) : Out :=
  let e := (s.rs a).toNat
  .next (
    if (s.region s.me.rcbp.toNat).descCount ≤ e then s.trap causeLimit (s.rs a)
    else if s.full .ldc then s.block
    else (s.issueOp { oid := 0, party := .strand 0, rcb := 0, cls := some .ldc, fin := .seg g, buf := zeros 32
                      addr := word (s.descEntry e) } clsE relaxed 0 0 false
        ((s.panelLines (s.descEntry e) 32).map (fun x => (x.1, Act.read x.2)))).done)

def execSegst (g : BitVec 3) (a : BitVec 5) (s : State) : Out :=
  let e := (s.rs a).toNat
  .next (
    if !s.me.p then s.trap causePrivilege 0
    else if (s.region s.me.rcbp.toNat).descCount ≤ e then s.trap causeLimit (s.rs a)
    else if s.full .stc then s.block
    else (s.issuePlain .stc .none clsE 0 ((s.panelLines (s.descEntry e) 32).map (fun x =>
      (x.1, Act.write (cellsOf (toBytes 32 (s.src.seg g).toNat) x.2))))).done)

end Sys2Proof.Machine
end

