-- ==== Sys2Proof/Machine/Copies.lean ====
section
/-!
DEFINITION. Copies and fills (R260 to R263): the command, and the parts that the tile's copy engine posts for it.
-/
namespace Sys2Proof.Machine

/-- The place that performs an engine command of a tile (R341). -/
def engineHome (pt : Nat) : Home := .grid pt

/-- An engine command of the issuing strand: a release at region scope (R263), counted in a class. -/
def State.issueEngine (s : State) (op : Op) (c : Option Cls) (party : Party) (home : Home) (write : Bool) (root : Nat)
    (parts : List (Home × Act × List Gate × Nat)) : State :=
  let x := s.me
  let gates := s.relGate (.strand s.key) true (s.scope s.key 3) ++ (if op.cross then [] else s.gatesEngine x.gates home)
  let oid := s.nextId
  let op := { op with oid := oid, party := .strand s.key, rcb := x.rcbp.toNat, cls := c, engine := some home, gates := gates,
                      stamp := x.pidx.setWidth 32, issued := s.cycle s.pt }
  let s1 := State.fresh { s with ops := s.ops ++ [op] }
  let s2 := parts.foldl (fun (t : State) q => t.post
    { pid := 0, oid := oid, party := party, src := s.pt, home := q.1, lane := 0, gates := gates ++ q.2.2.1, cls := clsE,
      act := q.2.1, root := q.2.2.2, write := write && (match q.2.1 with | .read _ => false | _ => true) }) s1
  let s3 := match c with | some k => s2.addCount s.key k | none => s2
  let _ := root
  s3

/-- Two runs of bytes share one. -/
def segMeets (a b : Seg) : Bool := rangesMeet a.key a.len b.key b.len
/-- Two runs share a place in the buffer. -/
def segFeeds (a b : Seg) : Bool := rangesMeet a.buf a.len b.buf b.len

/-- The byte of a run at a place. -/
def segByte (g : Seg) (k : Nat) : Seg := { key := k, buf := g.buf + (k - g.key), len := 1 }
/-- The runs of a command's writes in one part: where elements overlap, each byte comes from one of them (R261). -/
def pickBytes (oid : Nat) (gs : List Seg) : List Seg :=
  if !gs.any (fun a => gs.any (fun b => a != b && segMeets a b)) then gs
  else
    let keys := (gs.flatMap (fun g => (List.range g.len).map (fun i => g.key + i))).eraseDups
    keys.filterMap (fun k =>
      let runs := gs.filter (fun g => decide (g.key ≤ k ∧ k < g.key + g.len))
      (runs[Config.overlapped oid k % runs.length]?).map (fun g => segByte g k))

/-- The parts of a copy: reads to the buffer, then writes from it. A write waits for the reads that supply it and for
the reads of the bytes it replaces (R263); between two FLAT ranges, whose aliases the tables decide, for every read. -/
def copyParts (first : Nat) (bothFlat : Bool) (rroot wroot : Nat) (rd wr : List (Home × List Seg)) :
    List (Home × Act × List Gate × Nat) :=
  let reads := rd.map (fun x => (x.1, Act.read x.2, ([] : List Gate), rroot))
  let numbered := (List.range rd.length).zip rd
  let writes := wr.map (fun x =>
    let needs := (numbered.filter (fun r => bothFlat || r.2.2.any (fun a => x.2.any (fun b => segFeeds a b || segMeets a b)))).map
      (fun r => Need.part (first + r.1))
    (x.1, Act.writeBuf x.2, [{ needs := needs, scope := TileSet.system, own := false }], wroot))
  reads ++ writes

/-- A segment names another panel. -/
def State.segCross (s : State) (p : Word) : Bool :=
  let d := s.src.seg (ptrSeg p)
  (dKind d == kindFlat || dKind d == kindTile) && dChip d != s.chip.toNat

def totalBytes (pieces : List (Int × Nat)) : Nat := (pieces.map Prod.snd).sum

/-- CPY and CPYS: the copy of the source pieces onto the destination pieces (R260, R261). -/
def State.copyOp (s : State) (pd pa : Word) (src dst : List (Int × Nat)) (single : Bool) (cp : BitVec 6) (cpe : BitVec 1) :
    State :=
  let n := totalBytes src
  let xok := single && cpe == 1 && (s.segCross pa != s.segCross pd)
  s.access { p := pa, o := (ptrOff pa : Nat), pieces := src, right := .read, crossOk := xok } (fun ls =>
    s.access { p := pd, o := (ptrOff pd : Nat), pieces := dst, right := .write, crossOk := xok } (fun ld =>
      let pub := if cpe == 1 then some cp.toNat else none
      let op : Op := { oid := 0, party := .strand 0, rcb := 0, cls := none, fin := .copy, buf := zeros n, pub := pub,
                       count := word n }
      match ls, ld with
      | .cross c, _ =>
        -- from another panel: the reply brings the bytes, and the destination is written before the deposit
        let ord : Ord := { rel := true, scope := s.scope s.key 3 }
        let op2 := { op with oid := s.nextId, party := .strand s.key, rcb := s.me.rcbp.toNat, pub := some (s.crossCp pa),
                             stamp := s.me.pidx.setWidth 32, addr := word (landRoot ld), cross := true, awaits := true,
                             gates := s.relGate (.strand s.key) true ord.scope,
                             later := (lines s.pt ld dst).map (fun x => (x.1, Act.writeBuf x.2)) }
        let s1 := State.fresh { s with ops := s.ops ++ [op2] }
        let t := s1.issueCross c (s.crossCp pa) 3 n false clsE (s.crossArgs pa (ptrOff pa : Nat) [n]) ord (some s.nextId)
        if t.iss.res == .blocked then s.block else t
      | ls, .cross c =>
        -- to another panel: the source is read, then the message leaves with its bytes
        match s.freeTag with
        | none => s.block
        | some t0 =>
          let gen := (SMap.get (s.tile s.pt).tags t0 {}).gen
          let rd := (lines s.pt ls src).map (fun x => (x.1, Act.read x.2, ([] : List Gate), landRoot ls))
          let needs := (List.range rd.length).map (fun i => Need.part (s.nextId + 1 + i))
          let msg := Act.message ([1, c, s.pt, t0, gen.toNat, 3] ++ s.crossArgs pd (ptrOff pd : Nat) [n])
          let gate : Gate := { needs := needs, scope := .system, own := false }
          let s1 := s.issueEngine { op with pub := none, fin := .none, cross := true } none (.copy s.pt) (engineHome s.pt) false 0
            (rd.map (fun q => (q.1, q.2.1, gatesCross s.me.gates clsE, q.2.2.2)) ++
              [(Home.cross, msg, gate :: gatesCross s.me.gates clsE, 0)])
          let req : Request := { cp := s.crossCp pd, stamp := s.me.pidx.setWidth 32, kind := 3, n := n, sx := false,
                                 slot := s.iss.slot, issued := s.refNs, chip := c, oid := none, rcb := s.me.rcbp.toNat }
          ((s1.modTile s.pt (fun y => { y with tags := SMap.put y.tags t0 { gen := gen, req := some req } })).touch s.key).done
      | ls, ld =>
        if s.full .cpc then s.block
        else
          let bothFlat := (match ls, ld with | .flat _ _, .flat _ _ => true | _, _ => false)
          let parts := copyParts (s.nextId + 1) bothFlat (landRoot ls) (landRoot ld) (lines s.pt ls src)
            ((lines s.pt ld dst).map (fun x => (x.1, pickBytes s.nextId x.2)))
          ((s.issueEngine op (some .cpc) (.copy s.pt) (engineHome s.pt) true 0 parts).touch s.key).done))

def execCpy (d a n : BitVec 5) (p : BitVec 6) (e : BitVec 1) (s : State) : Out :=
  let len := (s.rs n).toNat
  .next (s.copyOp (s.rs d) (s.rs a) [((ptrOff (s.rs a) : Nat), len)] [((ptrOff (s.rs d) : Nat), len)] true p e)

def execCpys (d a n : BitVec 5) (p : BitVec 6) (e : BitVec 1) (s : State) : Out :=
  let z := (s.rs n).toNat
  let c := (s.rs (n + 1)).toNat
  let pieces (q : Word) (stride : Word) : List (Int × Nat) :=
    if z = 0 then [] else (List.range c).map (fun (j : Nat) => ((ptrOff q : Nat) + j * stride.toInt, z))
  .next (s.copyOp (s.rs d) (s.rs a) (pieces (s.rs a) (s.rs (n + 2))) (pieces (s.rs d) (s.rs (n + 3))) false p e)

def execFill (d v n : BitVec 5) (w : BitVec 2) (c : BitVec 6) (e : BitVec 1) (s : State) : Out :=
  let p := s.rs d
  let o : Int := (ptrOff p : Nat)
  let z := 2 ^ w.toNat
  let len := (s.rs n).toNat * z
  .next (s.access { p := p, o := o, pieces := [(o, len)], right := .write } (fun l =>
    if s.full .cpc then s.block
    else
      let bs := (List.replicate (s.rs n).toNat (toBytes z (s.rs v).toNat)).flatten
      let parts := (lines s.pt l [(o, len)]).map (fun x => (x.1, Act.write (cellsOf bs x.2), ([] : List Gate), landRoot l))
      ((s.issueEngine { oid := 0, party := .strand 0, rcb := 0, cls := none, fin := .copy, count := word len,
                        pub := if e == 1 then some c.toNat else none } (some .cpc) (.copy s.pt) (engineHome s.pt) true 0
          parts).touch s.key).done))

end Sys2Proof.Machine
end

