-- ==== Sys2Proof/Machine/Walk.lean ====
section
/-!
DEFINITION. The raising of events (R210), parked accesses and their replay (R212, R213), the order of
a party's parts (R338), what waits for a parked access (R345), and the hold of a strand (R224).
-/
namespace Sys2Proof.Machine

/-! ## Events of the tile (R209, R210) -/

/-- An event word (R209). -/
def eventWord (kind slot reason detail : Nat) : Word := word (kind * 2 ^ 56 + slot * 2 ^ 52 + reason * 2 ^ 48 + detail % 2 ^ 48)

/-- The kind of an event word and its index among the pending bits of that kind: a slot, or a cache entry (R198, R209). -/
def eventKind (w : Word) : Nat := bitsOf 56 8 w.toNat
def eventIndex (w : Word) : Nat :=
  match eventKind w with | 1 => bitsOf 52 4 w.toNat | 6 => bitsOf 40 5 w.toNat | _ => 0
/-- The pending bit of a kind and index, and the tile with that bit as given (R198, R210, R211). -/
def pending (t : Tile) (kind i : Nat) : Bool :=
  match kind with
  | 1 => t.pfp.getLsbD i | 2 => t.qp | 3 => t.dp | 4 => t.ap | 5 => t.tp | 6 => t.evp.getLsbD i | _ => false
def setPending (t : Tile) (kind i : Nat) : Tile :=
  match kind with
  | 1 => { t with pfp := t.pfp ||| BitVec.ofNat 16 (2 ^ i) }
  | 2 => { t with qp := true }
  | 3 => { t with dp := true }
  | 4 => { t with ap := true }
  | 5 => { t with tp := true }
  | 6 => { t with evp := t.evp ||| BitVec.ofNat 32 (2 ^ i) }
  | _ => t
/-- EVACK clears the pending bit of (kind, index) of the tile (R211). -/
def clearPending (t : Tile) (kind i : Nat) : Tile :=
  match kind with
  | 1 => { t with pfp := t.pfp &&& ~~~(BitVec.ofNat 16 (2 ^ i)) }
  | 2 => { t with qp := false }
  | 3 => { t with dp := false }
  | 4 => { t with ap := false }
  | 5 => { t with tp := false }
  | 6 => { t with evp := t.evp &&& ~~~(BitVec.ofNat 32 (2 ^ i)) }
  | _ => t

/-- The events raised on a tile in a cycle, with those that found their bit set. -/
def Tile.raisedIn (t : Tile) (c : Nat) : List (Word × Bool) := if t.raisedAt = some c then t.raised else []
/-- An event of a tile is raised in a cycle: with its bit 0, the bit is set and the word is on its way; else it is merged
(R210). The cycle's raises are kept, since an EVACK of the same cycle is applied before them (R211). -/
def Tile.raise (t : Tile) (c : Nat) (w : Word) : Tile :=
  let merged := pending t (eventKind w) (eventIndex w)
  let u := { setPending t (eventKind w) (eventIndex w) with raisedAt := some c, raised := t.raisedIn c ++ [(w, merged)] }
  if merged then u else { u with events := t.events ++ [w] }
/-- EVACK on a tile: the bit is cleared, and what was raised in the same cycle is raised behind it, a merged word with its own
deposit (R211). -/
def Tile.ack (t : Tile) (c kind i : Nat) : Tile :=
  match (t.raisedIn c).find? (fun r => eventKind r.1 == kind && eventIndex r.1 == i) with
  | none => clearPending t kind i
  | some (w, merged) =>
    if merged then { t with events := t.events ++ [w], raised := t.raised.map (fun r => if r == (w, true) then (w, false) else r) } else t

def State.raiseEvent (s : State) (pt : Nat) (w : Word) : State := s.modTile pt (fun t => t.raise (s.cycle pt) w)
def State.raiseFault (s : State) (pt slot va : Nat) : State := s.raiseEvent pt (eventWord 1 slot 0 va)
def State.raiseEviction (s : State) (pt e slot reason cause : Nat) : State := s.raiseEvent pt (eventWord 6 slot reason (e * 2 ^ 40 + cause))
def State.raiseDroop (s : State) (pt row : Nat) : State := s.raiseEvent pt (eventWord 3 0 0 row)
def State.raiseDrift (s : State) (pt : Nat) : State := s.raiseEvent pt (eventWord 4 0 0 (s.tile pt).drift.toNat)
def State.raiseTimeout (s : State) (pt slot cp : Nat) : State := s.raiseEvent pt (eventWord 5 slot 0 cp)

/-! ## Parked accesses (R212, R213) -/

/-- Operations of a party with parked parts, in issue order. -/
def State.parkedOps (s : State) (p : Party) : List Op := s.ops.filter (fun o => o.party == p && !o.parked.isEmpty)
/-- Operations of a party that are counted in a class. -/
def State.openCount (s : State) (p : Party) (c : Cls) : Nat := (s.ops.filter (fun o => o.party == p && o.cls == some c)).length

/-- The virtual address that the first parked access of a party faulted at (R209, R290). -/
def State.firstParked (s : State) (p : Party) : Nat :=
  match s.parkedOps p with
  | o :: _ => o.faultVa
  | [] => 0

/-- The strand's parked accesses go back to the walker in issue order, and the record is empty (R213). -/
def State.replay (s : State) (p : Party) : State :=
  let parts := ((s.parkedOps p).map Op.parked).flatten.map (fun q => { q with fresh := q.home == .virt })
  let s1 := { s with posts := parts ++ s.posts,
                     ops := s.ops.map (fun o => if o.party == p then { o with parked := [] } else o) }
  match p with
  | .strand key => s1.modStrand key (fun x => if x.st == .parked then { x with st := .held } else x)
  | _ => s1

/-! ## The order of a party's parts (R338) -/

/-- Parties whose commands' parts keep no order among themselves (R263, R342). -/
def isEngine (p : Party) : Bool :=
  match p with | .strand _ => false | .cached _ => false | .outside _ => false | _ => true
/-- Earlier in program order: an operation is numbered at its issue, its parts in their order. -/
def earlierPart (q p : Part) : Bool := decide (q.oid < p.oid ∨ (q.oid = p.oid ∧ q.pid < p.pid))
/-- An earlier part of the party that waits for the same home. -/
def State.holdsBack (s : State) (p : Part) (h : Home) (q : Part) : Bool :=
  q.party == p.party && !(isEngine p.party && q.oid == p.oid) && earlierPart q p && s.homeOf q == some h
/-- An earlier operation of the party has still to post what it does at the home: the append of a SPAWN, the writes of a TAKE
(R358, R359), reads of a GBIND (R269). -/
def State.postsLater (s : State) (p : Part) (h : Home) (o : Op) : Bool :=
  o.party == p.party && decide (o.oid < p.oid) && (match o.fin, o.later with
    | .word _, (_, .spawn _) :: _ => s.opHome? o == some h
    | .take _, l => l.any (fun x => x.1 == h)
    | .bind _ _ _ _, _ => (match s.bindHomes o, h with
      | some l, h => l.contains h
      | none, .channel _ _ => true
      | none, h => h == .virt)
    | _, _ => false)
/-- An earlier held-back PWR.rel of the party has not yet been applied at the pennant file (R183). -/
def State.relBefore (s : State) (p : Part) (h : Home) : Bool :=
  s.heldRels.any (fun r => r.party == p.party && h == .pens r.pt && decide (r.oid < p.oid)) ||
    s.locals.any (fun l => Party.strand l.key == p.party && h == .pens l.pt && l.oid.any (fun o => decide (o < p.oid)))
/-- No earlier part of the party waits for the same home, in the queue or parked (R338, R345). Operations to other panels are
not ordered among themselves (R253). -/
def State.headOf (s : State) (p : Part) (h : Home) : Bool :=
  h == .cross || (!s.posts.any (s.holdsBack p h) && !s.ops.any (fun o => o.parked.any (s.holdsBack p h) || s.postsLater p h o) &&
    !s.relBefore p h)

/-! ## What waits for a parked access (R212, R345) -/

/-- Parts, operations and tile operations of a party that are parked, or that wait until a parked access is performed. -/
structure Stuck where
  pids  : List Nat := []
  oids  : List Nat := []
  toids : List Nat := []
  deriving DecidableEq, Repr

def Stuck.has (k : Stuck) (n : Need) : Bool :=
  match n with | .part p => k.pids.contains p | .op o => k.oids.contains o | .tile t => k.toids.contains t
/-- A gate waits for something that is stuck. -/
def State.gateStuck (s : State) (k : Stuck) (g : Gate) : Bool :=
  g.needs.any (fun n => k.has n && s.needOpen (if g.far then .system else g.scope) n)
/-- A part in its queue is stuck: behind a gate, or behind what is stuck for the same home: a part, an operation that has still to
post what it does there, a held-back PWR.rel. -/
def State.partStuck (s : State) (k : Stuck) (p : Part) : Bool :=
  let h := (s.homeOf p).getD .virt
  p.gates.any (fun g => (!g.own || s.homeIn g.scope h) && s.gateStuck k g) ||
    s.posts.any (fun q => k.pids.contains q.pid && s.holdsBack p h q) ||
    s.ops.any (fun o => o.parked.any (s.holdsBack p h) || (k.oids.contains o.oid && s.postsLater p h o)) ||
    s.heldRels.any (fun r => k.oids.contains r.oid && r.party == p.party && h == .pens r.pt && decide (r.oid < p.oid))
/-- The tile operation is the drain of an operation (R174). -/
def TileOp.drains (t : TileOp) (oid : Nat) : Bool :=
  match t.kind with | .drainReg _ _ q => q == some oid | .drainMem _ q => q == oid | _ => false
/-- An operation with what of it is stuck. -/
def State.stickOp (s : State) (k : Stuck) (o : Op) : Stuck :=
  let k1 := { k with pids := k.pids ++ o.parked.map Part.pid }
  let k2 := (s.posts.filter (fun p => p.oid == o.oid)).foldl (fun (k : Stuck) p =>
    if s.partStuck k p then { k with pids := k.pids ++ [p.pid] } else k) k1
  let gates := o.gates ++ (s.heldRels.filter (fun r => r.oid == o.oid)).flatMap HeldRel.gates
  let drains := s.tileOps.any (fun t => k.toids.contains t.toid && t.drains o.oid)
  if k.pids.length < k2.pids.length ∨ gates.any (s.gateStuck k2) = true ∨ drains = true then { k2 with oids := k2.oids ++ [o.oid] } else k2
/-- A tile operation behind a gate or behind a stuck one of its strand. -/
def State.stickTile (s : State) (k : Stuck) (t : TileOp) : Stuck :=
  if t.gates.any (s.gateStuck k) || s.tileOps.any (fun u => u.key == t.key && decide (u.toid < t.toid) && k.toids.contains u.toid) then
    { k with toids := k.toids ++ [t.toid] }
  else k
/-- Rounds over the operations and the tile operations of a party. -/
def State.stickRounds (s : State) (p : Party) : Nat → Stuck → Stuck
  | 0, k => k
  | n + 1, k =>
    let k1 := (s.ops.filter (fun o => o.party == p)).foldl s.stickOp { toids := k.toids }
    s.stickRounds p n ((s.tileOps.filter (fun t => Party.strand t.key == p)).foldl s.stickTile { k1 with toids := [] })
/-- What of a party is stuck. -/
def State.stuck (s : State) (p : Party) : Stuck :=
  if (s.parkedOps p).isEmpty then {} else s.stickRounds p (s.tileOps.length + 1) {}
/-- The tile operation counts in TOC by itself, not through an operation with parts (R174). -/
def TileOp.lone (t : TileOp) : Bool :=
  match t.kind with | .drainMem _ _ => false | .drainReg _ _ o => o.isNone | _ => true
/-- Counted operations of a class that are stuck (R212, R345). -/
def State.stuckCount (s : State) (p : Party) (c : Cls) : Nat :=
  let k := s.stuck p
  (s.ops.filter (fun o => k.oids.contains o.oid && o.party == p && o.cls == some c)).length +
    (if c = .toc then (s.tileOps.filter (fun t => k.toids.contains t.toid && t.lone)).length else 0)

/-- A limit of a WAIT (R224): LDC, STC, CPC, TOC from the top; 63 places no condition. -/
def limitOf (l : BitVec 24) (c : Cls) : Nat :=
  match c with
  | .ldc => bitsOf 18 6 l.toNat | .stc => bitsOf 12 6 l.toNat | .cpc => bitsOf 6 6 l.toNat | .toc => bitsOf 0 6 l.toNat
def classes : List Cls := [.ldc, .stc, .cpc, .toc]
def withinLimit (n lim : Nat) : Bool := lim == 63 || decide (n ≤ lim)
def Strand.meets (x : Strand) (l : BitVec 24) : Bool := classes.all (fun c => withinLimit (x.count c) (limitOf l c))
/-- A WAIT with these limits needs an access of the strand that is parked or waits for one (R212, R345). -/
def State.needsParked (s : State) (key : Nat) (l : BitVec 24) : Bool :=
  classes.any (fun c => !withinLimit (s.stuckCount (.strand key) c) (limitOf l c))
/-- A FENCE.seq needs such an access (R347). -/
def State.gatesNeedParked (s : State) (key : Nat) (gs : List Gate) : Bool := gs.any (s.gateStuck (s.stuck (.strand key)))
def holdNeedsParked (s : State) (key : Nat) (h : Hold) : Bool :=
  match h with
  | .wait l _ _ => s.needsParked key l
  | .halt _ => s.needsParked key 0
  | .fence gs _ _ => s.gatesNeedParked key gs
  | .none => false

/-- The strand enters Held in a hold, or Parked where the hold needs a parked access (R212). -/
def State.enterHold (s : State) (key : Nat) (h : Hold) : State :=
  if holdNeedsParked s key h then
    ((s.rearm key).modStrand key (fun x => { x with st := .parked, hold := h })).raiseFault (key / 16) (key % 16) (s.firstParked (.strand key))
  else s.modStrand key (fun x => { x with st := .held, hold := h })

end Sys2Proof.Machine
end

