-- ==== Sys2Proof/Machine/System.lean ====
section
/-!
DEFINITION. System registers (R55, R131, R196 to R202, R226 to R231), TQRY, EVACK, WAIT (R224) and FENCE (R347).
-/
namespace Sys2Proof.Machine

/-- The order in which turns are disabled (R231). -/
def turnOrder : List Nat := [15, 7, 11, 3, 13, 5, 9, 1, 14, 6, 10, 2, 12, 4, 8]
/-- Turn t is enabled when E turns are (R231). -/
def turnEnabled (e t : Nat) : Bool := !(turnOrder.take (16 - e)).contains t
def turnMask (e : Nat) : Nat := ((List.range 16).filter (turnEnabled e)).foldl (fun a t => a + 2 ^ t) 0

/-- PRIV, STRANDID and EVT as words (R198). -/
def strandId (x : Strand) (slot : Nat) : Word := word (x.cadIdx.toNat * 256 + x.cadNum.toNat * 16 + slot)
def evtWord (x : Strand) (t : Tile) : Word :=
  if x.en then word (t.evp.toNat * 2 ^ 32 + t.pfp.toNat * 2 ^ 16 + t.qp.toNat * 2 ^ 15 + t.dp.toNat * 2 ^ 14 +
    t.ap.toNat * 2 ^ 13 + t.tp.toNat * 2 ^ 12 + 2 ^ 7)
  else 0

/-- The value of a system register for a strand of a tile (R196). -/
def State.sysreg (s : State) (key : Nat) (n : Nat) : Word :=
  let x := s.strand key
  let pt := key / 16
  let t := s.tile pt
  match n with
  | 0x001 => x.fcsr
  | 0x002 => x.modew
  | 0x010 => x.per.setWidth 64
  | 0x011 => x.pph.setWidth 64
  | 0x012 => x.pidx
  | 0x013 => x.ovr.setWidth 64
  | 0x020 => x.vbase.setWidth 64
  | 0x021 => x.vlim.setWidth 64
  | 0x030 => x.xpc
  | 0x031 => x.xcause.setWidth 64
  | 0x032 => x.xval
  | 0x033 => x.xbase
  | 0x034 => evtWord x t
  | 0x035 => x.priv.setWidth 64
  | 0x036 => strandId x (key % 16)
  | 0x037 => x.rcbp
  | 0x100 => s.topo pt
  | 0x101 => s.grade pt
  | 0x102 => t.drift.setWidth 64
  | 0x103 => word (s.rtc pt)
  | 0x104 => word (t.turns * 2 ^ 16 + turnMask t.turns)
  | 0x105 => t.temp.setWidth 64
  | 0x106 => t.mlat
  | 0x107 => t.latedrop.setWidth 64
  | _ => 0

def execSysr (d : BitVec 5) (n : BitVec 12) (s : State) : Out := .next (s.setS d (s.sysreg s.key n.toNat)).done

/-- The registers of Access RWP (R198, R230). -/
def isRwp (n : Nat) : Bool := [0x030, 0x031, 0x032, 0x033, 0x035, 0x107].contains n

/-- The write of a system register other than PER, PPH and FCSR, with the rights already checked; a read-only register
ignores it (R197). -/
def State.writeSysreg (s : State) (n : Nat) (v : Word) : State :=
  let x := s.me
  match n with
  | 0x013 => s.setMe { x with ovr := v.setWidth 32 }
  | 0x030 => s.setMe { x with xpc := v }
  | 0x031 => s.setMe { x with xcause := v.setWidth 6 }
  | 0x032 => s.setMe { x with xval := v }
  | 0x033 => s.setMe { x with xbase := v &&& ~~~6 }
  | 0x035 => s.setMe { x with priv := v.setWidth 4 }
  | 0x107 =>
    -- late replies of the same cycle are counted after the write (R230)
    let c := s.cycle s.pt
    s.modTile s.pt (fun t =>
      { t with latedrop := BitVec.ofNat 32 (min 0xFFFFFFFF (v.toNat % 2 ^ 32 + (if t.lateAt = c then t.lateNow else 0))) })
  | _ => s

def execSysw (a : BitVec 5) (n : BitVec 12) (s : State) : Out :=
  .next (if isRwp n.toNat && !s.me.p then s.trap causePrivilege (n.setWidth 64) else (s.writeSysreg n.toNat (s.rs a)).done)

/-- C0 after a write of PER: boundary(PIDX) stays, or becomes the current cycle from a PER of 0 (R55). -/
def movedC0 (x : Strand) (per : BitVec 24) (cycle : Nat) : Int :=
  let b : Int := if x.per = 0 then cycle else boundary x x.pidx.toNat
  b - 64 * (x.pph.toNat + x.pidx.toNat * per.toNat : Nat)

def execSyswPer (a : BitVec 5) (s : State) : Out :=
  let v : BitVec 24 := (s.rs a).setWidth 24
  let x := s.me
  let r := s.region x.rcbp.toNat
  .next (
    if v.toNat < r.permin ∨ r.permax < v.toNat ∨ (v ≠ 0 ∧ v.toNat ≤ x.pph.toNat) then s.trap causePrivilege 0x010
    else if v = 0 then (s.setMe { x with per := 0, due := none }).done
    else
      let c0 := movedC0 x v (s.cycle s.pt)
      -- a boundary that still waits for NBRTC moves as C0 does (log 11); from a PER of 0 a new body starts (R55, R63)
      (s.setMe { x with per := v, c0 := c0, due := x.due.map (fun n => (n.1, n.2 + x.c0 - c0))
                        busy := x.busy && x.per != 0 }).done)

def execSyswPph (a : BitVec 5) (s : State) : Out :=
  let v : BitVec 24 := (s.rs a).setWidth 24
  let x := s.me
  .next (if x.per ≠ 0 ∧ x.per.toNat ≤ v.toNat then s.trap causePrivilege 0x011 else (s.setMe { x with pph := v }).done)

/-- FCSR takes the flags, and rm where it is a mode (R131). -/
def fcsrWrite (old v : Word) : Word :=
  let rm := if bitsOf 8 3 v.toNat ≤ 4 then bitsOf 8 3 v.toNat else bitsOf 8 3 old.toNat
  word (rm * 256 + v.toNat % 64)
/-- Flags of completed operations that no WAIT covers yet: they count as raised after a SYSW (R132, log 106). -/
def Strand.late (x : Strand) : BitVec 6 := x.lateTo.foldl (fun a f => a ||| f) (x.lateLd ||| x.lateSt)
def execSyswFcsr (a : BitVec 5) (s : State) : Out :=
  .next (s.setMe { s.me with fcsr := fcsrWrite s.me.fcsr (s.rs a) ||| s.me.late.setWidth 64 }).done
/-- Tile operations of a strand that are still to be applied. -/
def State.unapplied (s : State) (key : Nat) : Nat := (s.tileOps.filter (fun o => o.key == key)).length
/-- A WAIT with these limits has released the strand: a class limit of 0 covers its loads and stores; of the tile operations, which
are applied in order, it covers all but as many of the newest as may still be open, u of them not yet applied (R132, R161, R224). -/
def Strand.covered (x : Strand) (u : Nat) (l : BitVec 24) : Strand :=
  { x with lateLd := if limitOf l .ldc = 0 then 0 else x.lateLd
           lateSt := if limitOf l .stc = 0 then 0 else x.lateSt
           lateTo := if limitOf l .toc = 63 then x.lateTo else x.lateTo.take (limitOf l .toc - u) }

def execTqry (d a : BitVec 5) (s : State) : Out :=
  let sel := (s.rs a).toNat
  .next (s.setS d (match sel % 256 with
    | 0 => s.topo s.pt
    | 1 => s.dieWord (bitsOf 8 7 sel)
    | _ => BitVec.allOnes 64)).done

def execEvack (a : BitVec 5) (s : State) : Out :=
  let v := (s.rs a).toNat
  let i := v % 32
  let kind := bitsOf 5 3 v
  .next (
    if !s.me.en then s.trap causePrivilege 0
    else
      let s1 := s.modTile s.pt (fun t =>
        { t.ack (s.cycle s.pt) kind (if kind = 1 ∨ kind = 6 then i else 0) with
          qpClear := if kind = 2 then some (s.cycle s.pt) else t.qpClear })
      let key := s.pt * 16 + i
      let p := Party.strand key
      let x := s1.strand key
      let s2 := if kind == 1 && bitOf 8 v && decide (i < 16) && (x.st == .parked || x.st == .held) &&
          s1.within x.rcbp.toNat s.me.rcbp.toNat && !(s1.parkedOps p).isEmpty then s1.replay p else s1
      let s3 := if kind == 1 && decide (i < 16) && !(s2.parkedOps p).isEmpty then s2.raiseFault s.pt i (s2.firstParked p) else s2
      s3.done)

/-- A WAIT that does not hold goes on; one that does leaves the strand Held or Parked (R224). A pass over loads that were
uncorrectable traps in place of the release, once for all that are recorded and with the first in XVAL (R206, log 111). -/
def State.waitFor (s : State) (l : BitVec 24) (h : Hold) (pass : State → State) : State :=
  if s.needsParked s.key l then s.done.enterHold s.key h
  else if s.me.meets l then
    match s.me.badLoads with
    | [] => pass s
    | a :: _ => (s.setMe { s.me with badLoads := [] }).trap causeData a
  else s.done.enterHold s.key h

def execWait (a b c d : BitVec 6) (s : State) : Out :=
  let l : BitVec 24 := a ++ b ++ c ++ d
  .next (s.waitFor l (.wait l s.iss.pos s.iss.paired) (fun t => (t.modStrand t.key (fun x => x.covered (t.unapplied t.key) l)).done))

def execHalt (s : State) : Out :=
  .next (s.waitFor 0 (.halt s.iss.pos) (fun t => (t.modStrand t.key (fun x => ({ x with st := .halted } : Strand).covered 0 0)).done))

/-- The earlier accesses of a FENCE as needs (R347). -/
def State.fenceNeeds (s : State) (set : BitVec 4) : List Need :=
  s.pendingClasses (.strand s.key) (set.getLsbD 0) (set.getLsbD 1) (set.getLsbD 2)

def execFence (o : BitVec 3) (g : BitVec 5) (set : BitVec 4) (s : State) : Out :=
  let scope := s.scope s.key g.toNat
  let me := Party.strand s.key
  let r := set.getLsbD 0; let w := set.getLsbD 1; let e := set.getLsbD 2; let x := set.getLsbD 3
  let needs := if o = 1 then s.pendingClasses me r false false else s.fenceNeeds set
  let gate : Gate := { needs := needs, scope := scope, own := true }
  let rec' : GateRec := { gate := gate, r := r && o != 2, w := w, e := e, x := x }
  let s1 := if needs.isEmpty then s else s.modStrand s.key (fun y => { y with gates := y.gates ++ [rec'] })
  let hold : Gate := { gate with own := false }
  .next (
    if o = 4 ∧ needs.any (s.needOpen scope) = true then s1.done.enterHold s.key (.fence [hold] s.iss.pos s.iss.paired)
    else s1.done)

end Sys2Proof.Machine
end

