-- ==== Sys2Proof/Machine/Float.lean ====
section
/-!
DEFINITION. Floating-point formats, exact values, rounding, conversions and the arithmetic of R115 to R129, R135 to R138
and R150. A result is its bit pattern with the flags it raises: bit 0 NV, 1 DZ, 2 OF, 3 UF, 4 NX, 5 SF (R130).
-/
namespace Sys2Proof.Machine

abbrev Flags := BitVec 6
def flagNV : Flags := 1
def flagDZ : Flags := 2
def flagOF : Flags := 4
def flagUF : Flags := 8
def flagNX : Flags := 16
def flagSF : Flags := 32

/-- Which special values a format has (R117). -/
inductive Special where
  | ieee | e4m3 | finite
  deriving DecidableEq, Repr

/-- Exponent bits, fraction bits, bias and special values of a format (R116). -/
structure FFmt where
  e : Nat
  f : Nat
  bias : Nat
  special : Special
  deriving DecidableEq, Repr

/-- The 4-bit codes of R77. -/
def ffmt (code : Nat) : FFmt :=
  match code with
  | 0 => ⟨11, 52, 1023, .ieee⟩
  | 1 => ⟨8, 23, 127, .ieee⟩
  | 2 => ⟨5, 10, 15, .ieee⟩
  | 3 => ⟨8, 7, 127, .ieee⟩
  | 4 => ⟨4, 3, 7, .e4m3⟩
  | 5 => ⟨5, 2, 15, .ieee⟩
  | 6 => ⟨3, 2, 3, .finite⟩
  | 7 => ⟨2, 3, 1, .finite⟩
  | _ => ⟨2, 1, 1, .finite⟩
def f64 : FFmt := ffmt 0
def f32 : FFmt := ffmt 1
/-- The float lane codes of R77: 0 BF16, 1 F16, 2 F32, 3 F64. -/
def laneFmt (w : BitVec 2) : FFmt := ffmt (3 - w.toNat)
def FFmt.bits (t : FFmt) : Nat := 1 + t.e + t.f

/-- A value that a pattern has. A NaN keeps its payload at the top of 51 bits below the quiet bit, so that payloads of
one format compare as R127 says and move between widths as R129 says. -/
inductive FVal where
  | nan (neg signalling : Bool) (payload : Nat)
  | inf (neg : Bool)
  | num (neg : Bool) (m : Nat) (e : Int)
  deriving DecidableEq, Repr

/-- The value of a pattern (R115, R117). Bits above the format's are ignored (R119). -/
def FFmt.decode (t : FFmt) (x : Nat) : FVal :=
  let neg := bitOf (t.e + t.f) x
  let ex := bitsOf t.f t.e x
  let fr := x % 2 ^ t.f
  let top := 2 ^ t.e - 1
  if t.special = .ieee ∧ ex = top then
    (if fr = 0 then .inf neg else .nan neg (!bitOf (t.f - 1) fr) (fr % 2 ^ (t.f - 1) * 2 ^ (52 - t.f)))
  else if t.special = .e4m3 ∧ ex = top ∧ fr = 2 ^ t.f - 1 then .nan neg false 0
  else if ex = 0 then .num neg fr (1 - (t.bias : Int) - t.f)
  else .num neg (2 ^ t.f + fr) ((ex : Int) - t.bias - t.f)

def FFmt.pack (t : FFmt) (neg : Bool) (ex fr : Nat) : Nat := neg.toNat * 2 ^ (t.e + t.f) + ex * 2 ^ t.f + fr
/-- The canonical NaN of a format; formats without a NaN give +0 (R117, R129). -/
def FFmt.canonical (t : FFmt) : Nat :=
  match t.special with
  | .ieee => t.pack false (2 ^ t.e - 1) (2 ^ (t.f - 1))
  | .e4m3 => t.pack false (2 ^ t.e - 1) (2 ^ t.f - 1)
  | .finite => 0
/-- A quiet NaN with a payload as FVal holds it. -/
def FFmt.nan (t : FFmt) (neg : Bool) (payload : Nat) : Nat :=
  match t.special with
  | .ieee => t.pack neg (2 ^ t.e - 1) (2 ^ (t.f - 1) + payload / 2 ^ (52 - t.f))
  | .e4m3 => t.pack neg (2 ^ t.e - 1) (2 ^ t.f - 1)
  | .finite => 0
def FFmt.inf (t : FFmt) (neg : Bool) : Nat := t.pack neg (2 ^ t.e - 1) 0
def FFmt.zero (t : FFmt) (neg : Bool) : Nat := t.pack neg 0 0
/-- Exponent field, fraction and significand of the largest finite value (R116). -/
def FFmt.maxEx (t : FFmt) : Nat := if t.special = .ieee then 2 ^ t.e - 2 else 2 ^ t.e - 1
def FFmt.maxFr (t : FFmt) : Nat := if t.special = .e4m3 then 2 ^ t.f - 2 else 2 ^ t.f - 1
def FFmt.largest (t : FFmt) (neg : Bool) : Nat := t.pack neg t.maxEx t.maxFr

/-! ## Rounding (R123) -/

/-- A magnitude m x 2^e; with `more` it lies strictly between that and (m + 1) x 2^e. -/
structure Mag where
  m : Nat
  e : Int
  more : Bool := false
  deriving DecidableEq, Repr

/-- Bits of a number. -/
def bitLen (m : Nat) : Nat := if m = 0 then 0 else Nat.log2 m + 1

/-- The magnitude in units of 2^q, rounded, and whether that is inexact. Modes are the codes of R76. -/
def Mag.roundAt (x : Mag) (mode : Nat) (neg : Bool) (q : Int) : Nat × Bool :=
  if q ≤ x.e then (x.m * 2 ^ (x.e - q).toNat, x.more)
  else
    let sh := (q - x.e).toNat
    let t := x.m / 2 ^ sh
    let r := x.m % 2 ^ sh
    let half := 2 ^ (sh - 1)
    let inexact := r != 0 || x.more
    let above := decide (half < r) || (r == half && x.more)
    let tie := r == half && !x.more
    let up := match mode with
      | 0 => above || (tie && bitOf 0 t)
      | 1 => false
      | 2 => !neg && inexact
      | 3 => neg && inexact
      | _ => above || tie
    (t + up.toNat, inexact)

/-- round(fmt, mode, x) of a nonzero magnitude with its flags (R123, R125). -/
def FFmt.roundMag (t : FFmt) (mode : Nat) (sat : Bool) (neg : Bool) (x : Mag) : Nat × Flags :=
  let top := x.e + (bitLen x.m : Int) - 1
  let emin : Int := 1 - (t.bias : Int)
  let u := x.roundAt mode neg (top - t.f)
  let tiny := decide (top - t.f + (bitLen u.1 : Int) - 1 < emin)
  let q := (if top < emin then emin else top) - t.f
  let r := x.roundAt mode neg q
  -- a carry out of the significand moves it up by one place
  let m := if 2 ^ (t.f + 1) ≤ r.1 then r.1 / 2 else r.1
  let q' := if 2 ^ (t.f + 1) ≤ r.1 then q + 1 else q
  let ex := (q' + t.f + t.bias).toNat
  if decide (2 ^ t.f ≤ m) && (decide (t.maxEx < ex) || (ex == t.maxEx && decide (t.maxFr < m - 2 ^ t.f))) then
    if sat then (t.largest neg, flagOF ||| flagNX ||| flagSF)
    else match t.special with
      | .ieee =>
        let inf := match mode with | 1 => false | 2 => !neg | 3 => neg | _ => true
        (if inf then t.inf neg else t.largest neg, flagOF ||| flagNX)
      | .e4m3 => (t.nan neg 0, flagOF ||| flagNX)
      | .finite => (t.largest neg, flagOF ||| flagNX ||| flagSF)
  else
    let fl := if r.2 then (if tiny then flagNX ||| flagUF else flagNX) else 0
    (if m < 2 ^ t.f then t.pack neg 0 m else t.pack neg ex (m - 2 ^ t.f), fl)

/-- round of a magnitude that may be 0, the zero keeping a sign. -/
def FFmt.round (t : FFmt) (mode : Nat) (sat : Bool) (neg : Bool) (x : Mag) : Nat × Flags :=
  if x.m = 0 ∧ x.more = false then (t.zero neg, 0) else t.roundMag mode sat neg x

/-! ## Sums (R124) -/

/-- A finite term: sign, significand and exponent. -/
abbrev Term := Bool × Nat × Int
def leastExp (ts : List Term) : Int := ts.foldl (fun a t => min a t.2.2) ((ts.head?.map (fun t => t.2.2)).getD 0)
/-- A sum in units of 2^e, e at most every exponent. -/
def sumAt (e : Int) (ts : List Term) : Int :=
  ts.foldl (fun (a : Int) t => a + (if t.1 then -1 else 1) * (t.2.1 * 2 ^ (t.2.2 - e).toNat : Nat)) 0
/-- Sign of a sum that is 0 (R124). -/
def zeroSign (mode : Nat) (ts : List Term) : Bool :=
  if ts.all (fun t => t.2.1 == 0) && ts.all (fun t => t.1) then true
  else if ts.all (fun t => t.2.1 == 0) && ts.all (fun t => !t.1) then false
  else mode == 3
/-- The exact sum of terms, rounded once. -/
def FFmt.sum (t : FFmt) (mode : Nat) (ts : List Term) : Nat × Flags :=
  let e := leastExp ts
  let v := sumAt e ts
  if v = 0 then (t.zero (zeroSign mode ts), 0) else t.roundMag mode false (decide (v < 0)) { m := v.natAbs, e := e }

/-! ## NaNs (R127) -/

def FVal.isNan (v : FVal) : Bool := match v with | .nan _ _ _ => true | _ => false
def FVal.isInf (v : FVal) : Bool := match v with | .inf _ => true | _ => false
def FVal.isZero (v : FVal) : Bool := match v with | .num _ 0 _ => true | _ => false
def FVal.signalling (v : FVal) : Bool := match v with | .nan _ sg _ => sg | _ => false
def FVal.neg (v : FVal) : Bool := match v with | .nan n _ _ => n | .inf n => n | .num n _ _ => n

/-- NV for a signalling operand. -/
def sigFlag (vs : List FVal) : Flags := if vs.any FVal.signalling then flagNV else 0
/-- The sign and payload of the NaN with the smallest payload, the earliest of equals. -/
def leastNan : List FVal → Option (Bool × Nat)
  | [] => none
  | .nan n _ p :: r =>
    match leastNan r with
    | some (n', p') => if p ≤ p' then some (n, p) else some (n', p')
    | none => some (n, p)
  | _ :: r => leastNan r
/-- The NaN result of operands with at least one NaN. -/
def FFmt.pickNan (t : FFmt) (vs : List FVal) : Nat × Flags :=
  match leastNan vs with
  | some (n, p) => (t.nan n p, sigFlag vs)
  | none => (t.canonical, flagNV)
def FFmt.invalid (t : FFmt) : Nat × Flags := (t.canonical, flagNV)

/-! ## Arithmetic (R134, R148) -/

/-- The sum of operands with no NaN, each taken with a sign change. -/
def FFmt.addVals (t : FFmt) (mode : Nat) (a b : FVal) : Nat × Flags :=
  match a, b with
  | .inf n, .inf n' => if n = n' then (t.inf n, 0) else t.invalid
  | .inf n, _ => (t.inf n, 0)
  | _, .inf n => (t.inf n, 0)
  | .num n m e, .num n' m' e' => t.sum mode [(n, m, e), (n', m', e')]
  | _, _ => t.invalid
def FVal.flip (v : FVal) (c : Bool) : FVal :=
  match v with
  | .nan n sg p => .nan n sg p
  | .inf n => .inf (n != c)
  | .num n m e => .num (n != c) m e
def FVal.zeroInf (a b : FVal) : Bool := (a.isZero && b.isInf) || (a.isInf && b.isZero)
/-- The exact product of operands with no NaN that are not 0 and infinity. -/
def FVal.mul (a b : FVal) : FVal :=
  match a, b with
  | .num n m e, .num n' m' e' => .num (n != n') (m * m') (e + e')
  | a, b => .inf (a.neg != b.neg)

def FFmt.addPat (t : FFmt) (mode : Nat) (minus : Bool) (a b : Nat) : Nat × Flags :=
  let x := t.decode a; let y := t.decode b
  if x.isNan || y.isNan then t.pickNan [x, y] else t.addVals mode x (y.flip minus)
def FFmt.mulPat (t : FFmt) (mode : Nat) (a b : Nat) : Nat × Flags :=
  let x := t.decode a; let y := t.decode b
  if x.isNan || y.isNan then t.pickNan [x, y]
  else if x.zeroInf y then t.invalid
  else match x.mul y with
    | .num n m e => t.round mode false n { m := m, e := e }
    | v => (t.inf v.neg, 0)
/-- Plus or minus a x b plus or minus c, rounded once. -/
def FFmt.fmaPat (t : FFmt) (mode : Nat) (negProd negAdd : Bool) (a b c : Nat) : Nat × Flags :=
  let x := t.decode a; let y := t.decode b; let z := t.decode c
  if x.isNan || y.isNan || z.isNan then
    let r := t.pickNan [x, y, z]
    (r.1, if x.zeroInf y then r.2 ||| flagNV else r.2)
  else if x.zeroInf y then t.invalid
  else t.addVals mode ((x.mul y).flip negProd) (z.flip negAdd)

/-- A quotient of nonzero significands to more bits than any format keeps. -/
def quotient (m : Nat) (e : Int) (m' : Nat) (e' : Int) : Mag :=
  { m := m * 2 ^ 128 / m', e := e - e' - 128, more := m * 2 ^ 128 % m' != 0 }
def FFmt.divPat (t : FFmt) (mode : Nat) (a b : Nat) : Nat × Flags :=
  let x := t.decode a; let y := t.decode b
  if x.isNan || y.isNan then t.pickNan [x, y]
  else match x, y with
    | .inf n, y => if y.isInf then t.invalid else (t.inf (n != y.neg), 0)
    | x, .inf n => (t.zero (x.neg != n), 0)
    | .num n m e, .num n' m' e' =>
      if m' = 0 then (if m = 0 then t.invalid else (t.inf (n != n'), flagDZ))
      else if m = 0 then (t.zero (n != n'), 0)
      else t.round mode false (n != n') (quotient m e m' e')
    | _, _ => t.invalid

/-- The largest r below 2^n with r x r at most x, found bit by bit from r0. -/
def isqrtFrom (x : Nat) : Nat → Nat → Nat
  | 0, r => r
  | n + 1, r => isqrtFrom x n (if (r + 2 ^ n) * (r + 2 ^ n) ≤ x then r + 2 ^ n else r)
/-- The integer square root. -/
def isqrt (x : Nat) : Nat := isqrtFrom x (bitLen x / 2 + 1) 0

/-- The square root of a nonzero m x 2^e. -/
def sqrtMag (m : Nat) (e : Int) : Mag :=
  let sh : Nat := if e % 2 = 0 then 128 else 129
  let x := m * 2 ^ sh
  let r := isqrt x
  { m := r, e := (e - (sh : Int)) / 2, more := r * r != x }
def FFmt.sqrtPat (t : FFmt) (mode : Nat) (a : Nat) : Nat × Flags :=
  match t.decode a with
  | .nan n sg p => t.pickNan [.nan n sg p]
  | .inf n => if n then t.invalid else (t.inf false, 0)
  | .num n m e =>
    if m = 0 then (t.zero n, 0) else if n then t.invalid else t.round mode false false (sqrtMag m e)

/-- The order of values that are no NaN, -0 equal to +0: -1, 0 or 1. -/
def FVal.cmp (a b : FVal) : Int :=
  match a, b with
  | .inf n, .inf n' => if n = n' then 0 else if n then -1 else 1
  | .inf n, _ => if n then -1 else 1
  | _, .inf n => if n then 1 else -1
  | .num n m e, .num n' m' e' =>
    let l := min e e'
    let x := sumAt l [(n, m, e)]
    let y := sumAt l [(n', m', e')]
    if x < y then -1 else if x = y then 0 else 1
  | _, _ => 0
/-- The same with -0 below +0 (R135). -/
def FVal.cmpSigned (a b : FVal) : Int :=
  if a.cmp b = 0 then (if a.neg = b.neg then 0 else if a.neg then -1 else 1) else a.cmp b

/-- FMIN and FMAX (R135). -/
def FFmt.minMaxPat (t : FFmt) (max : Bool) (a b : Nat) : Nat × Flags :=
  let x := t.decode a; let y := t.decode b
  let a := a % 2 ^ t.bits; let b := b % 2 ^ t.bits
  if x.isNan && y.isNan then t.pickNan [x, y]
  else if x.isNan then (b, sigFlag [x])
  else if y.isNan then (a, sigFlag [y])
  else
    let c := x.cmpSigned y
    (if max then (if c < 0 then b else a) else (if 0 < c then b else a), 0)

/-- The class word of R136. -/
def FFmt.classPat (t : FFmt) (a : Nat) : Nat :=
  match t.decode a with
  | .nan _ sg _ => if sg then 2 ^ 8 else 2 ^ 9
  | .inf n => if n then 2 ^ 0 else 2 ^ 7
  | .num n m _ =>
    if m = 0 then (if n then 2 ^ 3 else 2 ^ 4)
    else if m < 2 ^ t.f then (if n then 2 ^ 2 else 2 ^ 5)
    else (if n then 2 ^ 1 else 2 ^ 6)

/-- The relations of R137. -/
def FFmt.cmpPat (t : FFmt) (cond : Nat) (a b : Nat) : Bool × Flags :=
  let x := t.decode a; let y := t.decode b
  let un := x.isNan || y.isNan
  let c := x.cmp y
  let fl := if cond = 2 ∨ cond = 3 then (if un then flagNV else 0) else sigFlag [x, y]
  (match cond with
    | 0 => !un && c == 0
    | 1 => un || c != 0
    | 2 => !un && decide (c < 0)
    | 3 => !un && decide (c ≤ 0)
    | 4 => un
    | _ => !un, fl)

/-- A magnitude kept to p significant bits, to nearest even, with an unbounded exponent (R150). -/
def Mag.keep (x : Mag) (p : Nat) : Mag :=
  let q := x.e + (bitLen x.m : Int) - p
  if q ≤ x.e then x else { m := (x.roundAt 0 false q).1, e := q }
/-- Significand bits that VFRCP and VFRSQ keep (R150). -/
def FFmt.approxBits (t : FFmt) : Nat := min 12 (t.f + 1)
/-- 1 ÷ sqrt(m x 2^e). -/
def rsqMag (m : Nat) (e : Int) : Mag :=
  let k : Nat := if e % 2 = 0 then 256 else 257
  let r := isqrt (2 ^ k / m)
  { m := r, e := -((e + (k : Int)) / 2), more := r * r * m != 2 ^ k }
/-- VFRCP and VFRSQ (R150). -/
def FFmt.recipPat (t : FFmt) (rsq : Bool) (a : Nat) : Nat × Flags :=
  match t.decode a with
  | .nan n sg p => t.pickNan [.nan n sg p]
  | .inf n => if rsq && n then t.invalid else (t.zero n, 0)
  | .num n m e =>
    if m = 0 then (t.inf n, flagDZ)
    else if rsq && n then t.invalid
    else
      let y := (if rsq then rsqMag m e else quotient 1 0 m e).keep t.approxBits
      let r := t.round 0 false n y
      (r.1, if (t.decode r.1).isInf then flagOF else 0)

/-! ## Conversions (R125, R126, R129) -/

/-- A NaN that is converted (R129). One that keeps its format is quieted with its payload, and a signalling one raises NV
(log 79). -/
def FFmt.convNan (dst src : FFmt) (neg signalling : Bool) (payload : Nat) : Nat × Flags :=
  let fl := if signalling then flagNV else 0
  if dst.special = .finite then (0, fl ||| flagNV)
  else if dst = src then (dst.nan neg payload, fl)
  else if dst = f64 ∨ dst = f32 then (dst.nan neg payload, fl)
  else (dst.canonical, fl)
/-- Converts a pattern between float formats. -/
def FFmt.convert (dst src : FFmt) (mode : Nat) (sat : Bool) (a : Nat) : Nat × Flags :=
  match src.decode a with
  | .nan n sg p => dst.convNan src n sg p
  | .inf n =>
    if sat then (dst.largest n, flagSF ||| flagNX)
    else match dst.special with
      | .ieee => (dst.inf n, 0)
      | .e4m3 => (dst.nan n 0, flagNV)
      | .finite => (dst.largest n, flagNV ||| flagSF)
  | .num n m e => dst.round mode sat n { m := m, e := e }

/-- Float to integer of n bits (R126), as the low n bits of the result. -/
def FFmt.toInt (t : FFmt) (n : Nat) (signed : Bool) (mode : Nat) (sat : Bool) (a : Nat) : Nat × Flags :=
  let lo : Int := if signed then -(2 ^ (n - 1) : Nat) else 0
  let hi : Int := if signed then (2 ^ (n - 1) : Nat) - 1 else (2 ^ n : Nat) - 1
  let bad (x : Int) : Nat × Flags := if sat then (ofInt n x, flagNV ||| flagSF) else (2 ^ (n - 1), flagNV)
  match t.decode a with
  | .nan _ _ _ => bad 0
  | .inf s => bad (if s then lo else hi)
  | .num s m e =>
    let r := Mag.roundAt { m := m, e := e } mode s 0
    let v : Int := if s then -(r.1 : Int) else r.1
    if v < lo then bad lo else if hi < v then bad hi else (ofInt n v, if r.2 then flagNX else 0)
/-- Integer to float (R138, R153). -/
def FFmt.ofInteger (t : FFmt) (mode : Nat) (sat : Bool) (v : Int) : Nat × Flags :=
  t.round mode sat (decide (v < 0)) { m := v.natAbs, e := 0 }

/-- x times 2^k (R155): NaN lanes keep R127, a scale of 0xFF gives the canonical NaN (R118). -/
def FFmt.scalePat (t : FFmt) (mode : Nat) (sat : Bool) (x : Nat) (a : Nat) : Nat × Flags :=
  if x = 255 then t.invalid
  else match t.decode a with
    | .nan n sg p => t.pickNan [.nan n sg p]
    | .inf n => if sat then (t.largest n, flagSF ||| flagNX) else (t.inf n, 0)
    | .num n m e => t.round mode sat n { m := m, e := e + x - 127 }

end Sys2Proof.Machine
end

