-- ==== Sys2Proof/Machine/TileOps.lean ====
section
/-!
DEFINITION. Matrix mode: the accumulator grid (R162, R163) and the application of a tile operation to it (R167 to R174).
-/
namespace Sys2Proof.Machine

/-! ## MODEW and the grid -/

def modeM (w : Word) : Bool := w.getLsbD 16
def modeMf (w : Word) : Nat := bitsOf 12 4 w.toNat
def modeVb (w : Word) : Nat := w.toNat % 128
def modeKc (w : Word) : Nat := bitsOf 32 32 w.toNat
def modeWord (kc mf vb : Nat) : Word := word (kc * 2 ^ 32 + 2 ^ 16 + mf * 2 ^ 12 + vb)

/-- Classes of R163 by format code: 0 G64, 1 G32, 2 GN. -/
def gridClass (mf : Nat) : Nat := if mf < 2 then mf else 2
def edge (mf : Nat) : Nat := match gridClass mf with | 0 => 8 | 1 => 16 | _ => 32
def blockSize (mf : Nat) : Nat := match gridClass mf with | 0 => 8 | 1 => 16 | _ => 64
/-- The format of a cell. -/
def cellFmt (mf : Nat) : FFmt := if gridClass mf = 0 then f64 else f32
def cellBits (mf : Nat) : Nat := if gridClass mf = 0 then 64 else 32
/-- Register of the block and lane that hold cell (i, j), and the cell that a lane holds (R163). -/
def cellPlace (mf i j : Nat) : Nat × Nat := if gridClass mf = 2 then (2 * i + j / 16, j % 16) else (i, j)
def placeCell (mf r l : Nat) : Nat × Nat := if gridClass mf = 2 then (r / 2, 16 * (r % 2) + l) else (r, l)

/-- The cells of the strand's grid by register and lane, and one cell. -/
def State.gridRegs (s : State) (key : Nat) : List Nat :=
  let w := (s.strand key).modew
  (List.range (blockSize (modeMf w))).map (fun r => (s.vget key (modeVb w + r)).toNat)
def cellOf (mf : Nat) (regs : List Nat) (i j : Nat) : Nat :=
  let p := cellPlace mf i j
  lane (cellBits mf) p.2 (regs.getD p.1 0)

/-- Every cell replaced by a function of its place and value; the flags are combined. -/
def State.gridMap (s : State) (key : Nat) (f : Nat → Nat → Nat → Nat × Flags) : State × Flags :=
  let w := (s.strand key).modew
  let mf := modeMf w
  let n := cellBits mf
  let regs := s.gridRegs key
  let out := (List.range regs.length).map (fun r =>
    (List.range (512 / n)).map (fun l =>
      let p := placeCell mf r l
      f p.1 p.2 (lane n l (regs.getD r 0))))
  let s1 := ((List.range out.length).zip out).foldl
    (fun (t : State) q => t.vset key (modeVb w + q.1) (BitVec.ofNat 512 (ofLanes n (q.2.map Prod.fst)))) s
  (s1, out.flatten.foldl (fun a q => a ||| q.2) 0)

/-- A cell inside the row and column masks. -/
def live (k6 k7 : Word) (i j : Nat) : Bool := k6.getLsbD i && k7.getLsbD j

/-- Flags raised into the FCSR of a strand (R132). -/
def State.raiseFor (s : State) (key : Nat) (f : Flags) : State :=
  s.modStrand key (fun x => { x with fcsr := x.fcsr ||| f.setWidth 64 })
/-- Flags of a tile operation, which no WAIT covers yet; TOC has at most 63 that a WAIT can leave uncovered (R132, R161). -/
def State.raiseTile (s : State) (key : Nat) (f : Flags) : State :=
  (s.raiseFor key f).modStrand key (fun x => { x with lateTo := (f :: x.lateTo).take Config.counterMax })

/-! ## Outer products (R168 to R171) -/

/-- Products of one outer product: k of R168. -/
def mopK (mf : Nat) : Nat := if mf < 4 then 1 else if mf < 8 then 2 else 4
/-- Bits of an element in an operand register. -/
def mopElemBits (mf : Nat) : Nat := match mf with | 0 => 64 | 1 => 32 | 2 => 16 | 3 => 16 | 8 => 4 | _ => 8
/-- Element e of an operand register, decoded. -/
def mopElem (mf : Nat) (v : VReg) (e : Nat) : FVal := (ffmt mf).decode (lane (mopElemBits mf) e v.toNat)
/-- Scale i of a q register (R166). -/
def scaleOf (q : Wide) (i : Nat) : Nat := lane 8 i q.toNat

/-- The payload of a NaN that MOP makes (R128), in the cell format. -/
def madeNan (mf die tile slot k : Nat) : Nat :=
  if gridClass mf = 0 then 0x7FF8000000000000 + die * 2 ^ 44 + tile * 2 ^ 36 + slot * 2 ^ 32 + min k 0xFFFFFFFF
  else 0x7FC00000 + die * 2 ^ 15 + tile * 2 ^ 7 + min k 127

/-- A NaN element as it enters a cell (R171): in GN as the canonical NaN. -/
def enterNan (mf : Nat) (v : FVal) : FVal :=
  match v with
  | .nan n sg p => if gridClass mf = 2 then .nan false sg 0 else .nan n sg p
  | v => v

/-- The products of a cell as pairs of elements with their index, and the power of two of their scales. -/
structure CellIn where
  c    : FVal
  ab   : List (FVal × FVal)
  exp  : Int
  /-- a scale of the cell is 0xFF -/
  nanScale : Bool

/-- The first product, in t order, that makes a NaN (R171): 0 x infinity, or an infinity against the first one. -/
def firstBad : Option Bool → Nat → List FVal → Option Nat
  | _, _, [] => none
  | first, t, v :: r =>
    match v with
    | .nan _ _ _ => some t
    | .inf n => match first with
      | some n0 => if n = n0 then firstBad first (t + 1) r else some t
      | none => firstBad (some n) (t + 1) r
    | .num _ _ _ => firstBad first (t + 1) r

/-- The new value of a live cell (R170, R171). -/
def mopCell (mf : Nat) (neg : Bool) (mode : Nat) (made : Nat → Nat) (x : CellIn) : Nat × Flags :=
  let t := cellFmt mf
  let zi := x.ab.any (fun p => p.1.zeroInf p.2)
  let nans := (x.c :: (x.ab.map (fun p => [enterNan mf p.1, enterNan mf p.2])).flatten) ++
    (if x.nanScale then [FVal.nan false false 0] else [])
  if nans.any FVal.isNan then
    let r := t.pickNan nans
    (r.1, r.2 ||| (if zi || x.nanScale then flagNV else 0))
  else
    -- the signed products, 0 x infinity as a NaN
    let ps := x.ab.map (fun p => if p.1.zeroInf p.2 then FVal.nan false false 0 else
      match (p.1.mul p.2).flip neg with | .num n m e => .num n m (e + x.exp) | v => v)
    let first := match x.c with | .inf n => some n | _ => none
    match firstBad first 0 ps with
    | some k => (made k, flagNV)
    | none =>
      match (x.c :: ps).find? FVal.isInf with
      | some v => (t.inf v.neg, 0)
      | none => t.sum mode ((x.c :: ps).map (fun v => match v with | .num n m e => (n, m, e) | _ => (false, 0, 0)))

/-- MOP and MOPN at their application. -/
def State.applyMop (s : State) (o : TileOp) (neg : Bool) (mf : Nat) (a b : VReg) (qa qb : Wide) (kc : Nat) : State × Flags :=
  let k := mopK mf
  let lt := (s.logTile (o.key / 16)).getD 0
  let g := modeMf (s.strand o.key).modew
  let scaled := 4 ≤ mf
  s.gridMap o.key (fun i j c =>
    if live o.k6 o.k7 i j then
      mopCell mf neg o.rm.toNat (fun t => madeNan g (lt / 144) (lt % 144) (o.key % 16) (kc + t))
        { c := (cellFmt g).decode c
          ab := (List.range k).map (fun t => (mopElem mf a (k * i + t), mopElem mf b (k * j + t)))
          exp := if scaled then (scaleOf qa i : Int) + scaleOf qb j - 254 else 0
          nanScale := scaled && (scaleOf qa i == 255 || scaleOf qb j == 255) }
    else (c, 0))

/-! ## Draining (R173, R174) -/

/-- Size in half bytes of a drained element. -/
def drainHalves (df : Nat) : Nat := match df with | 0 => 16 | 1 => 8 | 2 => 4 | 3 => 4 | 8 => 1 | _ => 2
def drainBytes (mf df : Nat) : Nat := edge mf * edge mf * drainHalves df / 2
/-- Registers that a drain writes. -/
def drainRegs (mf df : Nat) : Nat := (drainBytes mf df + 63) / 64

/-- The image of the grid in a format, with its flags. -/
def drainImage (mf df mode : Nat) (regs : List Nat) : List Byte × Flags :=
  let e := edge mf
  let cs := (List.range (e * e)).map (fun x => (ffmt df).convert (cellFmt mf) mode false (cellOf mf regs (x / e) (x % e)))
  (toBytes (drainBytes mf df) (ofLanes (4 * drainHalves df) (cs.map Prod.fst)), cs.foldl (fun a q => a ||| q.2) 0)

/-- The merge value: the largest magnitude of the cells, or the canonical NaN (R174). -/
def drainMax (mf : Nat) (regs : List Nat) : Nat :=
  let t := cellFmt mf
  let e := edge mf
  let cs := (List.range (e * e)).map (fun x => cellOf mf regs (x / e) (x % e) % 2 ^ (t.e + t.f))
  if cs.any (fun c => (t.decode c).isNan) then t.canonical else cs.foldl max 0

/-! ## Application (R167) -/

/-- One less in TOC. -/
def State.tocDone (s : State) (key : Nat) : State := s.subCount key .toc

def State.modOp (s : State) (oid : Nat) (f : Op → Op) : State :=
  { s with ops := s.ops.map (fun o => if o.oid == oid then f o else o) }
def State.op? (s : State) (oid : Nat) : Option Op := s.ops.find? (fun o => o.oid == oid)

/-- A tile operation is applied, and leaves the strand's queue. -/
def State.applyTile (s : State) (o : TileOp) : State :=
  let s0 := { s with tileOps := s.tileOps.filter (fun q => q.toid != o.toid) }
  let mf := modeMf (s.strand o.key).modew
  let regs := s.gridRegs o.key
  let mode := o.rm.toNat
  match o.kind with
  | .zero => ((s0.gridMap o.key (fun _ _ _ => (0, 0))).1.raiseTile o.key 0).tocDone o.key
  | .trn => ((s0.gridMap o.key (fun i j _ => (cellOf mf regs j i, 0))).1.raiseTile o.key 0).tocDone o.key
  | .scale x =>
    let r := s0.gridMap o.key (fun i j c => if live o.k6 o.k7 i j then (cellFmt mf).mulPat mode c x.toNat else (c, 0))
    (r.1.raiseTile o.key r.2).tocDone o.key
  | .mop neg m a b qa qb kc =>
    let r := s0.applyMop o neg m.toNat a b qa qb kc.toNat
    (r.1.raiseTile o.key r.2).tocDone o.key
  | .drainReg df vd oid =>
    let im := drainImage mf df.toNat mode regs
    let n := drainRegs mf df.toNat
    let s1 := ((List.range n).foldl (fun (t : State) r =>
      t.vset o.key (vd.toNat + r) (BitVec.ofNat 512 (ofBytes ((im.1.drop (64 * r)).take 64)))) s0).raiseTile o.key im.2
    match oid with
    | none => s1.tocDone o.key
    | some m => match s1.op? m with
      | none => s1
      | some q =>
      -- the merge is posted at application
      let s2 := s1.modOp m (fun q => { q with res := word (drainMax mf regs), later := [] })
      s2.postAll { pid := 0, oid := m, party := .strand o.key, src := o.key / 16, home := .absent, lane := 0, gates := q.gates,
                   cls := clsW, act := .read [], root := q.addr.toNat, write := true } q.later
  | .drainMem df oid =>
    let im := drainImage mf df.toNat mode regs
    (s0.modOp oid (fun q => { q with buf := im.1, res := word (drainMax mf regs) })).raiseTile o.key im.2

/-- The strand's tile operations, oldest first. -/
def State.tileOpsOf (s : State) (key : Nat) : List TileOp := s.tileOps.filter (fun o => o.key == key)
/-- Nothing keeps a tile operation back: no gate of an acquire or a FENCE, or its strand is being evicted, which applies what is
left (R167, log 90). -/
def State.tileFree (s : State) (o : TileOp) : Bool :=
  (s.strand o.key).st == .evicted || o.gates.all (fun g => !s.gateClosed g (.grid (o.key / 16)))
/-- The first n of them are applied, up to one that is kept back. -/
def State.applyTiles (s : State) (key : Nat) : Nat → State
  | 0 => s
  | n + 1 => match s.tileOpsOf key with
    | [] => s
    | o :: _ => if s.tileFree o then (s.applyTile o).applyTiles key n else s

end Sys2Proof.Machine
end

