-- ==== Sys2Proof/Machine/Context.lean ====
section
/-!
DEFINITION. The context cache: EVICT, RESUME, CTXSV, CTXLD and the context image (R214 to R219).
-/
namespace Sys2Proof.Machine

/-- A status of code and slot or entry, 0 where a code names none (R215, R216, log 108). -/
def status2 (code x : Nat) : Word := word (code + x * 256)

/-- An operation of the issuing strand without parts, performed at its own tile. -/
def State.issueLocal (s : State) (c : Cls) (fin : Ending) (res : Word) : State :=
  s.issueOp { oid := 0, party := .strand 0, rcb := 0, cls := some c, fin := fin, res := res, engine := some (engineHome s.pt) }
    clsE relaxed 0 0 false []

/-- EVICT takes effect at issue, so a gate on it holds the issue (R344, log 90). -/
def execEvict (d a : BitVec 5) (s : State) : Out :=
  let slot := (s.rs a).toNat % 16
  let key := s.pt * 16 + slot
  let t := s.strand key
  let refuse (code : Nat) := (s.issueLocal .cpc (.word d) (status2 code 0)).done
  .next (
    if !s.me.p then s.trap causePrivilege 0
    else if s.full .cpc || s.localGated clsE (engineHome s.pt) then s.block
    else if !(t.st == .running || t.st == .idle || t.st == .held || t.st == .parked) then refuse 1
    else if key = s.key then refuse 2
    else if !s.within t.rcbp.toNat s.me.rcbp.toNat then refuse 3
    else match lowestEntry s s.pt with
      | none => refuse 4
      | some e => ((s.issueLocal .cpc (.evict d e) (status2 0 e)).startEvict key e 0 0 (some s.nextId)).done)

/-! ## RESUME (R216) -/

/-- The slot is kept for the strand of a context: one evicted of the same region, cadence and number (R58, R216). -/
def State.keptFor (s : State) (pt slot : Nat) (x : Strand) : Bool :=
  let y := s.strand (pt * 16 + slot)
  decide (slot < 16) && y.st == .evicted && y.rcbp == x.rcbp && y.cadIdx == x.cadIdx && y.cadNum == x.cadNum
/-- The slot that a context resumes in: its kept slot, its old slot if free, or the lowest free one. -/
def State.resumeSlot (s : State) (pt : Nat) (c : CacheEntry) : Option Nat :=
  let free (i : Nat) : Bool := (s.strand (pt * 16 + i)).st == .unarmed
  if c.kept then (if s.keptFor pt c.slot c.strand then some c.slot else none)
  else if free c.slot then some c.slot
  else findFrom free 0 16

/-- The hold that HREC records, at the position of its word (R206, R215); the fence waits for the accesses replayed from the
record. -/
def recordedHold (x : Strand) (needs : List Need) : Hold :=
  match bitsOf 61 3 x.hrec.toNat with
  | 5 => .wait (x.hrec.setWidth 24) x.holdPos true
  | 6 => .fence [{ needs := needs, scope := .system, own := false }] x.holdPos true
  | _ => .none

/-- The state in which a context comes back (R216); a context from CTXLD has none recorded, and comes back as an Idle one would
where it is periodic (log 10). -/
def resumeState (x : Strand) (cycle : Int) (hold : Hold) : RunState :=
  if hold ≠ .none then .held
  else if x.was == .idle || (x.was == .unarmed && x.per != 0) then
    (if cycle < boundary x x.pidx.toNat then .idle else .running)
  else .running

def rekeyPart (p q : Party) (x : Part) : Part := if x.party == p then { x with party := q } else x
/-- The panel-local operations of one party become those of another, which has none of its own (R214, R216), and so do what the
replay record holds and its held-back releases; a copy to or from another panel that has nothing parked stays with the copy
engine of the tile. -/
def State.rekey (s : State) (p q : Party) : State :=
  { s with ops := (s.ops.filter (fun o => o.party != q)).map (fun o => if o.party == p then { o with party := if o.cross && o.parked.isEmpty then .copy (opTile o) else q, parked := o.parked.map (rekeyPart p q) } else o)
           posts := s.posts.map (rekeyPart p q)
           heldRels := s.heldRels.map (fun r => if r.party == p then { r with party := q } else r) }

/-- Entry e of the tile is resumed into a slot (R216). -/
def State.resumeInto (s : State) (pt e slot : Nat) : State :=
  let c := s.entry pt e
  let key := pt * 16 + slot
  let from' := Party.cached (pt * 32 + e)
  let x := c.strand
  let needs := ((s.parkedOps from').map Op.parked).flatten.map (fun p => Need.part p.pid)
  let hold := recordedHold x needs
  let t := { s.rekey from' (.strand key) with tileOps := s.tileOps.filter (fun o => o.key != key) }
  -- what the record holds, and what waits behind it, is all that the context has outstanding (R215, R220)
  let y := { x with st := resumeState x (s.cycle pt) hold, hold := hold, hrec := 0
                    ldc := t.openCount (.strand key) .ldc, stc := t.openCount (.strand key) .stc
                    cpc := t.openCount (.strand key) .cpc, toc := t.openCount (.strand key) .toc }
  ((t.setStrand key y).setEntry pt e {}).replay (.strand key)

def execResume (d a : BitVec 5) (s : State) : Out :=
  let e := (s.rs a).toNat % 32
  let c := s.entry s.pt e
  .next (
    if !s.me.p then s.trap causePrivilege 0
    else if !(c.st == .held || c.st == .bad) then (s.setS d (status2 1 0)).done
    else if !s.within c.strand.rcbp.toNat s.me.rcbp.toNat then (s.setS d (status2 3 0)).done
    else match s.resumeSlot s.pt c with
      | none => (s.setS d (status2 5 0)).done
      | some slot =>
        if c.st = .bad then ((s.setEntry s.pt e {}).setS d (status2 6 0)).done
        else ((s.resumeInto s.pt e slot).setS d (status2 0 slot)).done)

/-! ## Context images (R217) -/

/-- RTC at the start of local cycle c, of a tile whose clock has run with these skews and offsets: panel reference time of that
cycle, rounded down as RTC counts it. -/
def rtcAt (c : Int) : List (Nat × Int × Nat) → Int
  | [] => c * 10 / 11
  | (from', skew, off) :: r => if (from' : Int) ≤ c then (c - skew) * 10 / 11 + off else rtcAt c r
/-- The first local cycle that starts with an RTC of at least n under a skew and an offset, and that of a tile's clock. -/
def firstWith (skew : Int) (off n : Nat) : Int := skew - (-(((n : Int) - off) * 11) / 10)
def firstCycle (n : Nat) : List (Nat × Int × Nat) → Int
  | [] => firstWith 0 0 n
  | (from', skew, off) :: r => let c := firstCycle n r; if c < from' then c else max from' (firstWith skew off n)
/-- RTC at which boundary(PIDX + 1) falls due: of a cycle that is past as the tile's RTC stood, of one to come at the nominal
frequency from now (log 11). -/
def State.nbrtc (s : State) (pt : Nat) (x : Strand) : Word :=
  let b := boundary x (x.pidx.toNat + 1)
  BitVec.ofInt 64 (if b ≤ s.cycle pt then rtcAt b (s.tile pt).clock
    else (s.ticks + (b - s.cycle pt)) * 10 / 11 + (s.tile pt).rtcOff)
/-- The first local cycle in which RTC is at least n: where RTC has reached it as the tile's clock has run, else at the nominal
frequency from now (R219, log 11). -/
def State.cycleOf (s : State) (pt n : Nat) : Int :=
  if s.rtc pt < n then max (firstWith (s.cycle pt - s.ticks) (s.tile pt).rtcOff n) (s.cycle pt + 1)
  else min (firstCycle n (s.tile pt).clock) (s.cycle pt)
/-- C0 of a context whose boundary waits for NBRTC, as it stands at the start of a cycle: until RTC reaches NBRTC the cycle of
the boundary is that of `cycleOf`; the first cycle in which RTC has reached it is the boundary (R219). -/
def State.settleDue (s : State) (pt : Nat) (x : Strand) : Strand :=
  match x.due with
  | none => x
  | some (n, k) =>
    if s.rtc pt < n then { x with c0 := s.cycleOf pt n - k } else { x with c0 := s.cycle pt - k, due := none }

/-- The context image of an entry (R217). -/
def State.imageOf (s : State) (pt e : Nat) : List Byte :=
  let c := s.entry pt e
  let x := c.strand
  let w (v : Word) := toBytes 8 v.toNat
  let head := ((List.range 32).map (fun i => w (x.reg (BitVec.ofNat 5 i)))).flatten ++ w x.pc ++
    ([x.fcsr, x.modew, x.per.setWidth 64, x.pph.setWidth 64, x.pidx, x.ovr.setWidth 64, x.vbase.setWidth 64,
      x.vlim.setWidth 64, x.xpc, x.xcause.setWidth 64, x.xval, x.xbase, evtWord x (s.tile pt), x.priv.setWidth 64,
      strandId x c.slot, x.rcbp].map w).flatten ++
    (x.k.toList.map w).flatten ++ (x.q.toList.map (fun v => toBytes 32 v.toNat)).flatten ++
    (x.sg.toList.map (fun v => toBytes 32 v.toNat)).flatten ++ w (s.nbrtc pt x) ++ w x.hrec ++ zeros 40
  head ++ ((List.range x.vlim.toNat).map (fun i =>
    toBytes 64 (SMap.get s.vregs (pt * 2048 + x.vbase.toNat + i) 0).toNat)).flatten

def imageSize (vlim : Nat) : Nat := 1024 + 64 * vlim

def execCtxsv (a b : BitVec 5) (s : State) : Out :=
  let e := (s.rs a).toNat % 32
  let c := s.entry s.pt e
  let p := s.rs b
  let o : Int := (ptrOff p : Nat)
  let n := imageSize c.strand.vlim.toNat
  .next (
    if !s.me.p then s.trap causePrivilege 0
    else if c.st ≠ .held || s.ops.any (fun o => o.party == .cached (s.pt * 32 + e)) ||
        !s.within c.strand.rcbp.toNat s.me.rcbp.toNat then s.trap causePrivilege (s.rs a)
    else s.access { p := p, o := o, pieces := [(o, n)], right := .write } (fun l =>
      if s.full .cpc then s.block
      else
        let bs := s.imageOf s.pt e
        let parts := (lines s.pt l [(o, n)]).map (fun x => (x.1, Act.write (cellsOf bs x.2), ([] : List Gate), landRoot l))
        (s.issueEngine { oid := 0, party := .strand 0, rcb := 0, cls := none, fin := .ctxsv e } (some .cpc) (.copy s.pt)
          (engineHome s.pt) true 0 parts).done))

/-- VLIM of an image as memory holds it at issue, at least 8 and at most 128 (log 12). -/
def State.imageVlim (s : State) (l : Land) (o : Int) : Nat :=
  min 128 (max 8 (ofBytes (s.peek l (o + 320).toNat 8)))
/-- The reads of the bytes of an image from n up to m, which are made where the VLIM that was read asks for them. -/
def imageRest (pt : Nat) (l : Land) (o : Int) (n m : Nat) : List (Home × Act) :=
  (lines pt l [(o + n, m - n)]).map (fun x => (x.1, Act.read (x.2.map (fun g => { g with buf := g.buf + n }))))

def execCtxld (a b : BitVec 5) (s : State) : Out :=
  let e := (s.rs a).toNat % 32
  let p := s.rs b
  let o : Int := (ptrOff p : Nat)
  .next (
    if !s.me.p then s.trap causePrivilege 0
    else if (s.entry s.pt e).st ≠ .empty then s.trap causePrivilege (s.rs a)
    else s.access { p := p, o := o, pieces := [(o, 1024)], right := .read } (fun l =>
      let n := imageSize (s.imageVlim l o)
      s.access { p := p, o := o, pieces := [(o, n)], right := .read } (fun l =>
        if s.full .cpc then s.block
        else
          let parts := (lines s.pt l [(o, n)]).map (fun x => (x.1, Act.read x.2, ([] : List Gate), landRoot l))
          -- the segment's limit may leave room for more registers than the image asks for now
          let room := min (imageSize 128) ((dLimit (s.src.seg (ptrSeg p)) : Int) - o).toNat
          let op : Op := { oid := 0, party := .strand 0, rcb := 0, cls := none, fin := .ctxld e, buf := zeros n,
                           later := imageRest s.pt l o n room, count := word room, addr := word (landRoot l) }
          ((s.setEntry s.pt e { st := .loading }).issueEngine op (some .cpc) (.copy s.pt) (engineHome s.pt) false 0 parts).done)))

/-- The file entries of a range are free on a tile: no strand and no cached context holds one (R51, R214). A slot that a
reserved region keeps for an evicted strand holds its range against other regions than `own` (R58, R218). -/
def State.rangeFree (s : State) (own : Option Nat) (pt vbase vlim : Nat) : Bool :=
  (List.range 16).all (fun i => let x := s.strand (pt * 16 + i)
    x.st == .unarmed || (x.st == .evicted && some x.rcbp.toNat == own) || !rangesMeet vbase vlim x.vbase.toNat x.vlim.toNat) &&
  (List.range 32).all (fun e => let c := s.entry pt e
    !(c.st == .held || c.st == .loading) || !rangesMeet vbase vlim c.strand.vbase.toNat c.strand.vlim.toNat)
def rangeOk (vbase vlim : Nat) : Bool :=
  vbase % 8 == 0 && decide (vbase ≤ 2040) && vlim % 8 == 0 && decide (8 ≤ vlim ∧ vlim ≤ 128 ∧ vbase + vlim ≤ 2048)
def hrecOk (h : Nat) : Bool :=
  !bitOf 63 h || ((bitsOf 61 2 h == 1 || bitsOf 61 2 h == 2) && bitsOf 24 37 h == 0 && (bitsOf 61 2 h == 1 || h % 2 ^ 24 == 0))

/-- MODEW of an image for a strand of some registers: in vector mode mf and vb are 0 (R162), and a mode whose block MODE could not
have set there is none (R164, R167, log 80). -/
def imageMode (w vlim : Nat) : Word :=
  let mf := bitsOf 12 4 w
  let vb := w % 128
  let good := bitOf 16 w && decide (mf ≤ 8 ∧ vb % blockSize mf = 0 ∧ vb + blockSize mf ≤ vlim)
  word (w / 2 ^ 32 * 2 ^ 32 + (if good then 2 ^ 16 + mf * 2 ^ 12 + vb else 0))
/-- The strand that an image describes, for tile pt, with C0 set from NBRTC (R219). FCSR.rm of 5 to 7 is taken as it stands
(log 80), and RCBP is a panel address, whose bits above 42 are reserved (R11, R311). -/
def State.strandOfImage (s : State) (pt : Nat) (bs : List Byte) : Strand :=
  let nat (o n : Nat) : Nat := ofBytes ((bs.drop o).take n)
  let sys (i : Nat) : Nat := nat (264 + 8 * i) 8
  let per : BitVec 24 := BitVec.ofNat 24 (sys 2)
  let pph : BitVec 24 := BitVec.ofNat 24 (sys 3)
  let pidx := sys 4
  let n := nat 968 8
  let k : Int := 64 * (pph.toNat + (pidx + 1) * per.toNat : Nat)
  { st := .evicted, was := .unarmed, pc := word (nat 256 8) &&& ~~~3, oddPc := nat 256 8 % 4 != 0
    s := Vector.ofFn (fun i : Fin 32 => if i.val = 0 then 0 else word (nat (8 * i.val) 8))
    k := Vector.ofFn (fun i : Fin 8 => if i.val = 0 then BitVec.allOnes 64 else word (nat (392 + 8 * i.val) 8))
    q := Vector.ofFn (fun i : Fin 8 => BitVec.ofNat 256 (nat (456 + 32 * i.val) 32))
    sg := Vector.ofFn (fun i : Fin 8 => wideBits (BitVec.ofNat 256 (nat (712 + 32 * i.val) 32)))
    fcsr := word (sys 0 % 64 + bitsOf 8 3 (sys 0) * 256), modew := imageMode (sys 1) (sys 7)
    per := per, pph := pph, pidx := word pidx, ovr := BitVec.ofNat 32 (sys 5)
    vbase := BitVec.ofNat 11 (sys 6), vlim := BitVec.ofNat 8 (sys 7), xpc := word (sys 8), xcause := BitVec.ofNat 6 (sys 9)
    xval := word (sys 10), xbase := word (sys 11) &&& ~~~6, en := bitOf 7 (sys 12), priv := BitVec.ofNat 4 (sys 13)
    cadIdx := BitVec.ofNat 8 (sys 14 / 256), cadNum := BitVec.ofNat 4 (sys 14 / 16), rcbp := word (sys 15 % 2 ^ 43)
    hrec := if bitOf 63 (nat 976 8) then word (nat 976 8) else 0
    -- the hold's bundle is the one before the saved position (log 80)
    holdPos := word (nat 256 8) &&& ~~~3 - 8
    c0 := s.cycleOf pt n - k, due := if s.rtc pt < n ∧ per ≠ 0 then some (n, k) else none }

end Sys2Proof.Machine
end

