-- ==== Sys2Proof/Machine/Grids.lean ====
section
/-!
DEFINITION. Grids: geometry (R265 to R272), and the instructions GBIND, GLD, GLDV, GST, GSTEP
and GQRY (R269, R274 to R277, R282).
-/
namespace Sys2Proof.Machine

/-! ## Geometry (R265, R266) -/

def elemSize (fmt : Nat) : Nat := match fmt with | 1 => 8 | 2 => 4 | 18 => 4 | 4 => 2 | _ => 1
/-- The coordinates of partition number i. -/
def partCoord (d : GridDesc) (i : Nat) : List Nat :=
  [i % d.p.getD 0 1, i / d.p.getD 0 1 % d.p.getD 1 1, i / (d.p.getD 0 1 * d.p.getD 1 1)]
def gridExt (d : GridDesc) (i a : Nat) : Nat :=
  if a < d.rank then
    let g := d.g.getD a 1; let p := d.p.getD a 1; let c := ceilDiv g p
    if (partCoord d i).getD a 0 + 1 = p then g - (p - 1) * c else c
  else 1
def gridOrigin (d : GridDesc) (i a : Nat) : Nat :=
  if a < d.rank then (partCoord d i).getD a 0 * ceilDiv (d.g.getD a 1) (d.p.getD a 1) else 0
def interiorCount (d : GridDesc) (i : Nat) : Nat := gridExt d i 0 * gridExt d i 1 * gridExt d i 2
/-- Size of the box of face f along axis b, and its first coordinate. -/
def boxDim (d : GridDesc) (i f b : Nat) : Nat :=
  if b = f / 2 then d.w else if b < d.rank then gridExt d i b + 2 * d.w else 1
def boxLow (d : GridDesc) (i f b : Nat) : Int :=
  if b = f / 2 then (if f % 2 = 0 then -(d.w : Int) else gridExt d i b) else if b < d.rank then -(d.w : Int) else 0
def boxCount (d : GridDesc) (i f : Nat) : Nat := boxDim d i f 0 * boxDim d i f 1 * boxDim d i f 2
/-- Elements before the buffer of face f, slot j; the number of all elements. -/
def bufferStart (d : GridDesc) (i f j : Nat) : Nat :=
  interiorCount d i + ((List.range f).map (fun g => 2 * boxCount d i g)).sum + j * boxCount d i f
def storageCount (d : GridDesc) (i : Nat) : Nat := bufferStart d i (2 * d.rank) 0
def storageBytes (d : GridDesc) (i : Nat) : Nat := elemSize d.fmt * storageCount d i

/-- The local coordinates of element k of a box. -/
def boxCell (d : GridDesc) (i f k : Nat) : List Int :=
  let x := boxDim d i f 0; let y := boxDim d i f 1
  [boxLow d i f 0 + (k % x : Nat), boxLow d i f 1 + (k / x % y : Nat), boxLow d i f 2 + (k / (x * y) : Nat)]
/-- The element number in the storage of an interior cell, and of a ghost cell in buffer (f, j). -/
def interiorIndex (d : GridDesc) (i : Nat) (c : List Int) : Nat :=
  (c.getD 0 0).toNat + gridExt d i 0 * ((c.getD 1 0).toNat + gridExt d i 1 * (c.getD 2 0).toNat)
def ghostIndex (d : GridDesc) (i f j : Nat) (c : List Int) : Nat :=
  let at' (b : Nat) : Nat := (c.getD b 0 - boxLow d i f b).toNat
  bufferStart d i f j + at' 0 + boxDim d i f 0 * (at' 1 + boxDim d i f 1 * at' 2)

/-- The face that serves a ghost cell: the lowest axis outside the interior (R270). -/
def ghostFace (d : GridDesc) (i : Nat) (c : List Int) : Option Nat :=
  (List.range d.rank).findSome? (fun a =>
    if c.getD a 0 < 0 then some (2 * a) else if (gridExt d i a : Int) ≤ c.getD a 0 then some (2 * a + 1) else none)
/-- The cell lies in no class but outside, or beyond a face of condition NONE (R270). -/
def cellOutside (d : GridDesc) (i : Nat) (c : List Int) : Bool :=
  (List.range d.rank).any (fun a =>
    let x := c.getD a 0
    let g : Int := gridOrigin d i a + x
    decide (x < -(d.w : Int)) || decide ((gridExt d i a + d.w : Nat) ≤ x) ||
    (decide (g < 0) && d.bc.getD (2 * a) 0 == 0) || (decide ((d.g.getD a 1 : Int) ≤ g) && d.bc.getD (2 * a + 1) 0 == 0))

/-- What a global coordinate resolves to (R271): a cell of a partition, perhaps negated, the fixed value of a face, or
nothing. -/
inductive Resolved where
  | cell (part : Nat) (c : List Int) (neg : Bool)
  | fixed (f : Nat)
  | none
  deriving DecidableEq, Repr

def resolveAxes (d : GridDesc) : Nat → Nat → List Int → Bool → Sum (List Int × Bool) Resolved
  | 0, _, g, neg => .inl (g, neg)
  | n + 1, a, g, neg =>
    let x := g.getD a 0
    let G : Int := d.g.getD a 1
    if 0 ≤ x ∧ x < G then resolveAxes d n (a + 1) g neg
    else
      let f := if x < 0 then 2 * a else 2 * a + 1
      match d.bc.getD f 0 with
      | 1 => resolveAxes d n (a + 1) (g.set a (x % G)) neg
      | 2 => .inr (.fixed f)
      | 3 => resolveAxes d n (a + 1) (g.set a (if x < 0 then 0 else G - 1)) neg
      | 4 => resolveAxes d n (a + 1) (g.set a (if x < 0 then -x - 1 else 2 * G - x - 1)) (!neg)
      | _ => .inr .none

/-- The cell at local coordinates c of partition i, resolved (R271). -/
def resolveCell (d : GridDesc) (i : Nat) (c : List Int) : Resolved :=
  let g := (List.range 3).map (fun a => (gridOrigin d i a : Int) + c.getD a 0)
  match resolveAxes d d.rank 0 g false with
  | .inr r => r
  | .inl (g, neg) =>
    let pc (a : Nat) : Nat := if a < d.rank then (g.getD a 0).toNat / ceilDiv (d.g.getD a 1) (d.p.getD a 1) else 0
    let q := pc 0 + d.p.getD 0 1 * (pc 1 + d.p.getD 1 1 * pc 2)
    .cell q ((List.range 3).map (fun a => g.getD a 0 - (gridOrigin d q a : Int))) neg

/-- The contributors of a ghost buffer (R272). -/
def contributors (d : GridDesc) (i f : Nat) : List Nat :=
  let owners := ((List.range (boxCount d i f)).filterMap (fun k => match resolveCell d i (boxCell d i f k) with
    | .cell q _ _ => some q
    | _ => none)).eraseDups
  if owners.isEmpty then [i] else owners

/-! ## Binding (R267 to R269) -/

def State.myPart (s : State) (pt : Nat) (p : PartEntry) : Bool :=
  p.chip == s.chip.toNat && s.logTile pt == some (p.die * 144 + p.n)

/-- Storage lies in the tile's scratchpad, or in its die's memory through the region's page tables (R267). -/
def State.storageOk (s : State) (pt root : Nat) (p : PartEntry) (n : Nat) : Bool :=
  if p.virt then
    decide (p.storage + n ≤ 2 ^ 48) && (List.range ((p.storage + n - 1) / 65536 - p.storage / 65536 + 1)).all (fun k =>
      match s.walk root (p.storage + k * 65536) false with
      | some e => e.die == pt / 144
      | none => false)
  else decide (p.storage + n ≤ Config.scratchBytes)

/-- The conditions of R267 but for the grid table's space; faces are paired on the axes below the rank (log 112). -/
def State.gridValid (s : State) (pt root : Nat) (d : GridDesc) : Bool :=
  let axes := List.range d.rank
  let mine := (List.range d.parts.length).filter (fun i => match d.parts[i]? with | some p => s.myPart pt p | none => false)
  decide (1 ≤ d.rank) &&
  axes.all (fun a => decide (1 ≤ d.g.getD a 1 ∧ d.g.getD a 1 ≤ 2 ^ 24 ∧ 1 ≤ d.p.getD a 1 ∧ d.p.getD a 1 ≤ d.g.getD a 1)) &&
  [1, 2, 4, 18].contains d.fmt &&
  decide (1 ≤ d.w ∧ d.w ≤ 8 ∧ 1 ≤ d.d ∧ d.d ≤ 4 ∧ 1 ≤ d.r ∧ d.d * d.r ≤ d.w) &&
  axes.all (fun a =>
    let g := d.g.getD a 1; let p := d.p.getD a 1; let c := ceilDiv g p
    (p == 1 || decide (d.w ≤ c ∧ c ≤ 2 ^ 20 - 16)) &&
      decide ((p - 1) * c < g ∧ d.w ≤ g - (p - 1) * c ∧ g - (p - 1) * c ≤ 2 ^ 20 - 16)) &&
  (List.range 6).all (fun f => decide (d.bc.getD f 0 ≤ 4)) &&
  (List.range (2 * d.rank)).all (fun f =>
    (d.bc.getD f 0 != 1 || d.bc.getD (if f % 2 = 0 then f + 1 else f - 1) 0 == 1)) &&
  (!d.mirror || (d.m % d.d == 0 && decide (d.d ≤ d.m) && d.parts.all (fun p => p.die != d.buddy))) &&
  d.parts.all (fun p => p.ok) &&
  (match mine with
    | [i] => (match d.parts[i]? with | some p => s.storageOk pt root p (storageBytes d i) | none => false)
    | _ => false)

/-- The number of the partition that the tile owns. -/
def State.minePart (s : State) (pt : Nat) (d : GridDesc) : Nat :=
  (d.parts.findIdx? (fun p => s.myPart pt p)).getD 0

/-- The region's entry of the tile that carries an ID (R268). -/
def State.gridHas (s : State) (pt rcb id : Nat) : Option Nat :=
  findFrom (fun e => (s.gridEntry pt e).id == id && (s.gridEntry pt e).rcb == rcb) 0 16
/-- The entry that a GBIND finds: by the ID, else one that a piece or a graft placed for an equal descriptor (R273, log 21). -/
def State.gridFind (s : State) (pt rcb id : Nat) (d : GridDesc) : Option Nat :=
  match s.gridHas pt rcb id with
  | some e => some e
  | none => findFrom (fun e => let g := s.gridEntry pt e; g.id != 0 && g.rcb == rcb && !g.bound && g.desc == d) 0 16
/-- The entry that a piece finds: by the ID, else by an equal descriptor of the region (R273, log 21). -/
def State.gridFor (s : State) (pt rcb id : Nat) (d : GridDesc) : Option Nat :=
  match s.gridHas pt rcb id with
  | some e => some e
  | none => findFrom (fun e => let g := s.gridEntry pt e; g.id != 0 && g.rcb == rcb && g.desc == d) 0 16
/-- The lowest free entry (R268). -/
def State.gridFree (s : State) (pt : Nat) : Option Nat := findFrom (fun e => (s.gridEntry pt e).id == 0) 0 16

/-- A fresh entry: every slot never written, contributors as R272 gives them (R269). -/
def freshGrid (id rcb part : Nat) (d : GridDesc) : GridEntry :=
  { id := id, rcb := rcb, desc := d, part := part, buddy := if d.mirror then some d.buddy else none
    slots := (List.range (2 * d.rank)).flatMap (fun f =>
      let c := BitVec.ofNat 4 (contributors d part f).length
      [{ state := 3, contrib := c }, { state := 3, contrib := c }]) }

/-- The entry for a descriptor on a tile, taken where none carries the ID (R269, R273); none where the descriptor breaks
R267 or no entry is free. -/
def State.takeGrid (s : State) (pt rcb id : Nat) (d : GridDesc) : Option (State × Nat) :=
  if !s.gridValid pt (s.region rcb).root d then none
  else match s.gridFind pt rcb id d with
    | some e => some (s, e)
    | none => match s.gridFree pt with
      | some e => some (s.setGridEntry pt e (freshGrid id rcb (s.minePart pt d) d), e)
      | none => none

/-- The GRID descriptor of an entry (R269): rights R, W and G. -/
def State.gridSegment (s : State) (pt e : Nat) : Wide :=
  let g := s.gridEntry pt e
  let lt := (s.logTile pt).getD 0
  descriptor kindGrid (1 + 2 + 32) s.chip.toNat (lt / 144) (lt % 144) ((g.desc.parts[g.part]?).map PartEntry.storage |>.getD 0)
    (storageBytes g.desc g.part) e

def execGbind (g : BitVec 3) (a : BitVec 5) (s : State) : Out :=
  let p := s.rs a
  let o : Int := (ptrOff p : Nat)
  .next (s.access { p := p, o := o, pieces := [(o, 128)], right := .read } (fun l =>
    let n := gridBytes (gridHeader (s.peek l (ptrOff p) 128))
    s.access { p := p, o := o, pieces := [(o, n)], right := .read } (fun l =>
      if s.full .ldc then s.block
      else
        let fin := match l with
          | .scratch q b => Ending.bind g false 0 (scratchKey q (b + ptrOff p))
          | .flat root b => Ending.bind g true root (b + ptrOff p)
          | _ => Ending.bind g false 0 0
        -- the segment's limit may leave room for entries that a header not yet mapped asks for
        let room := ((dLimit (s.src.seg (ptrSeg p)) : Int) - o).toNat
        (s.issueOp { oid := 0, party := .strand 0, rcb := 0, cls := some .ldc, fin := fin, buf := zeros n, count := word room } clsE relaxed 0
          (landRoot l) false ((lines s.pt l [(o, n)]).map (fun x => (x.1, Act.read x.2)))).done)))

/-! ## Cells (R274) -/

/-- The entry of a GRID segment on the issuing tile. -/
def gridNo (d : Wide) : Nat := dKindField d % 16
def coordAxis (w : Word) (a : Nat) : Int := toSigned 21 (w.toNat / 2 ^ (21 * a))
def coords (w : Word) : List Int := [coordAxis w 0, coordAxis w 1, coordAxis w 2]

/-- The newest valid tag of a face, or all ones. -/
def newestTag (g : GridEntry) (f : Nat) : BitVec 32 :=
  let tags := ((g.slots.drop (2 * f)).take 2).filterMap (fun x => if x.state = 2 then some x.tag else none)
  match tags with
  | [] => 0xFFFFFFFF
  | t :: ts => ts.foldl (fun a b => if a.toNat < b.toNat then b else a) t
/-- The slot of a face whose window holds step t (R272, R274). -/
def servingSlot (g : GridEntry) (f t : Nat) : Option Nat :=
  findFrom (fun j => match g.slots[2 * f + j]? with
    | some x => x.state == 2 && decide (x.tag.toNat ≤ t ∧ t < x.tag.toNat + g.desc.d)
    | none => false) 0 2

/-- What the checks of a grid access decide (R274): the trap, or the status and the slot of each face used. -/
inductive GridCheck where
  | trap (c : BitVec 6) (x : Word)
  | ok (status : Word) (served : Bool) (code : Nat) (slots : List (Nat × Nat))
  deriving DecidableEq, Repr

/-- A status word (R275). -/
def gridStatus (tag : BitVec 32) (code : Nat) : Word := word (tag.toNat * 2 ^ 32 + code)

/-- The checks of R274 for cells along x from the coordinate word, by the tile's entry of the descriptor's number (log 113). -/
def State.gridCheck (s : State) (seg : Wide) (w : Word) (n : Word → Nat) (store : Bool) (step : Word) (chk : Bool) : GridCheck :=
  let e := s.gridEntry s.pt (gridNo seg)
  let d := e.desc
  if dKind seg ≠ kindGrid ∨ !dG seg ∨ (if store then !dW seg else !dR seg) ∨ e.id = 0 then .trap causeRights w
  else if w.getLsbD 63 ∨ ((List.range 3).any (fun a => decide (d.rank ≤ a) && coordAxis w a != 0)) = true then .trap causeLimit w
  else
    let c := coords w
    let cells := (List.range (n w)).map (fun (k : Nat) => c.set 0 (c.getD 0 0 + k))
    if cells.any (cellOutside d e.part) then .trap causeLimit w
    else
      let faces := (cells.filterMap (ghostFace d e.part)).eraseDups
      if faces.isEmpty then .ok (gridStatus 0xFFFFFFFF 0) false 0 []
      else if store then .trap causeLimit w
      else if 4294967287 < step.toNat then .trap causeLimit step
      else
        let t := step.toNat
        let bad := faces.filter (fun f => (servingSlot e f t).isNone)
        let lowest := bad.foldl min 6
        let expired := bad.any (fun f => newestTag e f != 0xFFFFFFFF && decide (t < (newestTag e f).toNat))
        if bad.isEmpty then
          let f0 := faces.head?.getD 0
          let tag := match servingSlot e f0 t with | some j => ((e.slots[2 * f0 + j]?).getD {}).tag | none => 0
          .ok (gridStatus tag 1) true 1 (faces.map (fun f => (f, (servingSlot e f t).getD 0)))
        else
          let code := if expired then 3 else 2
          let st := gridStatus (newestTag e lowest) code
          if chk then .ok st false code [] else .trap (if code = 2 then causeStale else causeExpired) st

/-- Runs of storage for elements of the issuing tile's partition. -/
def State.gridLines (s : State) (e : GridEntry) (idx : List Nat) : List (Home × List Seg) × Nat :=
  let z := elemSize e.desc.fmt
  match e.desc.parts[e.part]? with
  | none => ([], 0)
  | some p =>
    let l : Land := if p.virt then .flat (s.region e.rcb).root p.storage else .scratch s.pt p.storage
    (lines s.pt l (idx.map (fun k => (((z * k : Nat) : Int), z))), landRoot l)

/-- The element of a partition stands on bytes of its tile that no store may write (R98, R293, log 82). -/
def State.cellProtected (s : State) (pt : Nat) (e : GridEntry) (k : Nat) : Bool :=
  let z := elemSize e.desc.fmt
  match e.desc.parts[e.part]? with
  | some p => !p.virt && s.protectedBytes pt (p.storage + z * k) z false
  | none => false

/-- A grid load of n cells (R274, R276). -/
def State.gridLoad (s : State) (g : BitVec 3) (cw step : Word) (n : Nat → Nat) (chk : Option (BitVec 5))
    (fin : Nat → Word → Bool → Ending) : State :=
  let seg := s.src.seg g
  let e := s.gridEntry s.pt (gridNo seg)
  let cnt := n (elemSize e.desc.fmt)
  match s.gridCheck seg cw (fun _ => cnt) false step chk.isSome with
  | .trap c x => s.trap c x
  | .ok st served code slots =>
    if s.full .ldc then s.block
    else
      let c := coords cw
      let cells := (List.range cnt).map (fun (k : Nat) => c.set 0 (c.getD 0 0 + k))
      let idx := cells.map (fun c => match ghostFace e.desc e.part c with
        | none => interiorIndex e.desc e.part c
        | some f => ghostIndex e.desc e.part f ((slots.lookup f).getD 0) c)
      let (ls, root) := if code < 2 then s.gridLines e idx else ([], 0)
      let ord : Ord := if served then { acq := true, scope := s.scope s.key 3 } else relaxed
      (s.issueOp { oid := 0, party := .strand 0, rcb := 0, cls := some .ldc, fin := fin e.desc.fmt st (code < 2)
                   buf := zeros (cnt * elemSize e.desc.fmt), addr := cw
                   pin := slots.map (fun x => (s.pt, gridNo seg, 2 * x.1 + x.2)) } clsR ord 0 root false
        (ls.map (fun x => (x.1, Act.read x.2)))).done

def execGld (d c r : BitVec 5) (g : BitVec 3) (k : BitVec 1) (s : State) : Out :=
  let chk := if k == 1 then some r else none
  .next (s.gridLoad g (s.rs c) (s.rs r) (fun _ => 1) chk (fun fmt st ok => .cell d fmt chk st ok))
def execGldv (v : BitVec 7) (c r : BitVec 5) (g : BitVec 3) (k : BitVec 1) (s : State) : Out :=
  let chk := if k == 1 then some r else none
  .next (s.gridLoad g (s.rs c) (s.rs r) (fun z => 64 / z) chk (fun _ st ok => .cells v chk st ok))

def execGst (d c : BitVec 5) (g : BitVec 3) (s : State) : Out :=
  let seg := s.src.seg g
  let e := s.gridEntry s.pt (gridNo seg)
  let cw := s.rs c
  .next (match s.gridCheck seg cw (fun _ => 1) true 0 false with
    | .trap c x => s.trap c x
    | .ok _ _ _ _ =>
      let k := interiorIndex e.desc e.part (coords cw)
      if s.cellProtected s.pt e k then s.trap causeRights cw
      else if s.full .stc then s.block
      else
        let bs := toBytes (elemSize e.desc.fmt) (s.rs d).toNat
        let (ls, root) := s.gridLines e [k]
        ((s.issueOp { oid := 0, party := .strand 0, rcb := 0, cls := some .stc, fin := .none } clsW relaxed 0 root true
          (ls.map (fun x => (x.1, Act.write (cellsOf bs x.2))))).touch s.key).done)

def execGstep (g : BitVec 3) (a : BitVec 5) (s : State) : Out :=
  let seg := s.src.seg g
  let v := s.rs a
  let e := gridNo seg
  .next (
    if dKind seg ≠ kindGrid ∨ !dG seg ∨ !dW seg ∨ (s.gridEntry s.pt e).id = 0 then s.trap causeRights v
    else if 4294967287 < v.toNat then s.trap causeLimit v
    else if s.full .cpc then s.block
    else (s.issueEngine { oid := 0, party := .strand 0, rcb := 0, cls := none, fin := .gstep e v.toNat } (some .cpc)
      (.trellis (s.pt / 144)) (engineHome s.pt) true 0 []).done)

/-- A slot word (R268). -/
def slotWord (x : Slot) : Word :=
  word (x.tag.toNat * 2 ^ 32 + x.state.toNat * 2 ^ 30 + x.arrived.toNat * 2 ^ 24 + x.contrib.toNat * 2 ^ 20)

def execGqry (d : BitVec 5) (g : BitVec 3) (b : BitVec 5) (s : State) : Out :=
  let seg := s.src.seg g
  let sel := (s.rs b).toNat % 256
  let n := gridNo seg
  let e := s.gridEntry s.pt n
  let ds := e.desc
  .next (
    if dKind seg ≠ kindGrid ∨ !dG seg ∨ e.id = 0 then s.trap causeRights (s.rs b)
    else
      let v : Word := match sel with
        | 0 => e.pstep.setWidth 64
        | 1 => word (gridExt ds e.part 0 + gridExt ds e.part 1 * 2 ^ 21 + gridExt ds e.part 2 * 2 ^ 42)
        | 2 => word (gridOrigin ds e.part 0 % 2 ^ 24 + gridOrigin ds e.part 1 % 2 ^ 24 * 2 ^ 24)
        | 3 => word (gridOrigin ds e.part 2 % 2 ^ 24 + ds.w * 2 ^ 24 + ds.d * 2 ^ 28 + ds.rank * 2 ^ 32 + ds.fmt * 2 ^ 34 + n * 2 ^ 39)
        | 4 => e.mstep.setWidth 64
        | k => if 16 ≤ k ∧ k - 16 < 4 * ds.rank then slotWord ((e.slots[k - 16]?).getD {}) else BitVec.allOnes 64
      (s.setS d v).done)

end Sys2Proof.Machine
end

