-- ==== Sys2Proof/Machine/Pennants.lean ====
section
/-!
DEFINITION. The pennant instructions (R176 to R190). A local sample reads the pennant file as it stands in the issue cycle;
a local write waits in `locals` until the end of its cycle (R181); remote operations are parts of the pennant class
(R191).
-/
namespace Sys2Proof.Machine

/-- Where a pennant instruction aims (R178, R180). -/
inductive PenTarget where
  | here (idx : Nat)
  | tile (pt idx : Nat)
  | absent
  | cross (chip cp die tile idx : Nat)
  deriving DecidableEq, Repr

/-- The checks of R180 on an address word, or a local index (R178). An operation over a dead router of its default path is refused
there (R350, R351), but for a PWR, which `lands` (R368, R369, log 49). -/
def State.penTarget (s : State) (x : BitVec 1) (t : BitVec 6) (o : BitVec 2) (lands : Bool := false) : Except (BitVec 6 × Word) PenTarget :=
  if x = 0 then .ok (.here t.toNat)
  else
    let w := s.rs (BitVec.ofNat 5 (t.toNat / 2))
    let a := w.toNat
    let d := s.src.seg (BitVec.ofNat 3 (bitsOf 61 3 a))
    let die := bitsOf 54 7 a
    let n := bitsOf 46 8 a
    let idx := bitsOf 40 6 a
    if bitsOf 0 33 a ≠ 0 ∨ 143 < n then .error (causeLimit, w)
    else if !dP d then .error (causeRights, w)
    else if dChip d ≠ s.chip.toNat then
      (if !bitOf 33 a || o == 1 || o == 3 then .error (causeRights, w) else .ok (.cross (dChip d) (bitsOf 34 6 a) die n idx))
    else match s.physTile die n with
      | none => .ok .absent
      | some q => if q = s.pt then .ok (.here idx) else if !lands && s.refusedPath s.pt q then .ok .absent else .ok (.tile q idx)

/-- A gate keeps back a local pennant operation of the classes, which cannot wait in a queue (R344): that of an acquire or
a FENCE, its own release, or an earlier operation of the strand on the tile's own pennants that is not yet performed
(R338). A sample also waits until it sees a held-back release, from the cycle after that is applied (R181). -/
def State.localHeld (s : State) (cls : Nat) (ord : Ord) : Bool :=
  let h := Home.pens s.pt
  let me := Party.strand s.key
  s.localGated cls h ||
  (s.relGate me ord.rel ord.scope).any (fun g => s.gateClosed g h) ||
  (s.posts ++ s.chan ++ s.arrived).any (fun p => p.party == me && p.home == h) ||
  s.deposits.any (fun d => d.pt == s.pt && s.depositOf me d) ||
  s.heldRels.any (fun r => r.party == me) ||
  (cls == clsR && (s.locals.any (fun l => l.key == s.key && l.oid.isSome) || s.me.relAt == some (s.cycle s.pt)))

def State.stampMe (s : State) : BitVec 32 := s.me.pidx.setWidth 32

/-- A local write issued in this cycle: applied at the end of cycle c + 2 (R181). -/
def State.localWrite (s : State) (idx : Nat) (act : PenAct) (e : Option (BitVec 5)) (oid : Option Nat) : State :=
  State.fresh { s with locals := s.locals ++ [{ pid := s.nextId, pt := s.pt, due := s.cycle s.pt + 2, idx := idx, act := act,
                                                key := s.key, e := e, oid := oid }] }

/-- A pennant operation of another tile: its part travels in the pennant class. -/
def State.penRemote (s : State) (c : Cls) (fin : Ending) (res res2 : Word) (cls : Nat) (ord : Ord) (parts : List (Home × Act)) :
    State :=
  if s.full c then s.block
  else
    let t := s.issueOp { oid := 0, party := .strand 0, rcb := 0, cls := some c, fin := fin, res := res, res2 := res2 } cls ord
      1 0 false parts
    (if bitOf 1 cls then t.touch s.key else t).done

def allOnes : Word := BitVec.allOnes 64

def execPwr (x : BitVec 1) (v : BitVec 5) (t : BitVec 6) (o : BitVec 2) (g : BitVec 5) (s : State) : Out :=
  let val := s.rs v
  let ord := s.ord o g
  .next (match s.penTarget x t o true with
    | .error (c, w) => s.trap c w
    | .ok (.here idx) =>
      let rel := s.relGate (.strand s.key) ord.rel ord.scope
      if rel.any (fun q => s.gateClosed q (.pens s.pt)) then
        -- held back until its earlier accesses are performed (R183, R344)
        if s.full .stc then s.block
        else
          let oid := s.nextId
          let op : Op := { oid := oid, party := .strand s.key, rcb := s.me.rcbp.toNat, cls := some .stc, fin := .none,
                           engine := some (.pens s.pt) }
          let held : HeldRel := { oid := oid, pt := s.pt, party := .strand s.key, idx := idx, v := val, stamp := s.stampMe,
                                  gates := rel ++ gatesFor s.me.gates clsW }
          let s1 := State.fresh { s with ops := s.ops ++ [op], heldRels := s.heldRels ++ [held] }
          ((s1.addCount s.key .stc).touch s.key).done
      else if s.localHeld clsW relaxed then s.block
      else ((s.localWrite idx (.set val s.stampMe) none none).touch s.key).done
    | .ok (.tile q idx) => (s.penRemote .stc .none 0 0 clsW ord [(.pens q, .penWrite idx val s.stampMe)])
    | .ok .absent => s.penRemote .stc .none 0 0 clsW ord []
    | .ok (.cross chip cp die n idx) => s.issueCross chip cp 4 0 false clsW [die, n, idx, val.toNat, s.stampMe.toNat] ord)

/-- A sample of a pennant: PRD (0), PSAME (1), PSTAMP (2), as results for the two destinations (R185). -/
def sampleOf (p : Pennant) (kind : Nat) (expect : BitVec 32) : Word × Word :=
  match kind with
  | 0 => (p.value, p.hoist.setWidth 64)
  | 1 => ((p.hoist - expect).setWidth 64, 0)
  | _ => (p.hoist ++ p.stamp, 0)

/-- What a sample of no tile returns (R180). -/
def sampleAbsent (kind : Nat) : Word × Word := match kind with | 0 => (0, allOnes) | _ => (allOnes, 0)

/-- PRD, PSAME and PSTAMP (R185). `put` writes the destinations, `fin` does so at completion. -/
def State.sample (s : State) (x : BitVec 1) (t : BitVec 6) (o : BitVec 2) (g : BitVec 5) (kind : Nat) (expect : BitVec 32)
    (put : State → Word × Word → State) (fin : Ending) : State :=
  let ord := s.ord o g
  match s.penTarget x t o with
  | .error (c, w) => s.trap c w
  | .ok (.here idx) =>
    if s.localHeld clsR relaxed then s.block else (put s (sampleOf (s.penSeen s.pt idx) kind expect)).done
  | .ok (.tile q idx) => s.penRemote .ldc fin 0 0 clsR ord [(.pens q, .penSample idx kind expect)]
  | .ok .absent => let r := sampleAbsent kind; s.penRemote .ldc fin r.1 r.2 clsR ord []
  | .ok (.cross chip cp die n idx) => s.issueCross chip cp (5 + kind) 0 false clsR [die, n, idx, expect.toNat]

def execPrd (x : BitVec 1) (e f : BitVec 5) (t : BitVec 6) (o : BitVec 2) (g : BitVec 5) (s : State) : Out :=
  .next (s.sample x t o g 0 0 (fun u r => (u.setS e r.1).setS f r.2) (.words e f))
def execPsame (x : BitVec 1) (e f : BitVec 5) (t : BitVec 6) (o : BitVec 2) (g : BitVec 5) (s : State) : Out :=
  .next (s.sample x t o g 1 ((s.rs f).setWidth 32) (fun u r => u.setS e r.1) (.word e))
def execPstamp (x : BitVec 1) (e : BitVec 5) (t : BitVec 6) (o : BitVec 2) (g : BitVec 5) (s : State) : Out :=
  .next (s.sample x t o g 2 0 (fun u r => u.setS e r.1) (.word e))

def execPadd (x : BitVec 1) (e f : BitVec 5) (t : BitVec 6) (o : BitVec 2) (g : BitVec 5) (s : State) : Out :=
  let val := s.rs f
  let ord := s.ord o g
  .next (match s.penTarget x t o with
    | .error (c, w) => s.trap c w
    | .ok (.here idx) =>
      if s.localHeld clsRW ord then s.block
      else
        let s1 := (s.localWrite idx (.add val s.stampMe) (some e) none).touch s.key
        let s2 := if ord.acq then s1.modStrand s.key (fun y => { y with gates := y.gates ++
            [{ gate := { needs := [.part s.nextId], scope := ord.scope, own := true, far := true }, r := true, w := true, e := true,
               x := ord.scope.isSystem }] }) else s1
        s2.done
    | .ok (.tile q idx) => (s.penRemote .ldc (.word e) 0 0 clsRW ord [(.pens q, .penAdd idx val s.stampMe)])
    | .ok .absent => s.penRemote .ldc (.word e) 0 0 clsRW ord []
    | .ok (.cross chip cp die n idx) => s.issueCross chip cp 8 0 false clsRW [die, n, idx, val.toNat, s.stampMe.toNat] ord)

/-- The members of entry i of a region's bunting table as memory holds it, or none where it is not valid (R321). -/
def State.bunting (s : State) (rcb i : Nat) : Option (List Nat) :=
  match s.panelKey ((s.region rcb).buntBase + 1024 * i) with
  | none => none
  | some k =>
    let h := s.nat k 8
    if bitOf 63 h then some ((List.range (h % 256)).map (fun j => s.nat (k + 64 + 4 * j) 4)) else none

def execPmc (b : BitVec 6) (v : BitVec 5) (o : BitVec 2) (g : BitVec 5) (s : State) : Out :=
  let val := s.rs v
  .next (match s.bunting s.me.rcbp.toNat b.toNat with
    | none => s.trap causeRights (word b.toNat)
    | some ms =>
      let parts := ms.filterMap (fun m => match s.physTile (bitsOf 14 7 m) (bitsOf 6 8 m) with
        | none => none
        | some q => if s.refusedPath s.pt q then none else some (Home.pens q, Act.penWrite (bitsOf 0 6 m) val s.stampMe))
      s.penRemote .stc .none 0 0 clsW (s.ord o g) parts)

/-- PCLR is of no class of R347: an acquire holds it back, and no FENCE (R339). -/
def execPclr (a : BitVec 5) (s : State) : Out :=
  .next (
    if !s.me.p then s.trap causePrivilege 0
    else if s.localHeld 0 relaxed || s.me.gates.any (fun g => g.gate.far && s.gateClosed g.gate (.pens s.pt)) then s.block
    else ((s.localWrite ((s.rs a).toNat % 64) .clear none none).touch s.key).done)

end Sys2Proof.Machine
end

