-- ==== Sys2Proof/Machine/Tables.lean ====
section
/-!
DEFINITION. SCOPEW, BUNTW, RTSET and RTCLR (R318, R322, R326, R327): their checks at issue and their parts.
-/
namespace Sys2Proof.Machine

/-- The home that performs a write of a table at a panel address. -/
def State.tableHome (s : State) (a n : Nat) : Home :=
  match s.panelLines a n with | y :: _ => y.1 | [] => Home.tables (s.pt / 144)

/-- SCOPEW: a kind other than 0, 7 and 8 is written as 0 (R318). -/
def scopeWord (w : Word) : Word := if [0, 7, 8].contains (bitsOf 60 4 w.toNat) then w else 0
def execScopew (a b : BitVec 5) (s : State) : Out :=
  let e := (s.rs a).toNat % 32
  let rcb := s.me.rcbp.toNat
  .next (
    if !s.me.p then s.trap causePrivilege 0
    else if e < 6 then s.trap causePrivilege (s.rs a)
    else if s.full .stc then s.block
    else (s.issuePlain .stc .none clsE 0
      [(s.tableHome ((s.region rcb).scopeBase + 8 * e) 8, Act.scopew rcb e (scopeWord (s.rs b)))]).done)

/-- BUNTW: the image is read, then the slot is written whole at the serialiser of the table's die (R322, R335). -/
def execBuntw (a b : BitVec 5) (s : State) : Out :=
  let i := (s.rs a).toNat % 64
  let rcb := s.me.rcbp.toNat
  let p := s.rs b
  let o : Int := (ptrOff p : Nat)
  .next (
    if !s.me.p then s.trap causePrivilege 0
    else s.access { p := p, o := o, pieces := [(o, 1024)], right := .read } (fun l =>
      if s.full .stc then s.block
      else
        let rd := (lines s.pt l [(o, 1024)]).map (fun y => (y.1, Act.read y.2))
        let t := s.issueOp { oid := 0, party := .strand 0, rcb := 0, cls := some .stc, fin := .none, buf := zeros 1024 } clsE
          relaxed 0 (landRoot l) false rd
        let needs := (List.range rd.length).map (fun k => Need.part (s.nextId + 1 + k))
        let proto : Part := { pid := 0, oid := s.nextId, party := .strand s.key, src := s.pt, home := .absent, lane := 0,
                              gates := { needs := needs, scope := .system, own := false } :: gatesFor s.me.gates clsE,
                              cls := clsE, act := .read [] }
        let die := (s.physDie (bitsOf 36 7 (s.region rcb).buntBase)).getD (s.pt / 144)
        (t.postAll proto [(Home.tables die, Act.buntw rcb i)]).done))

def execRtset (d a b : BitVec 5) (s : State) : Out :=
  .next (
    if s.full .cpc then s.block
    else (s.issuePlain .cpc (.word d) clsE 0
      [(Home.router s.pt, Act.rtset ((s.rs a).toNat % 16) (s.rs b) s.me.rcbp.toNat)]).done)
def execRtclr (a : BitVec 5) (s : State) : Out :=
  .next (
    if s.full .cpc then s.block
    else (s.issuePlain .cpc .none clsE 0 [(Home.router s.pt, Act.rtclr ((s.rs a).toNat % 16) s.me.rcbp.toNat)]).done)

end Sys2Proof.Machine
end

