-- ==== Sys2Proof/Machine/Parts.lean ====
section
/-!
DEFINITION. The steps of the abstract machine for parts (R334 to R345): departure from a post queue, carriage to the home,
and performance there (R247 to R252, R259); the pennant file's deposits and local writes (R181 to R183); the application of
tile operations (R167, R174). An event whose condition does not hold leaves the state as it is.
-/
namespace Sys2Proof.Machine

/-! ## Departure -/

def State.postOf? (s : State) (pid : Nat) : Option Part := s.posts.find? (fun p => p.pid == pid)
def dropPart (pid : Nat) (l : List Part) : List Part := l.filter (fun p => p.pid != pid)

/-- A part through a FLAT segment bound to the home and places that its leaves give, that of its first byte first; a write through
a clean leaf will be logged (R290, R294). -/
def State.bindTo (s : State) (es : List Leaf) (p : Part) : Part :=
  { p with home := (es.head?.map (fun e => s.leafHome e p)).getD .virt
           act := actMap (leavesKey es p.root) p.act
           logs := ((es.filter (fun e => p.write && !e.d)).map (fun e => (logWord e, e.va))).eraseDups }
/-- The part as it will travel: bound where its home is not yet known and cached leaves serve it. -/
def State.bound? (s : State) (p : Part) : Option Part :=
  if p.home ≠ .virt then some p
  else if p.fresh then none
  else (s.leavesOf p).map (fun es => s.bindTo es p)

/-- Entries in the log of a tile; it is full at 512 (R293, R294). -/
def State.logUsed (s : State) (pt : Nat) : Nat :=
  (s.nat (scratchKey pt Config.logOff) 8 + 2 ^ 64 - s.nat (scratchKey pt Config.logRD) 8) % 2 ^ 64
def State.logFull (s : State) (pt : Nat) : Bool := decide (512 ≤ s.logUsed pt)

/-- The cached copy of a leaf that a part was translated by, as its log entry names it. -/
def usedBy (l : Leaf) (root : Nat) (g : Nat × Nat) : Bool := logWord l == g.1 && l.va == g.2 && l.root == root
/-- The entries that a write must append when it is performed: its leaf was clean, and the tile's copy is not marked logged. -/
def State.logNeeds (s : State) (p : Part) : List (Nat × Nat) :=
  p.logs.filter (fun g => !(s.tile p.src).leaves.any (fun l => usedBy l p.root g && l.logged))
/-- The log has no room for them. -/
def State.logShort (s : State) (p : Part) : Bool :=
  let n := (s.logNeeds p).length
  n != 0 && decide (512 < s.logUsed p.src + n)

/-- The gates of a part bound for a home are open; a part of an engine command or message lies where that lies (R341). -/
def State.gatesOpen (s : State) (p : Part) (h : Home) : Bool :=
  let at' := match s.op? p.oid with
    | some o => if o.engine.isSome then (s.opHome? o).getD h else h
    | none => h
  p.gates.all (fun g => !s.gateClosed g at')

/-- The parts of the same operation in the page of a leaf are bound with it: the access uses one leaf there, whole (R292). -/
def State.bindPage (s : State) (p : Part) : State :=
  match (if p.home = .virt then s.cachedLeaf p.src p.root (actKey p.act) else none) with
  | none => s
  | some e => { s with posts := s.posts.map (fun q =>
      if q.oid == p.oid && q.home == .virt && !q.fresh && (actPages q.act).all (leafCovers e q.root) && (!q.write || e.w) then s.bindTo [e] q else q) }
/-- The edge dies with an Ultra Ethernet port that is up (R16). -/
def State.gateways (s : State) : List Nat :=
  ((List.range 16).filter (fun k => (List.range 4).any (fun j => !s.portsDown.contains (4 * k + j)))).map (fun k => if k < 8 then k else 112 + k)
/-- A die has a way to a port that is up, and a port that is up a way to the die: the mesh routes of the two differ (R16, R351,
R376). -/
def State.outsideOpen (s : State) (d : Nat) : Bool := s.gateways.any (fun e => !s.cutOff d e)
def State.insideOpen (s : State) (d : Nat) : Bool := s.gateways.any (fun e => !s.cutOff e d)
/-- An answer of a die, or of no die, starts on its way to the outside; it leaves by a port that the die reaches (log 92). -/
def State.give (s : State) (d : Option Nat) (m : List Nat) : State := { s with answers := s.answers ++ [(d, m)] }
def State.giveable (s : State) (d : Option Nat) : Bool := match d with | some d => s.outsideOpen d | none => !s.gateways.isEmpty
/-- Answer n of those on their way leaves; they leave in no order (R336). -/
def State.sendAnswer (s : State) (n : Nat) : State :=
  match s.answers[n]? with
  | none => s
  | some (d, m) => if s.giveable d then { s with answers := s.answers.eraseIdx n, outbox := s.outbox ++ [m] } else s

/-- Every part of an engine command has its translation before the first departs. -/
def State.commandBound (s : State) (oid : Nat) : Bool :=
  s.posts.all (fun q => q.oid != oid || (s.bound? q).isSome) &&
    (match s.op? oid with | some o => o.parked.isEmpty | none => true)
def State.bindCommand (s : State) (oid : Nat) : State :=
  { s with posts := s.posts.map (fun q => if q.oid == oid then (s.bound? q).getD q else q) }

/-- The walk of a PFX, which is no access (R258). -/
def isWalker (p : Party) : Bool := match p with | .walker _ => true | _ => false

/-- A part leaves its queue. One for another panel leaves the panel by an Ultra Ethernet port that its die reaches (R16,
log 92). -/
def execPartDepart (pid : Nat) (s : State) : Out :=
  .next (match s.postOf? pid with
    | none => s
    | some p =>
      match s.bound? p with
      | none => s
      | some q =>
        if !s.headOf p q.home || !s.gatesOpen p q.home || s.logShort q then s
        else if isEngine p.party && !s.commandBound p.oid then s
        else if isWalker p.party || (q.home == .cross && !s.outsideOpen (p.src / 144)) then s
        else
          let t := if isEngine p.party then s.bindCommand p.oid else s.bindPage p
          let t := { t with posts := dropPart pid t.posts }
          if q.home = .cross then
            -- the message leaves the panel; a copy takes the bytes that it has read with it (R253)
            match q.act with
            | .message m =>
              let bs := match s.op? q.oid with | some o => o.buf.map BitVec.toNat | none => []
              { t with outbox := t.outbox ++ [m ++ bs] }
            | _ => t
          else { t with chan := t.chan ++ [q] })

/-! ## Carriage -/

def homeDie (h : Home) : Option Nat :=
  match h with
  | .bank pt _ => some (pt / 144) | .pens pt => some (pt / 144) | .agent pt => some (pt / 144) | .grid pt => some (pt / 144)
  | .router pt => some (pt / 144) | .channel d _ => some d | .sched d => some d | .tables d => some d
  | .virt => none | .absent => none | .cross => none

/-- The part crosses dies in VC0 and needs a grant (R353). -/
def needsGrant (p : Part) : Option Nat :=
  match homeDie p.home with
  | some d => if p.lane != 1 && d != p.src / 144 then some d else none
  | none => none

/-- Ahead of p in its channel; unordered traffic has none (R336). -/
def aheadIn (l : List Part) (p : Part) : Bool :=
  (l.takeWhile (fun q => q.pid != p.pid)).any (fun q =>
    q.src == p.src && q.home == p.home && q.lane == p.lane && p.lane != 2)

def execPartCarry (pid : Nat) (s : State) : Out :=
  .next (match s.chan.find? (fun p => p.pid == pid) with
    | none => s
    | some p =>
      if aheadIn s.chan p || ((homeDie p.home).any (fun d => s.cutOff (p.src / 144) d)) then s
      else
        let t := { s with chan := dropPart pid s.chan, arrived := s.arrived ++ [p] }
        match needsGrant p with
        | none => t
        | some d =>
          let n := SMap.get (s.die (p.src / 144)).grants d 0
          if n = 0 then s else t.modDie (p.src / 144) (fun x => { x with grants := SMap.put x.grants d (n - 1) }))

/-! ## What a home does -/

/-- A float pattern of 8n bits as a number in the order of AFMAX, -0 below +0, and whether it is a NaN (R259). -/
def floatKey (n x : Nat) : Int :=
  let h := 2 ^ (8 * n - 1)
  if x < h then (x : Int) else -((x - h : Nat) : Int) - 1
def floatNan (n x : Nat) : Bool :=
  if n = 4 then decide (0x7F800000 < x % 2 ^ 31) else decide (0x7FF0000000000000 < x % 2 ^ 63)
def floatCanon (n : Nat) : Nat := if n = 4 then 0x7FC00000 else 0x7FF8000000000000

/-- Size of an atomic of a type. -/
def atomicBytes (ty : Nat) : Nat := if ty < 2 then 4 else 8
/-- The new value of an atomic (R259). -/
def atomicNew (major ty old v e : Nat) : Nat :=
  let n := atomicBytes ty
  let less (x y : Nat) : Bool :=
    if ty % 2 = 0 then decide (toSigned (8 * n) x < toSigned (8 * n) y) else decide (x < y)
  match major with
  | 0x28 => (old + v) % 2 ^ (8 * n)
  | 0x29 => if less v old then v else old
  | 0x2A => if less old v then v else old
  | 0x2B => if floatNan n old then old else if floatNan n v then floatCanon n
            else if floatKey n old < floatKey n v then v else old
  | 0x2C => old &&& v
  | 0x2D => old ||| v
  | 0x2E => old ^^^ v
  | 0x2F => v
  | _ => if old = e then v else old

/-- Earlier than, among sequence numbers of 24 bits that wrap. -/
def seqBefore (a b : Nat) : Bool := let d := (b + 2 ^ 24 - a) % 2 ^ 24; decide (0 < d ∧ d < 2 ^ 23)
def ctlBar (c : BitVec 32) : Bool := c.getLsbD 10
def ctlPrio (c : BitVec 32) : Nat := bitsOf 8 2 c.toNat


/-- A record is not held back by a barrier of its queue (R60, R61). -/
def Sched.eligible (q : Sched) (r : Record) : Bool :=
  r.stolen ||
  (!(q.ready.any (fun x => x.region == r.region && !x.stolen && ctlBar x.ctl && seqBefore x.seq r.seq)) &&
   !(ctlBar r.ctl && (q.ready.any (fun x => x.region == r.region && !x.stolen && seqBefore x.seq r.seq) ||
      q.out.any (fun t => t.1 == r.region && seqBefore (t.2.toNat % 2 ^ 24) r.seq))))
/-- The record that a TAKE for a region returns: the oldest eligible one of the highest priority (R59). -/
def Sched.pick (q : Sched) (rcb : Nat) : Option Record :=
  let es := q.ready.filter (fun r => r.region == rcb && q.eligible r)
  [3, 2, 1, 0].findSome? (fun p => es.find? (fun r => ctlPrio r.ctl == p))
def recordBytes (r : Record) : List Byte :=
  toBytes 8 r.entry.toNat ++ toBytes 8 r.arg.toNat ++ toBytes 8 r.region ++ toBytes 4 r.ctl.toNat ++ toBytes 4 r.token.toNat
def State.modSched (s : State) (d : Nat) (f : Sched → Sched) : State := s.modDie d (fun x => { x with sched := f x.sched })

/-- A record is appended at die d, or refused (R358). -/
def State.spawnAt (s : State) (d : Nat) (oid : Nat) (r : Record) : State :=
  let q := (s.die d).sched
  let l := (s.logDie d).getD 0
  let held := (s.region r.region).tiles.any (fun pt => pt / 144 == d)
  if !held || (s.logDie d).isNone || (s.dmapOf l).2 != 0 then s.modOp oid (fun o => { o with res := 2 })
  else if Config.queueMax ≤ q.ready.length then s.modOp oid (fun o => { o with res := 1 })
  else
    let r := { r with seq := q.seq, token := BitVec.ofNat 32 (l * 2 ^ 24 + q.seq) }
    (s.modSched d (fun q => { q with ready := q.ready ++ [r], seq := (q.seq + 1) % 2 ^ 24 })).modOp oid
      (fun o => { o with res := word (q.seq * 256) })

/-- A TAKE at die d (R359). -/
def State.takeAt (s : State) (d : Nat) (oid rcb : Nat) : State :=
  let q := (s.die d).sched
  let none' (code : Nat) (empty : Bool) : State :=
    (if empty then s.modSched d (fun q => { q with empties := SMap.put q.empties rcb s.refNs }) else s).modOp oid
      (fun o => { o with res := word code, later := [] })
  if !q.ready.any (fun r => r.region == rcb) then none' 1 true
  else match q.pick rcb with
    | none => none' 2 true
    | some r =>
      if !r.stolen ∧ Config.queueMax ≤ q.out.length then none' 3 false
      else
        let out := if r.stolen then q.out else q.out ++ [(rcb, r.token)]
        (s.modSched d (fun q => { q with ready := q.ready.erase r, out := out })).modOp oid
          (fun o => { o with res := word (ctlPrio r.ctl * 256), buf := recordBytes r })

/-- RTSET at its router (R326). -/
def State.rtsetAt (s : State) (pt oid i : Nat) (w : Word) (rcb : Nat) : State :=
  let e := SMap.get (s.tile pt).routes i {}
  if e.v && e.owner != rcb then s.modOp oid (fun o => { o with res := 1 })
  else
    let r := s.routeCheck pt w
    let t := s.modOp oid (fun o => { o with res := routeStatus r })
    if r.code = 0 then t.modTile pt (fun x => { x with routes := SMap.put x.routes i { word := w, v := true, owner := rcb } }) else t
def State.rtclrAt (s : State) (pt i rcb : Nat) : State :=
  let e := SMap.get (s.tile pt).routes i {}
  if e.v && e.owner == rcb then s.modTile pt (fun x => { x with routes := SMap.put x.routes i { e with v := false } }) else s

/-- The copy of a scope entry that a tile-set word gives, its bitmap read now (R317, R318). -/
def State.scopeCopy (s : State) (w : Word) : Scope :=
  if bitsOf 60 4 w.toNat = 8 then
    { word := w, map := match s.panelKey (w.toNat % 2 ^ 43) with | some k => s.bitmap k | none => [] }
  else { word := w }
/-- SCOPEW at its completion: the word is stored, and every tile's copy of the region's entry replaced, in one step (R318, log 107). -/
def State.scopewAt (s : State) (rcb e : Nat) (w : Word) : State :=
  let r := s.region rcb
  let t := match s.panelKey (r.scopeBase + 8 * e) with | some k => s.setNat k 8 w.toNat | none => s
  t.modRegion rcb (fun r => { r with scopes := r.scopes.set (e - 6) (s.scopeCopy w) })

/-- A bunting image is valid for a region (R322): count, members, no two equal, reserved bits 0. -/
def State.buntingOk (s : State) (rcb : Nat) (bs : List Byte) : Bool :=
  let nat (o n : Nat) : Nat := ofBytes ((bs.drop o).take n)
  let h := nat 0 8
  let n := h % 256
  let ms := (List.range n).map (fun i => nat (64 + 4 * i) 4)
  decide (1 ≤ n ∧ n ≤ 240) && decide (h % 2 ^ 63 = n) && nat 8 56 == 0 &&
    ms.all (fun m => decide (m < 2 ^ 21) && (s.region rcb).set.has (bitsOf 14 7 m * 144 + bitsOf 6 8 m) &&
      decide (bitsOf 6 8 m < s.tOf (bitsOf 14 7 m))) && ms.eraseDups.length == n
def State.buntwAt (s : State) (rcb slot : Nat) (bs : List Byte) : State :=
  match s.panelKey ((s.region rcb).buntBase + 1024 * slot) with
  | none => s
  | some k =>
    let h := ofBytes (bs.take 8) % 2 ^ 63 + (if s.buntingOk rcb bs then 2 ^ 63 else 0)
    s.setBytes k (toBytes 8 h ++ bs.drop 8)

/-- The panel address of entry x of a region's plot table, which regions may share (R297, R314). -/
def State.plotAddr (s : State) (rcb x : Nat) : Nat := (s.region rcb).plotBase / 64 * 64 + 64 * x
/-- PLOTW at the entry's home: the entry is written whole, and every tile is still to drop its copy, in no order (R310, log 107). -/
def State.plotwAt (s : State) (oid rcb x : Nat) (bs : List Byte) : State :=
  let t := match s.panelKey (s.plotAddr rcb x) with | some k => s.setBytes k bs | none => s
  let u := { t with tiles := t.tiles.map (fun (e : Nat × Tile) =>
    (e.1, { e.2 with plots := e.2.plots.map (fun (p : Plot) => if s.plotAddr p.rcb p.x == s.plotAddr rcb x then { p with old := true } else p) })) }
  State.fresh (u.modOp oid (fun o => { o with res := word s.nextId }))
/-- Every tile has dropped its copy of the entry, and every access translated through one of them is performed (R310): those issued
before the write, and those issued since through a copy not yet dropped. -/
def State.plotDropped (s : State) (rcb x before : Nat) : Bool :=
  let a := s.plotAddr rcb x
  !s.tiles.any (fun (e : Nat × Tile) => e.2.plots.any (fun p => p.old && s.plotAddr p.rcb p.x == a)) &&
  !s.ops.any (fun q => ((decide (q.oid < before) && q.uses.any (fun y => s.plotAddr q.rcb y == a)) || q.oldUses.any (fun y => s.plotAddr q.rcb y == a)) &&
    s.allParts.any (fun p => p.oid == q.oid))

/-- The bank that a part of a service agent enters. -/
def bankOf (a : Act) : Nat := actKey a % 2 ^ 20 / 64 % 16
/-- The unit of a die that holds the data of a part (R379). -/
def homeUnit (p : Part) : List (Nat × FaultUnit) :=
  match p.home with
  | .bank pt b => [(pt / 144, .tileSram (pt % 144) b)]
  | .agent pt => [(pt / 144, .tileSram (pt % 144) (bankOf p.act))]
  | .channel d c => [(d, .channel c)]
  | _ => []

/-- Four bits of a byte. -/
def putNibble (b : Byte) (hi : Bool) (v : BitVec 4) : Byte :=
  if hi then v ++ b.setWidth 4 else (b.extractLsb' 4 4) ++ v

/-- The number in the runs of a word, in their order, and the word written as n bytes (R7, R259). -/
def State.runsNat (s : State) (gs : List Seg) : Nat := ofBytes (gs.flatMap (fun g => s.bytes g.key g.len))
def State.setRuns (s : State) (gs : List Seg) (n x : Nat) : State := { s with mem := memPutCells s.mem (cellsOf (toBytes n x) gs) }

/-- The effect of a part at its home, but for the pennant file's queue (R337). A GBIND takes the place of its descriptor's first
byte as its ID (R268, R269). -/
def State.act (s : State) (p : Part) : State :=
  let buf := (s.op? p.oid).elim [] Op.buf
  match p.act with
  | .read gs => s.modOp p.oid (fun o =>
      { o with buf := gs.foldl (fun b g => overlay b g.buf (s.bytes g.key g.len)) o.buf
               units := o.units ++ homeUnit p
               res := match o.fin, gs.find? (fun g => g.buf == 0) with | .bind _ _ _ _, some g => word (g.key + 1) | _, _ => o.res })
  | .write cs => { s with mem := memPutCells s.mem cs }
  | .writeBuf gs => { s with mem := memPutCells s.mem (cellsOf buf gs) }
  | .nibbles ns => { s with mem := ns.foldl (fun m n => memPut m n.1 (putNibble (memGet m n.1) n.2.1 n.2.2)) s.mem }
  | .atomic gs major ty v e =>
    let old := s.runsNat gs
    (s.setRuns gs (atomicBytes ty) (atomicNew major ty old v.toNat e.toNat)).modOp p.oid (fun o => { o with res := word old })
  | .amax gs ty =>
    let n := atomicBytes ty
    s.setRuns gs n (atomicNew 0x2B ty (s.runsNat gs) (((s.op? p.oid).elim 0 (fun o => o.res.toNat)) % 2 ^ (8 * n)) 0)
  | .penSample idx kind expect =>
    (match p.home with
      | .pens pt =>
        let r := sampleOf (s.pen pt idx) kind expect
        s.modOp p.oid (fun o => { o with res := r.1, res2 := r.2 })
      | _ => s)
  | .spawn r => (match p.home with | .sched d => s.spawnAt d p.oid r | _ => s)
  | .take rcb => (match p.home with | .sched d => s.takeAt d p.oid rcb | _ => s)
  | .tdone rcb tok => (match p.home with
    | .sched d => s.modSched d (fun q => { q with out := q.out.erase (rcb, tok) })
    | _ => s)
  | .rtset i w rcb => (match p.home with | .router pt => s.rtsetAt pt p.oid i w rcb | _ => s)
  | .rtclr i rcb => (match p.home with | .router pt => s.rtclrAt pt i rcb | _ => s)
  | .scopew rcb e w => s.scopewAt rcb e w
  | .buntw rcb slot => s.buntwAt rcb slot buf
  | .plotw rcb x => s.plotwAt p.oid rcb x buf
  | .penWrite _ _ _ => s
  | .penAdd _ _ _ => s
  | .message _ => s

/-! ## The choice at a home (R249 to R252, R337) -/

/-- Parts of the tile's own strands and of its copy engine ready at a bank. -/
def State.atBank (s : State) (pt b : Nat) (engine : Bool) : List Part :=
  s.arrived.filter (fun q => q.home == .bank pt b && isEngine q.party == engine)
/-- Some part of an operation for the tile's agent is not yet handed on. -/
def State.agentBusy (s : State) (pt oid : Nat) : Bool :=
  s.allParts.any (fun q => q.oid == oid && q.home == .agent pt)
/-- The operation of which the tile's agent has handed on some parts and not yet all (R250). -/
def State.agentAmid (s : State) (pt : Nat) : Option Nat := (s.tile pt).agentOp.filter (s.agentBusy pt)
/-- The agent may hand the part on (R250): one of the operation that it is amid, or else, with no pennant operation there,
one of the operation that came first. The parts of one engine command keep no order (R263), so each counts alone. -/
def State.agentTakes (s : State) (pt : Nat) (p : Part) : Bool :=
  match s.agentAmid pt with
  | some o => p.oid == o
  | none => !s.arrived.any (fun q => q.home == .pens pt) &&
      (match s.arrived.find? (fun q => q.home == .agent pt) with
        | some q => q.oid == p.oid && (!isEngine p.party || q.pid == p.pid)
        | none => false)
/-- Parts of one party reach the state of a home in the order of its channel (R338). -/
def State.partyFirst (s : State) (p : Part) : Bool :=
  p.lane == 2 || (s.arrived.takeWhile (fun q => q.pid != p.pid)).all (fun q => q.party != p.party || q.home != p.home || q.lane != p.lane)
/-- The home chooses the part. -/
def State.chosen (s : State) (p : Part) : Bool :=
  s.partyFirst p && (match p.home with
    | .bank pt b =>
      if isEngine p.party then (s.atBank pt b false).isEmpty
      else (s.atBank pt b false).all (fun q => decide (p.pid ≤ q.pid))
    | .agent pt =>
      s.agentTakes pt p && (s.atBank pt (bankOf p.act) false).isEmpty && (s.atBank pt (bankOf p.act) true).isEmpty
    | .channel d c => !(s.die d).copies.contains (c / 20, c % 20)
    -- RTSET and RTCLR are applied in arrival order (R328)
    | .router pt => (s.arrived.takeWhile (fun q => q.pid != p.pid)).all (fun q => q.home != .router pt)
    | .pens pt => (s.agentAmid pt).isNone && (match p.act with
      | .penSample _ _ _ => !s.deposits.any (fun d => d.pt == pt && d.pid.isSome)
      | _ => true)
    | _ => true)

/-! ## The dirty-page log (R294) -/

/-- The entry e of a write is appended to a tile's log, and the tile's copy of the leaf that the write went through is
marked. -/
def State.logAppend (s : State) (pt e : Nat) (used : Leaf → Bool) : State :=
  let wr := s.nat (scratchKey pt Config.logOff) 8
  let t := (s.setNat (scratchKey pt (Config.logEntry + 8 * (wr % 512))) 8 e).setNat (scratchKey pt Config.logOff) 8 ((wr + 1) % 2 ^ 64)
  t.modTile pt (fun x => { x with leaves := x.leaves.map (fun l => if used l then { l with logged := true } else l) })

/-- A write that sets HV or FL in a tile's REQ is a request, which the DCC is still to see (R296). -/
def State.noteReq (s t : State) (a : Act) : State :=
  match a with
  | .write ((k, _) :: _) =>
    if scratchBase ≤ k ∧ (k - scratchBase) % 2 ^ 20 = Config.logREQ then
      let new (b : Nat) : Bool := bitOf b (t.nat k 8) && !bitOf b (s.nat k 8)
      t.modTile ((k - scratchBase) / 2 ^ 20) (fun x => { x with hvNew := x.hvNew || new 0, flNew := x.flNew || new 1 })
    else t
  | _ => t

/-! ## Performance -/

/-- Parts that follow a performed one: the append of a SPAWN, the writes of a TAKE (R358, R359), the entries of a grid
descriptor (R269). -/
def State.follow (s : State) (oid : Nat) : State :=
  match s.op? oid with
  | none => s
  | some o =>
    if s.allParts.any (fun q => q.oid == oid) then s
    else
      let src := match o.party with | .strand k => k / 16 | .cached k => k / 32 | _ => 0
      let proto : Part := { pid := 0, oid := oid, party := o.party, src := src, home := .absent, lane := 0, gates := [],
                            cls := clsE, act := .read [] }
      match o.fin, o.later with
      | .word _, [(_, .spawn b)] =>
        let r := recordOf o.buf b.region
        let die := s.queueDie src r
        let t := s.modOp oid (fun o => { o with later := [], engine := die.map Home.sched, res := 2 })
        (match die with
          | some d => if s.exitRefused src d then t else t.postAll { proto with gates := o.gates } [(.sched d, .spawn r)]
          | none => t)
      | .take _, _ => (s.modOp oid (fun o => { o with later := [] })).postAll proto o.later
      | .bind _ flat root key, _ =>
        let rest := bindRest o o.buf flat root key
        if rest.isEmpty then s
        else (s.modOp oid (fun o => { o with buf := o.buf ++ zeros (gridBytes (gridHeader o.buf) - o.buf.length) })).postAll
          { proto with root := root } rest
      | _, _ => s

def execPartPerform (pid : Nat) (s : State) : Out :=
  .next (match s.arrived.find? (fun p => p.pid == pid) with
    | none => s
    | some p =>
      if !s.chosen p || s.logShort p then s
      else
        let s0 := { s with arrived := dropPart pid s.arrived }
        let s1 := (s.logNeeds p).foldl (fun (t : State) g => t.logAppend p.src g.1 (fun l => usedBy l p.root g)) s0
        let s2 := match p.home with
          | .agent pt => if isEngine p.party then s1 else s1.modTile pt (fun t => { t with agentOp := some p.oid })
          | _ => s1
        match p.home, p.act with
        | .pens pt, .penWrite idx v stamp =>
          { s2 with deposits := s2.deposits ++ [{ pt := pt, idx := idx, act := .set v stamp, pid := some p.pid, oid := some p.oid }] }
        | .pens pt, .penAdd idx v stamp =>
          { s2 with deposits := s2.deposits ++ [{ pt := pt, idx := idx, act := .add v stamp, pid := some p.pid, oid := some p.oid }] }
        | _, _ => (s2.noteReq (s2.act p) p.act).follow p.oid)

/-! ## The pennant file (R176, R177, R181, R182, R189) -/

/-- One write of a pennant: value, hoist count and stamp in one step. -/
def Pennant.write (p : Pennant) (a : PenAct) : Pennant :=
  match a with
  | .set v st => { hoist := p.hoist + 1, stamp := st, value := v }
  | .add v st => { hoist := p.hoist + 1, stamp := st, value := p.value + v }
  | .clear => {}

/-- A local write of the tile is due and not yet applied. -/
def State.localDue (s : State) (pt : Nat) : Option LocalWrite :=
  s.locals.find? (fun l => l.pt == pt && decide (l.due ≤ s.cycle pt))

def execLocalWriteApply (pt : Nat) (s : State) : Out :=
  .next (match s.localDue pt with
    | none => s
    | some l =>
      let p := s.pen pt l.idx
      let t := { s with locals := s.locals.filter (fun x => x.pid != l.pid) }.writePen pt l.idx (p.write l.act)
      -- a held-back release shows to its strand's own samples from the next cycle on (R181, R183)
      let t := if l.oid.isSome then t.modStrand l.key (fun x => { x with relAt := some (s.cycle pt) }) else t
      match l.e with | some e => t.modStrand l.key (fun x => x.setReg e p.value) | none => t)

def execDeposit (pt : Nat) (s : State) : Out :=
  .next (match s.deposits.find? (fun d => d.pt == pt) with
    | none => s
    | some d =>
      let c := s.cycle pt
      if (s.localDue pt).isSome || (s.tile pt).lastDeposit == some c then s
      else
        let p := s.pen pt d.idx
        let t := { s with deposits := s.deposits.erase d }.writePen pt d.idx (p.write d.act)
        let u := match d.act, d.oid with | .add _ _, some o => t.modOp o (fun o => { o with res := p.value }) | _, _ => t
        -- another panel hears the value before and the hoist count after
        let u := if d.answer then u.give (some (pt / 144)) [3, p.value.toNat, (p.hoist + 1).toNat] else u
        u.modTile pt (fun x => { x with lastDeposit := some c }))

def execPwrRelEntry (oid : Nat) (s : State) : Out :=
  .next (match s.heldRels.find? (fun r => r.oid == oid) with
    | none => s
    | some r =>
      match r.openAt, r.party with
      | some _, .strand key => State.fresh { s with
        heldRels := s.heldRels.filter (fun q => q.oid != oid)
        locals := s.locals ++ [{ pid := s.nextId, pt := r.pt, due := s.cycle r.pt + 2, idx := r.idx, act := .set r.v r.stamp,
                                 key := key, e := none, oid := some oid }] }
      | _, _ => s)

/-! ## Tile operations (R167, R174) -/

def isDrain (k : TileKind) : Bool := match k with | .drainReg _ _ _ => true | .drainMem _ _ => true | _ => false
/-- The oldest tile operation of a strand, where it is or is not a drain. -/
def State.applyFirst (s : State) (key : Nat) (drain : Bool) : State :=
  match s.tileOpsOf key with
  | [] => s
  | o :: _ => if isDrain o.kind == drain && s.tileFree o then s.applyTile o else s
def execTileOpApply (pt slot : Nat) (s : State) : Out := .next (s.applyFirst (pt * 16 + slot) false)
def execMdrainApply (pt slot : Nat) (s : State) : Out := .next (s.applyFirst (pt * 16 + slot) true)

end Sys2Proof.Machine
end

