-- ==== Sys2Proof/Machine/Alu.lean ====
section
/-!
DEFINITION. Integer and address instructions (R100 to R106). Each reads its sources at issue, writes s d and goes on.
-/
namespace Sys2Proof.Machine

/-- A word whose result goes to s d. -/
def State.result (s : State) (d : BitVec 5) (v : Word) : Out := .next (s.setS d v).done

def bool1 (b : Bool) : Word := if b then 1 else 0
/-- A shift amount of a register: bits 5:0 (R100). -/
def amount (x : Word) : Nat := x.toNat % 64

/-- Leading and trailing zero bits and one bits of a word (R100). -/
def clzWord (x : Word) : Nat := if x = 0 then 64 else 63 - Nat.log2 x.toNat
def ctzFrom (x : Word) : Nat → Nat → Nat
  | 0, i => i
  | n + 1, i => if x.getLsbD i then i else ctzFrom x n (i + 1)
def ctzWord (x : Word) : Nat := ctzFrom x 64 0
def popcWord (x : Word) : Nat := ((List.range 64).filter (fun i => x.getLsbD i)).length

/-- Division (R101). -/
def divuWord (a b : Word) : Word := if b = 0 then BitVec.allOnes 64 else a / b
def remuWord (a b : Word) : Word := if b = 0 then a else a % b
def divsWord (a b : Word) : Word := if b = 0 then BitVec.allOnes 64 else BitVec.ofInt 64 (a.toInt.tdiv b.toInt)
def remsWord (a b : Word) : Word := if b = 0 then a else BitVec.ofInt 64 (a.toInt.tmod b.toInt)

def execAdd (d a b : BitVec 5) (s : State) : Out := s.result d (s.rs a + s.rs b)
def execSub (d a b : BitVec 5) (s : State) : Out := s.result d (s.rs a - s.rs b)

/-- The sum of R102 on the offset field, or none where it leaves the field. -/
def addPointer (p o : Word) : Option Word :=
  let r : Int := (p.toNat % 2 ^ 53 : Nat) + o.toInt
  if r < 0 ∨ (2 ^ 53 : Nat) ≤ r then none else some (word (p.toNat / 2 ^ 53 * 2 ^ 53 + r.toNat))
def execAddp (d a b : BitVec 5) (s : State) : Out :=
  match addPointer (s.rs a) (s.rs b) with
  | none => .next (s.trap causeCarry (s.rs a))
  | some v => s.result d v

def execMul (d a b : BitVec 5) (s : State) : Out := s.result d (s.rs a * s.rs b)
def execMulhu (d a b : BitVec 5) (s : State) : Out := s.result d (word ((s.rs a).toNat * (s.rs b).toNat / 2 ^ 64))
def execMulhs (d a b : BitVec 5) (s : State) : Out :=
  s.result d (BitVec.ofInt 64 ((s.rs a).toInt * (s.rs b).toInt / 2 ^ 64))
def execDivu (d a b : BitVec 5) (s : State) : Out := s.result d (divuWord (s.rs a) (s.rs b))
def execDivs (d a b : BitVec 5) (s : State) : Out := s.result d (divsWord (s.rs a) (s.rs b))
def execRemu (d a b : BitVec 5) (s : State) : Out := s.result d (remuWord (s.rs a) (s.rs b))
def execRems (d a b : BitVec 5) (s : State) : Out := s.result d (remsWord (s.rs a) (s.rs b))
def execAnd (d a b : BitVec 5) (s : State) : Out := s.result d (s.rs a &&& s.rs b)
def execOr (d a b : BitVec 5) (s : State) : Out := s.result d (s.rs a ||| s.rs b)
def execXor (d a b : BitVec 5) (s : State) : Out := s.result d (s.rs a ^^^ s.rs b)
def execAndn (d a b : BitVec 5) (s : State) : Out := s.result d (s.rs a &&& ~~~(s.rs b))
def execShl (d a b : BitVec 5) (s : State) : Out := s.result d (s.rs a <<< amount (s.rs b))
def execShr (d a b : BitVec 5) (s : State) : Out := s.result d (s.rs a >>> amount (s.rs b))
def execSha (d a b : BitVec 5) (s : State) : Out := s.result d ((s.rs a).sshiftRight (amount (s.rs b)))
def execRotl (d a b : BitVec 5) (s : State) : Out := s.result d ((s.rs a).rotateLeft (amount (s.rs b)))
def execClz (d a : BitVec 5) (s : State) : Out := s.result d (word (clzWord (s.rs a)))
def execCtz (d a : BitVec 5) (s : State) : Out := s.result d (word (ctzWord (s.rs a)))
def execPopc (d a : BitVec 5) (s : State) : Out := s.result d (word (popcWord (s.rs a)))
def execMins (d a b : BitVec 5) (s : State) : Out := s.result d (if (s.rs a).toInt ≤ (s.rs b).toInt then s.rs a else s.rs b)
def execMinu (d a b : BitVec 5) (s : State) : Out := s.result d (if (s.rs a).toNat ≤ (s.rs b).toNat then s.rs a else s.rs b)
def execMaxs (d a b : BitVec 5) (s : State) : Out := s.result d (if (s.rs a).toInt ≤ (s.rs b).toInt then s.rs b else s.rs a)
def execMaxu (d a b : BitVec 5) (s : State) : Out := s.result d (if (s.rs a).toNat ≤ (s.rs b).toNat then s.rs b else s.rs a)
def execSlt (d a b : BitVec 5) (s : State) : Out := s.result d (bool1 (decide ((s.rs a).toInt < (s.rs b).toInt)))
def execSltu (d a b : BitVec 5) (s : State) : Out := s.result d (bool1 (decide ((s.rs a).toNat < (s.rs b).toNat)))
def execSeq (d a b : BitVec 5) (s : State) : Out := s.result d (bool1 (s.rs a == s.rs b))
def execMad (d a b c : BitVec 5) (s : State) : Out := s.result d (s.rs a * s.rs b + s.rs c)
def execSel (d a b c : BitVec 5) (s : State) : Out := s.result d (if s.rs c ≠ 0 then s.rs a else s.rs b)

/-- Bits p + len - 1 : p of a word, and their replacement by those of v (R105). -/
def bitField (x : Word) (p len : Nat) : Word := word (bitsOf p len x.toNat)
def insertField (x v : Word) (p len : Nat) : Word :=
  let mask : Word := word ((2 ^ len - 1) * 2 ^ p)
  (x &&& ~~~mask) ||| ((v <<< p) &&& mask)
/-- The field n of the word holds len - 1 (R81). -/
def execBfx (d a : BitVec 5) (p n : BitVec 6) (s : State) : Out := s.result d (bitField (s.rs a) p.toNat (n.toNat + 1))
def execBfi (d a : BitVec 5) (p n : BitVec 6) (s : State) : Out :=
  s.result d (insertField (s.rs d) (s.rs a) p.toNat (n.toNat + 1))

def execAddi (d a : BitVec 5) (i : BitVec 14) (s : State) : Out := s.result d (s.rs a + imm i)
def execAndi (d a : BitVec 5) (i : BitVec 14) (s : State) : Out := s.result d (s.rs a &&& imm i)
def execOri (d a : BitVec 5) (i : BitVec 14) (s : State) : Out := s.result d (s.rs a ||| imm i)
def execXori (d a : BitVec 5) (i : BitVec 14) (s : State) : Out := s.result d (s.rs a ^^^ imm i)
def execShli (d a : BitVec 5) (n : BitVec 6) (s : State) : Out := s.result d (s.rs a <<< n.toNat)
def execShri (d a : BitVec 5) (n : BitVec 6) (s : State) : Out := s.result d (s.rs a >>> n.toNat)
def execShai (d a : BitVec 5) (n : BitVec 6) (s : State) : Out := s.result d ((s.rs a).sshiftRight n.toNat)
def execSlti (d a : BitVec 5) (i : BitVec 14) (s : State) : Out :=
  s.result d (bool1 (decide ((s.rs a).toInt < (imm i).toInt)))

def execLil (d : BitVec 5) (i : BitVec 19) (s : State) : Out := s.result d (imm i)
/-- LIH replaces 16 bits of s d (R106). -/
def execLih (d : BitVec 5) (h : BitVec 2) (i : BitVec 16) (s : State) : Out :=
  s.result d (insertField (s.rs d) (i.setWidth 64) (16 * h.toNat) 16)

end Sys2Proof.Machine
end

