-- ==== Sys2Proof/Machine/Flags.lean ====
section
/-!
DEFINITION. FCSR (R130 to R132): the rounding mode that a word takes at issue, and the flags that it raises.
-/
namespace Sys2Proof.Machine

/-- rm of an FCSR value. -/
def fcsrRm (f : Word) : Nat := bitsOf 8 3 f.toNat
/-- The rounding mode of a word: its rm field, or FCSR's for 7 (R76, R132). -/
def State.mode (s : State) (r : BitVec 3) : Nat := if r = 7 then fcsrRm s.src.fcsr else r.toNat
/-- The flags of a word are raised into FCSR as it now stands (R132). -/
def State.raise (s : State) (f : Flags) : State := s.setMe { s.me with fcsr := s.me.fcsr ||| f.setWidth 64 }
/-- The flags of several elements together (R143). -/
def orFlags (fs : List Flags) : Flags := fs.foldl (· ||| ·) 0

end Sys2Proof.Machine
end

