-- ==== Sys2Proof/Machine/Operands.lean ====
section
/-!
DEFINITION. The operand forms beside registers: transfer targets and the link (R71, R74, R109), lanes of vector registers
and their masks (R140, R143), and the write of a vector register by a word, which in matrix mode lands among the strand's
tile operations (R161).
-/
namespace Sys2Proof.Machine

/-- The bundle at an offset in bundles from the word's own (R71). -/
def State.target {n : Nat} (s : State) (o : BitVec n) : Word := s.iss.base + (imm o <<< 3)
/-- The position that sequential flow would issue next (R99, R109). -/
def State.link (s : State) : Word := s.iss.next

/-- Lane i of n bits of a source register. -/
def State.lane (s : State) (v : BitVec 7) (n i : Nat) : Nat := Machine.lane n i (s.vs v).toNat
/-- Lanes of n bits of a register. -/
def laneList (n : Nat) (x : VReg) : List Nat := (List.range (512 / n)).map (fun i => Machine.lane n i x.toNat)
/-- A lane that the m bit leaves unmasked (R143). -/
def State.on (s : State) (m : BitVec 1) (i : Nat) : Bool := m == 0 || (s.src.mask 1).getLsbD i

/-- Register v lies in the block of the strand's grid. -/
def Strand.inBlock (x : Strand) (v : Nat) : Bool :=
  modeM x.modew && decide (modeVb x.modew ≤ v ∧ v < modeVb x.modew + blockSize (modeMf x.modew))

/-- The tile operations that apply between the word's reads and its write of a vector register (R141, R161). -/
def State.lagged (s : State) : State := s.applyTiles s.key s.iss.lag

/-- Register v as a write of some of its lanes finds it: in the block as the tile operations then leave it (R161); else as the
word read it, so that all of the word's value stands (R141, log 81). -/
def State.heldV (s : State) (v : BitVec 7) : VReg :=
  match s.iss.oldV.lookup v.toNat with
  | some x => x
  | none => (if s.me.inBlock v.toNat then s.lagged else s).vget s.key v.toNat

/-- Lanes of n bits of register v written by a word: a lane without a value keeps what the register holds. -/
def State.setLanes (s : State) (v : BitVec 7) (n : Nat) (xs : List (Option Nat)) : State :=
  let t := s.lagged
  let old := s.heldV v
  t.vset t.key v.toNat (BitVec.ofNat 512 (ofLanes n ((laneList n old).zipWith (fun o x => x.getD o) xs)))

/-- Lanes computed under the m bit: result and flags by lane (R143, R144). -/
def State.mapLanes (s : State) (d : BitVec 7) (n : Nat) (m : BitVec 1) (f : Nat → Nat × Flags) : State :=
  let r := (List.range (512 / n)).map (fun i => if s.on m i then some (f i) else none)
  ((s.setLanes d n (r.map (fun x => x.map Prod.fst))).raise (orFlags (r.map (fun x => (x.map Prod.snd).getD 0)))).done

/-- Lanes computed with no flag. -/
def State.mapInts (s : State) (d : BitVec 7) (n : Nat) (m : BitVec 1) (f : Nat → Nat) : State :=
  ((s.setLanes d n ((List.range (512 / n)).map (fun i => if s.on m i then some (f i) else none)))).done

/-- A mask from lanes: bits above them are 0 (R142). -/
def maskOf (bs : List Bool) : Word := word ((bs.zip (List.range bs.length)).foldl (fun a b => if b.1 then a + 2 ^ b.2 else a) 0)
def State.setK (s : State) (k : BitVec 3) (v : Word) : State := s.setMe (s.me.setMask k v)

end Sys2Proof.Machine
end

