-- ==== Sys2Proof/Machine/Control.lean ====
section
/-!
DEFINITION. Control flow (R107 to R114), PEND (R54, R111), and the traps that words raise themselves (R113, R207).
-/
namespace Sys2Proof.Machine

/-- The conditions of B and VCMP on two numbers of n bits (R78). -/
def condHolds (c n x y : Nat) : Bool :=
  match c with
  | 0 => x == y
  | 1 => x != y
  | 2 => decide (toSigned n x < toSigned n y)
  | 3 => decide (toSigned n y ≤ toSigned n x)
  | 4 => decide (x < y)
  | _ => decide (y ≤ x)

/-- A transfer when a condition holds, else the next position. -/
def State.branch (s : State) (taken : Bool) (t : Word) : State := if taken then s.goto t else s.done

def execB (c : BitVec 3) (a b : BitVec 5) (o : BitVec 11) (s : State) : Out :=
  .next (s.branch (condHolds c.toNat 64 (s.rs a).toNat (s.rs b).toNat) (s.target o))
def execBz (a : BitVec 5) (o : BitVec 19) (s : State) : Out := .next (s.branch (s.rs a == 0) (s.target o))
def execBnz (a : BitVec 5) (o : BitVec 19) (s : State) : Out := .next (s.branch (s.rs a != 0) (s.target o))
def execLoop (a : BitVec 5) (o : BitVec 19) (s : State) : Out :=
  let c := s.rs a - 1
  .next ((s.setS a c).branch (c != 0) (s.target o))
def execJmp (o : BitVec 24) (s : State) : Out := .next (s.goto (s.target o))
def execJal (o : BitVec 24) (s : State) : Out := .next ((s.setS 31 s.link).goto (s.target o))

/-- A position that a word may transfer to (R71): the others trap at the transfer. -/
def positionOk (t : Word) : Bool := t.toNat % 4 == 0
def execJr (a : BitVec 5) (s : State) : Out :=
  .next (if positionOk (s.rs a) then s.goto (s.rs a) else s.trap causeBundle (s.rs a))
def execJalr (d a : BitVec 5) (s : State) : Out :=
  .next (if positionOk (s.rs a) then (s.setS d s.link).goto (s.rs a) else s.trap causeBundle (s.rs a))

def execNop (s : State) : Out := .next s.done

/-- b' of R54: the least b above PIDX whose boundary lies after cycle c. -/
def nextBody (x : Strand) (c : Nat) : Nat :=
  let k := ((c : Int) - x.c0 - 64 * (x.pph.toNat : Int)) / (64 * (x.per.toNat : Int)) + 1
  max (x.pidx.toNat + 1) k.toNat
/-- OVR saturates (R227). -/
def addOvr (o : BitVec 32) (n : Nat) : BitVec 32 := BitVec.ofNat 32 (min (o.toNat + n) 0xFFFFFFFF)
def State.pend (s : State) : State :=
  let x := s.me
  if x.per = 0 then s.done
  else
    let b := nextBody x (s.cycle s.pt)
    -- the lattice stays where it is when PIDX wraps (R53, R227)
    let c0 := if b < 2 ^ 64 then x.c0 else x.c0 + 64 * x.per.toNat * 2 ^ 64
    (s.setMe { x with ovr := addOvr x.ovr (b - x.pidx.toNat - 1), pidx := word b, c0 := c0,
                      due := x.due.map (fun n => (n.1, n.2 + x.c0 - c0)), st := .idle,
                      quiet := if x.busy then x.quiet else x.quiet + 1, busy := false }).done
def execPend (s : State) : Out := .next s.pend

/-- TRAP names its code and the next position (R113). -/
def execTrap (c : BitVec 16) (s : State) : Out := .next (s.trapWith causeTrap s.iss.next (c.setWidth 64))
/-- BKPT does so where PRIV.BE is set, else nothing (R207). -/
def execBkpt (c : BitVec 16) (s : State) : Out :=
  .next (if s.me.be then s.trapWith causeBreak s.iss.next (c.setWidth 64) else s.done)

def execEret (s : State) : Out :=
  .next (if !s.me.p then s.trap causePrivilege 0 else if positionOk s.me.xpc then s.eret else s.trap causeBundle s.me.xpc)

end Sys2Proof.Machine
end

