-- ==== Sys2Proof/Machine/Vector.lean ====
section
/-!
DEFINITION. Integer lanes (R144 to R147), moves between lanes (R156, R157), integer reductions (R158), pack and unpack
(R154) and the mask instructions (R160).
-/
namespace Sys2Proof.Machine

/-- A three-operand form on lanes of n bits: x of vA, y of vB, z of vD (R144). -/
def State.lanes3 (s : State) (d a b : BitVec 7) (w : BitVec 2) (m : BitVec 1) (f : Nat → Nat → Nat → Nat → Nat) : State :=
  let n := laneBits w
  s.mapInts d n m (fun i => f n (s.lane a n i) (s.lane b n i) (s.lane d n i))

/-- The arithmetic shift of a lane (R144). -/
def shaLane (n x k : Nat) : Nat := ofInt n (toSigned n x / (2 ^ k : Nat))
/-- The high half of a product of lanes. -/
def mulhLane (n x y : Nat) : Nat := x * y / 2 ^ n
def mulhsLane (n x y : Nat) : Nat := ofInt n (toSigned n x * toSigned n y / (2 ^ n : Nat))

def execVadd (d a b : BitVec 7) (w : BitVec 2) (m : BitVec 1) (s : State) : Out :=
  .next (s.lanes3 d a b w m (fun _ x y _ => x + y))
def execVsub (d a b : BitVec 7) (w : BitVec 2) (m : BitVec 1) (s : State) : Out :=
  .next (s.lanes3 d a b w m (fun n x y _ => x + 2 ^ n - y))
def execVmul (d a b : BitVec 7) (w : BitVec 2) (m : BitVec 1) (s : State) : Out :=
  .next (s.lanes3 d a b w m (fun _ x y _ => x * y))
def execVmulhSigned (d a b : BitVec 7) (w : BitVec 2) (m : BitVec 1) (s : State) : Out :=
  .next (s.lanes3 d a b w m (fun n x y _ => mulhsLane n x y))
def execVmulhUnsigned (d a b : BitVec 7) (w : BitVec 2) (m : BitVec 1) (s : State) : Out :=
  .next (s.lanes3 d a b w m (fun n x y _ => mulhLane n x y))
def execVmad (d a b : BitVec 7) (w : BitVec 2) (m : BitVec 1) (s : State) : Out :=
  .next (s.lanes3 d a b w m (fun _ x y z => x * y + z))
def execVand (d a b : BitVec 7) (w : BitVec 2) (m : BitVec 1) (s : State) : Out :=
  .next (s.lanes3 d a b w m (fun _ x y _ => x &&& y))
def execVor (d a b : BitVec 7) (w : BitVec 2) (m : BitVec 1) (s : State) : Out :=
  .next (s.lanes3 d a b w m (fun _ x y _ => x ||| y))
def execVxor (d a b : BitVec 7) (w : BitVec 2) (m : BitVec 1) (s : State) : Out :=
  .next (s.lanes3 d a b w m (fun _ x y _ => x ^^^ y))
def execVshl (d a b : BitVec 7) (w : BitVec 2) (m : BitVec 1) (s : State) : Out :=
  .next (s.lanes3 d a b w m (fun n x y _ => x * 2 ^ (y % n)))
def execVshr (d a b : BitVec 7) (w : BitVec 2) (m : BitVec 1) (s : State) : Out :=
  .next (s.lanes3 d a b w m (fun n x y _ => x / 2 ^ (y % n)))
def execVsha (d a b : BitVec 7) (w : BitVec 2) (m : BitVec 1) (s : State) : Out :=
  .next (s.lanes3 d a b w m (fun n x y _ => shaLane n x (y % n)))
def execVminSigned (d a b : BitVec 7) (w : BitVec 2) (m : BitVec 1) (s : State) : Out :=
  .next (s.lanes3 d a b w m (fun n x y _ => if toSigned n x ≤ toSigned n y then x else y))
def execVminUnsigned (d a b : BitVec 7) (w : BitVec 2) (m : BitVec 1) (s : State) : Out :=
  .next (s.lanes3 d a b w m (fun _ x y _ => min x y))
def execVmaxSigned (d a b : BitVec 7) (w : BitVec 2) (m : BitVec 1) (s : State) : Out :=
  .next (s.lanes3 d a b w m (fun n x y _ => if toSigned n x ≤ toSigned n y then y else x))
def execVmaxUnsigned (d a b : BitVec 7) (w : BitVec 2) (m : BitVec 1) (s : State) : Out :=
  .next (s.lanes3 d a b w m (fun _ x y _ => max x y))

def execVcmp (k : BitVec 3) (a b : BitVec 7) (c : BitVec 3) (w : BitVec 2) (s : State) : Out :=
  let n := laneBits w
  .next (s.setK k (maskOf ((List.range (512 / n)).map (fun i => condHolds c.toNat n (s.lane a n i) (s.lane b n i))))).done

/-- Lanes of vA where the mask has a one; the others stay (R146). -/
def execVsel (d a : BitVec 7) (k : BitVec 3) (w : BitVec 2) (s : State) : Out :=
  let n := laneBits w
  .next (s.setLanes d n ((List.range (512 / n)).map (fun i =>
    if (s.src.mask k).getLsbD i then some (s.lane a n i) else none))).done
def execVcompress (d a : BitVec 7) (k : BitVec 3) (w : BitVec 2) (s : State) : Out :=
  let n := laneBits w
  let xs := ((List.range (512 / n)).filter (fun i => (s.src.mask k).getLsbD i)).map (s.lane a n)
  .next (s.setLanes d n ((List.range (512 / n)).map (fun i => some (xs.getD i 0)))).done

def execVmov (d a : BitVec 7) (m : BitVec 1) (s : State) : Out := .next (s.mapInts d 8 m (s.lane a 8))
def execVabs (d a : BitVec 7) (w : BitVec 2) (m : BitVec 1) (s : State) : Out :=
  let n := laneBits w
  .next (s.mapInts d n m (fun i => (toSigned n (s.lane a n i)).natAbs))
def execViota (d : BitVec 7) (w : BitVec 2) (m : BitVec 1) (s : State) : Out :=
  .next (s.mapInts d (laneBits w) m (fun i => i))

def execVperm (d a b : BitVec 7) (w : BitVec 2) (m : BitVec 1) (s : State) : Out :=
  let n := laneBits w
  .next (s.mapInts d n m (fun i => if s.lane b n i < 512 / n then s.lane a n (s.lane b n i) else 0))
def execVrot (d a : BitVec 7) (k : BitVec 6) (w : BitVec 2) (m : BitVec 1) (s : State) : Out :=
  let n := laneBits w
  .next (s.mapInts d n m (fun i => s.lane a n ((i + k.toNat) % (512 / n))))
def execVbcast (d : BitVec 7) (r : BitVec 5) (w : BitVec 2) (m : BitVec 1) (s : State) : Out :=
  .next (s.mapInts d (laneBits w) m (fun _ => (s.rs r).toNat))
def execVext (d : BitVec 5) (a : BitVec 7) (k : BitVec 6) (w : BitVec 2) (x : BitVec 1) (s : State) : Out :=
  s.result d (extend (x == 1) (laneBits w) (s.lane a (laneBits w) k.toNat))
def execVins (d : BitVec 7) (r : BitVec 5) (k : BitVec 6) (w : BitVec 2) (s : State) : Out :=
  let n := laneBits w
  .next (s.setLanes d n ((List.range (512 / n)).map (fun i => if i = k.toNat then some (s.rs r).toNat else none))).done

/-- One level of the reduction tree of R158: neighbours combine, a lane that is out passes its neighbour on. -/
def reduceLevel {α : Type} (op : α → α → α) : List (Option α) → List (Option α)
  | a :: b :: r => (match a, b with
    | some x, some y => some (op x y)
    | some x, none => some x
    | none, y => y) :: reduceLevel op r
  | r => r
def reduceTree {α : Type} (op : α → α → α) : Nat → List (Option α) → Option α
  | 0, xs => xs.head?.join
  | n + 1, xs => reduceTree op n (reduceLevel op xs)

/-- The operations of VRED on numbers of n bits, and their value over no lane (R158). -/
def redOp (n o : Nat) (signed : Bool) (x y : Nat) : Nat :=
  let le := if signed then decide (toSigned n x ≤ toSigned n y) else decide (x ≤ y)
  match o with
  | 0 => (x + y) % 2 ^ n
  | 1 => if le then x else y
  | 2 => if le then y else x
  | 3 => x &&& y
  | 4 => x ||| y
  | _ => x ^^^ y
def redEmpty (n o : Nat) (signed : Bool) : Nat :=
  match o with
  | 1 => if signed then 2 ^ (n - 1) - 1 else 2 ^ n - 1
  | 2 => if signed then 2 ^ (n - 1) else 0
  | 3 => 2 ^ n - 1
  | _ => 0
def execVred (d : BitVec 5) (a : BitVec 7) (o : BitVec 3) (x : BitVec 1) (w : BitVec 2) (m : BitVec 1) (s : State) : Out :=
  let n := laneBits w
  let xs := (List.range (512 / n)).map (fun i => if s.on m i then some (s.lane a n i) else none)
  let r := (reduceTree (redOp n o.toNat (x == 1)) 6 xs).getD (redEmpty n o.toNat (x == 1))
  s.result d (extend (x == 1) n r)

/-- A lane of n bits narrowed to half of them (R154). -/
def narrow (n : Nat) (sat : Bool) (x : Nat) : Nat :=
  if sat then
    let v := toSigned n x
    let h := n / 2
    if v < -(2 ^ (h - 1) : Nat) then 2 ^ (h - 1) else if ((2 ^ (h - 1) : Nat) : Int) ≤ v then 2 ^ (h - 1) - 1 else ofInt h v
  else x % 2 ^ (n / 2)
def execVpack (d a b : BitVec 7) (w : BitVec 2) (x : BitVec 1) (s : State) : Out :=
  let n := laneBits w
  .next (s.setLanes d (n / 2) ((laneList n (s.vs a) ++ laneList n (s.vs b)).map (fun v => some (narrow n (x == 1) v)))).done
def execVunpack (d a : BitVec 7) (h : BitVec 1) (w : BitVec 2) (x : BitVec 1) (s : State) : Out :=
  let n := laneBits w
  let l := 512 / n
  .next (s.setLanes d n ((List.range l).map (fun i =>
    some (extend (x == 1) (n / 2) (s.lane a (n / 2) (l * h.toNat + i))).toNat))).done

def execKand (d a b : BitVec 3) (s : State) : Out := .next (s.setK d (s.src.mask a &&& s.src.mask b)).done
def execKor (d a b : BitVec 3) (s : State) : Out := .next (s.setK d (s.src.mask a ||| s.src.mask b)).done
def execKxor (d a b : BitVec 3) (s : State) : Out := .next (s.setK d (s.src.mask a ^^^ s.src.mask b)).done
def execKnot (d a : BitVec 3) (s : State) : Out := .next (s.setK d (~~~(s.src.mask a))).done
def execKpop (a : BitVec 3) (d : BitVec 5) (s : State) : Out := s.result d (word (popcWord (s.src.mask a)))

end Sys2Proof.Machine
end

