-- ==== Sys2Proof/Machine/VFloat.lean ====
section
/-!
DEFINITION. Float lanes (R148 to R151), float reductions (R158, R159) and conversions (R152, R153, R155).
-/
namespace Sys2Proof.Machine

/-- Width of a float lane (R140). -/
def floatBits (w : BitVec 2) : Nat := (laneFmt w).bits
/-- FCSR's mode: a vector form without an rm field takes it (R148). -/
def State.vmode (s : State) : Nat := s.mode 7

/-- A three-operand float form (R148). -/
def State.floats3 (s : State) (d a b : BitVec 7) (w : BitVec 2) (m : BitVec 1)
    (f : FFmt → Nat → Nat → Nat → Nat → Nat × Flags) : State :=
  let n := floatBits w
  s.mapLanes d n m (fun i => f (laneFmt w) s.vmode (s.lane a n i) (s.lane b n i) (s.lane d n i))

def execVfadd (d a b : BitVec 7) (w : BitVec 2) (m : BitVec 1) (s : State) : Out :=
  .next (s.floats3 d a b w m (fun t r x y _ => t.addPat r false x y))
def execVfsub (d a b : BitVec 7) (w : BitVec 2) (m : BitVec 1) (s : State) : Out :=
  .next (s.floats3 d a b w m (fun t r x y _ => t.addPat r true x y))
def execVfmul (d a b : BitVec 7) (w : BitVec 2) (m : BitVec 1) (s : State) : Out :=
  .next (s.floats3 d a b w m (fun t r x y _ => t.mulPat r x y))
def execVfma (d a b : BitVec 7) (w : BitVec 2) (m : BitVec 1) (s : State) : Out :=
  .next (s.floats3 d a b w m (fun t r x y z => t.fmaPat r false false x y z))
def execVfms (d a b : BitVec 7) (w : BitVec 2) (m : BitVec 1) (s : State) : Out :=
  .next (s.floats3 d a b w m (fun t r x y z => t.fmaPat r false true x y z))
def execVfnma (d a b : BitVec 7) (w : BitVec 2) (m : BitVec 1) (s : State) : Out :=
  .next (s.floats3 d a b w m (fun t r x y z => t.fmaPat r true false x y z))
def execVfdiv (d a b : BitVec 7) (w : BitVec 2) (m : BitVec 1) (s : State) : Out :=
  .next (s.floats3 d a b w m (fun t r x y _ => t.divPat r x y))
def execVfmin (d a b : BitVec 7) (w : BitVec 2) (m : BitVec 1) (s : State) : Out :=
  .next (s.floats3 d a b w m (fun t _ x y _ => t.minMaxPat false x y))
def execVfmax (d a b : BitVec 7) (w : BitVec 2) (m : BitVec 1) (s : State) : Out :=
  .next (s.floats3 d a b w m (fun t _ x y _ => t.minMaxPat true x y))
/-- x with the sign bit of y. -/
def signFrom (n x y : Nat) : Nat := x % 2 ^ (n - 1) + y / 2 ^ (n - 1) * 2 ^ (n - 1)
def execVfsgn (d a b : BitVec 7) (w : BitVec 2) (m : BitVec 1) (s : State) : Out :=
  .next (s.floats3 d a b w m (fun t _ x y _ => (signFrom t.bits x y, 0)))

/-- A one-operand float form (R149). -/
def State.floats1 (s : State) (d a : BitVec 7) (w : BitVec 2) (m : BitVec 1) (f : FFmt → Nat → Nat → Nat × Flags) : State :=
  let n := floatBits w
  s.mapLanes d n m (fun i => f (laneFmt w) s.vmode (s.lane a n i))
def execVfsqrt (d a : BitVec 7) (w : BitVec 2) (m : BitVec 1) (s : State) : Out :=
  .next (s.floats1 d a w m (fun t r x => t.sqrtPat r x))
def execVfrcp (d a : BitVec 7) (w : BitVec 2) (m : BitVec 1) (s : State) : Out :=
  .next (s.floats1 d a w m (fun t _ x => t.recipPat false x))
def execVfrsq (d a : BitVec 7) (w : BitVec 2) (m : BitVec 1) (s : State) : Out :=
  .next (s.floats1 d a w m (fun t _ x => t.recipPat true x))
def execVfclass (d a : BitVec 7) (w : BitVec 2) (m : BitVec 1) (s : State) : Out :=
  .next (s.floats1 d a w m (fun t _ x => (t.classPat x, 0)))

def execVfcmp (k : BitVec 3) (a b : BitVec 7) (c : BitVec 3) (w : BitVec 2) (s : State) : Out :=
  let n := floatBits w
  let r := (List.range (512 / n)).map (fun i => (laneFmt w).cmpPat c.toNat (s.lane a n i) (s.lane b n i))
  .next ((s.setK k (maskOf (r.map Prod.fst))).raise (orFlags (r.map Prod.snd))).done

/-- The node of VFRED's tree, with the flags so far (R158). -/
def fredOp (t : FFmt) (mode o : Nat) (x y : Nat × Flags) : Nat × Flags :=
  let r := match o with
    | 0 => t.addPat mode false x.1 y.1
    | 1 => t.minMaxPat false x.1 y.1
    | _ => t.minMaxPat true x.1 y.1
  (r.1, x.2 ||| y.2 ||| r.2)
def fredEmpty (t : FFmt) (o : Nat) : Nat := match o with | 1 => t.inf false | 2 => t.inf true | _ => 0
def execVfred (d : BitVec 5) (a : BitVec 7) (o : BitVec 3) (w : BitVec 2) (m : BitVec 1) (s : State) : Out :=
  let n := floatBits w
  let t := laneFmt w
  let xs := (List.range (512 / n)).map (fun i => if s.on m i then some (s.lane a n i, (0 : Flags)) else none)
  let r := (reduceTree (fredOp t s.vmode o.toNat) 6 xs).getD (fredEmpty t o.toNat, 0)
  .next ((s.setS d (word r.1)).raise r.2).done

/-- Bits of an element of a format as a register or memory holds it (R119). -/
def elemBits (code : Nat) : Nat := match code with | 0 => 64 | 1 => 32 | 2 => 16 | 3 => 16 | 8 => 4 | _ => 8

/-- The low elements of a register converted; the rest of the destination is 0 (R152, R153). -/
def State.convertElems (s : State) (d a : BitVec 7) (count n n' : Nat) (f : Nat → Nat × Flags) : State :=
  let r := (List.range count).map (fun i => f (s.lane a n i))
  ((s.setLanes d n' ((List.range (512 / n')).map (fun i => some ((r[i]?.map Prod.fst).getD 0)))).raise
    (orFlags (r.map Prod.snd))).done

/-- VCVT: xf to F32 with i = 0, F32 to xf with i = 1; narrower formats reach F32 exactly (R152). -/
def execVcvt (d a : BitVec 7) (i : BitVec 1) (x : BitVec 4) (r : BitVec 3) (sat : BitVec 1) (s : State) : Out :=
  let xf := x.toNat
  let src := if i = 0 then xf else 1
  let dst := if i = 0 then 1 else xf
  .next (s.convertElems d a (if xf = 0 then 8 else 16) (elemBits src) (elemBits dst)
    (fun v => (ffmt dst).convert (ffmt src) (s.mode r) (sat == 1 && !(decide (1 < src))) v))

/-- Integer types of R77: bits and sign. -/
def intBits (t : BitVec 3) : Nat := 8 * 2 ^ (t.toNat % 4)
def intSigned (t : BitVec 3) : Bool := decide (t.toNat < 4)
def execVcvti (d a : BitVec 7) (f : BitVec 2) (t r : BitVec 3) (x : BitVec 1) (s : State) : Out :=
  let n := floatBits f
  .next (s.convertElems d a (min (512 / n) (512 / intBits t)) n (intBits t)
    (fun v => (laneFmt f).toInt (intBits t) (intSigned t) (s.mode r) (x == 1) v))
def execVcvtf (d a : BitVec 7) (f : BitVec 2) (t r : BitVec 3) (x : BitVec 1) (s : State) : Out :=
  let n := floatBits f
  .next (s.convertElems d a (min (512 / n) (512 / intBits t)) (intBits t) n
    (fun v => (laneFmt f).ofInteger (s.mode r) (x == 1) (if intSigned t then toSigned (intBits t) v else (v : Nat))))

def execVscale (d a : BitVec 7) (q : BitVec 3) (w : BitVec 2) (r : BitVec 3) (x : BitVec 1) (s : State) : Out :=
  let n := floatBits w
  .next (s.mapLanes d n 0 (fun i =>
    (laneFmt w).scalePat (s.mode r) (x == 1) (scaleOf (s.src.scale q) i) (s.lane a n i)))

end Sys2Proof.Machine
end

