-- ==== Sys2Proof/Machine/FormatMem.lean ====
section
/-!
DEFINITION. VLDF and VSTF (R257): loads and stores that convert between the format of a register and that of a pointer.
-/
namespace Sys2Proof.Machine

/-- Half bytes of an element of a 5-bit format code (R119, R121). -/
def halves (c : Nat) : Nat :=
  match c with
  | 1 => 16 | 2 => 8 | 3 => 4 | 4 => 4 | 9 => 1
  | 17 => 4 | 18 => 8 | 19 => 16 | 21 => 4 | 22 => 8 | 23 => 16
  | _ => 2
/-- Reserved codes (R121). -/
def reservedFmt (c : Nat) : Bool := decide (10 < c ∧ c < 16) || decide (23 < c)
/-- An integer format, a narrow format with blocks (R122). -/
def integerFmt (c : Nat) : Bool := decide (16 ≤ c)
def narrowFmt (c : Nat) : Bool := decide (5 ≤ c ∧ c ≤ 9)
/-- The float format of a 5-bit code 1 to 9. -/
def fmt5 (c : Nat) : FFmt := ffmt (c - 1)

/-- Element e of bytes in a format, and bytes from elements. -/
def elemAt (c : Nat) (x e : Nat) : Nat := lane (4 * halves c) e x
/-- A wider format holds every value of the other: the conversion is exact (R257). -/
def widens (dst src : FFmt) : Bool := decide (src.e ≤ dst.e ∧ src.f ≤ dst.f ∧ dst ≠ src)

/-- Elements of one format converted to another; equal formats move the bytes, bits 7:6 of 6-bit elements as 0. -/
def convertBytes (src dst mode : Nat) (sat : Bool) (n : Nat) (bs : List Byte) : List Byte × Flags :=
  let x := ofBytes bs
  let rs := (List.range n).map (fun e =>
    let v := elemAt src x e
    if src = dst then ((if src = 7 ∨ src = 8 then v % 64 else v), (0 : Flags))
    else (fmt5 dst).convert (fmt5 src) mode (sat && !widens (fmt5 dst) (fmt5 src)) v)
  (toBytes (n * halves dst / 2) (ofLanes (4 * halves dst) (rs.map Prod.fst)), orFlags (rs.map Prod.snd))

/-- Elements that a register of a format holds (R257). -/
def regElems (f : Nat) : Nat := 128 / halves f

/-- The access of a VLDF or VSTF whose register has format f: the memory format and the access. -/
def State.formatAccess (_s : State) (p : Word) (f : Nat) (n : Nat) (right : Right) : Nat × Access :=
  let o : Int := (ptrOff p : Nat)
  if f = 0 then (0, { p := p, o := o, pieces := [(o, 64)], right := right })
  else
    let m := if ptrFmt p = 0 then f else ptrFmt p
    let ok := if f = 10 then m == 10
      else m != 10 && (m == f || (!integerFmt m && !integerFmt f && !(narrowFmt m && ptrBlock p != 0)))
    (m, { p := p, o := o, pieces := [(o, n * halves m / 2)], right := right, badFmt := reservedFmt m, condOk := ok })

def execVldf (t : BitVec 7) (b : BitVec 5) (r : BitVec 3) (x : BitVec 1) (f : BitVec 5) (s : State) : Out :=
  let p := s.rs b
  let q := s.formatAccess p f.toNat (regElems f.toNat) .read
  .next (s.access q.2 (fun l =>
    if s.full .ldc then s.block
    else
      let n := (q.2.pieces.map Prod.snd).sum
      let fin := if f = 0 then Ending.vec t else .conv t q.1 f.toNat (BitVec.ofNat 3 (s.mode r)) (x == 1)
      (s.issueLoad l q.2.pieces n fin (addrXval p q.2.o) relaxed).done))
def execVldfScales (t : BitVec 3) (b : BitVec 5) (_r : BitVec 3) (_x : BitVec 1) (s : State) : Out :=
  let p := s.rs b
  let q := s.formatAccess p 10 32 .read
  .next (s.access q.2 (fun l =>
    if s.full .ldc then s.block else (s.issueLoad l q.2.pieces 32 (.scales t) (addrXval p q.2.o) relaxed).done))

/-- A store whose completion raises flags (R132). -/
def State.storeFlags (s : State) (l : Land) (pieces : List (Int × Nat)) (bs : List Byte) (f : Flags) : State :=
  if s.full .stc then s.block
  else ((s.issueOp { oid := 0, party := .strand 0, rcb := 0, cls := some .stc, fin := .flags f } clsW relaxed 0
    (landRoot l) true ((lines s.pt l pieces).map (fun x => (x.1, Act.write (cellsOf bs x.2))))).touch s.key).done

def execVstf (t : BitVec 7) (b : BitVec 5) (r : BitVec 3) (x : BitVec 1) (f : BitVec 5) (s : State) : Out :=
  let q := s.formatAccess (s.rs b) f.toNat (regElems f.toNat) .write
  let bs := toBytes 64 (s.vs t).toNat
  let c := if f = 0 then (bs, 0) else convertBytes f.toNat q.1 (s.mode r) (x == 1) (regElems f.toNat) bs
  .next (s.access q.2 (fun l => s.storeFlags l q.2.pieces c.1 c.2))
def execVstfScales (t : BitVec 3) (b : BitVec 5) (_r : BitVec 3) (_x : BitVec 1) (s : State) : Out :=
  let q := s.formatAccess (s.rs b) 10 32 .write
  .next (s.access q.2 (fun l => s.storeFlags l q.2.pieces (toBytes 32 (s.src.scale t).toNat) 0))

end Sys2Proof.Machine
end

