-- ==== Sys2Proof/Machine/Plot.lean ====
section
/-!
DEFINITION. The plot table and sharded tensors (R297 to R310): headers and chains, translation through a tile's plot cache,
TLD, TST, TLDV, TSTV, TMAP and PLOTW.
-/
namespace Sys2Proof.Machine

/-- A header entry (R298): axes at or above the rank read as 1. -/
structure Header where
  valid : Bool
  w     : Bool
  qa    : Nat
  rank  : Nat
  fmt   : Nat
  blk   : Nat
  gen   : Nat
  copy  : Nat
  first : Nat
  x     : List Nat
  sh    : List Nat
  deriving DecidableEq, Repr

def headerOf (img : VReg) : Header :=
  let v := img.toNat
  let rank := bitsOf 56 2 v
  let axis (lo : Nat) : List Nat := (List.range 3).map (fun a => if a < rank then bitsOf (lo + 21 * a) 21 v else 1)
  { valid := bitOf 63 v && bitsOf 61 2 v == 1, w := bitOf 60 v, qa := bitsOf 58 2 v, rank := rank, fmt := bitsOf 51 5 v,
    blk := bitsOf 48 3 v, gen := bitsOf 32 16 v, copy := bitsOf 16 16 v, first := v % 2 ^ 16, x := axis 64, sh := axis 128 }

/-- Elements to a scale for a block field (R122). -/
def blockLen (g : Nat) : Nat := 2 ^ (g + 2)
def Header.blocked (h : Header) : Bool := h.blk != 0
/-- X' and S' of R302, and the number of shards along an axis. -/
def Header.ext (h : Header) (sc : Bool) (a : Nat) : Nat :=
  if sc ∧ a = h.qa then ceilDiv (h.x.getD a 1) (blockLen h.blk) else h.x.getD a 1
def Header.box (h : Header) (sc : Bool) (a : Nat) : Nat :=
  if sc ∧ a = h.qa then h.sh.getD a 1 / blockLen h.blk else h.sh.getD a 1
def Header.count (h : Header) (a : Nat) : Nat := ceilDiv (h.x.getD a 1) (h.sh.getD a 1)

/-- The conditions of R299 on one header, for a table of n entries. -/
def Header.ok (h : Header) (n : Nat) : Bool :=
  h.valid && decide (1 ≤ h.rank ∧ h.rank ≤ 3) &&
  (List.range h.rank).all (fun a => decide (1 ≤ h.x.getD a 1 ∧ h.x.getD a 1 ≤ 2 ^ 20 ∧ 1 ≤ h.sh.getD a 1 ∧
    h.sh.getD a 1 ≤ h.x.getD a 1)) &&
  decide ((1 ≤ h.fmt ∧ h.fmt ≤ 9) ∨ (16 ≤ h.fmt ∧ h.fmt ≤ 23)) &&
  (h.blk == 0 || (narrowFmt h.fmt && decide (h.qa < h.rank) && h.sh.getD h.qa 1 % blockLen h.blk == 0)) &&
  decide (h.first + h.count 0 * (h.count 1 * h.count 2) ≤ n) && (h.copy == 0xFFFF || decide (h.copy < n))
def Header.like (h k : Header) : Bool := h.rank == k.rank && h.x == k.x && h.fmt == k.fmt

/-- The chain of a tensor as a tile's cache shows it: entries missing, an invalid chain, or its headers (R299). -/
inductive Chain where
  | missing (x : Nat)
  | bad
  | ok (hs : List (Nat × Header))
  deriving DecidableEq, Repr

def chainFrom (get : Nat → Option VReg) (n : Nat) (h0 : Option Header) : Nat → Nat → Chain
  | 0, _ => .bad
  | f + 1, x =>
    match get x with
    | none => .missing x
    | some img =>
      let h := headerOf img
      if !h.ok n || !(match h0 with | some k => h.like k | none => true) then .bad
      else if h.copy = 0xFFFF then .ok [(x, h)]
      else match chainFrom get n (some (h0.getD h)) f h.copy with
        | .ok r => .ok ((x, h) :: r)
        | e => e

/-- A coordinate word (R302). -/
def coordAt (c : Nat) (a : Nat) : Nat := bitsOf (20 * a) 20 c
def coordA (c : Nat) : Nat := bitsOf 62 2 c
def coordSC (c : Nat) : Bool := bitOf 61 c

/-- The shard entry and the element of an index in a copy (R303). -/
def Header.shardEntry (h : Header) (sc : Bool) (i : Nat → Nat) : Nat :=
  let j (a : Nat) : Nat := i a / h.box sc a
  h.first + j 0 + h.count 0 * (j 1 + h.count 1 * j 2)
def Header.element (h : Header) (sc : Bool) (i : Nat → Nat) : Nat :=
  let l (a : Nat) : Nat := i a % h.box sc a
  l 0 + h.box sc 0 * (l 1 + h.box sc 1 * l 2)
/-- Half bytes of an element of the access. -/
def Header.halves (h : Header) (sc : Bool) : Nat := if sc then 2 else Machine.halves h.fmt

/-- A shard entry (R300): die, chip, offset for elements or scales; the tests of step 7 give 2 or 4 where they fail. -/
def shardDie (v : Nat) : Nat := bitsOf 50 7 v
def shardChip (v : Nat) : Nat := bitsOf 64 22 v
def shardOff (sc : Bool) (v : Nat) : Nat := (if sc then bitsOf 86 36 v else v % 2 ^ 36) / 64 * 64
def shardBad (v last : Nat) : Nat :=
  if !bitOf 63 v then 2
  else if bitsOf 61 2 v ≠ 2 ∨ bitsOf 122 390 v ≠ 0 ∨ bitsOf 57 4 v ≠ 0 ∨ bitsOf 36 14 v ≠ 0 ∨ Config.protectedOff ≤ last then 4
  else 0

/-- XVAL of a plot miss (R305). -/
def plotMiss (code chosen gen : Nat) : Word := word (code + chosen * 2 ^ 16 + gen * 2 ^ 32)

/-- The elements of an access along its axis: those inside the extent, of at most n. -/
structure Run where
  a : Nat
  n : Nat
  deriving DecidableEq, Repr
def runIndex (c : Nat) (a k : Nat) (b : Nat) : Nat := if b = a then coordAt c b + k else coordAt c b
/-- Elements of the run inside the extent. -/
def Header.inside (h : Header) (sc : Bool) (c : Nat) (r : Run) : Nat := min r.n (h.ext sc r.a - coordAt c r.a)
/-- The run lies in one shard (R307). -/
def Header.oneShard (h : Header) (sc : Bool) (c : Nat) (r : Run) : Bool :=
  coordAt c r.a / h.box sc r.a == min (coordAt c r.a + r.n - 1) (h.ext sc r.a - 1) / h.box sc r.a
/-- Byte offset of the run's element k in its shard, and whether it stands in the high half of the byte. -/
def Header.byteOf (h : Header) (sc : Bool) (c : Nat) (a k : Nat) : Nat × Bool :=
  let e := h.element sc (runIndex c a k)
  (h.halves sc * e / 2, h.halves sc == 1 && e % 2 == 1)

/-- A copy that an access uses: place in the chain, header, shard entry number and entry. -/
structure CopyUse where
  pos : Nat
  x   : Nat
  h   : Header
  sx  : Nat
  sh  : Nat
  deriving DecidableEq, Repr
/-- Die offset of the run's element k. -/
def CopyUse.offset (u : CopyUse) (sc : Bool) (c a k : Nat) : Nat := shardOff sc u.sh + (u.h.byteOf sc c a k).1
/-- Die offset of the last byte of the run. -/
def CopyUse.last (u : CopyUse) (sc : Bool) (c : Nat) (r : Run) : Nat :=
  (List.range (u.h.inside sc c r)).foldl (fun m k => max m (u.offset sc c r.a k + (u.h.halves sc + 1) / 2 - 1)) 0
def CopyUse.bad (u : CopyUse) (sc : Bool) (c : Nat) (r : Run) : Nat := shardBad u.sh (u.last sc c r)

/-- How an access comes out of translation: entries missing from the cache, a trap of segment limit, a plot miss with its
code and header, or the copies it uses. -/
inductive Trans where
  | missing (x : Nat)
  | limit
  | miss (code chosen : Nat)
  | ok (us : List CopyUse)
  deriving DecidableEq, Repr

/-- An entry of the region's table as the tile's plot cache holds it (R297). -/
def State.plotEntry (s : State) (pt rcb x : Nat) : Option VReg :=
  ((s.tile pt).plots.find? (fun p => p.rcb == rcb && p.x == x)).map Plot.img
def State.useOf (s : State) (pt rcb : Nat) (sc : Bool) (c : Nat) (pos : Nat) (x : Nat) (h : Header) : Except Nat CopyUse :=
  let sx := h.shardEntry sc (coordAt c)
  match s.plotEntry pt rcb sx with
  | some img => .ok { pos := pos, x := x, h := h, sx := sx, sh := img.toNat }
  | none => .error sx

/-- The first copy whose shard is on the issuing die and panel and passes the tests (R303). -/
def State.nearCopy (s : State) (pt rcb : Nat) (c : Nat) (r : Run) : Nat → List (Nat × Header) → Except Nat (Option CopyUse)
  | _, [] => .ok none
  | pos, (x, h) :: t =>
    match s.useOf pt rcb false c pos x h with
    | .error m => .error m
    | .ok u =>
      if u.bad false c r = 0 ∧ s.physDie (shardDie u.sh) = some (pt / 144) ∧ shardChip u.sh = s.chip.toNat then .ok (some u)
      else s.nearCopy pt rcb c r (pos + 1) t
def State.allCopies (s : State) (pt rcb : Nat) (sc : Bool) (c : Nat) : Nat → List (Nat × Header) → Except Nat (List CopyUse)
  | _, [] => .ok []
  | pos, (x, h) :: t =>
    match s.useOf pt rcb sc c pos x h, s.allCopies pt rcb sc c (pos + 1) t with
    | .ok u, .ok us => .ok (u :: us)
    | .error m, _ => .error m
    | _, .error m => .error m

/-- The first copy of a blocked tensor along the axis (R303). -/
def axisCopy (a : Nat) : Nat → List (Nat × Header) → Option (Nat × Nat × Header)
  | _, [] => none
  | pos, (x, h) :: t => if h.qa = a then some (pos, x, h) else axisCopy a (pos + 1) t

/-- Steps 3 to 7 of R304 for coordinate c and a run, of the tensor with primary header H in a table of n entries; copies of a
replicated store are checked in chain order (log 63). -/
def State.translate (s : State) (pt rcb n hx : Nat) (c : Nat) (r : Run) (store : Bool) : Trans :=
  match chainFrom (s.plotEntry pt rcb) n none 4 hx with
  | .missing x => .missing x
  | .bad => .miss 4 hx
  | .ok hs =>
    let h0 := (hs.head?.map Prod.snd).getD (headerOf 0)
    let sc := coordSC c
    let a := coordA c
    let blocked := h0.blocked
    let chosen := if blocked then axisCopy a 0 hs else none
    -- X' is that of QA = A
    let h := match chosen with | some (_, _, h) => h | none => h0
    let ext (b : Nat) : Nat := if sc ∧ b = a then ceilDiv (h.x.getD b 1) (blockLen h.blk) else h.x.getD b 1
    if a = 3 ∨ h0.rank ≤ a ∨ bitOf 60 c ∨ (List.range 3).any (fun b => decide (h0.rank ≤ b) && coordAt c b != 0) ∨
        (sc ∧ !blocked) ∨ (List.range 3).any (fun b => decide (ext b ≤ coordAt c b)) then .limit
    else if blocked && chosen.isNone then .miss 1 hx
    else
      let uses : Except Nat (List CopyUse) :=
        match chosen with
        | some (pos, x, h) => (match s.useOf pt rcb sc c pos x h with | .ok u => .ok [u] | .error m => .error m)
        | none =>
          if store then s.allCopies pt rcb sc c 0 hs
          else match s.nearCopy pt rcb c r 0 hs with
            | .error m => .error m
            | .ok (some u) => .ok [u]
            | .ok none => (match s.useOf pt rcb sc c 0 hx h0 with | .ok u => .ok [u] | .error m => .error m)
      match uses with
      | .error m => .missing m
      | .ok us =>
        if us.any (fun u => !u.h.oneShard sc c r) then .limit
        else match us.find? (fun u => store && !u.h.w) with
          | some u => .miss 3 u.x
          | none => match us.find? (fun u => u.bad sc c r != 0) with
            | some u => .miss (u.bad sc c r) u.x
            | none => .ok us

/-- The descriptor's header, the entry count of the region's table. -/
def tensorHeader (d : Wide) : Nat := dKindField d % 2 ^ 16
def State.plotCount (s : State) : Nat := (s.region s.me.rcbp.toNat).plotCount
/-- GEN of H where the cache shows it. -/
def State.genOf (s : State) (hx : Nat) : Nat :=
  match s.plotEntry s.pt s.me.rcbp.toNat hx with | some img => (headerOf img).gen | none => 0

/-- Those of some plot entries whose copy in the issuing tile's cache a PLOTW has overtaken (R310). -/
def State.overtaken (s : State) (xs : List Nat) : List Nat :=
  xs.filter (fun x => (s.tile s.pt).plots.any (fun p => p.rcb == s.me.rcbp.toNat && p.x == x && p.old))
/-- The plot entries that an access was translated through. -/
def usesOf (us : List CopyUse) (hs : List Nat) : List Nat := (hs ++ us.map (fun u => u.x) ++ us.map (fun u => u.sx)).eraseDups
def State.chainXs (s : State) (hx : Nat) : List Nat :=
  match chainFrom (s.plotEntry s.pt s.me.rcbp.toNat) s.plotCount none 4 hx with | .ok hs => hs.map Prod.fst | _ => [hx]

/-- The strand is not ready until an entry of its region's table is in the tile's plot cache (R304). -/
def State.wantPlot (s : State) (x : Nat) : State := { s with iss := { s.iss with res := .blocked, want := some x } }

/-- A tensor access from its checks to its effect on the copies it uses (R304, R308); step 1 comes first, against a row of
R371 (log 87). -/
def State.tensor (s : State) (g : BitVec 3) (c : Word) (run : Nat → Run) (store crossOk : Bool)
    (eff : List CopyUse → State) : State :=
  let d := s.src.seg g
  let rcb := s.me.rcbp.toNat
  let hx := tensorHeader d
  if dKind d ≠ kindShard ∨ !dT d ∨ !(if store then dW d else dR d) then s.trap causeRights c
  else
    -- the run length depends on the format of the chain's headers, which agree
    let fmt := match s.plotEntry s.pt rcb hx with | some img => (headerOf img).halves (coordSC c.toNat) | none => 2
    match s.translate s.pt rcb s.plotCount hx c.toNat (run fmt) store with
    | .missing x => s.wantPlot x
    | .limit => s.trap causeLimit c
    | .miss code x => s.trap causePlot (plotMiss code x (s.genOf hx))
    | .ok us =>
      if us.any (fun u => shardChip u.sh != s.chip.toNat) && !(crossOk && us.length == 1 && dCpe d) then s.trap causeRights c
      else eff us

/-- The home and bytes of runs of die memory of a logical die; none where the position is vacant (R331). -/
def State.shardLines (s : State) (l : Nat) (pieces : List (Nat × Nat)) : List (Home × List Seg) :=
  match s.physDie l with
  | none => []
  | some d => (byLine (cutRuns 256 pieces 0)).map (fun x =>
      (Home.channel d (s.channelOf d (256 * x.1)), x.2.map (fun g => { g with key := dieKey d g.key })))

/-- The elements of a run in a copy, as die offset and high half. -/
def CopyUse.places (u : CopyUse) (sc : Bool) (c : Nat) (r : Run) : List (Nat × Bool) :=
  (List.range (u.h.inside sc c r)).map (fun k => (u.offset sc c r.a k, (u.h.byteOf sc c r.a k).2))
/-- Bytes of an element. -/
def elemBytes (hv : Nat) : Nat := (hv + 1) / 2

/-- The parts that read the elements of a copy to the buffer, one element after another. -/
def State.readParts (s : State) (u : CopyUse) (sc : Bool) (c : Nat) (r : Run) : List (Home × Act) :=
  let z := elemBytes (u.h.halves sc)
  (s.shardLines (shardDie u.sh) ((u.places sc c r).map (fun p => (p.1, z)))).map (fun x => (x.1, Act.read x.2))

/-- Stores to the nibbles of bytes, by block. -/
def State.nibbleParts (s : State) (l : Nat) (ps : List (Nat × Bool × BitVec 4)) : List (Home × Act) :=
  match s.physDie l with
  | none => []
  | some d =>
    let blocks := (ps.map (fun p => p.1 / 256)).eraseDups
    blocks.map (fun b => (Home.channel d (s.channelOf d (256 * b)),
      Act.nibbles ((ps.filter (fun p => p.1 / 256 == b)).map (fun p => (dieKey d p.1, p.2.1, p.2.2)))))
/-- The parts that write values to the elements of a copy. -/
def State.writeParts (s : State) (u : CopyUse) (sc : Bool) (c : Nat) (r : Run) (vs : List Nat) : List (Home × Act) :=
  let hv := u.h.halves sc
  let ps := (u.places sc c r).zip vs
  if hv = 1 then s.nibbleParts (shardDie u.sh) (ps.map (fun p => (p.1.1, p.1.2, BitVec.ofNat 4 p.2)))
  else
    let z := elemBytes hv
    let six := !sc && (u.h.fmt == 7 || u.h.fmt == 8)
    let bs := (ps.map (fun p => toBytes z (if six then p.2 % 64 else p.2))).flatten
    (s.shardLines (shardDie u.sh) (ps.map (fun p => (p.1.1, z)))).map (fun x => (x.1, Act.write (cellsOf bs x.2)))

/-- An operation of a tensor access with its parts. -/
def State.tensorOp (s : State) (c : Word) (k : Cls) (fin : Ending) (cls n : Nat) (us : List CopyUse) (hx : Nat)
    (parts : List (Home × Act)) : State :=
  let xs := usesOf us (s.chainXs hx)
  s.issueOp { oid := 0, party := .strand 0, rcb := 0, cls := some k, fin := fin, buf := zeros n, addr := c
              uses := xs, oldUses := s.overtaken xs }
    cls relaxed 0 0 false parts

def oneElem (c : Word) : Nat → Run := fun _ => { a := coordA c.toNat, n := 1 }
def fullRun (c : Word) : Nat → Run := fun hv => { a := coordA c.toNat, n := 128 / hv }
/-- The element format of an access: E8M0 for scales (R302). -/
def accessFmt (u : CopyUse) (sc : Bool) : Nat := if sc then 10 else u.h.fmt

def execTld (t c : BitVec 5) (g : BitVec 3) (s : State) : Out :=
  let w := s.rs c
  let sc := coordSC w.toNat
  .next (s.tensor g w (oneElem w) false true (fun us =>
    match us with
    | [] => s.block
    | u :: _ =>
      let d := s.src.seg g
      let r := oneElem w 2
      let place := (u.places sc w.toNat r).head?.getD (0, false)
      let z := elemBytes (u.h.halves sc)
      if shardChip u.sh ≠ s.chip.toNat then
        s.issueCross (shardChip u.sh) (dCp d) 9 (accessFmt u sc) place.2 clsR [shardDie u.sh, place.1, z]
      else if s.full .ldc then s.block
      else (s.tensorOp w .ldc (.elem t (accessFmt u sc) place.2) clsR z us (tensorHeader d) (s.readParts u sc w.toNat r)).done))

def execTst (t c : BitVec 5) (g : BitVec 3) (s : State) : Out :=
  let w := s.rs c
  let sc := coordSC w.toNat
  let v := (s.rs t).toNat
  .next (s.tensor g w (oneElem w) true true (fun us =>
    let d := s.src.seg g
    let r := oneElem w 2
    match us with
    | [] => s.block
    | u :: _ =>
      if shardChip u.sh ≠ s.chip.toNat then
        let place := (u.places sc w.toNat r).head?.getD (0, false)
        s.issueCross (shardChip u.sh) (dCp d) 1 0 false clsW
          [shardDie u.sh, place.1, elemBytes (u.h.halves sc), accessFmt u sc, place.2.toNat, v % 2 ^ (4 * u.h.halves sc)]
      else if s.full .stc then s.block
      else
        let parts := (us.map (fun u => s.writeParts u sc w.toNat r [v])).flatten
        ((s.tensorOp w .stc .none clsW 0 us (tensorHeader d) parts).touch s.key).done))

def execTldv (v : BitVec 7) (c : BitVec 5) (g : BitVec 3) (s : State) : Out :=
  let w := s.rs c
  let sc := coordSC w.toNat
  .next (s.tensor g w (fullRun w) false false (fun us =>
    match us with
    | [] => s.block
    | u :: _ =>
      if s.full .ldc then s.block
      else
        let hv := u.h.halves sc
        let r := fullRun w hv
        let nib := if hv = 1 then (u.places sc w.toNat r).map Prod.snd else []
        (s.tensorOp w .ldc (.run v (accessFmt u sc) nib) clsR (if hv = 1 then 128 else 64) us (tensorHeader (s.src.seg g))
          (s.readParts u sc w.toNat r)).done))

def execTstv (v : BitVec 7) (c : BitVec 5) (g : BitVec 3) (s : State) : Out :=
  let w := s.rs c
  let sc := coordSC w.toNat
  .next (s.tensor g w (fullRun w) true false (fun us =>
    match us with
    | [] => s.block
    | u :: _ =>
      if s.full .stc then s.block
      else
        let hv := u.h.halves sc
        let r := fullRun w hv
        let vs := (List.range r.n).map (fun k => lane (4 * hv) k (s.vs v).toNat)
        let parts := (us.map (fun u => s.writeParts u sc w.toNat r vs)).flatten
        ((s.tensorOp w .stc .none clsW 0 us (tensorHeader (s.src.seg g)) parts).touch s.key).done))

/-- TMAP reads no element; misses of steps 5 and 7 stand in the result (R309). -/
def tmapMiss (code gen : Nat) : Word := word (2 ^ 63 + code * 2 ^ 16 + gen)
def execTmap (d a : BitVec 5) (g : BitVec 3) (s : State) : Out :=
  let c := s.rs a
  let seg := s.src.seg g
  let rcb := s.me.rcbp.toNat
  let hx := tensorHeader seg
  let sc := coordSC c.toNat
  .next (
    if dKind seg ≠ kindShard ∨ !dT seg then s.trap causeRights c
    else
      let gen := s.genOf hx
      let answer (v : Word) (us : List CopyUse) : State :=
        if s.full .ldc then s.block
        else
          let xs := usesOf us (s.chainXs hx)
          (s.issueOp { oid := 0, party := .strand 0, rcb := 0, cls := some .ldc, fin := .word d, res := v,
                       uses := xs, oldUses := s.overtaken xs } clsR relaxed 0 0 false []).done
      match chainFrom (s.plotEntry s.pt rcb) s.plotCount none 4 hx with
      | .missing x => s.wantPlot x
      | .bad => s.trap causePlot (plotMiss 4 hx gen)
      | .ok _ =>
        match s.translate s.pt rcb s.plotCount hx c.toNat (oneElem c 2) false with
        | .missing x => s.wantPlot x
        | .limit => s.trap causeLimit c
        | .miss code _ => answer (tmapMiss code gen) []
        | .ok us =>
          match us with
          | [] => s.block
          | u :: _ =>
            let st := if shardChip u.sh = s.chip.toNat then 0 else 1
            answer (word (st * 2 ^ 62 + shardDie u.sh * 2 ^ 55 + u.offset sc c.toNat (coordA c.toNat) 0 * 2 ^ 19 +
              u.pos * 2 ^ 16 + gen)) us)

/-- PLOTW (R310): the image is read, then the entry is written and dropped from every cache at its home. -/
def execPlotw (a b : BitVec 5) (s : State) : Out :=
  let x := (s.rs a).toNat % 2 ^ 16
  let rcb := s.me.rcbp.toNat
  let p := s.rs b
  let o : Int := (ptrOff p : Nat)
  .next (
    if !s.me.p then s.trap causePrivilege 0
    else if s.plotCount ≤ x then s.trap causeLimit (s.rs a)
    else s.access { p := p, o := o, pieces := [(o, 64)], right := .read } (fun l =>
      if s.full .stc then s.block
      else
        let rd := (lines s.pt l [(o, 64)]).map (fun y => (y.1, Act.read y.2))
        let first := s.nextId + 1
        let t := s.issueOp { oid := 0, party := .strand 0, rcb := 0, cls := some .stc, fin := .plotw x, buf := zeros 64 } clsE relaxed
          0 (landRoot l) false rd
        let needs := (List.range rd.length).map (fun i => Need.part (first + i))
        let proto : Part := { pid := 0, oid := s.nextId, party := .strand s.key, src := s.pt, home := .absent, lane := 0,
                              gates := { needs := needs, scope := .system, own := false } :: gatesFor s.me.gates clsE,
                              cls := clsE, act := .read [] }
        let base := (s.region rcb).plotBase / 64 * 64
        let home := match s.panelLines (base + 64 * x) 64 with | y :: _ => y.1 | [] => Home.tables (s.pt / 144)
        (t.postAll proto [(home, Act.plotw rcb x)]).done))

end Sys2Proof.Machine
end

