-- ==== Sys2Proof/Machine/Complete.lean ====
section
/-!
DEFINITION. The completion of operations (R96, R132, R222, R337): loads and the rest, with the test of a segment descriptor
(R286), copies (R263), messages (R354, R355), evictions (R215) and context images (R218, R219).
-/
namespace Sys2Proof.Machine

/-! ## When an operation may complete -/

/-- Nothing of the operation is under way. -/
def State.opIdle (s : State) (o : Op) : Bool :=
  !s.allParts.any (fun p => p.oid == o.oid) && !s.deposits.any (fun d => d.oid == some o.oid) &&
  !s.heldRels.any (fun r => r.oid == o.oid) && !s.locals.any (fun l => l.oid == some o.oid) && o.later.isEmpty &&
  !o.awaits

/-- A tile operation still feeds the operation. -/
def State.feeds (s : State) (oid : Nat) : Bool :=
  s.tileOps.any (fun t => t.drains oid)

/-- The operation's own completion rule is met; copies, messages, grid steps and context operations have steps of their
own for it. -/
def State.mayComplete (s : State) (o : Op) : Bool :=
  s.opIdle o && (match o.fin with
    | .copy => o.pubPid.isSome
    | .send _ _ _ => o.pubPid.isSome
    | .gstep _ _ => false
    | .evict _ _ => false
    | .ctxsv _ => false
    | .ctxld _ => false
    | .drain => !s.feeds o.oid
    | .plotw x => s.plotDropped o.rcb x o.res.toNat
    | _ => true)

/-- The operation leaves, and its counter falls (R222). -/
def State.retire (s : State) (o : Op) : State :=
  let t := { s with ops := s.ops.filter (fun q => q.oid != o.oid) }
  match o.cls, o.party with
  | some c, .strand k => t.subCount k c
  | _, _ => t

/-! ## Descriptors at completion (R283 to R287, R301) -/

/-- A SHARD entry obeys R301. -/
def shardOk (x : Wide) (n : Nat) : Bool :=
  dBase x == 0 && dLimit x == 0 && dHomeTile x == 0 && dHomeDie x == 0 && !dX x && !dA x && !dG x &&
    decide (dKindField x < n)
/-- The entry is loaded as it stands (R286). -/
def State.segOk (s : State) (rcb : Nat) (x : Wide) : Bool :=
  let v := x.toNat
  let k := dKind x
  let own := dChip x == s.chip.toNat
  dValid x && decide (1 ≤ k ∧ k ≤ 5) && k != kindGrid &&
  bitsOf 231 24 v == 0 && bitsOf 183 9 v == 0 && bitsOf 166 2 v == 0 && bitsOf 139 5 v == 0 && bitsOf 135 1 v == 0 &&
  bitsOf 117 11 v == 0 && bitsOf 53 11 v == 0 && (dCpe x || dCp x == 0) && !dG x && (k == kindShard || (!dT x && dKindField x == 0)) &&
  (k != kindFlat || decide (dBase x + dLimit x ≤ 2 ^ 48)) &&
  (!(k == kindLocal || k == kindTile) || decide (dBase x + dLimit x ≤ 2 ^ 20)) &&
  (!(k == kindLocal || k == kindShard) || own) && (k != kindTile || decide (dHomeTile x ≤ 143)) &&
  (k != kindShard || shardOk x (s.region rcb).plotCount)
def State.segTest (s : State) (rcb : Nat) (x : Wide) : Wide := if s.segOk rcb x then x else 0

/-- GBIND at its completion (R269): the ID is the place of the descriptor's first byte, above 0 (R268). -/
def State.bindGrid (s : State) (key rcb : Nat) (g : BitVec 3) (id : Nat) (place : Option (Nat × Nat)) (bs : List Byte) : State :=
  match s.takeGrid (key / 16) rcb id (gridDesc bs) with
  | some (t, e) => if id = 0 then s.modStrand key (fun x => x.setSeg g (descriptor kindGrid 0 s.chip.toNat 0 0 0 0 0))
    else (t.setGridEntry (key / 16) e { t.gridEntry (key / 16) e with id := id, place := place, bound := true }).modStrand key (fun x =>
        x.setSeg g (t.gridSegment (key / 16) e))
  | none => s.modStrand key (fun x => x.setSeg g (descriptor kindGrid 0 s.chip.toNat 0 0 0 0 0))

/-! ## Destinations (R96, R141) -/

/-- Bits of an element, and its value in an s register: signed formats by their sign (R306). -/
def elemWord (fmt : Nat) (hi : Bool) (x : Nat) : Word :=
  if fmt = 9 then word (if hi then x / 16 % 16 else x % 16)
  else if fmt = 7 ∨ fmt = 8 then word (x % 64)
  else extend (decide (16 ≤ fmt ∧ fmt ≤ 19)) (4 * halves fmt) x
/-- The lanes of a tensor run (R307). -/
def runReg (fmt : Nat) (nib : List Bool) (bs : List Byte) : VReg :=
  if nib.isEmpty then
    BitVec.ofNat 512 (ofBytes (if fmt = 7 ∨ fmt = 8 then bs.map (fun b => b &&& 0x3F) else bs))
  else BitVec.ofNat 512 (ofLanes 4 (nib.zipWith (fun hi b => if hi then b.toNat / 16 else b.toNat % 16) bs))

/-- The destinations of an operation are written. -/
def State.finish (s : State) (key : Nat) (o : Op) : State :=
  let reg (d : BitVec 5) (v : Word) : State := s.modStrand key (fun x => x.setReg d v)
  match o.fin with
  | .word d => reg d o.res
  | .take d => reg d o.res
  | .words e f => s.modStrand key (fun x => (x.setReg e o.res).setReg f o.res2)
  | .bytes d n sx => reg d (extend sx (8 * n) (ofBytes o.buf))
  | .vec v => s.vset key v.toNat (BitVec.ofNat 512 (ofBytes o.buf))
  | .conv v src dst rm sat =>
    let r := convertBytes src dst rm.toNat sat (regElems dst) o.buf
    ((s.vset key v.toNat (BitVec.ofNat 512 (ofBytes r.1))).raiseFor key r.2).modStrand key (fun x => { x with lateLd := x.lateLd ||| r.2 })
  | .scales q => s.modStrand key (fun x => x.setScale q (BitVec.ofNat 256 (ofBytes o.buf)))
  | .flags f => (s.raiseFor key f).modStrand key (fun x => { x with lateSt := x.lateSt ||| f })
  | .seg g => s.modStrand key (fun x => x.setSeg g (s.segTest o.rcb (BitVec.ofNat 256 (ofBytes o.buf))))
  | .bind g flat root k => s.bindGrid key o.rcb g o.res.toNat (if flat then some (root, k) else none) o.buf
  | .cell d fmt chk st ok =>
    let t := if ok then reg d (elemWord fmt false (ofBytes o.buf)) else s
    (match chk with | some r => t.modStrand key (fun x => x.setReg r st) | none => t)
  | .cells v chk st ok =>
    let t := if ok then s.vset key v.toNat (BitVec.ofNat 512 (ofBytes o.buf)) else s
    (match chk with | some r => t.modStrand key (fun x => x.setReg r st) | none => t)
  | .elem d fmt hi => reg d (elemWord fmt hi (ofBytes o.buf))
  | .run v fmt nib => s.vset key v.toNat (runReg fmt nib o.buf)
  | _ => s

/-- A load of data that may come back uncorrectable (R206). -/
def isLoadEnd (f : Ending) : Bool :=
  match f with
  | .bytes _ _ _ => true | .vec _ => true | .conv _ _ _ _ _ => true | .scales _ => true | .seg _ => true
  | .cell _ _ _ _ _ => true | .cells _ _ _ _ => true | .elem _ _ _ => true | .run _ _ _ => true
  | _ => false

/-- An empty TAKE on a free-running strand raises its quiet count where no reset event has happened since its last TAKE; a
record is a reset event, and one that comes between the issue of a TAKE and its completion comes before it (R63, log 75). -/
def State.takeQuiet (s : State) (key : Nat) (o : Op) : State :=
  match o.fin with
  | .take _ =>
    if o.res.toNat % 256 = 0 then s.touch key
    else if (s.strand key).per = 0 then
      let empty := o.res.toNat % 256 == 1 || o.res.toNat % 256 == 2
      s.modStrand key (fun x => { x with quiet := if x.busyTake || !empty then x.quiet else x.quiet + 1, busyTake := false })
    else s
  | _ => s

/-- The answer to another panel: value, hoist count and bytes (R253, R364). -/
def answerOf (o : Op) : Option (List Nat) :=
  match o.fin with
  | .answer kind n sx =>
    (match kind with
      | 1 => some [3, (extend sx (8 * n) (ofBytes o.buf)).toNat, 0]
      | 2 => some ([3, o.buf.length, 0] ++ o.buf.map BitVec.toNat)
      | _ => some [3, o.res.toNat, 0])
  | _ => none

/-- The die that gives the answer of an operation from outside: it stands above 0 in `addr`. -/
def Op.from? (o : Op) : Option Nat := if o.addr = 0 then none else some (o.addr.toNat - 1)

/-- `bad` says that an uncorrectable error of a unit that the load read came with its data (R206). -/
def execOperationComplete (oid : Nat) (bad : Option (Nat × FaultUnit)) (s : State) : Out :=
  .next (match s.op? oid with
    | none => s
    | some o =>
      if !s.mayComplete o then s
      else match o.party, bad with
        | .strand key, some q =>
          if isLoadEnd o.fin && o.units.contains q then
            ((s.modStrand key (fun x => { x with badLoads := x.badLoads ++ [o.addr] })).tellError q.1 q.2 o.rcb causeData.toNat).retire o
          else s
        | .strand key, none => ((s.finish key o).takeQuiet key o).retire o
        | .copy _, none => s.retire o
        | .outside _, none => (match answerOf o with | some m => s.give o.from? m | none => s).retire o
        | _, _ => s)

/-! ## Copies, fills and messages -/

/-- The completion word goes to the deposit port of the issuing tile; the operation ends once it is applied (R182). -/
def State.publish (s : State) (o : Op) (pt : Nat) (v : Word) : State :=
  match o.pub with
  | none => s.retire o
  | some cp =>
    { s.modOp o.oid (fun q => { q with pubPid := some 0 }) with
      deposits := s.deposits ++ [{ pt := pt, idx := cp, act := .set v o.stamp, pid := none, oid := some o.oid }] }

def execCopyComplete (oid : Nat) (s : State) : Out :=
  .next (match s.op? oid with
    | none => s
    | some o => match o.fin with
      | .copy => if s.opIdle o && o.pubPid.isNone && !o.gates.any s.gateWaits then s.publish o (opTile o) o.count else s
      | _ => s)

/-- The completion word of a SEND (R355), and MLAT (R229). -/
def sendWord (lat hops dieHops code : Nat) : Word :=
  word (min lat 0xFFFFFFFF * 2 ^ 32 + min hops 255 * 2 ^ 16 + dieHops % 256 * 2 ^ 8 + code)
def mlatWord (lat hops dieHops : Nat) : Word := word (min lat 0xFFFFFFFF * 2 ^ 32 + dieHops % 256 * 2 ^ 8 + min hops 255)

def execSendComplete (oid : Nat) (s : State) : Out :=
  .next (match s.op? oid with
    | none => s
    | some o => match o.fin with
      | .send hops dh code =>
        -- the deposit of the completion word is a release at region scope (R354)
        let pt := opTile o
        if s.opIdle o && o.pubPid.isNone && !o.gates.any s.gateWaits && (s.tile pt).sendAt != some (s.cycle pt) then
          let lat := s.cycle pt - o.issued
          (s.modTile pt (fun t => { t with mlat := mlatWord lat hops dh, sendAt := some (s.cycle pt) })).publish o pt
            (sendWord lat hops dh code)
        else s
      | _ => s)

/-! ## Evictions (R215) -/

/-- The entry in which a strand waits to be saved. -/
def State.savingEntry (s : State) (pt slot : Nat) : Option Nat :=
  findFrom (fun e => let c := s.entry pt e; c.st == .loading && c.strand.st == .evicted && c.slot == slot) 0 32

/-- Parts of the strand's panel-local operations. -/
def State.ownedBy (s : State) (key : Nat) (p : Part) : Bool :=
  match s.op? p.oid with | some o => o.party == .strand key && !o.cross | none => false
/-- Every panel-local operation of the strand has completed but those that are parked or wait for what is (R215, R345). -/
def State.drained (s : State) (key : Nat) : Bool :=
  let k := s.stuck (.strand key)
  (s.tileOpsOf key).isEmpty && !s.locals.any (fun l => l.key == key) &&
  !(s.chan ++ s.arrived).any (s.ownedBy key) &&
  !s.deposits.any (fun d => match d.oid with | some q => (s.op? q).any (fun o => o.party == .strand key) | none => false) &&
  (s.posts.filter (s.ownedBy key)).all (fun p => k.pids.contains p.pid) &&
  s.ops.all (fun o => o.party != .strand key || o.cross || k.oids.contains o.oid)

/-- Parts that wait behind parked ones join the replay record. -/
def State.parkRest (s : State) (key : Nat) : State :=
  let rest := s.posts.filter (s.ownedBy key)
  { s with posts := s.posts.filter (fun p => !s.ownedBy key p)
           ops := s.ops.map (fun o => { o with parked := o.parked ++ rest.filter (fun p => p.oid == o.oid) }) }

def execEvictComplete (pt slot : Nat) (s : State) : Out :=
  .next (match s.savingEntry pt slot with
    | none => s
    | some e =>
      let key := pt * 16 + slot
      if !s.drained key then s
      else
        let c := s.entry pt e
        let s1 := (s.parkRest key).rekey (.strand key) (.cached (pt * 32 + e))
        let s2 := s1.setEntry pt e { c with st := .held, strand := s.strand key, oid := none }
        let s3 := if c.kept then s2 else s2.setStrand key {}
        let s4 := s3.raiseEviction pt e slot c.reason c.cause
        match c.oid with
        | none => s4
        | some q => match s4.op? q with
          | none => s4
          | some o => (match o.fin, o.party with
            | .evict d _, .strand k => (s4.modStrand k (fun x => x.setReg d o.res)).retire o
            | _, _ => s4))

/-! ## Context images (R218, R219) -/

def execCtxsvComplete (oid : Nat) (s : State) : Out :=
  .next (match s.op? oid with
    | none => s
    | some o => match o.fin with
      | .ctxsv e =>
        if s.opIdle o then
          -- the detector keeps what it knows of a context in memory (R47, R63, R64)
          let x := (s.entry (opTile o) e).strand
          let a : Away := { id := (strandId x 0).toNat / 16, quiet := x.quiet, busy := x.busy, busyTake := x.busyTake
                            home := (s.entry (opTile o) e).home }
          ((s.setEntry (opTile o) e {}).modRegion x.rcbp.toNat (fun r => { r with away := r.away ++ [a] })).retire o
        else s
      | _ => s)

/-- PER and PPH lie in the range of R46 and R52. -/
def periodOk (r : Region) (per pph : Nat) : Bool :=
  decide (r.permin ≤ per ∧ per ≤ r.permax) && (if per = 0 then pph == 0 else decide (pph < per))

/-- The reads of an image's bytes below n. -/
def readsBelow (n : Nat) (l : List (Home × Act)) : List (Home × Act) :=
  l.filterMap (fun x => match x.2 with
    | .read gs =>
      let cut := (gs.filter (fun g => decide (g.buf < n))).map (fun g => { g with len := min g.len (n - g.buf) })
      if cut.isEmpty then none else some (x.1, .read cut)
    | _ => none)
/-- The image names more registers than were read, and the segment has room for them: they are read too. -/
def State.readRest (s : State) (o : Op) (n : Nat) : State :=
  let proto : Part := { pid := 0, oid := o.oid, party := .copy (opTile o), src := opTile o, home := .absent, lane := 0,
                        gates := o.gates, cls := clsE, act := .read [], root := o.addr.toNat }
  (s.modOp o.oid (fun q => { q with buf := q.buf ++ zeros (n - q.buf.length), later := [] })).postAll proto (readsBelow n o.later)

/-- CTXLD: the entry is held with the image's context, or bad (R219). Reserved bits of an image are read as logs 101 and 110 say. -/
def execCtxldComplete (oid : Nat) (s : State) : Out :=
  .next (match s.op? oid with
    | none => s
    | some o => match o.fin with
      | .ctxld e =>
        if !s.opIdle { o with later := [] } then s
        else
          let pt := opTile o
          let nat (a n : Nat) : Nat := ofBytes ((o.buf.drop a).take n)
          let x := s.strandOfImage pt o.buf
          let vb := nat 312 8
          let vl := nat 320 8
          let size := imageSize vl
          if rangeOk vb vl ∧ o.buf.length < size ∧ size ≤ o.count.toNat ∧ !o.later.isEmpty then s.readRest o size
          else
            let r := s.region x.rcbp.toNat
            let slot := nat 376 8 % 16
            let good := rangeOk vb vl && decide (size ≤ o.buf.length) && s.rangeFree (some x.rcbp.toNat) pt vb vl &&
              decide (nat 280 8 < 2 ^ 24 ∧ nat 288 8 < 2 ^ 24) && periodOk r x.per.toNat x.pph.toNat && hrecOk (nat 976 8)
            -- the context that the detector knows: one evicted from this tile, else from another, by bits 15:4 of STRANDID
            let id := (strandId x 0).toNat / 16
            let a := ((r.away.find? (fun a => a.id == id && a.home == pt)).or (r.away.find? (fun a => a.id == id))).or r.away.head?
            let kept := r.reserved && s.keptFor pt slot x && a.any (fun a => a.id == id && a.home == pt)
            let x := { x with quiet := a.elim 0 Away.quiet, busy := a.any Away.busy, busyTake := a.any Away.busyTake }
            let vs (t : State) : State := (List.range vl).foldl (fun (t : State) i =>
              { t with vregs := SMap.put t.vregs (pt * 2048 + vb + i) (BitVec.ofNat 512 (nat (1024 + 64 * i) 64)) }) t
            (if good then ((vs s).setEntry pt e { st := .held, strand := x, slot := slot, kept := kept, home := a.elim pt Away.home }).modRegion x.rcbp.toNat
                (fun r => { r with away := a.elim r.away r.away.erase })
             else s.setEntry pt e { st := .bad, strand := x, slot := slot }).retire o
      | _ => s)

end Sys2Proof.Machine
end

