-- ==== Sys2Proof/Machine/WalkEvents.lean ====
section
/-!
DEFINITION. The steps of translation: walks and faults (R212, R290, R291), cached leaves and plot entries (R292, R297, R304),
the merge of the dirty-page logs and the requests in REQ (R295, R296). An event whose condition does not hold leaves the
state as it is.
-/
namespace Sys2Proof.Machine

/-! ## Walks -/

/-- The strand of a party. -/
def partyKey (p : Party) : Option Nat := match p with | .strand k => some k | _ => none

/-- Two parts through FLAT segments enter one page: under a leaf that the tile holds, or else 64 KiB. -/
def State.samePage (s : State) (p q : Part) : Bool :=
  q.root == p.root && (match s.cachedLeaf p.src p.root (actKey p.act) with
    | some e => leafCovers e q.root (actKey q.act)
    | none => actKey p.act / 2 ^ 16 == actKey q.act / 2 ^ 16)
/-- A fault at an address: the access with what of it waits in the same page, which uses one leaf whole (R292), or the whole engine
command, goes to the replay record. A strand Held in a hold that needs it is
Parked, with its upcall (R212). A copy that an evicted strand has left to the copy engine has no record: it waits in its queue
until the page is there (log 13). -/
def State.parkPart (s : State) (p : Part) (va : Nat) : State :=
  if (s.op? p.oid).any (fun o => match o.party with | .copy _ => true | _ => false) then s else
  let ps := if !s.posts.any (fun q => q.pid == p.pid) then [p]
    else s.posts.filter (fun q => q.oid == p.oid && (isEngine p.party || q.pid == p.pid || (q.home == .virt && s.samePage p q)))
  let s1 := { s with posts := s.posts.filter (fun q => !ps.any (fun x => x.pid == q.pid)) }
  let s2 := s1.modOp p.oid (fun o =>
    { o with parked := o.parked ++ ps, faultVa := if o.parked.isEmpty then va else o.faultVa })
  match (s2.op? p.oid).bind (fun o => partyKey o.party) with
  | none => s2
  | some key =>
    let x := s2.strand key
    if x.st = .held ∧ holdNeedsParked s2 key x.hold = true then
      ((s2.rearm key).modStrand key (fun x => { x with st := .parked })).raiseFault (key / 16) (key % 16) (s2.firstParked (.strand key))
    else s2

/-- A walk for an access serves all its parts in the page (R292). -/
def State.walked (s : State) (p : Part) : State :=
  { s with posts := s.posts.map (fun q => if q.oid == p.oid && (q.pid == p.pid || s.samePage p q) then { q with fresh := false } else q) }
/-- Addresses at which a part has still to be walked: every page of a replayed access, else those without a cached leaf (R292). -/
def State.unwalked (s : State) (p : Part) : List Nat :=
  (actPages p.act).filter (fun a => p.fresh || (s.cachedLeaf p.src p.root a).isNone)
/-- Walks for a part, one after the other, up to an address at which one faults (R290). -/
def State.walkPages (s : State) (p : Part) : List Nat → State × Option Nat
  | [] => (s, none)
  | a :: r => match s.walkInto p.src p.root a p.write with
    | none => (s, some a)
    | some (t, _) => t.walkPages p r
/-- A part through a FLAT segment is translated: by the cached copy that it meets, where a write faults without W, or else
by a walk (R290, R292), whose reads of other dies' tables cross under grants (R353). Of a word in two pages each is translated. The
walk of a PFX ends with its translation or without one (R258). -/
def execPageWalk (pid : Nat) (s : State) : Out :=
  .next (match s.postOf? pid with
    | none => s
    | some p =>
      if p.home ≠ .virt then s
      else match s.unwalked p with
        | [] =>
          if isWalker p.party then { s with posts := dropPart pid s.posts }
          else match (actPages p.act).find? (fun a => p.write && (s.cachedLeaf p.src p.root a).any (fun e => !e.w)) with
            | some a => s.parkPart p a
            | none => s
        | l => match s.crossAll (p.src / 144) (l.flatMap (s.walkDies (p.src / 144) p.root)) with
          | none => s
          | some u => match u.walkPages p l with
            | (t, f) =>
              if isWalker p.party then { t with posts := dropPart pid t.posts }
              else match f with | some a => t.parkPart p a | none => t.walked p)

/-! ## Caches -/

def execTranslationDrop (pt i : Nat) (s : State) : Out := .next (s.modTile pt (fun t => { t with leaves := t.leaves.eraseIdx i }))

/-- A plot-table entry of a region that runs or is to run is read whole into a tile's plot cache, over links that are up (R376); the
oldest of 32 gives way. -/
def execPlotCacheFill (pt rcb x : Nat) (s : State) : Out :=
  .next (match s.region? rcb with
    | none => s
    | some r =>
      if !(r.st == .admitted || r.st == .running) ∨ r.plotCount ≤ x ∨ x = 0xFFFF ∨
          (s.physDie (bitsOf 36 7 (s.plotAddr rcb x))).any (fun d => s.cutOff (pt / 144) d) = true then s
      else
        -- an entry on a vacant die reads as 0 (R331)
        let img : VReg := match s.panelKey (s.plotAddr rcb x) with | some k => BitVec.ofNat 512 (s.nat k 64) | none => 0
        s.modTile pt (fun t =>
          let rest := t.plots.filter (fun p => !(p.rcb == rcb && p.x == x))
          { t with plots := rest.drop (rest.length + 1 - Config.plotEntries) ++ [{ rcb := rcb, x := x, img := img }] }))

def execPlotCacheDrop (pt i : Nat) (s : State) : Out := .next (s.modTile pt (fun t => { t with plots := t.plots.eraseIdx i }))

/-! ## The dirty-page log (R295, R296) -/

def State.logWR (s : State) (pt : Nat) : Nat := s.nat (scratchKey pt Config.logOff) 8
def State.logRDv (s : State) (pt : Nat) : Nat := s.nat (scratchKey pt Config.logRD) 8
/-- A count of the log modulo 2^64 has reached another. -/
def reached (rd w : Nat) : Bool := decide ((rd + 2 ^ 64 - w) % 2 ^ 64 < 2 ^ 63)

/-- D set in the leaf that a log entry names, where it is a present leaf. -/
def State.mergeEntry (s : State) (e : Nat) : State :=
  match s.physDie (bitsOf 56 7 e) with
  | none => s
  | some d =>
    let off := bitsOf 3 33 e * 8
    let x := s.nat (dieKey d off) 8
    if bitOf 63 e && bitOf 0 x && bitOf 1 x then s.orLeaf (bitsOf 56 7 e) off 3 else s
/-- The entry at RD, merged, and RD one higher. -/
def State.nextEntry (s : State) (pt : Nat) : Nat := s.nat (scratchKey pt (Config.logEntry + 8 * (s.logRDv pt % 512))) 8
def State.mergeNext (s : State) (pt : Nat) : State :=
  let rd := s.logRDv pt
  ((s.mergeEntry (s.nextEntry pt)).setNat (scratchKey pt (Config.logEntry + 8 * (rd % 512))) 8 0).setNat (scratchKey pt Config.logRD) 8
    ((rd + 1) % 2 ^ 64)
/-- Entries from RD to w0 merged, RD rising with each. -/
def State.mergeLog (s : State) (pt w0 : Nat) : Nat → State
  | 0 => s
  | n + 1 => if s.logRDv pt = w0 then s else (s.mergeNext pt).mergeLog pt w0 n
/-- The other die that holds the leaf of the entry at RD. -/
def State.leafDie (s : State) (pt : Nat) : Option Nat :=
  (s.physDie (bitsOf 56 7 (s.nextEntry pt))).filter (fun d => bitOf 63 (s.nextEntry pt) && d != pt / 144)
/-- The same as far as the merge agent, an engine strand, has grants for the leaves of other dies (R342, R353). -/
def State.mergeGranted (s : State) (pt w0 : Nat) : Nat → State
  | 0 => s
  | n + 1 =>
    if s.logRDv pt = w0 then s
    else match s.crossTo (pt / 144) (s.leafDie pt) with
      | none => s
      | some u => (u.mergeNext pt).mergeGranted pt w0 n

/-- A harvest still waits for the tile's log. -/
def State.harvesting (s : State) (pt : Nat) : Bool :=
  s.logReqs.any (fun q => q.merges.any (fun m => m.1 == pt && !reached (s.logRDv pt) m.2))

/-- The DCC merges the tile's log (R295, R296). -/
def State.merging (s : State) (pt : Nat) : Bool := decide (256 ≤ s.logUsed pt) || s.harvesting pt
/-- The die that its next entry waits for a grant to. -/
def State.mergeDie (s : State) (pt : Nat) : Option Nat :=
  if s.merging pt && s.logRDv pt != s.logWR pt then s.leafDie pt else none
def execLogMerge (pt : Nat) (s : State) : Out :=
  .next (if s.merging pt then s.mergeGranted pt (s.logWR pt) 512 else s)

/-- The REQ word of a tile. -/
def State.reqWord (s : State) (pt : Nat) : Nat := s.nat (scratchKey pt Config.logREQ) 8
/-- Tiles of the panel, by place. -/
def State.allTiles (s : State) : List Nat := s.tiles.map Prod.fst
/-- The DCC sees the bits of REQ newly set: the logs to be merged, each up to its present WR, and the flush to be made. -/
def State.seeReq (s : State) (pt : Nat) : State :=
  let hv := (s.tile pt).hvNew
  let fl := (s.tile pt).flNew
  if !hv && !fl then s
  else
    let merges := if hv then (s.allTiles.filter (fun q => s.logRDv q != s.logWR q)).map (fun q => (q, s.logWR q)) else []
    let flushes := if fl then [pt] else []
    let t := s.modTile pt (fun x => { x with hvNew := false, flNew := false })
    { t with logReqs := t.logReqs ++ [{ pt := pt, hv := hv, fl := fl, merges := merges, flushes := flushes }] }

def execHarvest (pt : Nat) (s : State) : Out := .next (if (s.tile pt).hvNew then s.seeReq pt else s)

/-- Every tile drops every cached leaf. -/
def State.dropLeaves (s : State) : State :=
  { s with tiles := s.tiles.map (fun (e : Nat × Tile) => (e.1, { e.2 with leaves := [] })) }
def execFlush (pt : Nat) (s : State) : Out :=
  let t := if (s.tile pt).flNew then s.seeReq pt else s
  .next (if t.logReqs.any (fun q => q.pt == pt && !q.flushes.isEmpty) then
      { t.dropLeaves with logReqs := t.logReqs.map (fun q => if q.pt == pt then { q with flushes := [] } else q) }
    else s)

/-- The work of a request is done; its bits are cleared but for those that a newer request has set again. -/
def State.reqDone (s : State) (q : LogReq) : Bool := q.flushes.isEmpty && q.merges.all (fun m => reached (s.logRDv m.1) m.2)
def execRequestComplete (pt : Nat) (s : State) : Out :=
  .next (match s.logReqs.find? (fun q => q.pt == pt && s.reqDone q) with
    | none => s
    | some q =>
      let r := s.reqWord pt
      let clear (b : Bool) (i x : Nat) : Nat := if b && bitOf i x then x - 2 ^ i else x
      let h := scratchKey pt Config.logHSEQ
      let t := { s with logReqs := s.logReqs.erase q }
      let hv := q.hv && !(s.tile pt).hvNew && !t.logReqs.any (fun y => y.pt == pt && y.hv)
      let fl := q.fl && !(s.tile pt).flNew && !t.logReqs.any (fun y => y.pt == pt && y.fl)
      (t.setNat h 8 ((s.nat h 8 + 1) % 2 ^ 64)).setNat (scratchKey pt Config.logREQ) 8 (clear fl 1 (clear hv 0 r)))

end Sys2Proof.Machine
end

