-- ==== Sys2Proof/Machine/GridEvents.lean ====
section
/-!
DEFINITION. The trellis engine (R271 to R273, R276 to R280): the snapshot and the pieces of a GSTEP, the slots of buffers and
rings, mirror copies, and the restoration of a partition. The storage of a mirror is the model's record and no bytes of the
buddy die's memory (log 14).
-/
namespace Sys2Proof.Machine

/-! ## Cells of a partition's storage -/

/-- The place of element k of a tile's partition; through FLAT storage by a leaf of the tile, a write logged there (R294).
None where it is not mapped, or a write waits for the log. -/
def State.cellKey (s : State) (pt : Nat) (g : GridEntry) (k : Nat) (write : Bool) : Option (State × Nat) :=
  match g.desc.parts[g.part]? with
  | none => none
  | some p =>
    let a := p.storage + elemSize g.desc.fmt * k
    if !p.virt then some (s, scratchKey pt a)
    else
      let root := (s.region g.rcb).root
      match (match (s.cachedLeaf pt root a).filter (fun e => !write || e.w) with | some e => some (s, e) | none => s.walkInto pt root a write) with
      | none => none
      | some (t, e) =>
        let used (l : Leaf) : Bool := logWord l == logWord e && l.va == e.va && l.root == root
        if write && !e.d && !(t.tile pt).leaves.any (fun l => used l && l.logged) then
          (if t.logFull pt then none else some (t.logAppend pt (logWord e) used, leafKey e a))
        else some (t, leafKey e a)

/-- Dies to which the walks for some elements of a partition's FLAT storage cross: one walk for each 64 KiB that no leaf of the
tile translates (R353). -/
def State.cellDies (s : State) (pt : Nat) (g : GridEntry) (ks : List Nat) (write : Bool) : List Nat :=
  match (g.desc.parts[g.part]?).filter PartEntry.virt with
  | none => []
  | some p =>
    let root := (s.region g.rcb).root
    let vas := (ks.map (fun k => p.storage + elemSize g.desc.fmt * k)).filter (fun a =>
      ((s.cachedLeaf pt root a).filter (fun e => !write || e.w)).isNone)
    ((vas.map (fun a => a / 2 ^ 16)).eraseDups).flatMap (fun a => s.walkDies (pt / 144) root (a * 2 ^ 16))

/-- Elements written; bytes that no store may write stay as they are (R98, R293, log 82). -/
def State.putCells (s : State) (pt : Nat) (g : GridEntry) : List (Nat × Word) → Option State
  | [] => some s
  | (k, v) :: r =>
    if s.cellProtected pt g k then s.putCells pt g r
    else match s.cellKey pt g k true with
      | none => none
      | some (t, a) => (t.setNat a (elemSize g.desc.fmt) v.toNat).putCells pt g r
/-- The log entries that writes of elements need, as far as the log has room (R294). -/
def State.logCells (s : State) (pt : Nat) (g : GridEntry) : List (Nat × Word) → State
  | [] => s
  | (k, _) :: r =>
    if s.cellProtected pt g k then s.logCells pt g r
    else match s.cellKey pt g k true with
      | none => s
      | some (t, _) => t.logCells pt g r
/-- Elements read, or the first that is not mapped. -/
def State.getCells (s : State) (pt : Nat) (g : GridEntry) : List Nat → Except Nat (State × List Word)
  | [] => .ok (s, [])
  | k :: r => match s.cellKey pt g k false with
    | none => .error k
    | some (t, a) => match t.getCells pt g r with
      | .error x => .error x
      | .ok (u, vs) => .ok (u, word (s.nat a (elemSize g.desc.fmt)) :: vs)

/-- The negation of an element (R271). -/
def negCell (fmt : Nat) (v : Word) : Word :=
  let n := 8 * elemSize fmt
  let x := v.toNat % 2 ^ n
  if fmt = 18 then word ((2 ^ n - x) % 2 ^ n) else word (if x < 2 ^ (n - 1) then x + 2 ^ (n - 1) else x - 2 ^ (n - 1))

/-! ## Pieces (R272) -/

/-- Cells of the box of partition q, face f, that resolve to partition i: box position, interior element, negation. -/
def pieceCells (d : GridDesc) (q f i : Nat) : List (Nat × Nat × Bool) :=
  (List.range (boxCount d q f)).filterMap (fun k => match resolveCell d q (boxCell d q f k) with
    | .cell p c neg => if p = i then some (k, interiorIndex d i c, neg) else none
    | _ => none)
/-- The cells of the box that a face's condition fixes. -/
def fixedCells (d : GridDesc) (q f : Nat) : List (Nat × Word) :=
  (List.range (boxCount d q f)).filterMap (fun k => match resolveCell d q (boxCell d q f k) with
    | .fixed a => some (k, d.fixed.getD a 0)
    | _ => none)
/-- Partitions and faces whose buffers have partition i as a contributor. -/
def receivers (d : GridDesc) (i : Nat) : List (Nat × Nat) :=
  (List.range d.parts.length).flatMap (fun q => ((List.range (2 * d.rank)).filter (fun f => (contributors d q f).contains i)).map
    (fun f => (q, f)))

/-- A piece is sent from a place to a buffer, and to its ring on the buddy die; one for another panel leaves the panel, and
one whose default path meets a dead router is lost (R350, R351). -/
def State.sendPiece (s : State) (src : Nat) (g : GridEntry) (q f : Nat) (step : BitVec 32) (cells : List (Nat × Word))
    (all : Bool) : State :=
  match g.desc.parts[q]? with
  | none => s
  | some p =>
    if p.chip ≠ s.chip.toNat then
      let place : List Nat := match g.place with | some (root, va) => [1, root, va] | none => [0, 0, 0]
      { s with outbox := s.outbox ++ [[2, p.chip, p.die, p.n, g.id] ++ place ++ [q, f, step.toNat] ++ cells.flatMap (fun c => [c.1, c.2.toNat])] }
    else
      let proto : Piece := { id := s.nextId, src := src / 144, place := g.place, pt := 0, part := q, grid := g.id, rcb := g.rcb, desc := g.desc, face := f
                             step := step, cells := cells, ring := false, all := all }
      let s1 := match s.physTile p.die p.n with
        | some pt => if pt ≠ src ∧ s.refusedPath src pt then s else State.fresh { s with pieces := s.pieces ++ [{ proto with pt := pt }] }
        | none => s
      if g.desc.mirror && !all then
        State.fresh { s1 with pieces := s1.pieces ++ [{ proto with id := s1.nextId, ring := true }] }
      else s1

/-! ## Slots (R273) -/

/-- What a piece for step t does to a slot. -/
inductive SlotAct where
  | start | add | discard
  deriving DecidableEq, Repr
def slotAct (x : Slot) (t : BitVec 32) : SlotAct :=
  if x.state = 0 ∨ x.state = 3 ∨ x.tag.toNat < t.toNat then .start
  else if x.state = 1 ∧ x.tag = t then .add
  else .discard
/-- The slot once the piece is written; a piece of all contributors completes it. -/
def landSlot (x : Slot) (t : BitVec 32) (all : Bool) : Slot :=
  let a : BitVec 4 := if all then x.contrib else if slotAct x t = .start then 1 else x.arrived + 1
  { x with tag := t, arrived := a, state := if a = x.contrib then 2 else 1 }

/-- A load has pinned the slot and not yet read its cells (R276). -/
def State.pinned (s : State) (pt e i : Nat) : Bool :=
  s.ops.any (fun o => o.pin.contains (pt, e, i) && s.allParts.any (fun p => p.oid == o.oid))

/-- The slot of a piece: its number in the tile's entry, and what it holds. -/
def pieceSlot (g : GridEntry) (p : Piece) : Nat × Slot :=
  let i := 2 * p.face + p.step.toNat / g.desc.d % 2
  (i, (g.slots[i]?).getD {})
/-- The elements of a buffer that a piece writes, with those that the face's condition fixes where it starts a slot. -/
def pieceWrites (g : GridEntry) (p : Piece) : List (Nat × Word) :=
  ((if slotAct (pieceSlot g p).2 p.step = .start then fixedCells g.desc g.part p.face else []) ++ p.cells).map
    (fun c => (bufferStart g.desc g.part p.face (p.step.toNat / g.desc.d % 2) + c.1, c.2))
/-- A piece waits for a load that has pinned the slot that it would start (R276). -/
def State.pieceHeld (s : State) (p : Piece) (e : Nat) : Bool :=
  let x := pieceSlot (s.gridEntry p.pt e) p
  slotAct x.2 p.step == .start && x.2.state == 2 && s.pinned p.pt e x.1
/-- A piece lands in slot j of its buffer on the tile; none while it must wait. -/
def State.landBuffer (s : State) (p : Piece) (e : Nat) : Option State :=
  let g := s.gridEntry p.pt e
  let x := pieceSlot g p
  if slotAct x.2 p.step = .discard then some s
  else if s.pieceHeld p e then none
  else (s.putCells p.pt g (pieceWrites g p)).map (fun t =>
    t.setGridEntry p.pt e { t.gridEntry p.pt e with slots := g.slots.set x.1 (landSlot x.2 p.step p.all) })

/-- n bytes of a descriptor at an ID (R268): a place of memory, or a virtual address under a page-table root. None while a byte is
not mapped. -/
def State.descBytes (s : State) (id : Nat) (place : Option (Nat × Nat)) (n : Nat) : Option (List Byte) :=
  match place with
  | some (root, va) =>
    if (List.range n).all (fun i => (s.walk root (va + i) false).isSome) then some (s.peek (.flat root va) 0 n) else none
  | none => some (s.bytes (id - 1) n)
/-- The descriptor at an ID. -/
def State.descAt (s : State) (id : Nat) (place : Option (Nat × Nat)) : Option GridDesc :=
  (s.descBytes id place 128).bind (fun h => (s.descBytes id place (gridBytes (gridHeader h))).map gridDesc)
/-- The descriptor of a piece: that of its sender, or, where another panel sent it, that of the tile's entry of its ID, else the one
at its ID (R273, R278). None while that is not mapped. -/
def State.pieceDesc (s : State) (p : Piece) : Option GridDesc :=
  if p.src < 128 then some p.desc
  else match s.gridHas p.pt p.rcb p.grid with
    | some e => some (s.gridEntry p.pt e).desc
    | none => s.descAt p.grid p.place
/-- The tile's entry for a piece whose descriptor is known, one taken where it finds none (R273): it reads the descriptor. No entry
where that is not valid, and none at all while it is not mapped (log 21) or every entry is taken. -/
def State.pieceEntry (s : State) (p : Piece) : Option (State × Option Nat) :=
  match s.gridFor p.pt p.rcb p.grid p.desc with
  | some e => some (s, some e)
  | none => match s.descAt p.grid p.place with
    | none => none
    | some d =>
      if !s.gridValid p.pt (s.region p.rcb).root d then some (s, none)
      else (s.takeGrid p.pt p.rcb p.grid d).map (fun x =>
        (x.1.setGridEntry p.pt x.2 { x.1.gridEntry p.pt x.2 with place := p.place }, some x.2))
/-- The deposit of a piece at its tile; none while it must wait. -/
def State.depositPiece (s : State) (p : Piece) : Option State :=
  match s.pieceEntry p with
  | none => none
  | some (t, none) => some t
  | some (t, some e) => t.landBuffer p e
/-- A piece that waits has its entry, and what its writes have logged stays logged while the log is full (R294). -/
def State.holdPiece (s : State) (p : Piece) : State :=
  match s.pieceEntry p with
  | some (t, some e) => if t.pieceHeld p e then s else t.logCells p.pt (t.gridEntry p.pt e) (pieceWrites (t.gridEntry p.pt e) p)
  | _ => s
/-- Dies to which the walks for a piece's writes cross, from the tile's own. -/
def State.pieceWalks (s : State) (p : Piece) : List Nat :=
  if p.ring then []
  else match ((s.pieceDesc p).map (fun d => { p with desc := d })).bind s.pieceEntry with
    | some (t, some e) =>
      let g := t.gridEntry p.pt e
      if slotAct (pieceSlot g p).2 p.step = .discard then [] else t.cellDies p.pt g ((pieceWrites g p).map Prod.fst) true
    | _ => []
/-- The piece finds no free entry, or no descriptor yet (R273, log 21). -/
def State.entryless (s : State) (p : Piece) : Bool :=
  match s.pieceDesc p with
  | none => true
  | some d => !p.ring && (s.gridFor p.pt p.rcb p.grid d).isNone && ((s.gridFree p.pt).isNone || (s.descAt p.grid p.place).isNone)

/-! ## Mirrors (R278, R279) -/

def State.mirror? (s : State) (d : GridDesc) (rcb part : Nat) : Option Mirror :=
  s.mirrors.find? (fun m => m.desc == d && m.rcb == rcb && m.part == part)
/-- The buddy die of a partition as its tile's entry names it, or as the descriptor does. -/
def State.buddyOf (s : State) (d : GridDesc) (rcb part id : Nat) : Option Nat :=
  match (d.parts[part]?).bind (fun p => s.physTile p.die p.n) with
  | none => some d.buddy
  | some pt => match s.gridFor pt rcb id d with
    | some e => (s.gridEntry pt e).buddy
    | none => some d.buddy
/-- What a buddy holds of a partition is changed, where the partition has a buddy. -/
def State.modMirror (s : State) (d : GridDesc) (rcb part id : Nat) (f : Mirror → Mirror) : State :=
  match s.buddyOf d rcb part id with
  | none => s
  | some b =>
  let m := (s.mirror? d rcb part).getD { id := id, desc := d, rcb := rcb, part := part, buddy := b }
  { s with mirrors := s.mirrors.filter (fun m => !(m.desc == d && m.rcb == rcb && m.part == part)) ++ [f m] }
def ringSize (d : GridDesc) : Nat := 2 * d.m / d.d + 2
def Mirror.slotOf (m : Mirror) (f i : Nat) : Option RingSlot := m.ring.find? (fun x => x.face == f && x.idx == i)
/-- Elements by box position, the later ones in place of the earlier. -/
def mergeCells (old new : List (Nat × Word)) : List (Nat × Word) := new.foldl (fun m c => SMap.put m c.1 c.2) old
/-- A piece lands in the ring. -/
def landRing (p : Piece) (m : Mirror) : Mirror :=
  let i := p.step.toNat / p.desc.d % ringSize p.desc
  let x := (m.slotOf p.face i).getD
    { face := p.face, idx := i, slot := { contrib := BitVec.ofNat 4 (contributors p.desc p.part p.face).length }, cells := [] }
  let y : RingSlot := match slotAct x.slot p.step with
    | .discard => x
    | .start => { x with slot := landSlot x.slot p.step p.all, cells := mergeCells (fixedCells p.desc p.part p.face) p.cells }
    | .add => { x with slot := landSlot x.slot p.step p.all, cells := mergeCells x.cells p.cells }
  { m with ring := m.ring.filter (fun x => !(x.face == p.face && x.idx == i)) ++ [y] }
def State.depositRing (s : State) (p : Piece) : State := s.modMirror p.desc p.rcb p.part p.grid (landRing p)

/-- The valid ring slots of some faces of a partition for a step, as pieces of all contributors (R280). -/
def State.ringPieces (s : State) (pt : Nat) (g : GridEntry) (faces : List Nat) (t : Nat) : List Piece :=
  match s.mirror? g.desc g.rcb g.part with
  | none => []
  | some m => faces.filterMap (fun f => match m.slotOf f (t / g.desc.d % ringSize g.desc) with
    | some x => if x.slot.state = 2 ∧ x.slot.tag.toNat = t then
        some { id := 0, src := pt / 144, place := g.place, pt := pt, part := g.part, grid := g.id, rcb := g.rcb, desc := g.desc, face := f
               step := BitVec.ofNat 32 t, cells := x.cells, ring := false, all := true }
      else none
    | none => none)
/-- They go to the partition's buffers behind the pieces already under way. -/
def State.queuePieces (s : State) (l : List Piece) : State :=
  l.foldl (fun (t : State) p => State.fresh { t with pieces := t.pieces ++ [{ p with id := t.nextId }] }) s

/-- The other die whose bridge a piece enters under a grant (R353). -/
def State.pieceDie (s : State) (p : Piece) : Option Nat :=
  let d := if p.ring then (s.buddyOf p.desc p.rcb p.part p.grid).bind s.physDie else some (p.pt / 144)
  if p.src < 128 then d.filter (fun d => d != p.src) else none

/-- The other die on which a mirror copy is written. -/
def State.jobDie (s : State) (j : MirrorJob) : Option Nat :=
  ((s.gridEntry j.pt j.entry).buddy.bind s.physDie).filter (fun d => d != j.pt / 144)

def execGridPieceDeposit (id : Nat) (s : State) : Out :=
  .next (match s.pieces.find? (fun p => p.id == id) with
    | none => s
    | some p =>
      let before := s.pieces.takeWhile (fun q => q.id != id)
      if before.any (fun q => q.src == p.src && q.pt == p.pt && q.ring == p.ring && (q.part == p.part || !p.ring) &&
          ((q.grid == p.grid && q.desc == p.desc && q.rcb == p.rcb) || !s.entryless q)) then s
      else match s.pieceDesc p with
      | none => s
      | some d =>
        let p := { p with desc := d }
        match ({ s with pieces := s.pieces.filter (fun q => q.id != id) } : State).crossTo p.src (s.pieceDie p) with
        | none => s
        | some t =>
          -- a piece of another panel has a ring only where the grid is mirrored (R278)
          if p.ring then (if d.mirror then t.depositRing p else t)
          else match t.crossAll (p.pt / 144) (t.pieceWalks p) with
            | none => s
            | some t => (t.depositPiece p).getD (s.holdPiece p))

/-! ## GSTEP (R277) -/

/-- The tile entry of a GSTEP in flight. -/
def gstepOf (o : Op) : Option (Nat × Nat) := match o.fin with | .gstep e _ => some (opTile o, e) | _ => none

/-- The pieces of a step: the partition and face of each, and its cells. -/
def stepPieces (g : GridEntry) (step : Nat) : List ((Nat × Nat) × List (Nat × Nat × Bool)) :=
  if step % g.desc.d == 0 then (receivers g.desc g.part).map (fun x => (x, pieceCells g.desc x.1 x.2 g.part)) else []
/-- A step whose interior is copied. -/
def stepCopies (g : GridEntry) (step : Nat) : Bool := g.desc.mirror && g.buddy.isSome && step % g.desc.m == 0
/-- The elements that the engine reads for a step. -/
def stepReads (g : GridEntry) (step : Nat) : List Nat :=
  (if stepCopies g step then List.range (interiorCount g.desc g.part) else []) ++ (stepPieces g step).flatMap (fun x => x.2.map (fun c => c.2.1))

/-- What the engine publishes: its pieces and, in a mirrored step, the interior. -/
def State.publishStep (s : State) (o : Op) (pt e step : Nat) : State :=
  let g := s.gridEntry pt e
  let d := g.desc
  let exchange := step % d.d == 0
  let copy := stepCopies g step
  let specs := stepPieces g step
  match s.getCells pt g (stepReads g step) with
  | .error k =>
    -- the storage is not mapped: the command is parked like any access (log 15)
    let a := ((d.parts[g.part]?).map PartEntry.storage).getD 0 + elemSize d.fmt * k
    let p : Part := { pid := s.nextId, oid := o.oid, party := .trellis (pt / 144), src := pt, home := .virt, lane := 0, gates := [],
                      cls := clsE, act := .read [{ key := a, buf := 0, len := 0 }], root := (s.region g.rcb).root }
    (State.fresh s).parkPart p a
  | .ok (t, _) =>
    let val (k : Nat) : Word := match s.cellKey pt g k false with | some (_, a) => word (s.nat a (elemSize d.fmt)) | none => 0
    let st := BitVec.ofNat 32 step
    let t1 := (t.setGridEntry pt e { g with pstep := st }).retire o
    let t2 := specs.foldl (fun (t : State) x =>
      t.sendPiece pt g x.1.1 x.1.2 st (x.2.map (fun c => (c.1, if c.2.2 then negCell d.fmt (val c.2.1) else val c.2.1))) false) t1
    let t3 := if copy then
        let u := t2.modMirror d g.rcb g.part g.id (fun m => { m with done := m.done.set (step / d.m % 2) false })
        State.fresh { u with jobs := u.jobs ++ [{ id := u.nextId, pt := pt, entry := e, step := st, cells := (List.range (interiorCount d g.part)).map val }] }
      else t2
    -- the rings of a restored partition, each up to its first slot that is not valid (R280)
    if !g.restored.isEmpty && exchange then
      let ps := t3.ringPieces pt g g.restored (step + d.d)
      let t4 := t3.queuePieces ps
      t4.setGridEntry pt e { t4.gridEntry pt e with restored := ps.map Piece.face }
    else t3

/-- The engine may turn to a GSTEP: those before it on the partition are done, the copy that R277 names is complete, its gates
are open, and pieces for other panels can leave (R16, log 92). -/
def State.stepReady (s : State) (o : Op) (e step : Nat) : Bool :=
  let pt := opTile o
  let g := s.gridEntry pt e
  let d := g.desc
  !(s.ops.takeWhile (fun q => q.oid != o.oid)).any (fun q => gstepOf q == some (pt, e)) &&
  !(d.mirror && step % d.m == 0 && s.jobs.any (fun j => j.pt == pt && j.entry == e && j.step.toNat + d.m == step)) &&
  s.opIdle o && o.parked.isEmpty && !o.gates.any (fun g => s.gateClosed g (engineHome pt)) &&
  ((stepPieces g step).all (fun x => (d.parts[x.1.1]?).all (fun p => p.chip == s.chip.toNat)) || s.outsideOpen (pt / 144))
/-- Dies to which the walks for the engine's reads cross. -/
def State.stepWalks (s : State) (o : Op) : List Nat :=
  match o.fin with
  | .gstep e step =>
    let g := s.gridEntry (opTile o) e
    if s.stepReady o e step then s.cellDies (opTile o) g (stepReads g step) false else []
  | _ => []

def execGstepProcess (oid : Nat) (s : State) : Out :=
  .next (match s.op? oid with
    | none => s
    | some o => match o.fin with
      | .gstep e step =>
        if !s.stepReady o e step then s
        else ((s.crossAll (opTile o / 144) (s.stepWalks o)).map (fun t => t.publishStep o (opTile o) e step)).getD s
      | _ => s)

def execMirrorCopy (id : Nat) (s : State) : Out :=
  .next (match s.jobs.find? (fun j => j.id == id) with
    | none => s
    | some j =>
      let g := s.gridEntry j.pt j.entry
      let i := j.step.toNat / g.desc.m % 2
      let t := { s with jobs := s.jobs.filter (fun q => q.id != id) }
      if (s.jobs.takeWhile (fun q => q.id != id)).any (fun q => q.pt == j.pt && q.entry == j.entry) then s
      else match t.crossTo (j.pt / 144) (s.jobDie j) with
        | none => s
        | some t =>
          (t.modMirror g.desc g.rcb g.part g.id (fun m =>
            { m with tags := m.tags.set i j.step, done := m.done.set i true, cells := m.cells.set i j.cells })).setGridEntry
            j.pt j.entry { g with mstep := j.step })

/-! ## Restoration (R280) -/

/-- The newest complete copy: tag and interior. -/
def Mirror.newest (m : Mirror) : Option (BitVec 32 × List Word) :=
  let c (i : Nat) : Option (BitVec 32 × List Word) :=
    if m.done.getD i false then some (m.tags.getD i 0, m.cells.getD i []) else none
  match c 0, c 1 with
  | some a, some b => if a.1.toNat < b.1.toNat then some b else some a
  | some a, none => some a
  | none, b => b
/-- Elements that are mapped are written, after a merge where the log is full (R294); others are left (log 15). -/
def State.putMapped (s : State) (pt : Nat) (g : GridEntry) (l : List (Nat × Word)) : State :=
  l.foldl (fun (t : State) c =>
    let u := if t.logFull pt then t.mergeLog pt (t.logWR pt) 512 else t
    (u.putCells pt g [c]).getD u) s
/-- Step 2 of R280 at entry e of a tile; the region's fault domain hears of a partition without a copy. -/
def State.restorePart (s : State) (pt e : Nat) (g : GridEntry) (ring : Bool) : State :=
  match (s.mirror? g.desc g.rcb g.part).bind Mirror.newest with
  | none => s.report g.rcb 0
  | some (m, cells) =>
    let h := { freshGrid g.id g.rcb g.part g.desc with
      pstep := m, mstep := m, place := g.place, buddy := g.buddy
      restored := if ring then List.range (2 * g.desc.rank) else [] }
    let h := { h with slots := h.slots.map (fun x => { x with state := 0 }) }
    (s.setGridEntry pt e h).putMapped pt h ((List.range cells.length).zip cells)

end Sys2Proof.Machine
end

