-- ==== Sys2Proof/Machine/Regions.lean ====
section
/-!
DEFINITION. Regions and strands (R45 to R58, R63, R64, R312 to R317): admission and arming, the start of a strand, its wakes
and releases, the end of a region, quiescence, pre-emption, and the deposit of events (R210). An event whose condition does
not hold leaves the state as it is.
-/
namespace Sys2Proof.Machine

/-! ## Tile sets of a region (R312, R331) -/

/-- The logical tiles of a set. -/
def State.tilesOf (s : State) (t : TileSet) : List Nat :=
  (List.range 128).flatMap (fun d => ((List.range (s.tOf d)).map (fun n => d * 144 + n)).filter t.has)
/-- The set names a position in state spare. -/
def State.namesSpare (s : State) (t : TileSet) : Bool :=
  s.dmap.any (fun (e : Nat × (Nat × Nat)) => e.2.2 == 1 && (List.range 144).any (fun n => t.has (e.1 * 144 + n)))
/-- The set of a tile-set word of kind 7 or 8; none where the word is invalid. -/
def State.setOf (s : State) (w : Nat) : Option TileSet :=
  match bitsOf 60 4 w with
  | 7 => if rectOk w then some (rectSet w) else none
  | 8 => if w % 64 = 0 then (s.panelKey (w % 2 ^ 43)).map (fun k => .map (s.bitmap k)) else none
  | _ => none

/-! ## The region control block (R313 to R315) -/

def statusCode (st : RegionSt) : Nat :=
  match st with | .submitted => 0 | .admitted => 1 | .running => 2 | .refused => 3 | .ended => 4
/-- STATUS is written whole (R315). -/
def State.writeStatus (s : State) (rcb : Nat) (st : RegionSt) (cause : Nat) : State :=
  match s.panelKey rcb with
  | some k => s.setNat k 8 (statusCode st + cause * 256)
  | none => s

/-- The effective fields of the RCB at a place, under the parent's where a bit is clear (R45, R314). -/
def State.effective (s : State) (rcb k : Nat) (img : Image) : Region :=
  let nat (o n : Nat) : Nat := s.nat (k + o) n
  let parent := nat 8 8 % 2 ^ 43
  let p := s.region parent
  let ovrm := nat 16 8
  let own (i : Nat) : Bool := parent == 0 || bitOf i ovrm
  let f (i v w : Nat) : Nat := if own i then v else w
  { rcb := rcb, parent := parent, image := img, start := f 0 (nat 32 8) p.start
    permin := f 1 (nat 40 8 % 2 ^ 24) p.permin, permax := f 1 (bitsOf 24 24 (nat 40 8)) p.permax
    strands := f 2 (nat 48 2) p.strands, prio := f 3 (nat 50 1) p.prio
    reserved := if own 4 then bitOf 0 (nat 51 1) else p.reserved
    domain := f 5 (nat 52 2) p.domain, kq := f 6 (nat 54 2) p.kq, quanta := f 7 (nat 56 2) p.quanta, step := f 8 (nat 58 2) p.step
    runtime := f 9 (nat 60 4) p.runtime, descBase := f 10 (nat 64 8 % 2 ^ 43) p.descBase
    descCount := f 10 (bitsOf 43 17 (nat 64 8)) p.descCount, scopeBase := f 11 (nat 72 8 % 2 ^ 43) p.scopeBase
    plotBase := f 12 (nat 80 8 % 2 ^ 43) p.plotBase, plotCount := f 12 (bitsOf 43 16 (nat 80 8)) p.plotCount
    buntBase := f 13 (nat 88 8 % 2 ^ 43) p.buntBase, gridBase := f 14 (nat 96 8 % 2 ^ 43) p.gridBase
    gridCount := f 14 (bitsOf 43 8 (nat 96 8)) p.gridCount, root := f 15 (nat 104 8 % 2 ^ 43) p.root
    textIdx := f 16 (nat 112 2) p.textIdx, dataIdx := f 16 (nat 114 2) p.dataIdx }

/-- Ranges of the table of R313 (R314). -/
def fieldsOk (r : Region) : Bool :=
  decide (1 ≤ r.strands ∧ r.strands ≤ 16 ∧ r.prio ≤ 7 ∧ r.quanta ≤ 440 ∧ r.descCount ≤ 65536)
def noRuntime : Nat := 0xFFFFFFFF

/-! ## Text and data (R28, R98, R285) -/

/-- Entry i of the region's descriptor table, tested as SEGLD would. -/
def State.loaderSeg (s : State) (r : Region) (i : Nat) : Wide :=
  if r.descCount ≤ i then 0
  else match s.panelKey (r.descBase / 64 * 64 + 32 * i) with
    | some k =>
      let x : Wide := BitVec.ofNat 256 (s.nat k 32)
      if s.segOk 0 x && dKind x != kindShard then x else 0
    | none => 0
/-- Where the loader reads a descriptor's bytes (R313); one that leads nowhere on the panel gives zeros (log 114). -/
def State.loaderLand (s : State) (pt : Nat) (r : Region) (d : Wide) : Land :=
  if dChip d ≠ s.chip.toNat then .absent
  else if dKind d = kindFlat then .flat r.root (dBase d)
  else if dKind d = kindTile then
    (match s.physTile (dHomeDie d) (dHomeTile d) with | some q => .scratch q (dBase d) | none => .absent)
  else .scratch pt (dBase d)

/-- Windows of the images lie in the scratchpad, below the log, and meet no other (R98, R293). -/
def State.windowsOk (s : State) (r : Region) : Bool :=
  let i := r.image
  i.textOff % 8 == 0 && decide (i.textOff + r.textLen ≤ Config.logOff ∧ i.dataOff + r.dataLen ≤ Config.logOff) &&
  !rangesMeet i.textOff r.textLen i.dataOff r.dataLen &&
  s.regions.all (fun q => q.rcb == r.rcb || !(q.st == .admitted || q.st == .running) || !q.tiles.any r.tiles.contains ||
    (!rangesMeet i.textOff r.textLen q.image.textOff q.textLen && !rangesMeet i.textOff r.textLen q.image.dataOff q.dataLen &&
     !rangesMeet i.dataOff r.dataLen q.image.textOff q.textLen && !rangesMeet i.dataOff r.dataLen q.image.dataOff q.dataLen))

/-! ## Placement and arming (R50 to R52, R200) -/

/-- The strand that arming writes. -/
def armed (chip : Nat) (r : Region) (idx num vbase : Nat) (c : Cadence) (rt : Bool) : Strand :=
  { st := .armed, pc := word (c.entry / 8 * 8), per := BitVec.ofNat 24 c.period
    pph := if c.period = 0 then 0 else BitVec.ofNat 24 c.phase
    s := if rt then (Vector.replicate 32 0).set 1 r.arg else Vector.replicate 32 0
    sg := (Vector.replicate 8 0).set 0 (descriptor kindLocal 11 chip 0 0 r.image.dataOff r.dataLen 0)
    vbase := BitVec.ofNat 11 vbase, vlim := BitVec.ofNat 8 c.vregs, en := rt, priv := if rt then 1 else 0
    cadIdx := BitVec.ofNat 8 idx, cadNum := BitVec.ofNat 4 num, rcbp := word r.rcb }

/-- The party's operations leave with a freed slot: their waiting parts go, those under way are performed (log 13). -/
def State.dropParty (s : State) (p : Party) (key : Option Nat) : State :=
  let oids := (s.ops.filter (fun o => o.party == p)).map Op.oid
  { s with ops := s.ops.filter (fun o => o.party != p), posts := s.posts.filter (fun q => !oids.contains q.oid)
           tileOps := s.tileOps.filter (fun t => some t.key != key)
           heldRels := s.heldRels.filter (fun h => h.party != p) }

/-- One strand in a slot of a tile, with the lowest free vector range (R51); a fresh slot has no operation of its own (R52). -/
def State.placeStrand (s : State) (pt slot : Nat) (r : Region) (idx num : Nat) (c : Cadence) (rt : Bool) : Option State :=
  match findFrom (fun i => s.rangeFree none pt (8 * i) c.vregs && decide (8 * i + c.vregs ≤ 2048)) 0 256 with
  | none => none
  | some i =>
    let t := (List.range c.vregs).foldl (fun (t : State) v => { t with vregs := SMap.put t.vregs (pt * 2048 + 8 * i + v) 0 }) s
    let key := pt * 16 + slot
    some ((t.dropParty (.strand key) (some key)).setStrand key (armed s.chip.toNat r idx num (8 * i) c rt))
def State.freeSlot (s : State) (pt : Nat) : Option Nat := findFrom (fun i => (s.strand (pt * 16 + i)).st == RunState.unarmed) 0 16
/-- The strands of one cadence from number `num` on. -/
def State.placeCadence (s : State) (pt : Nat) (r : Region) (idx : Nat) (c : Cadence) : Nat → Nat → Option State
  | 0, _ => some s
  | n + 1, num => match s.freeSlot pt with
    | none => none
    | some slot => match s.placeStrand pt slot r idx num c false with
      | none => none
      | some t => t.placeCadence pt r idx c n (num + 1)
/-- The cadence that the runtime entry names. -/
def isRuntime (r : Region) (c : Cadence) : Bool := r.runtime != noRuntime && c.entry == r.runtime
def State.placeCadences (s : State) (pt : Nat) (r : Region) : List (Nat × Cadence) → Option State
  | [] => some s
  | (idx, c) :: l =>
    if isRuntime r c then s.placeCadences pt r l
    else match s.placeCadence pt r idx c c.strands 0 with
      | none => none
      | some t => t.placeCadences pt r l
def numbered {α : Type} (l : List α) : List (Nat × α) := (List.range l.length).zip l
/-- The cadences of a region on one tile (R50). -/
def State.placeTile (s : State) (pt : Nat) (r : Region) : Option State :=
  let cs := numbered r.image.cadences
  let start := match cs.find? (fun c => isRuntime r c.2) with
    | none => some s
    | some (idx, c) =>
      if (s.strand (pt * 16 + 15)).st == RunState.unarmed then s.placeStrand pt 15 r idx 0 c true else none
  match start with
  | none => none
  | some t => t.placeCadences pt r cs
def State.placeAll (s : State) (r : Region) : List Nat → Option State
  | [] => some s
  | pt :: l => match s.placeTile pt r with | none => none | some t => t.placeAll r l
/-- Strands that the image runs on a tile. -/
def strandCount (i : Image) : Nat := (i.cadences.map Cadence.strands).sum

/-! ## Admission (R46 to R48) -/

/-- A runtime serves every tile: the region's own, or an ancestor's present on the tile. -/
def State.runtimeOk (s : State) (r : Region) : Bool :=
  if r.runtime ≠ noRuntime then (r.image.cadences.filter (isRuntime r)).length == 1 && r.image.cadences.all (fun c => !isRuntime r c || c.strands == 1)
  else r.tiles.all (fun pt => let x := s.strand (pt * 16 + 15); x.en && x.st != .unarmed && r.parent != 0 && s.within r.parent x.rcbp.toNat)

/-- The first check that fails, by its cause (R46, R314, R331), or the tiles and the state with the strands armed. -/
def State.admission (s : State) (r : Region) (setWord : Nat) : Except Nat (Region × State) :=
  let parent? := if r.parent = 0 then none else s.region? r.parent
  let orphan := r.parent != 0 && !(parent?.any (fun p => p.st == .admitted || p.st == .running))
  let within (lt : Nat) : Bool := match parent? with | some p => p.set.has lt | none => true
  let text := s.loaderSeg r r.textIdx
  if !fieldsOk r then .error 8
  else match s.setOf setWord with
    | none => .error 1
    | some t =>
      let lts := s.tilesOf t
      if s.namesSpare t || orphan || !lts.all within then .error 1
      else if parent?.any (fun p => decide (p.strands < r.strands)) then .error 2
      else if parent?.any (fun p => decide (p.prio < r.prio)) then .error 3
      else if r.permax < r.permin ∨ r.image.cadences.any (fun c => c.period != 0 &&
          (decide (c.period < r.permin) || decide (r.permax < c.period) || decide (c.period ≤ c.phase))) = true then .error 4
      else if r.permin ≠ 0 ∧ r.image.cadences.any (fun c => c.period == 0) = true then .error 4
      else
        let data := s.loaderSeg r r.dataIdx
        let r := { r with set := t, tiles := lts.filterMap (fun lt => s.physTile (lt / 144) (lt % 144)), textLen := dLimit text
                          dataLen := dLimit data }
        if !s.runtimeOk r then .error 5
        else if Config.textMax < r.textLen ∨ r.strands < strandCount r.image then .error 6
        else match s.placeAll r r.tiles with
          | none => .error 6
          | some u =>
            if r.reserved ∧ r.tiles.any (fun pt => decide (r.start ≤ s.rtc pt)) = true then .error 7
            else if !dX text then .error 8 else .ok (r, u)

/-- The images placed on a tile (R28, R98). -/
def State.placeImage (s : State) (r : Region) (pt : Nat) : State :=
  let text := s.peek (s.loaderLand pt r (s.loaderSeg r r.textIdx)) 0 r.textLen
  let data := s.peek (s.loaderLand pt r (s.loaderSeg r r.dataIdx)) 0 r.dataLen
  (s.setBytes (scratchKey pt r.image.textOff) text).setBytes (scratchKey pt r.image.dataOff) data

/-- Kinds 1 to 6 in entries 0 to 5 of the scope table, and the copies of entries 6 to 31 (R317). -/
def State.takeScopes (s : State) (base : Nat) : State × List Scope :=
  match s.panelKey base with
  | none => (s, List.replicate 26 {})
  | some k =>
    ((List.range 6).foldl (fun (t : State) i => t.setNat (k + 8 * i) 8 ((i + 1) * 2 ^ 60)) s,
     (List.range 26).map (fun i => s.scopeCopy (word (s.nat (k + 8 * (i + 6)) 8))))

/-- The region takes its place among the regions. -/
def State.putRegion (s : State) (r : Region) : State :=
  { s with regions := s.regions.filter (fun q => q.rcb != r.rcb) ++ [r] }

/-- A cadence as the assembler gives it (R28): any other is in no image. A phase that is not below a period is for the
loader to refuse (R46, R52). -/
def cadenceOk (c : Cadence) : Bool :=
  decide (1 ≤ c.strands ∧ c.strands ≤ 16 ∧ c.vregs % 8 = 0 ∧ 8 ≤ c.vregs ∧ c.vregs ≤ 128 ∧ c.period < 2 ^ 24) &&
    (c.period != 0 || c.phase == 0)
/-- ARG of the launch record, where it asks for this RCB; a region submitted without a launch has none (R52, R362). -/
def State.launchArg (s : State) (launch rcb : Nat) : Option Word :=
  if launch = 0 then some 0
  else if launch % 64 ≠ 0 then none
  else (s.panelKey launch).bind (fun k => if s.nat (k + 8) 8 = rcb then some (word (s.nat (k + 16) 8)) else none)

/-- The start time of an unreserved region (R48). -/
def State.startTime (s : State) : Nat := ceilDiv (s.refNs + 2000) 1000 * 1000

def execRegionAdmission (rcb : Nat) (img : Image) (s : State) : Out :=
  let open' := match s.region? rcb with | some r => r.st == .refused || r.st == .ended | none => true
  .next (
    if s.bootPhase ≠ 7 ∨ !open' ∨ rcb % 128 ≠ 0 ∨ 2 ^ 43 ≤ rcb ∨ !img.cadences.all cadenceOk then s
    else match s.panelKey rcb, s.launchArg img.launch rcb with
      | some k, some arg =>
        let r := { s.effective rcb k img with arg := arg }
        match s.admission r (s.nat (k + 24) 8) with
        | .error c => (s.writeStatus rcb .refused c).putRegion { r with st := .refused, cause := c }
        | .ok (r, t) =>
          if !s.windowsOk r then s
          else
            let sc := t.takeScopes r.scopeBase
            let r := { r with st := .admitted, scopes := sc.2, startAt := if r.reserved then r.start else s.startTime }
            ((r.tiles.foldl (fun (t : State) pt => t.placeImage r pt) sc.1).putRegion r).writeStatus rcb .admitted 0
      | _, _ => s)

/-! ## The start of a strand (R49, R53, R57) -/

/-- Power region of a place: its physical die row. -/
def rowOf (pt : Nat) : Nat := pt / 144 / 8
/-- The power regions of a region, ascending (R49). -/
def regionRows (r : Region) : List Nat := (List.range 16).filter (fun i => r.tiles.any (fun pt => rowOf pt == i))
/-- The start offset of a power region (R49, R237). -/
def State.startOffset (s : State) (r : Region) (row : Nat) : Nat :=
  let rows := regionRows r
  if rows.any (fun i => decide ((s.row i).csl < r.step)) then 200 * ((rows.findIdx? (· == row)).getD 0) else 0
/-- The start cycle of the region has come on the tile. -/
def State.startDue (s : State) (pt : Nat) (r : Region) : Bool := decide (r.startAt + s.startOffset r (rowOf pt) ≤ s.rtc pt)

/-- The tile reaches the region's start cycle: C0 of each of its strands, and the region runs. -/
def State.startRegion (s : State) (pt : Nat) (r : Region) : State :=
  let t := (List.range 16).foldl (fun (t : State) i => t.modStrand (pt * 16 + i) (fun x =>
    if x.st == .armed && !x.started && x.rcbp == word r.rcb then { x with started := true, c0 := (s.cycle pt : Nat) } else x)) s
  if r.st = .admitted then (t.modRegion r.rcb (fun r => { r with st := .running })).writeStatus r.rcb .running 0 else t

/-- A strand is Armed in the cycle in which it starts, or in a later one (R49, R57). -/
def State.startLate (s : State) (pt slot : Nat) : Bool :=
  let x := s.strand (pt * 16 + slot)
  x.st == .armed && (if x.started then decide (boundary x 0 ≤ (s.cycle pt : Nat)) else
    (s.region? x.rcbp.toNat).any (s.startDue pt))
def execStrandStart (pt slot : Nat) (s : State) : Out :=
  let key := pt * 16 + slot
  let x := s.strand key
  .next (
    if x.st ≠ .armed ∨ 16 ≤ slot then s
    else match s.region? x.rcbp.toNat with
      | none => s
      | some r =>
        if !x.started && !s.startDue pt r then s
        else
          let t := if x.started then s else s.startRegion pt r
          let y := t.strand key
          if boundary y 0 ≤ s.cycle pt then t.setStrand key { y with st := .running } else t)

/-! ## Wakes and releases (R54, R206, R208, R224, R347) -/

def execBoundaryWake (pt slot : Nat) (s : State) : Out :=
  let key := pt * 16 + slot
  let x := s.strand key
  .next (if x.st = .idle ∧ boundary x x.pidx.toNat ≤ s.cycle pt then s.setStrand key { x with st := .running } else s)

/-- The release of a strand whose counts meet limits, at the end of a cycle: the trap of loads that were uncorrectable,
or what follows. -/
def State.release (s : State) (key : Nat) (l : BitVec 24) (pos : Word) (to' : RunState) : State :=
  let x := { s.strand key with hold := .none, freed := some (s.cycle (key / 16)) }
  match x.badLoads with
  | [] => s.setStrand key (({ x with st := to' } : Strand).covered (s.unapplied key) l)
  | a :: _ => (s.setStrand key { x with st := .running, badLoads := [] }).trapAt key pos causeData pos a

def execWaitRelease (pt slot : Nat) (s : State) : Out :=
  let key := pt * 16 + slot
  let x := s.strand key
  .next (match x.st, x.hold with
    | .held, .wait l pos _ => if x.meets l then s.release key l pos .running else s
    | _, _ => s)
def execHaltComplete (pt slot : Nat) (s : State) : Out :=
  let key := pt * 16 + slot
  let x := s.strand key
  .next (match x.st, x.hold with
    | .held, .halt pos => if x.meets 0 then s.release key 0 pos .halted else s
    | _, _ => s)
def execFenceRelease (pt slot : Nat) (s : State) : Out :=
  let key := pt * 16 + slot
  let x := s.strand key
  .next (match x.st, x.hold with
    | .held, .fence gs _ _ =>
      if gs.any s.gateWaits then s else s.setStrand key { x with st := .running, hold := .none, freed := some (s.cycle pt) }
    | _, _ => s)

/-! ## The end of a region (R47) -/

/-- Keys of the slots that the region's strands hold. -/
def State.regionKeys (s : State) (r : Region) : List Nat :=
  r.tiles.flatMap (fun pt => ((List.range 16).map (fun i => pt * 16 + i)).filter (fun k =>
    (s.strand k).st != .unarmed && (s.strand k).rcbp == word r.rcb))
/-- Context cache entries of the region's strands, as tile and entry. -/
def State.regionEntries (s : State) (r : Region) : List (Nat × Nat) :=
  r.tiles.flatMap (fun pt => ((List.range 32).map (fun e => (pt, e))).filter (fun q =>
    let c := s.entry q.1 q.2
    c.st != .empty && c.strand.rcbp == word r.rcb))

/-- An operation of the issuing tile itself: an EVICT, of whatever status. -/
def isEvict (o : Op) : Bool :=
  match o.fin, o.engine with | .evict _ _, _ => true | .word _, some (.grid _) => true | _, _ => false
/-- A message or engine operation of the region is in flight, a copy whose reply is still to come among them, or a piece or
mirror copy of its GSTEPs (R47, R342); a held-back PWR.rel and an EVICT are neither. -/
def State.inFlight (s : State) (rcb : Nat) : Bool :=
  s.ops.any (fun o => o.rcb == rcb && !isHeldRel o && !isEvict o && (o.engine.isSome || (match o.fin with | .copy => true | .send _ _ _ => true | _ => false))) ||
  s.tiles.any (fun (t : Nat × Tile) => t.2.tags.any (fun g => g.2.req.any (fun q => q.rcb == rcb && q.kind == 3))) ||
  s.pieces.any (fun p => p.rcb == rcb) || s.jobs.any (fun j => (s.gridEntry j.pt j.entry).rcb == rcb)

/-- The tile's entries of an ended region go. -/
def freeTile (rcb : Nat) (t : Tile) : Tile :=
  { t with grid := t.grid.map (fun e => if e.2.rcb == rcb && e.2.id != 0 then (e.1, {}) else e)
           routes := t.routes.map (fun e => if e.2.owner == rcb then (e.1, { e.2 with v := false }) else e)
           plots := t.plots.filter (fun p => p.rcb != rcb) }
def Sched.freeRegion (q : Sched) (rcb : Nat) : Sched :=
  { q with ready := q.ready.filter (fun r => r.region != rcb), out := q.out.filter (fun t => t.1 != rcb) }

/-- The region's resources are freed, and STATUS says why (R47, R357). -/
def State.endRegion (s : State) (rcb cause : Nat) : State :=
  let r := s.region rcb
  let t1 := (s.regionKeys r).foldl (fun (t : State) k => (t.dropParty (.strand k) (some k)).setStrand k {}) s
  let t2 := (s.regionEntries r).foldl (fun (t : State) q => (t.dropParty (.cached (q.1 * 32 + q.2)) none).setEntry q.1 q.2 {}) t1
  let t3 := { t2 with
    tiles := t2.tiles.map (fun (e : Nat × Tile) => (e.1, freeTile rcb e.2))
    dies := t2.dies.map (fun (e : Nat × Die) => (e.1, { e.2 with sched := e.2.sched.freeRegion rcb }))
    pieces := t2.pieces.filter (fun p => p.rcb != rcb)
    mirrors := t2.mirrors.filter (fun m => m.rcb != rcb)
    jobs := t2.jobs.filter (fun j => (t2.gridEntry j.pt j.entry).rcb != rcb)
    steals := t2.steals.filter (fun q => q.rcb != rcb)
    reports := t2.reports.filter (fun q => q.1 != rcb) }
  (t3.modRegion rcb (fun r => { r with st := .ended, cause := cause, quieted := false, qWait := [], away := [], lost := false })).writeStatus rcb .ended cause

def regionLive (r : Region) : Bool := r.st == .admitted || r.st == .running
/-- Children first, with cause 18, those that are only admitted among them (log 77); then the region itself. -/
def State.endTree (s : State) : Nat → Nat → Nat → State
  | 0, _, _ => s
  | f + 1, rcb, cause =>
    let children := (s.regions.filter (fun r => r.parent == rcb && r.parent != 0 && regionLive r)).map Region.rcb
    (children.foldl (fun (t : State) c => t.endTree f c 18) s).endRegion rcb cause

def execRegionEnd (rcb : Nat) (s : State) : Out :=
  .next (match s.region? rcb with
    | none => s
    | some r =>
      if r.st = .running ∧ (s.regionKeys r).all (fun k => (s.strand k).st == .halted) = true ∧
          (s.regionEntries r).isEmpty = true ∧ r.away = [] ∧ !r.lost ∧ !s.inFlight rcb then s.endTree 128 rcb 16
      else s)

/-! ## Quiescence (R63, R64, R209, R210) -/

/-- The quiet count of a strand reaches K. -/
def quietEnough (k : Nat) (x : Strand) : Bool :=
  match x.st with | .halted => true | .evicted => false | .parked => false | _ => decide (k ≤ x.quiet)
/-- The region's event on one tile. -/
def State.raiseQuiet (s : State) (r : Region) (pt : Nat) : State :=
  let t := s.tile pt
  let slot := ((List.range 16).find? (fun i => (s.strand (pt * 16 + i)).st != .unarmed && (s.strand (pt * 16 + i)).rcbp == word r.rcb)).getD 0
  if !t.qp || t.qpOwner = r.rcb then (s.modTile pt (fun t => { t with qpOwner := r.rcb })).raiseEvent pt (eventWord 2 slot 0 r.rcb)
  else s.modRegion r.rcb (fun r => { r with qWait := r.qWait ++ [pt] })

/-- A waiting quiescence may be raised on the tile: QP is clear, since an earlier cycle than this one (R64). -/
def State.quietOpen (s : State) (pt : Nat) : Bool := !(s.tile pt).qp && (s.tile pt).qpClear != some (s.cycle pt)

def execQuiescenceEvent (rcb : Nat) (s : State) : Out :=
  .next (match s.region? rcb with
    | none => s
    | some r =>
      if r.quieted then
        -- the tiles on which another region's event stood in the way
        (let ready := r.qWait.filter s.quietOpen
         ready.foldl (fun (t : State) pt => t.raiseQuiet r pt)
           (s.modRegion rcb (fun r => { r with qWait := r.qWait.filter (fun pt => !s.quietOpen pt) })))
      else if r.st = .running ∧ r.kq ≠ 0 ∧ (s.regionKeys r).all (fun k => quietEnough r.kq (s.strand k)) = true ∧
          (s.regionEntries r).isEmpty = true ∧ r.away = [] ∧ !r.lost ∧ !s.inFlight rcb then
        r.tiles.foldl (fun (t : State) pt => t.raiseQuiet r pt) (s.modRegion rcb (fun r => { r with quieted := true, qWait := [] }))
      else s)

/-! ## Pre-emption and events -/

/-- Firmware evicts a strand of a region of lower priority for a region (R58); the notice gives reason 0 (log 109). -/
def execPriorityPreemption (pt slot rcb : Nat) (s : State) : Out :=
  let key := pt * 16 + slot
  let x := s.strand key
  .next (match s.region? rcb, s.region? x.rcbp.toNat, lowestEntry s pt with
    | some r, some q, some e =>
      if q.prio < r.prio ∧ r.st ≠ .ended ∧ (x.st = .running ∨ x.st = .idle ∨ x.st = .held ∨ x.st = .parked) ∧ slot < 16 then
        s.startEvict key e 0 0 none
      else s
    | _, _, _ => s)

/-- A raised event word goes to the deposit port of p63, with stamp 0 (R209, R210). -/
def execEventDeposit (pt : Nat) (s : State) : Out :=
  .next (match (s.tile pt).events with
    | [] => s
    | w :: r => { s.modTile pt (fun t => { t with events := r }) with
        deposits := s.deposits ++ [{ pt := pt, idx := 63, act := .set w 0, pid := none, oid := none }] })

end Sys2Proof.Machine
end

