-- ==== Sys2Proof/Machine/Power.lean ====
section
/-!
DEFINITION. Drift, throttles and the power budget (R22, R209, R231 to R239): the measured values are operands of the events.
An event whose condition does not hold leaves the state as it is.
-/
namespace Sys2Proof.Machine

/-! ## Drift (R22) -/

/-- d changes after boot has trimmed it; each rise above 400 is owed one alarm. -/
def execDriftChange (pt d : Nat) (s : State) : Out :=
  .next (if s.bootPhase < 4 ∨ 500 < d then s
    else s.modTile pt (fun t => { t with drift := BitVec.ofNat 10 d
                                         alarmDue := if 400 < d ∧ t.drift.toNat ≤ 400 then t.alarmDue + 1 else t.alarmDue }))
def execDriftAlarm (pt : Nat) (s : State) : Out :=
  .next (if 0 < (s.tile pt).alarmDue then
      ((s.modTile pt (fun t => { t with alarmDue := t.alarmDue - 1 })).raiseDrift pt).bump (pt / 144) 10
    else s)

/-! ## Throttles (R232, R233, R236, R238) -/

/-- The thermal demand of a tile at a temperature in 1/16 °C; an inlet above 45 °C acts on every tile (R382). -/
def thermalNext (t : Tile) (temp : Int) (threshold inlet now : Nat) : Nat :=
  if 1680 ≤ temp then 1
  else if (16 * threshold : Nat) ≤ temp ∨ 45 < inlet then (if t.thermalAt + 10000 ≤ now then max 1 (t.thermal - 1) else t.thermal)
  else if temp + 80 ≤ (16 * threshold : Nat) then (if t.thermalAt + 100000 ≤ now then min 16 (t.thermal + 1) else t.thermal)
  else t.thermal
/-- The thermal demand of a tile follows its temperature. -/
def State.thermalStep (s : State) (pt : Nat) : State :=
  s.modTile pt (fun t =>
    let e := thermalNext t t.temp.toInt s.threshold s.inlet s.refNs
    { t with thermal := e, thermalAt := if e = t.thermal then t.thermalAt else s.refNs })
def execThermalThrottle (pt : Nat) (temp : BitVec 16) (s : State) : Out :=
  .next ((s.modTile pt (fun t => { t with temp := temp })).thermalStep pt)

/-- Places of the active tiles of a power region. -/
def State.rowTiles (s : State) (row : Nat) : List Nat :=
  (List.range 8).flatMap (fun c => (s.ltp (row * 8 + c)).map (fun i => (row * 8 + c) * 144 + i))
/-- The detector of a power region fires: the droop event of each tile, and a fall of the demands within 100 ns (R232). -/
def execDroopDetect (row : Nat) (s : State) : Out :=
  .next (if 16 ≤ row then s
    else
      let t := s.modRow row (fun r => { r with count := min 65535 (r.count + 1), clearAt := s.refNs
                                               fallBy := some (r.fallBy.elim (s.refNs + 100) id) })
      (s.rowTiles row).foldl (fun (t : State) pt => t.raiseDroop pt row) t)
/-- The demand on each tile falls to 8, or to its E when that is lower; one that is lower already stays (log 22). -/
def droopFall (t : Tile) : Nat := min t.droop (min 8 t.turns)
/-- The fall of the demands of a power region whose detector has fired. -/
def State.droopFallStep (s : State) (row : Nat) : State :=
  if (s.row row).fallBy.isNone then s
  else (s.rowTiles row).foldl (fun (t : State) pt => t.modTile pt (fun y => { y with droop := droopFall y }))
    (s.modRow row (fun r => { r with fallBy := none }))
/-- The demand on each tile of the region rises by one, to at most 16. -/
def execDroopRecovery (row : Nat) (s : State) : Out :=
  .next (if (s.row row).fallBy.isNone && (s.rowTiles row).any (fun pt => decide ((s.tile pt).droop < 16)) && decide ((s.row row).clearAt + 1000 ≤ s.refNs) then
      (s.rowTiles row).foldl (fun (t : State) pt => t.setTile pt { s.tile pt with droop := min 16 ((s.tile pt).droop + 1) })
        (s.modRow row (fun r => { r with clearAt := s.refNs }))
    else s)

def Power.usable (p : Power) : Nat := p.held - p.set
/-- The budget demand of a die follows its draw. -/
def State.budgetStep (s : State) (die : Nat) : State :=
  let x := s.die die
  let csl := (s.row (die / 8)).csl
  if s.refNs < x.budgetAt + 1000 then s
  else if x.power.usable < x.power.draw ∧ 1 < x.budget then s.modDie die (fun x => { x with budget := x.budget - 1, budgetAt := s.refNs })
  else if x.power.draw + csl < x.power.usable ∧ x.budget < 16 then s.modDie die (fun x => { x with budget := x.budget + 1, budgetAt := s.refNs })
  else s
def execBudgetThrottle (die : Nat) (s : State) : Out := .next (s.budgetStep die)
/-- The demands that fall and rise with time; a warm inlet reaches every tile (R382). -/
def State.throttles (s : State) : State :=
  let pts := if 45 < s.inlet then List.range (Config.dies * 144) else s.tiles.map Prod.fst
  (s.dies.map Prod.fst).foldl State.budgetStep (pts.foldl State.thermalStep s)

/-- The smallest of the three demands on a tile. -/
def State.turnDemand (s : State) (pt : Nat) : Nat := min (s.tile pt).thermal (min (s.tile pt).droop (s.die (pt / 144)).budget)
/-- A frame starts on the tile, and E has not changed in it yet. -/
def State.frameStart (s : State) (pt : Nat) : Bool :=
  s.cycle pt % 16 == 0 && (s.tile pt).turnsAt != some (s.cycle pt / 16)
/-- E is to fall at the start of this frame: a demand fell in the one before (R232). -/
def State.fallDue (s : State) (pt : Nat) : Bool := s.frameStart pt && decide ((s.tile pt).seen < (s.tile pt).turns)
/-- At a frame's start E falls to the smallest demand that the frame before ended with, or rises by one where the power
region's measured rise allows it (R232, R238). -/
def execTurnsChange (pt rise : Nat) (s : State) : Out :=
  let t := s.tile pt
  let to' (e : Nat) : State := s.setTile pt { t with turns := e, turnsAt := some (s.cycle pt / 16) }
  .next (if s.fallDue pt then to' t.seen
    else if s.frameStart pt && decide (t.turns < t.seen ∧ rise < (s.row (rowOf pt)).csl) then to' (t.turns + 1)
    else s)

/-! ## Draw and the status block (R234, R239) -/

def State.modPower (s : State) (d : Nat) (f : Power → Power) : State := s.modDie d (fun x => { x with power := f x.power })
def execDrawRefresh (die draw : Nat) (s : State) : Out :=
  .next (if 1023 < draw then s else s.modPower die (fun p => { p with draw := draw }))

/-- The bytes of the die status block. -/
def statusBytes (seq rtc : Nat) (x : Die) (r : PowerRegion) : List Byte :=
  let p := x.power
  toBytes 8 seq ++ toBytes 8 rtc ++
    ([p.held, p.usable, p.draw] ++ p.out ++ p.lent ++ p.owed ++ [r.csl, r.count]).flatMap (toBytes 2) ++ zeros 14 ++
    x.errs.toList.flatMap (fun v => toBytes 4 v.toNat)
/-- Each refresh raises SEQ before its first field and after its last (R239). -/
def execStatusBlockRefresh (die : Nat) (s : State) : Out :=
  let x := s.die die
  .next ((s.modDie die (fun x => { x with statSeq := x.statSeq + 2 })).setBytes (dieKey die Config.statusBlockOff)
    (statusBytes (x.statSeq + 2).toNat s.refNs x (s.row (die / 8))))

/-! ## Quanta (R234, R235) -/

def up (d : Dir) (q : Nat) (l : List Nat) : List Nat := modNth l (dirNo d) (fun x => x + q)
def down (d : Dir) (q : Nat) (l : List Nat) : List Nat := modNth l (dirNo d) (fun x => x - q)

/-- Quanta that a die has sent to a neighbour in repayment and that are not yet settled. -/
def State.repaying (s : State) (die : Nat) (d : Dir) : Nat :=
  ((s.transfers.filter (fun t => t.src == die && t.dir == d && t.kind != 0)).map Transfer.q).sum
/-- The check of a send (R235): a grant, a repayment not asked for, a repayment of recalled quanta. What a die has out with a
neighbour or lent to it stays within 440 (R234, log 39). -/
def State.mayQuanta (s : State) (die : Nat) (d : Dir) (q kind : Nat) : Bool :=
  let p := (s.die die).power
  decide (die < Config.dies) && (dieAt die d).isSome && !((s.die die).sideDown.getD (dirNo d) false) &&
    decide (0 < q ∧ q + p.out.getD (dirNo d) 0 ≤ 440) &&
    (match kind with
      | 0 => decide (q + p.draw ≤ p.usable ∧ q + p.out.getD (dirNo d) 0 + p.lent.getD (dirNo d) 0 ≤ 440)
      | 1 => decide (q + p.draw ≤ p.usable ∧ q + s.repaying die d ≤ p.owed.getD (dirNo d) 0)
      | 2 => decide (q ≤ p.set ∧ q ≤ p.held ∧ q + s.repaying die d ≤ p.owed.getD (dirNo d) 0)
      | _ => false)
def execQuantaSend (die : Nat) (dir : Dir) (q kind : Nat) (s : State) : Out :=
  .next (if !s.mayQuanta die dir q kind then s
    else
      let t := s.modPower die (fun p => { p with held := p.held - q, out := up dir q p.out, set := if kind = 2 then p.set - q else p.set })
      State.fresh { t with transfers := t.transfers ++ [{ id := t.nextId, src := die, dir := dir, q := q, kind := kind, stage := 0 }] })

def State.setStage (s : State) (id stage : Nat) : State :=
  { s with transfers := s.transfers.map (fun t => if t.id == id then { t with stage := stage } else t) }
def State.dropTransfer (s : State) (id : Nat) : State := { s with transfers := s.transfers.filter (fun t => t.id != id) }
def State.transfer? (s : State) (id stage : Nat) : Option Transfer := s.transfers.find? (fun t => t.id == id && t.stage == stage)

def execQuantaReceipt (id : Nat) (s : State) : Out :=
  .next (match s.transfer? id 0 with
    | none => s
    | some t => match dieAt t.src t.dir with
      | none => s
      | some b =>
        if 440 < (s.die b).power.held + t.q then s.setStage id 2
        else (s.modPower b (fun p => { p with held := p.held + t.q })).setStage id 1)

/-- The sender hears that a transfer was taken: it settles what is lent or owed (R235). -/
def State.settle (s : State) (t : Transfer) : State :=
  let b := (dieAt t.src t.dir).getD t.src
  let back := backDir t.dir
  let s1 := s.modPower t.src (fun p => { p with out := down t.dir t.q p.out })
  let s2 := if t.kind = 0 then
      (s1.modPower t.src (fun p => { p with lent := up t.dir t.q p.lent })).modPower b (fun p => { p with owed := up back t.q p.owed })
    else
      (s1.modPower t.src (fun p => { p with owed := down t.dir t.q p.owed
                                            recalled := if t.kind = 2 then down t.dir t.q p.recalled else p.recalled })).modPower b
        (fun p => { p with lent := down back t.q p.lent })
  s2.dropTransfer t.id
/-- The sender has its quanta back (R235). While it holds so many others that they would take it above 440, they stay on
the sideband (R24, log 39). -/
def State.giveBack (s : State) (t : Transfer) : State :=
  if 440 < (s.die t.src).power.held + t.q then s.setStage t.id 2
  else (s.modPower t.src (fun p => { p with held := p.held + t.q, out := down t.dir t.q p.out
                                            set := if t.kind = 2 then p.set + t.q else p.set })).dropTransfer t.id
def execQuantaAck (id : Nat) (s : State) : Out :=
  .next (match s.transfer? id 1 with | none => s | some t => s.settle t)
def execQuantaReturn (id : Nat) (s : State) : Out :=
  .next (match s.transfer? id 2 with | none => s | some t => s.giveBack t)

/-- A die asks back quanta that it has lent to a neighbour, which sets them aside at once; SET never passes HELD, since
USABLE is their difference (log 39). -/
def execQuantaRecall (die : Nat) (dir : Dir) (q : Nat) (s : State) : Out :=
  .next (match dieAt die dir with
    | none => s
    | some b =>
      let back := backDir dir
      let p := (s.die b).power
      if (s.die die).power.lent.getD (dirNo dir) 0 < q + p.recalled.getD (dirNo back) 0 ∨ p.held < p.set + q ∨ Config.dies ≤ die then s
      else s.modPower b (fun p => { p with set := p.set + q, recalled := up back q p.recalled }))

/-- The two ends of a sideband are marked. -/
def State.markSide (s : State) (die : Nat) (dir : Dir) (v : Bool) : State :=
  let s1 := s.modDie die (fun x => { x with sideDown := x.sideDown.set (dirNo dir) v })
  match dieAt die dir with
  | none => s1
  | some b => s1.modDie b (fun x => { x with sideDown := x.sideDown.set (dirNo (backDir dir)) v })
/-- Transfers on the sideband of a die in a direction. -/
def State.onSide (s : State) (die : Nat) (dir : Dir) : List Transfer :=
  s.transfers.filter (fun t => (t.src == die && t.dir == dir) || (dieAt die dir == some t.src && t.dir == backDir dir))
def execSidebandFailure (die : Nat) (dir : Dir) (s : State) : Out :=
  .next (if (dieAt die dir).isNone then s
    else ((s.onSide die dir).foldl (fun (u : State) t => if t.stage = 1 then u.settle t else u.giveBack t) s).markSide die dir true)
def execSidebandRestore (die : Nat) (dir : Dir) (s : State) : Out := .next (s.markSide die dir false)

end Sys2Proof.Machine
end

