-- ==== Sys2Proof/Machine/Faults.lean ====
section
/-!
DEFINITION. Errors and sparing (R252, R279, R280, R323, R328 to R331, R376, R379 to R381): corrected errors and self-tests, the
sparing ladder, tile removal, die grafts, the acts of a fault domain, turn tables, and the restart of a DCC. An event whose
condition does not hold leaves the state as it is.
-/
namespace Sys2Proof.Machine

/-! ## The die map block (R329) -/

/-- The bytes of the block of a physical die. -/
def State.mapBytes (s : State) (d : Nat) : List Byte :=
  let l := s.ltp d
  toBytes 8 (s.die d).mapSeq.toNat ++ toBytes 8 (s.die d).mapRtc.toNat ++ toBytes 2 l.length ++ zeros 14 ++
    (List.range 144).map (fun n => match l[n]? with
      | some i => BitVec.ofNat 8 (i % 12 + i / 12 * 16)
      | none => 0xFF) ++
    (List.range 144).map (fun i => BitVec.ofNat 8 (s.pts d i)) ++
    (List.range 128).flatMap (fun k => toBytes 2 ((s.dmapOf k).1 + (s.dmapOf k).2 * 256)) ++
    (List.range 144).map (fun i => s.tt d i)
/-- A change of a die's block: SEQ rises as in a refresh, and the block is written. -/
def State.writeMap (s : State) (d : Nat) : State :=
  let t := s.modDie d (fun x => { x with mapSeq := x.mapSeq + 2, mapRtc := word s.refNs })
  t.setBytes (dieKey d Config.mapBlockOff) (t.mapBytes d)
/-- DMAP stands in every die's block. -/
def State.writeMaps (s : State) : State := (List.range 128).foldl (fun (t : State) d => t.writeMap d) s

/-! ## Strands and regions on a lost tile -/

/-- Strands of a place that is lost, in slots and in the context cache: they leave with their operations. -/
def State.loseStrands (s : State) (pt : Nat) : State :=
  let s1 := (List.range 16).foldl (fun (t : State) i => (t.dropParty (.strand (pt * 16 + i)) (some (pt * 16 + i))).setStrand (pt * 16 + i) {}) s
  (List.range 32).foldl (fun (t : State) e => (t.dropParty (.cached (pt * 32 + e)) none).setEntry pt e {}) s1
/-- Regions, admitted or running, with tiles among some places. -/
def State.regionsOn (s : State) (p : Nat → Bool) : List Region := s.regions.filter (fun r => regionLive r && r.tiles.any p)
/-- Their fault domains hear that a unit of theirs is lost (log 88). -/
def State.tellAll (s : State) (rs : List Region) : State := rs.foldl (fun (t : State) r => t.report r.rcb 0) s

/-! ## Tile removal (R328, R330) -/

/-- Routes of a die's tiles over a router that is dead go (R328). -/
def State.dropRoutes (s : State) (pt : Nat) : State :=
  { s with tiles := s.tiles.map (fun (e : Nat × Tile) =>
      (e.1, if e.1 / 144 = pt / 144 then
          { e.2 with routes := e.2.routes.map (fun (r : Nat × Route) =>
              if r.2.v && routePasses e.1 r.2.word.toNat (pt % 144) then (r.1, { r.2 with v := false }) else r) }
        else e.2)) }
/-- Regions whose strands were lost with a tile or a die do not end of themselves before an act of their supervisor (R380,
R381). -/
def State.markLost (s : State) (rs : List Region) : State :=
  rs.foldl (fun (t : State) r => t.modRegion r.rcb (fun r => { r with lost := true })) s

/-- A tile leaves its die's logical map (R330); routes over a router that is dead go (R328). Its strands are lost, and the
fault domains of their regions are told (log 17). -/
def State.removeTile (s : State) (pt : Nat) (dead : Bool) : State :=
  let d := pt / 144
  let rs := s.regionsOn (fun q => q == pt)
  let s1 := s.modDie d (fun x => { x with pts := SMap.put x.pts (pt % 144) (if dead then 2 else 1) })
  let s2 := (s1.loseStrands pt).bump d 9
  let s3 := { s2 with regions := s2.regions.map (fun (r : Region) => { r with tiles := r.tiles.filter (fun q => q != pt) }) }
  let s4 := (if dead then s3.dropRoutes pt else s3).markLost rs
  (s4.tellAll rs).writeMap d
/-- The router of a tile that has left the map is dead too (R329, R379). -/
def State.loseRouter (s : State) (pt : Nat) : State :=
  ((s.modDie (pt / 144) (fun x => { x with pts := SMap.put x.pts (pt % 144) 2 })).dropRoutes pt).writeMap (pt / 144)

/-! ## Die grafts (R279, R280, R331) -/

/-- The place that bears the logical number of a place of the failed die. -/
def State.moved (s t : State) (f pt : Nat) : Option Nat :=
  if pt / 144 = f then (s.logTile pt).bind (fun lt => t.physTile (lt / 144) (lt % 144)) else some pt

/-- A part bound for the failed die, or for the spare before it took the position over, completes as one to no tile (R180,
R247, R331), that of a SEND with code 3 and, from another die, the hops of stage 1 (R354, R355). -/
def State.lostParts (s : State) (f : Nat) : State :=
  let hit (p : Part) : Bool := homeDie p.home == some f
  let void (p : Part) : Part := if hit p then { p with home := .absent, act := .read [], logs := [] } else p
  let s1 := (s.allParts.filter hit).foldl (fun (t : State) p => match p.act with
    | .penSample _ k _ => t.modOp p.oid (fun o => { o with res := (sampleAbsent k).1, res2 := (sampleAbsent k).2 })
    | _ => t) s
  { s1 with posts := s1.posts.map void, chan := s1.chan.map void, arrived := s1.arrived.map void
            ops := s1.ops.map (fun o => { o with
              parked := o.parked.map void
              fin := match o.fin with
                | .send h k _ =>
                  if (s.allParts.filter hit).any (fun p => p.oid == o.oid) then
                    .send (if opTile o / 144 = f then h else (stage1 (opTile o) (f * 144)).length) k 3 else o.fin
                | e => e }) }

/-- Cached leaves of frames on a physical die go. -/
def State.dropFrames (s : State) (f : Nat) : State :=
  { s with tiles := s.tiles.map (fun (e : Nat × Tile) => (e.1, { e.2 with leaves := e.2.leaves.filter (fun l => l.die != f) })) }

/-- What the tiles of the failed die held is lost. -/
def State.loseDie (s : State) (f : Nat) : State :=
  let s1 := (List.range 144).foldl (fun (t : State) i => t.loseStrands (f * 144 + i)) s
  let on (pt : Nat) : Bool := pt / 144 == f
  { s1.lostParts f with
    strands := s1.strands.filter (fun e => !on (e.1 / 16)), vregs := s1.vregs.filter (fun e => !on (e.1 / 2048))
    pens := s1.pens.filter (fun e => !on (e.1 / 64))
    tiles := ((s1.dropFrames f).tiles.filter (fun e => !on e.1))
    locals := s1.locals.filter (fun l => !on l.pt), deposits := s1.deposits.filter (fun d => !on d.pt)
    heldRels := s1.heldRels.filter (fun h => !on h.pt), logReqs := s1.logReqs.filter (fun q => !on q.pt)
    steals := s1.steals.filter (fun x => x.thief != f && (x.asked != f || x.stage == 1))
    dies := s1.dies.map (fun (e : Nat × Die) => if e.1 = f then (e.1, { e.2 with sched := {} }) else e) }

/-- The copies and rings on a logical die are lost; their partitions have no buddy until firmware names one (R279). -/
def State.loseBuddy (s : State) (l : Nat) : State :=
  { s with mirrors := s.mirrors.filter (fun m => m.buddy != l)
           jobs := s.jobs.filter (fun j => (s.gridEntry j.pt j.entry).buddy != some l)
           tiles := s.tiles.map (fun (e : Nat × Tile) => (e.1, { e.2 with grid := e.2.grid.map (fun (g : Nat × GridEntry) =>
             if g.2.id != 0 && g.2.buddy == some l then (g.1, { g.2 with mstep := 0xFFFFFFFF, buddy := none }) else g) })) }
/-- Firmware names another buddy for a partition: a die in service that stores no partition of the grid (R267, R279). -/
def State.nameBuddy (s : State) (pt e die : Nat) : State :=
  let g := s.gridEntry pt e
  if g.id = 0 ∨ !g.desc.mirror ∨ g.buddy ≠ none ∨ g.desc.parts.any (fun p => p.die == die) = true ∨ s.physDie die = none then s
  else s.setGridEntry pt e { g with buddy := some die }

/-- A partition's grid entry restored on its new tile, with the ring slots of M and M + d (R280). -/
def State.graftGrid (s : State) (pt e : Nat) (g : GridEntry) : State :=
  if !g.desc.mirror then s.report g.rcb 0
  else
    let s1 := s.restorePart pt e g true
    let h := s1.gridEntry pt e
    if h.id = 0 then s1
    else
      let fs := List.range (2 * h.desc.rank)
      (s1.ringPieces pt h fs h.pstep.toNat ++ s1.ringPieces pt h fs (h.pstep.toNat + h.desc.d)).foldl
      (fun (t : State) p => (t.depositPiece p).getD (t.queuePieces [p])) s1

/-- A region's images and strands stand afresh on its new tiles (R52, R280); strands that find no place there are lost. -/
def State.rearmRegion (s : State) (r : Region) (pts : List (Option Nat)) : State :=
  pts.foldl (fun (t : State) pt => match pt with
    | none => t.markLost [r]
    | some pt => let u := t.placeImage r pt; (u.placeTile pt r).getD (u.markLost [r])) s

/-- The graft of physical die f at logical position l onto the die of spare position l' (R331). -/
def State.graftOnto (s : State) (f l l' : Nat) : State :=
  let rs := s.regionsOn (fun pt => pt / 144 == f)
  let grids := (s.tiles.filter (fun e => e.1 / 144 == f)).flatMap (fun e =>
    (e.2.grid.filter (fun g => g.2.id != 0)).map (fun g => (e.1, g.1, g.2)))
  -- pieces addressed to the position reach the ring and are dropped at the partition
  let rings := s.pieces.filter (fun p => p.ring && ((s.pieceDesc p).bind (fun d => d.parts[p.part]?)).any (fun x => x.die == l))
  let t0 := rings.foldl (fun (u : State) p => match s.pieceDesc p with
      | some d => if d.mirror then u.depositRing { p with desc := d } else u
      | none => u)
    { s with pieces := s.pieces.filter (fun p => !rings.contains p && (p.ring || p.pt / 144 != f)), jobs := s.jobs.filter (fun j => j.pt / 144 != f) }
  let t := { s with dmap := SMap.put (SMap.put s.dmap l ((s.dmapOf l').1, 0)) l' (f, 2) }
  let t1 := { t0 with dmap := t.dmap }
  let t2 := ((((t1.loseDie f).lostParts (s.dmapOf l').1).dropFrames (s.dmapOf l').1).loseBuddy l).loseBuddy l'
  let t3 := { t2 with regions := t2.regions.map (fun (r : Region) => { r with tiles := r.tiles.filterMap (s.moved t f) }) }
  let t4 := rs.foldl (fun (u : State) r => u.rearmRegion r ((r.tiles.filter (fun pt => pt / 144 == f)).map (s.moved t f))) t3
  let t5 := grids.foldl (fun (u : State) g => match s.moved t f g.1 with
    | some pt => u.graftGrid pt g.2.1 g.2.2
    | none => u.report g.2.2.rcb 0) t4
  (t5.tellAll rs).writeMaps

/-- Ancestors of a region. -/
def State.depth (s : State) : Nat → Nat → Nat
  | 0, _ => 0
  | n + 1, rcb => match (s.region rcb).parent with | 0 => 0 | p => s.depth n p + 1
/-- Regions end with cause 17, those deepest in the tree first, so that none of them ends with its parent's (R47, R379). -/
def State.endAll17 (s : State) (rs : List Region) : State :=
  ((List.range 129).reverse.flatMap (fun k => rs.filter (fun r => s.depth 128 r.rcb == k))).foldl
    (fun (u : State) r => if regionLive (u.region r.rcb) then u.endTree 128 r.rcb 17 else u) s

/-- A die is found lasting-faulty: it is grafted where a position is spare and firmware wants no end of its regions (R378);
else its regions end with cause 17 and its position is vacant (R331, R379). -/
def State.failDie (s : State) (f : Nat) : State :=
  let t := s.modDie f (fun x => { x with failed := true })
  match s.logDie f with
  | none => t
  | some l =>
    if (s.dmapOf l).2 = 1 then (({ t with dmap := SMap.put t.dmap l (f, 2) }.loseDie f).loseBuddy l).writeMaps
    else match (findFrom (fun k => (s.dmapOf k).2 == 1) 0 128).filter (fun _ => s.policy != 2) with
      | some l' => t.graftOnto f l l'
      | none =>
        let u := t.endAll17 (s.regionsOn (fun pt => pt / 144 == f))
        (({ u with dmap := SMap.put u.dmap l (f, 2) }.loseDie f).loseBuddy l).writeMaps

/-! ## The ladder (R252, R379) -/

/-- A tile of a die is lasting-faulty: it is removed, or the die is grafted where T would fall below 136. -/
def State.failTile (s : State) (d i : Nat) (dead : Bool) : State :=
  if s.pts d i = 1 ∧ dead = true then s.loseRouter (d * 144 + i)
  else if s.pts d i ≠ 0 then s
  else if s.active d < 137 then s.failDie d
  else s.removeTile (d * 144 + i) dead

/-- A pseudo-channel is lasting-faulty: its contents are copied to the group's spare, the spare goes out of service, or the
die is grafted. -/
def State.failChannel (s : State) (d ch : Nat) : State :=
  let g := ch / 20
  let fp := ((s.die d).chspare.toList[g]?).getD 31
  if 160 ≤ ch then s
  else if fp ≠ 31 ∨ (s.die d).copies.any (fun c => c.1 == g) = true then s.failDie d
  else if ch % 20 = 19 then s.modDie d (fun x => { x with chspare := Vector.ofFn (fun i : Fin 8 => if i.val = g then 19 else x.chspare[i]) })
  else s.modDie d (fun x => { x with copies := x.copies ++ [(g, ch % 20)] })

def State.failLane (s : State) (d dir : Nat) : State :=
  let n := (s.die d).lanes.getD dir 0
  let t := s.modDie d (fun x => { x with lanes := x.lanes.set dir (n + 1) })
  if n < 4 then t.bump d 8 else t

/-- The tile that a unit of a die is part of. -/
def unitTile (u : FaultUnit) : Option Nat :=
  match u with | .tileSram i _ => some i | .tileRouter i => some i | .oscillator i => some i | _ => none
/-- Regions with tiles where a unit of a die is: on its tile, or on the die. -/
def State.unitRegions (s : State) (d : Nat) (u : FaultUnit) : List Region :=
  s.regionsOn (fun pt => match unitTile u with | some i => pt == d * 144 + i | none => pt / 144 == d)
/-- The first rung that still has a spare, where firmware wants neither a graft in place of it, nor no sparing at all, nor the
end of the regions (R378, R379). -/
def State.ladder (s : State) (d : Nat) (u : FaultUnit) (dead : Bool) : State :=
  match s.policy with
  | 1 => s.failDie d
  | 3 => s
  | 4 => s.endAll17 (s.unitRegions d u)
  | _ => match u with
    | .tileSram i _ => s.failTile d i dead
    | .tileRouter i => s.failTile d i true
    | .oscillator i => s.failTile d i dead
    | .channel ch => s.failChannel d ch
    | .linkLane dir _ => s.failLane d dir
    | .wholeDie => s.failDie d

/-- The unit is part of the die: a port at the edge of the panel has no link (R15). -/
def unitExists (d : Nat) (u : FaultUnit) : Bool :=
  decide (d < Config.dies) && (match u with
    | .tileSram i k => decide (i < 144 ∧ k ≤ 18)
    | .tileRouter i => decide (i < 144)
    | .oscillator i => decide (i < 144)
    | .channel ch => decide (ch < 160)
    | .linkLane dir _ => ([Dir.n, .e, .s, .w][dir]?).any (fun x => (dieAt d x).isSome)
    | .wholeDie => true)

/-- The count of a corrected error of a unit (R240). -/
def errorCount (u : FaultUnit) : Option (Fin 11) :=
  match u with
  | .tileSram _ k => if k < 18 then some 0 else none
  | .linkLane _ _ => some 1 | .channel _ => some 2 | .tileRouter _ => some 3
  | .oscillator _ => none | .wholeDie => none
/-- A corrected error is counted; a self-test of the unit starts where none runs (R379). -/
def State.corrected (s : State) (d : Nat) (u : FaultUnit) : State :=
  if unitExists d u then (match errorCount u with | some i => s.bump d i | none => s).startTest d u else s
def execCorrectedError (die : Nat) (u : FaultUnit) (s : State) : Out := .next (s.corrected die u)
/-- The flit is dropped and retransmitted, so its parts lose nothing; the link's error is counted and tested (R376). -/
def execFlitTagFailure (die : Nat) (link : LinkLane) (s : State) : Out :=
  .next (s.corrected die (.linkLane (dirNo link.dir) link.lane))

def execSelfTestResult (die : Nat) (u : FaultUnit) (pass dead : Bool) (s : State) : Out :=
  .next (if !(s.die die).tests.contains u || (s.die die).failed then s
    else
      let t := s.modDie die (fun x => { x with tests := x.tests.filter (fun v => v != u) })
      if pass then t.bump die 5 else (t.bump die 6).ladder die u dead)

/-- Parts that wait for a channel go on at the spare. -/
def toSpare (d g q : Nat) (p : Part) : Part :=
  if p.home == .channel d (20 * g + q) then { p with home := .channel d (20 * g + 19) } else p
def execSpareCopyEnd (die g : Nat) (s : State) : Out :=
  .next (match (s.die die).copies.find? (fun c => c.1 == g) with
    | none => s
    | some (_, q) =>
      let t := s.modDie die (fun x => { x with copies := x.copies.filter (fun c => c.1 != g)
                                               chspare := Vector.ofFn (fun i : Fin 8 => if i.val = g then BitVec.ofNat 8 q else x.chspare[i]) })
      { t.bump die 7 with posts := t.posts.map (toSpare die g q), chan := t.chan.map (toSpare die g q)
                          arrived := t.arrived.map (toSpare die g q) })

/-! ## Fault domains (R380) -/

/-- The fault domain of a region has heard of an error that its supervisor has not answered. -/
def State.told (s : State) (rcb : Nat) : Bool := s.reports.any (fun q => q.1 == rcb)
def State.answered (s : State) (rcb : Nat) : State := { s with reports := s.reports.filter (fun q => q.1 != rcb) }
/-- The policy chosen for a fault domain: 1 an end, 2 a rollback. -/
def State.domainPolicy (s : State) (domain : Nat) : Nat := SMap.get s.domains domain 0
/-- The supervisor chooses a fault domain's policy; its first act chooses where nothing has been chosen yet. -/
def State.setFaultPolicy (s : State) (domain n : Nat) : State :=
  if n = 1 ∨ n = 2 then { s with domains := SMap.put s.domains domain n } else s
def State.choose (s : State) (domain n : Nat) : State := if s.domainPolicy domain = 0 then s.setFaultPolicy domain n else s

/-- Grid entries of a region, on tiles that have left the map too. -/
def State.regionGrids (s : State) (rcb : Nat) : List (Nat × GridEntry) :=
  s.tiles.flatMap (fun (t : Nat × Tile) => (t.2.grid.filter (fun e => e.2.id != 0 && e.2.rcb == rcb)).map (fun e => (t.1, e.2)))
/-- A partition goes to the tile that now bears its logical number, from its newest complete copy (R280, R330). -/
def State.restoreAt (s : State) (g : GridEntry) : State :=
  match (g.desc.parts[g.part]?).bind (fun p => s.physTile p.die p.n) with
  | none => s.report g.rcb 0
  | some pt => match s.gridFree pt with
    | none => s.report g.rcb 0
    | some e => s.restorePart pt e g false
/-- The region starts over on the tiles that its set now names: its strands are armed, images placed on tiles new to it,
and every partition restored (log 18). None where a tile has no room for its strands, or its windows would meet those of another
region there (R98). -/
def State.rollBack (s : State) (r : Region) (gs : List (Nat × GridEntry)) : Option State :=
  let t1 := (s.regionKeys r).foldl (fun (t : State) k => (t.dropParty (.strand k) (some k)).setStrand k {}) s
  let t2 := (s.regionEntries r).foldl (fun (t : State) q => (t.dropParty (.cached (q.1 * 32 + q.2)) none).setEntry q.1 q.2 {}) t1
  -- pieces and copies of steps that will be computed again go
  let t3 := { t2 with pieces := t2.pieces.filter (fun p => p.rcb != r.rcb), jobs := t2.jobs.filter (fun j => (t2.gridEntry j.pt j.entry).rcb != r.rcb)
                      tiles := t2.tiles.map (fun (e : Nat × Tile) => (e.1, { e.2 with grid := e.2.grid.filter (fun g => g.2.id == 0 || g.2.rcb != r.rcb) })) }
  let r' := { r with tiles := (t3.tilesOf r.set).filterMap (fun lt => t3.physTile (lt / 144) (lt % 144)), away := [], lost := false }
  let t4 := (t3.modRegion r.rcb (fun q => { q with tiles := r'.tiles, away := [], lost := false }))
  let t5 := (r'.tiles.filter (fun pt => !r.tiles.contains pt)).foldl (fun (t : State) pt => t.placeImage r' pt) t4
  if !t4.windowsOk r' then none else (t5.placeAll r' r'.tiles).map (fun t => gs.foldl (fun (t : State) g => t.restoreAt g.2) t)
/-- The rollback that the supervisor may make of a region that an error was reported of: every grid of it is mirrored. -/
def State.rollback? (s : State) (rcb : Nat) : Option State :=
  let gs := s.regionGrids rcb
  if s.told rcb && regionLive (s.region rcb) && gs.all (fun g => g.2.desc.mirror) then (s.answered rcb).rollBack (s.region rcb) gs
  else none
def execFaultDomainTakedown (rcb : Nat) (s : State) : Out :=
  let d := (s.region rcb).domain
  .next (if s.told rcb && regionLive (s.region rcb) && (s.domainPolicy d != 2 || (s.rollback? rcb).isNone) then
      ((s.answered rcb).choose d 1).endTree 128 rcb 17
    else s)
def execRegionRollback (rcb : Nat) (s : State) : Out :=
  let d := (s.region rcb).domain
  .next (if s.domainPolicy d = 1 then s else ((s.rollback? rcb).map (fun t => t.choose d 2)).getD s)

/-! ## Turn tables and the DCC (R323, R381) -/

/-- Links that follow a link (router, direction): straight on, or by a turn that the next router's table permits. -/
def linksAfter (tts : List Nat) (l : Nat × Nat) : List (Nat × Nat) :=
  match hop (l.1 % 12) (l.1 / 12) l.2 with
  | none => []
  | some (x, y) =>
    let i := 12 * y + x
    (List.range 4).filterMap (fun d =>
      if d = l.2 then some (i, d)
      else match turnBit l.2 d with
        | some b => if bitOf b (tts.getD i 0) then some (i, d) else none
        | none => none)
def allLinks : List (Nat × Nat) :=
  (List.range 144).flatMap (fun i => ((List.range 4).filter (fun d => (hop (i % 12) (i / 12) d).isSome)).map (fun d => (i, d)))
/-- The number of a link, and the set of some links as bits of a number. -/
def linkBit (l : Nat × Nat) : Nat := 4 * l.1 + l.2
def linkSet (ls : List (Nat × Nat)) : Nat := ls.foldl (fun m l => m ||| 2 ^ linkBit l) 0
/-- Links dropped, round by round, that no remaining link follows; a closed path is what never goes. -/
def pruneLinks (tts : List Nat) : Nat → List (Nat × Nat) → List (Nat × Nat)
  | 0, ls => ls
  | n + 1, ls => match ls.filter (fun l => (linksAfter tts l).any (fun k => bitOf (linkBit k) (linkSet ls))) with
    | [] => []
    | r => if r.length = ls.length then r else pruneLinks tts n r
/-- The DCC accepts a die's tables: the turns of dimension order stand, and no closed path exists. -/
def turnsOk (tts : List Nat) : Bool :=
  tts.length == 144 && tts.all (fun t => decide (t < 256) && t % 16 == 15) && (pruneLinks tts 600 allLinks).isEmpty
def execTurnTableChange (die : Nat) (tts : List Nat) (s : State) : Out :=
  .next (if !turnsOk tts then s
    else (s.modDie die (fun x => { x with tt := (numbered tts).map (fun (e : Nat × Nat) => (e.1, BitVec.ofNat 8 e.2)) })).writeMap die)

/-- A restarted DCC keeps die memory, scratchpads and pennants, and no rule says that it loses anything else (R381). -/
def execDccRestart (_die : Nat) (s : State) : Out := .next s

end Sys2Proof.Machine
end

