-- ==== Sys2Proof/Machine/Boot.lean ====
section
/-!
DEFINITION. Reset, boot, trust and the module (R22, R252, R323, R329, R374 to R377, R382). `bootPhase` is the last phase of
R374 that is done, with 7 once regions may run. Phases 3, 4 and 6 are firmware's work, whose results are operands. An event
whose condition does not hold leaves the state as it is.
-/
namespace Sys2Proof.Machine

/-! ## Reset and power (R374, R382) -/

/-- The panel after panel reset, with what no reset clears: flash, the fuses of each die, the coolant and the cables. -/
def State.restart (s : State) : State :=
  { State.reset with flash := s.flash, inlet := s.inlet, portsDown := s.portsDown, outbox := s.outbox, agenda := s.agenda, nextId := s.nextId
                     dies := (s.dies.filter (fun e => e.2.fuse != 0)).map (fun e => (e.1, { fuse := e.2.fuse })) }
def execPanelReset (s : State) : Out := .next s.restart

/-- The next power region, 1 ms after the last. -/
def execPowerRegionEnergise (s : State) : Out :=
  .next (if s.bootPhase ≠ 0 ∨ s.recovery ∨ 55 ≤ s.inlet ∨ (s.energised ≠ 0 ∧ s.refNs < s.energisedAt + 1000000) then s
    else { s with energised := s.energised + 1, energisedAt := s.refNs, bootPhase := if s.energised < 15 then 0 else 1 })

/-- Above 45 °C the thermal throttle acts on every tile; at 55 °C power goes and memory is lost, which is a panel reset here
(log 94). -/
def execInletOvertemp (temp : Nat) (s : State) : Out :=
  let t := { s with inlet := temp }
  .next (if 55 ≤ temp then t.restart else t)

/-! ## Trust (R375 to R377) -/

/-- Both checks of a die's boot ROM, against the version in the die's own fuses. -/
def State.imageOk (s : State) (die : Nat) (i : FwImage) : Bool := i.sigOk && decide ((s.die die).fuse ≤ i.version)
/-- A die's boot ROM checks the image in flash; once every die has passed, the panel goes on and has its attestation key
(R377). A die that fails brings the panel into recovery. -/
def execImageCheck (die : Nat) (s : State) : Out :=
  .next (if s.bootPhase ≠ 1 ∨ s.recovery ∨ Config.dies ≤ die then s
    else if !s.imageOk die s.flash then { s with recovery := true }
    else
      let t := s.modDie die (fun x => { x with digestOk := true })
      if (List.range 128).all (fun d => (t.die d).digestOk) then
        { t with bootPhase := 2, attest := some (Config.attestKey Config.fusedSecret) }
      else t)
/-- The dies of rows 0 and 15, which carry the Ultra Ethernet ports (R16). -/
def isEdge (die : Nat) : Bool := decide (die < 8 ∨ (120 ≤ die ∧ die < 128))
/-- Port 0 of an edge die: ports are numbered 4 x edge die + port, the edge dies in rising order (R16). -/
def portZero (die : Nat) : Nat := 4 * (if die < 8 then die else die - 112)
/-- The path of a recovery image: port 0 of the edge die, or the management port when all 64 ports are down (R375, R382). -/
def State.recoveryPath (s : State) (img : PortImage) : Bool :=
  if img.mgmt then (List.range 64).all s.portsDown.contains else !s.portsDown.contains (portZero img.die)
/-- An edge die takes an image, checks it and writes it to flash. The restart at phase 1 is that of a panel reset: no rule says
whether it is one (log 76). -/
def execRecoveryImage (img : PortImage) (s : State) : Out :=
  .next (if !s.recovery || !isEdge img.die || !s.recoveryPath img || !s.imageOk img.die img.img then s else { s.restart with flash := img.img })

/-- A link end has run its authentication, with its result and the keys of the two directions. -/
def State.setEnd (s : State) (die : Nat) (dir : Dir) (ok : Bool) (out back : Nat) : State :=
  s.modDie die (fun x =>
    let k := dirNo dir
    { x with linkTried := x.linkTried.set k true, linkUp := x.linkUp.set k ok
             linkKey := if ok then x.linkKey.set k out else x.linkKey, baseKey := if ok then x.baseKey.set k back else x.baseKey })
/-- Every link end has run its authentication. -/
def State.allTried (s : State) : Bool :=
  (List.range 128).all (fun d => [Dir.n, .e, .s, .w].all (fun dir => (dieAt d dir).isNone || (s.die d).linkTried.getD (dirNo dir) false))
/-- A pair of link ends authenticates once and derives a key per direction: two dies north and south of each other, or a die
and the base die that relays its link east or west (R15). A link that fails stays down, and the die that the event names
counts as failing phase 5 (log 40). -/
def execLinkAuthentication (die : Nat) (dir : Dir) (ok : Bool) (key : Nat) (s : State) : Out :=
  .next (if s.bootPhase ≠ 4 ∨ Config.dies ≤ die ∨ (s.die die).linkTried.getD (dirNo dir) false = true then s
    else match dieAt die dir with
      | none => s
      | some b =>
        let out := key % 2 ^ 256
        let back := key / 2 ^ 256
        let t := match dir with
          | .n => (s.setEnd die dir ok out 0).setEnd b .s ok back 0
          | .s => (s.setEnd die dir ok out 0).setEnd b .n ok back 0
          | _ => s.setEnd die dir ok out back
        let u := if ok then t else t.modDie die (fun x => { x with failed := true })
        if u.allTried then { u with bootPhase := 5 } else u)

/-- The digests of a report: of the boot ROM, the image, the maps, and the public halves of the link keys. -/
def State.measurements (s : State) : List Nat :=
  [Config.shake256 [Config.bootRom], Config.shake256 [s.flash.digest, s.flash.version],
   Config.shake256 ((List.range 128).flatMap (fun l => [(s.dmapOf l).1, (s.dmapOf l).2]) ++ (List.range 128).map s.active),
   Config.shake256 ((List.range 128).flatMap (fun d => ((s.die d).linkKey ++ (s.die d).baseKey).map Config.publicHalf))]
/-- An edge die reports, signed with the attestation key; the report leaves by a port. -/
def execGetMeasurements (die : Nat) (s : State) : Out :=
  .next (match s.attest with
    | some k => if isEdge die then s.give (some die) ([4, die] ++ s.measurements ++ [Config.sign k s.measurements]) else s
    | none => s)

/-! ## Firmware's phases (R374) -/

/-- Phase 3: the self-test builds PTS and CHSPARE, the blocks of R329 and GRADE. A die with fewer than 136 active tiles fails,
as do those that the test finds bad; an FP is one of R252; grade A has every tile of every die active (R18). -/
def State.selfTestPhase (s : State) (bad : List Nat) (grade : Nat) (pts fp : List (Nat × Nat × Nat)) : State :=
  if s.bootPhase ≠ 2 ∨ fp.any (fun e => decide (19 < e.2.2 ∧ e.2.2 ≠ 31)) = true then s
  else
    let s1 := pts.foldl (fun (t : State) e => t.modDie e.1 (fun x => { x with pts := SMap.put x.pts e.2.1 (e.2.2 % 3) })) s
    let s2 := fp.foldl (fun (t : State) e => t.modDie e.1 (fun x =>
      { x with chspare := Vector.ofFn (fun i : Fin 8 => if i.val = e.2.1 then BitVec.ofNat 8 e.2.2 else x.chspare[i]) })) s1
    let s3 := ((List.range 128).filter (fun d => bad.contains d || decide (s2.active d < 136))).foldl
      (fun (t : State) d => t.modDie d (fun x => { x with failed := true })) s2
    { s3.writeMaps with gradeB := grade == 1 || !(List.range 128).all (fun d => s3.active d == 144), bootPhase := 3 }
/-- Phase 4: every oscillator is trimmed to d at or below 200. -/
def State.trimPhase (s : State) (d : List (Nat × Nat)) : State :=
  if s.bootPhase ≠ 3 ∨ d.any (fun e => decide (200 < e.2)) = true then s
  else { d.foldl (fun (t : State) e => t.modTile e.1 (fun x => { x with drift := BitVec.ofNat 10 e.2 })) s with bootPhase := 4 }
/-- Die positions as firmware sets them: active or spare, each on a physical die of its own. -/
def State.dmapOk (s : State) : Bool :=
  let used := (List.range 128).map (fun l => (s.dmapOf l).1)
  (List.range 128).all (fun l => decide ((s.dmapOf l).2 < 2 ∧ (s.dmapOf l).1 < 128)) && decide (used.eraseDups.length = used.length)
/-- A failed die is marked vacant and its position grafted, as R331 does, onto the die of a spare position (R374). -/
def State.graftFailed (s : State) (l : Nat) : State :=
  let f := (s.dmapOf l).1
  if !(s.die f).failed then s
  else match if (s.dmapOf l).2 = 0 then findFrom (fun k => (s.dmapOf k).2 == 1 && !(s.die (s.dmapOf k).1).failed) 0 128 else none with
    | some l' => { s with dmap := SMap.put (SMap.put s.dmap l ((s.dmapOf l').1, 0)) l' (f, 2) }
    | none => { s with dmap := SMap.put s.dmap l (f, 2) }
/-- Phase 6: chip number, DMAP, spare positions, CSL and TMO within their ranges, and the fuses of every die raised to the
image's version; with fewer than 126 dies the panel is held here. -/
def State.configurePhase (s : State) (chip : Nat) (dmap : List (Nat × Nat × Nat)) (csl : List (Nat × Nat)) (tmo threshold : Nat) :
    State :=
  let t := { s with dmap := dmap.foldl (fun m (e : Nat × (Nat × Nat)) => SMap.put m e.1 e.2) s.dmap }
  if s.bootPhase ≠ 5 ∨ !t.dmapOk ∨ csl.any (fun e => decide (e.2 = 0 ∨ 1023 < e.2)) = true ∨ tmo < 10000 ∨ 1000000000 < tmo ∨ 95 < threshold then s
  else
    let u := csl.foldl (fun (t : State) e => t.modRow e.1 (fun r => { r with csl := e.2 }))
      { t with chip := BitVec.ofNat 22 chip, tmo := tmo, threshold := threshold }
    let v := (List.range 128).foldl (fun (t : State) d => t.modDie d (fun x => { x with fuse := max x.fuse s.flash.version })) u
    let passed := ((List.range 128).filter (fun d => !(v.die d).failed)).length
    { ((List.range 128).foldl State.graftFailed v).writeMaps with bootPhase := if passed < 126 then 6 else 7 }
/-- Firmware sets the thermal threshold, at or below 95 °C, and what the DCC does of a lasting fault (R378). -/
def State.setThreshold (s : State) (n : Nat) : State := if 95 < n then s else { s with threshold := n }
def State.setPolicy (s : State) (n : Nat) : State := if 4 < n then s else { s with policy := n }
/-- One of the 64 Ultra Ethernet ports goes down or comes up (R16, R382). -/
def State.setPort (s : State) (n : Nat) (down : Bool) : State :=
  let rest := s.portsDown.filter (fun k => k != n)
  { s with portsDown := if down && decide (n < 64) then rest ++ [n] else rest }

end Sys2Proof.Machine
end

