-- ==== Sys2Proof/Machine/Atomics.lean ====
section
/-!
DEFINITION. Atomics (R84, R259): the issue of each. The update at the home is in Parts.lean.
-/
namespace Sys2Proof.Machine

/-- An atomic of a major and type: its operand and expected value read at issue (R259). -/
def State.atomicOp (s : State) (major : Nat) (d b v : BitVec 5) (ty : BitVec 2) (o : BitVec 2) (g : BitVec 5) : State :=
  let p := s.rs b
  let off := effOff p 0 0
  let n := if ty.toNat < 2 then 4 else 8
  let ex := extend false (8 * n) (s.rs d).toNat
  let va := extend false (8 * n) (s.rs v).toNat
  s.access { p := p, o := off, pieces := [(off, n)], right := .atomic, crossOk := o == 0, condOk := off % (n : Int) == 0 }
    (fun l => match l with
      | .cross c => s.issueCross c (s.crossCp p) 2 n false clsRW
          (s.crossArgs p off [major, ty.toNat, va.toNat, ex.toNat])
      | l =>
        if s.full .ldc then s.block
        else
          -- one part, at the home of the first byte (R248, log 89)
          let parts := onePart (lines s.pt l [(off, n)]) (fun gs => Act.atomic gs major ty.toNat va ex)
          ((s.issueOp { oid := 0, party := .strand 0, rcb := 0, cls := some .ldc, fin := .word d,
                        addr := addrXval p off } clsRW (s.ord o g) 0 (landRoot l) true parts).touch s.key).done)

def execAadd (d b v : BitVec 5) (y o : BitVec 2) (g : BitVec 5) (s : State) : Out := .next (s.atomicOp 0x28 d b v y o g)
def execAmin (d b v : BitVec 5) (y o : BitVec 2) (g : BitVec 5) (s : State) : Out := .next (s.atomicOp 0x29 d b v y o g)
def execAmax (d b v : BitVec 5) (y o : BitVec 2) (g : BitVec 5) (s : State) : Out := .next (s.atomicOp 0x2A d b v y o g)
def execAfmax (d b v : BitVec 5) (y o : BitVec 2) (g : BitVec 5) (s : State) : Out := .next (s.atomicOp 0x2B d b v y o g)
def execAand (d b v : BitVec 5) (y o : BitVec 2) (g : BitVec 5) (s : State) : Out := .next (s.atomicOp 0x2C d b v y o g)
def execAor (d b v : BitVec 5) (y o : BitVec 2) (g : BitVec 5) (s : State) : Out := .next (s.atomicOp 0x2D d b v y o g)
def execAxor (d b v : BitVec 5) (y o : BitVec 2) (g : BitVec 5) (s : State) : Out := .next (s.atomicOp 0x2E d b v y o g)
def execAswp (d b v : BitVec 5) (y o : BitVec 2) (g : BitVec 5) (s : State) : Out := .next (s.atomicOp 0x2F d b v y o g)
def execAcas (d b v : BitVec 5) (y o : BitVec 2) (g : BitVec 5) (s : State) : Out := .next (s.atomicOp 0x30 d b v y o g)

end Sys2Proof.Machine
end

