-- ==== Sys2Proof/Machine/FScalar.lean ====
section
/-!
DEFINITION. The scalar float instructions (R134 to R138).
-/
namespace Sys2Proof.Machine

/-- A float result, zero-extended (R119), with its flags. -/
def State.fresult (s : State) (d : BitVec 5) (r : Nat × Flags) : Out := .next ((s.setS d (word r.1)).raise r.2).done

def execFadd (d a b : BitVec 5) (f : BitVec 2) (r : BitVec 3) (s : State) : Out :=
  s.fresult d ((laneFmt f).addPat (s.mode r) false (s.rs a).toNat (s.rs b).toNat)
def execFsub (d a b : BitVec 5) (f : BitVec 2) (r : BitVec 3) (s : State) : Out :=
  s.fresult d ((laneFmt f).addPat (s.mode r) true (s.rs a).toNat (s.rs b).toNat)
def execFmul (d a b : BitVec 5) (f : BitVec 2) (r : BitVec 3) (s : State) : Out :=
  s.fresult d ((laneFmt f).mulPat (s.mode r) (s.rs a).toNat (s.rs b).toNat)
def execFma (d a b : BitVec 5) (f : BitVec 2) (r : BitVec 3) (s : State) : Out :=
  s.fresult d ((laneFmt f).fmaPat (s.mode r) false false (s.rs a).toNat (s.rs b).toNat (s.rs d).toNat)
def execFdiv (d a b : BitVec 5) (f : BitVec 2) (r : BitVec 3) (s : State) : Out :=
  s.fresult d ((laneFmt f).divPat (s.mode r) (s.rs a).toNat (s.rs b).toNat)
def execFsqrt (d a : BitVec 5) (f : BitVec 2) (r : BitVec 3) (s : State) : Out :=
  s.fresult d ((laneFmt f).sqrtPat (s.mode r) (s.rs a).toNat)
def execFmin (d a b : BitVec 5) (f : BitVec 2) (s : State) : Out :=
  s.fresult d ((laneFmt f).minMaxPat false (s.rs a).toNat (s.rs b).toNat)
def execFmax (d a b : BitVec 5) (f : BitVec 2) (s : State) : Out :=
  s.fresult d ((laneFmt f).minMaxPat true (s.rs a).toNat (s.rs b).toNat)
def execFclass (d a : BitVec 5) (f : BitVec 2) (s : State) : Out :=
  s.result d (word ((laneFmt f).classPat (s.rs a).toNat))
def execFcmp (d a b : BitVec 5) (f : BitVec 2) (c : BitVec 3) (s : State) : Out :=
  let r := (laneFmt f).cmpPat c.toNat (s.rs a).toNat (s.rs b).toNat
  s.fresult d (r.1.toNat, r.2)

/-- The scalar types of R77: 0 to 3 floats of falling width, 4 signed 64, 5 unsigned 64, 6 signed 32, 7 unsigned 32. -/
def scalarBits (t : Nat) : Nat := if t < 6 then 64 else 32
def scalarSigned (t : Nat) : Bool := t == 4 || t == 6
/-- A conversion of R138: destination and source types; a wider float ignores sat. -/
def convertScalar (t u mode : Nat) (sat : Bool) (x : Nat) : Word × Flags :=
  if t < 4 ∧ u < 4 then
    let r := (ffmt t).convert (ffmt u) mode (sat && !decide (t < u ∧ ¬(t = 2 ∧ u = 3))) x
    (word r.1, r.2)
  else if t < 4 then
    let n := scalarBits u
    let v : Int := if scalarSigned u then toSigned n x else (x % 2 ^ n : Nat)
    let r := (ffmt t).ofInteger mode sat v
    (word r.1, r.2)
  else
    let n := scalarBits t
    let r := (ffmt u).toInt n (scalarSigned t) mode sat x
    (extend (scalarSigned t) n r.1, r.2)
def execFcvt (d a : BitVec 5) (t u r : BitVec 3) (x : BitVec 1) (s : State) : Out :=
  let v := convertScalar t.toNat u.toNat (s.mode r) (x == 1) (s.rs a).toNat
  .next ((s.setS d v.1).raise v.2).done

end Sys2Proof.Machine
end

