-- ==== Sys2Proof/Machine/Matrix.lean ====
section
/-!
DEFINITION. The matrix instructions (R164 to R175): their checks at issue, and the tile operation that each leaves.
-/
namespace Sys2Proof.Machine

/-- MODE (R164): the hazards in their order. -/
def execModeM (f : BitVec 4) (v : BitVec 7) (s : State) : Out :=
  let n := blockSize f.toNat
  .next (
    if s.me.toc ≠ 0 then s.trap causeMode 1
    else if v.toNat % n ≠ 0 then s.trap causeMode 2
    else if s.me.vlim.toNat < v.toNat + n then s.trap causeMode 3
    else (s.setMe { s.me with modew := modeWord 0 f.toNat v.toNat }).done)
def execModeV (s : State) : Out :=
  .next (if s.me.toc ≠ 0 then s.trap causeMode 1 else (s.setMe { s.me with modew := 0 }).done)

/-- A tile operation enters the strand's queue and TOC (R167). -/
def State.issueTile (s : State) (kind : TileKind) (rm : Nat) : State :=
  let x := s.src
  let o : TileOp := { toid := s.nextId, key := s.key, kind := kind, k6 := x.mask 6, k7 := x.mask 7, rm := BitVec.ofNat 3 rm
                      since := s.cycle s.pt, gates := s.gatesEngine s.me.gates (engineHome s.pt) }
  (State.fresh { s with tileOps := s.tileOps ++ [o] }).addCount s.key .toc

/-- A grid operation in matrix mode, when TOC has room. -/
def State.gridOp (s : State) (f : State → State) : State :=
  if !modeM s.me.modew then s.trap causeMode 4 else if s.full .toc then s.block else (f s).done

/-- KC plus k, saturating (R169). -/
def addKc (kc k : Nat) : Nat := min (kc + k) 0xFFFFFFFF

/-- MOP and MOPN (R168, R169). -/
def State.outer (s : State) (neg : Bool) (a b : BitVec 7) (c d : BitVec 3) (f : BitVec 4) : State :=
  let w := s.me.modew
  let mf := modeMf w
  if !modeM w then s.trap causeMode 4
  else if gridClass f.toNat ≠ gridClass mf then s.trap causeMode 5
  else if s.me.inBlock a.toNat || s.me.inBlock b.toNat then s.trap causeMode 6
  else if s.full .toc then s.block
  else
    let kc := modeKc w
    let kind := TileKind.mop neg f (s.vs a) (s.vs b) (s.src.scale c) (s.src.scale d) (BitVec.ofNat 32 kc)
    let t := s.issueTile kind (s.mode 7)
    (t.setMe { t.me with modew := modeWord (addKc kc (mopK f.toNat)) mf (modeVb w) }).done
def execMop (a b : BitVec 7) (c d : BitVec 3) (f : BitVec 4) (s : State) : Out := .next (s.outer false a b c d f)
def execMopn (a b : BitVec 7) (c d : BitVec 3) (f : BitVec 4) (s : State) : Out := .next (s.outer true a b c d f)

def execMzero (s : State) : Out :=
  .next (s.gridOp (fun s =>
    let t := s.issueTile .zero 0
    let w := t.me.modew
    t.setMe { t.me with modew := modeWord 0 (modeMf w) (modeVb w) }))
def execMtrn (s : State) : Out := .next (s.gridOp (fun s => s.issueTile .trn 0))
def execMscale (a : BitVec 5) (r : BitVec 3) (s : State) : Out :=
  .next (s.gridOp (fun s => s.issueTile (.scale (s.rs a)) (s.mode r)))

def execMqry (d : BitVec 5) (s : State) : Out :=
  let w := s.me.modew
  let e := if modeM w then edge (modeMf w) else 0
  s.result d (word (modeKc w * 2 ^ 32 + s.me.toc * 2 ^ 26 + e * 2 ^ 20 + w.toNat % 2 ^ 17))

/-! ## MDRAIN (R173, R174) -/

/-- The checks of an access whose other panel is judged last: none where it names one. -/
def State.checkLate (s : State) (a : Access) : Except (BitVec 6 × Word) (Option Land) :=
  if s.segCross a.p then
    let d := s.src.seg (ptrSeg a.p)
    let x := addrXval a.p a.o
    if !hasRight d a.right then .error (causeRights, x)
    else if a.pieces.any (fun q => decide (0 < q.2 ∧ (q.1 < 0 ∨ dLimit d < q.1 + q.2))) then .error (causeLimit, x)
    else if !a.condOk then .error (causeRights, x)
    else .ok none
  else match s.check a with
    | .error e => .error e
    | .ok l => .ok (some l)

/-- The AFMAX of a drain with a merge (R174): its type and width in bytes. -/
def mergeTy (mf : Nat) : Nat := if gridClass mf = 0 then 2 else 0
def mergeAccess (mf : Nat) (p : Word) : Access :=
  let o : Int := (ptrOff p : Nat)
  let n := cellBits mf / 8
  { p := p, o := o, pieces := [(o, n)], right := .atomic, condOk := o % (n : Int) == 0 }
/-- The merge as one part of an operation. -/
def State.mergeParts (s : State) (mf : Nat) (p : Word) (l : Land) : List (Home × Act) :=
  let o : Int := (ptrOff p : Nat)
  onePart (lines s.pt l [(o, cellBits mf / 8)]) (fun gs => Act.amax gs (mergeTy mf))

/-- The drain as an operation in TOC with its parts, each behind the application of the tile operation. -/
def State.issueDrain (s : State) (df : BitVec 4) (reg : Option (BitVec 7)) (root : Nat) (stores merge : List (Home × Act)) :
    State :=
  let toid := s.nextId
  let oid := toid + 1
  let x := s.me
  let kind := match reg with | some v => TileKind.drainReg df v (if merge.isEmpty then none else some oid) | none => .drainMem df oid
  let t := s.issueTile kind (s.mode 7)
  let gates (c : Nat) : List Gate := gatesFor x.gates c
  match reg with
  | some _ =>
    let op : Op := { oid := oid, party := .strand s.key, rcb := x.rcbp.toNat, cls := some .toc, fin := .drain,
                     later := merge, gates := gates clsW, addr := word root }
    if merge.isEmpty then State.fresh t else (State.fresh { t with ops := t.ops ++ [op] }).touch s.key
  | none =>
    let op : Op := { oid := oid, party := .strand s.key, rcb := x.rcbp.toNat, cls := some .toc, fin := .drain }
    let t1 := State.fresh { t with ops := t.ops ++ [op] }
    let own : Gate := { needs := [.tile toid], scope := .system, own := false }
    let proto : Part := { pid := 0, oid := oid, party := .strand s.key, src := s.pt, home := .absent, lane := 0, gates := [],
                          cls := clsW, act := .read [], root := root, write := true }
    let t2 := t1.postAll { proto with gates := own :: gates clsW } stores
    (t2.postAll { proto with gates := own :: gates clsW } merge).touch s.key

/-- The merge pointer is checked where the word has one, then other panels, then the rest runs. -/
def State.drainMerge (s : State) (m : BitVec 5) (g : BitVec 1) (p : Word) (dest : Option Land)
    (f : Option Land → State) : State :=
  let mf := modeMf s.me.modew
  let crossed := fun (q : Word) => s.trap causeRights (addrXval q (ptrOff q : Nat))
  if g = 0 then (match dest with | none => crossed p | some _ => f none)
  else match s.checkLate (mergeAccess mf (s.rs m)) with
    | .error (c, x) => s.trap c x
    | .ok l => match dest, l with
      | none, _ => crossed p
      | some _, none => crossed (s.rs m)
      | some _, some l => f (some l)

/-- MDRAIN to memory at s d. -/
def execMdrain (d m : BitVec 5) (g : BitVec 1) (f : BitVec 4) (s : State) : Out :=
  let mf := modeMf s.me.modew
  let p := s.rs d
  let o : Int := (ptrOff p : Nat)
  let n := drainBytes mf f.toNat
  .next (
    if !modeM s.me.modew then s.trap causeMode 4
    else match s.checkLate { p := p, o := o, pieces := [(o, n)], right := .write } with
      | .error (c, x) => s.trap c x
      | .ok dest => s.drainMerge m g p dest (fun l =>
        if s.full .toc then s.block
        else
          let to' := dest.getD .absent
          let stores := (lines s.pt to' [(o, n)]).map (fun x => (x.1, Act.writeBuf x.2))
          let merge := match l with | some l => s.mergeParts mf (s.rs m) l | none => []
          let root := landRoot to' + (if landRoot to' = 0 then (match l with | some l => landRoot l | none => 0) else 0)
          (s.issueDrain f none root stores merge).done))

/-- MDRAIN to the registers from v up. -/
def execMdrainReg (m : BitVec 5) (g : BitVec 1) (f : BitVec 4) (v : BitVec 7) (s : State) : Out :=
  let mf := modeMf s.me.modew
  let n := drainRegs mf f.toNat
  let vb := modeVb s.me.modew
  .next (
    if !modeM s.me.modew then s.trap causeMode 4
    else if s.me.vlim.toNat < v.toNat + n ∨ rangesMeet v.toNat n vb (blockSize mf) then s.trap causeMode 7
    else s.drainMerge m g 0 (some .absent) (fun l =>
      if s.full .toc then s.block
      else
        let merge := match l with | some l => s.mergeParts mf (s.rs m) l | none => []
        let root := match l with | some l => landRoot l | none => 0
        (s.issueDrain f (some v) root [] merge).done))

end Sys2Proof.Machine
end

