-- ==== Sys2Proof/Machine/Messages.lean ====
section
/-!
DEFINITION. SEND (R354), SPAWN, TAKE and TDONE (R358 to R360) at issue.
-/
namespace Sys2Proof.Machine

/-! ## The path of a message -/

/-- How a SEND goes: tile hops, die hops and the code of R355. -/
structure Sending where
  hops : Nat
  dieHops : Nat
  code : Nat
  deriving DecidableEq, Repr

/-- The default path from a tile to tile n of logical die l (R350, R351, R354, R355). -/
def State.sendDefault (s : State) (l n : Nat) : Sending :=
  match s.physDie l with
  | none =>
    -- a vacant position: refused at the bridge of the physical die that DMAP names
    let d := (s.dmapOf l).1
    if 128 ≤ l ∨ d = s.pt / 144 then { hops := 0, dieHops := 0, code := 3 }
    else
      let t := attach (exitPort (s.pt / 144) d)
      let p := pathXY (s.pt % 144 % 12) (s.pt % 144 / 12) t.1 t.2
      match s.deadOn (s.pt / 144) p with
      | some i => { hops := i + 1, dieHops := 0, code := 2 }
      | none => { hops := p.length, dieHops := dieHops (s.pt / 144) d, code := 3 }
  | some d =>
    let own := d == s.pt / 144
    match s.physTile l n with
    | none =>
      if own then { hops := 0, dieHops := 0, code := 3 }
      else
        let t := attach (exitPort (s.pt / 144) d)
        let p := pathXY (s.pt % 144 % 12) (s.pt % 144 / 12) t.1 t.2
        match s.deadOn (s.pt / 144) p with
        | some i => { hops := i + 1, dieHops := 0, code := 2 }
        | none => { hops := p.length, dieHops := dieHops (s.pt / 144) d, code := 3 }
    | some q =>
      let p := stage1 s.pt q
      let dh := dieHops (s.pt / 144) (q / 144)
      match s.deadOn (s.pt / 144) p with
      | some i => { hops := i + 1, dieHops := 0, code := 2 }
      | none =>
        let p3 := stage3 s.pt q
        match s.deadOn (q / 144) (stage3Entry s.pt q ++ p3) with
        | some i => { hops := p.length + i, dieHops := dh, code := 2 }
        | none => { hops := p.length + p3.length, dieHops := dh, code := 0 }

/-- A SEND on route r of the issuing router to a place, where there is one (R354). -/
def State.sendRoute (s : State) (r : Nat) (q : Option Nat) : Sending :=
  let e := SMap.get (s.tile s.pt).routes r {}
  let w := e.word.toNat
  match q with
  | none => { hops := 0, dieHops := 0, code := 1 }
  | some q =>
    if !e.v ∨ e.owner ≠ s.me.rcbp.toNat ∨ q / 144 ≠ s.pt / 144 ∨ q = s.pt ∨
        12 * bitsOf 52 4 w + bitsOf 56 4 w ≠ q % 144 then { hops := 0, dieHops := 0, code := 1 }
    else
      let p := routePath s.pt w
      match s.deadOn (s.pt / 144) p with
      | some i => { hops := i + 1, dieHops := 0, code := 2 }
      | none => { hops := p.length, dieHops := 0, code := 0 }

def execSend (a : BitVec 5) (v : BitVec 7) (r : BitVec 1) (o : BitVec 4) (c : BitVec 6) (e : BitVec 1) (s : State) : Out :=
  let p := s.rs a
  let off : Int := (ptrOff p : Nat)
  let d := s.src.seg (ptrSeg p)
  let bs := toBytes 64 (s.vs v).toNat
  .next (s.access { p := p, o := off, pieces := [(off, 64)], right := .write, flatOk := false, condOk := off % 64 == 0 } (fun _ =>
    if s.full .cpc then s.block
    else
      let l := dHomeDie d
      let q : Option Nat := if dKind d = kindTile then s.physTile l (dHomeTile d) else some s.pt
      let how : Sending := if r = 1 then s.sendRoute o.toNat q
        else if q = some s.pt then { hops := 0, dieHops := 0, code := 0 } else s.sendDefault l (dHomeTile d)
      let base := dBase d
      let dest : Land := match q with | some q => .scratch q base | none => .absent
      -- one part at the home of the first byte
      let ls := lines s.pt dest [(off, 64)]
      let parts := if how.code = 0 then onePart ls (fun gs => Act.write (cellsOf bs gs)) else []
      let home : Home := match q with | some q => (if q = s.pt then .grid s.pt else .agent q) | none => .absent
      let op : Op := { oid := 0, party := .strand 0, rcb := 0, cls := some .cpc, fin := .send how.hops how.dieHops how.code,
                       engine := some home, pub := if e = 1 then some c.toNat else none
                       gates := if e = 1 then s.relGate (.strand s.key) true (s.scope s.key 3) else [] }
      ((s.issueOp op clsE relaxed (if r = 1 then 2 else 0) 0 true parts).touch s.key).done))

/-! ## Tasks -/

/-- The checks that SPAWN and TAKE make of the record's place (R358, R359). -/
def recordAccess (p : Word) (right : Right) : Access :=
  let o : Int := (ptrOff p : Nat)
  { p := p, o := o, pieces := [(o, 32)], right := right, flatOk := false, condOk := o % 32 == 0 }

/-- The record that an append carries before its bytes are read. -/
def blankRecord (rcb : Nat) : Record := { entry := 0, arg := 0, region := rcb, ctl := 0, token := 0, seq := 0, stolen := false }

def execSpawn (d a : BitVec 5) (s : State) : Out :=
  let p := s.rs a
  let o : Int := (ptrOff p : Nat)
  .next (s.access (recordAccess p .read) (fun l =>
    if s.full .cpc then s.block
    else
      let op : Op := { oid := 0, party := .strand 0, rcb := 0, cls := some .cpc, fin := .word d, buf := zeros 32,
                       engine := some .virt, later := [(.absent, .spawn (blankRecord s.me.rcbp.toNat))]
                       gates := s.relGate (.strand s.key) true (s.scope s.key 3) ++ gatesFor s.me.gates clsE }
      let t := (s.issueOp op clsE { rel := true, scope := s.scope s.key 3 } 0 0 false
        ((lines s.pt l [(o, 32)]).map (fun x => (x.1, Act.read x.2)))).touch s.key
      -- a record on no tile, or behind a dead router, reads as 0 at once (R247, R350)
      (if (lines s.pt l [(o, 32)]).isEmpty then t.follow s.nextId else t).done))

def execTake (d a : BitVec 5) (s : State) : Out :=
  let p := s.rs a
  let o : Int := (ptrOff p : Nat)
  let rcb := s.me.rcbp.toNat
  .next (s.access (recordAccess p .write) (fun l =>
    if s.full .cpc then s.block
    else
      let die := s.pt / 144
      let op : Op := { oid := 0, party := .strand 0, rcb := 0, cls := some .cpc, fin := .take d, buf := zeros 32,
                       engine := some (.sched die), later := (lines s.pt l [(o, 32)]).map (fun x => (x.1, Act.writeBuf x.2)) }
      let scope := s.scope s.key 3
      let t := s.issueOp op clsE relaxed 0 0 true [(.sched die, .take rcb)]
      -- the return of the record is an acquire at region scope
      (t.modStrand s.key (fun y => { y with gates := y.gates ++
        [{ gate := { needs := [.op s.nextId], scope := scope, own := true, far := true }, r := true, w := true, e := true,
           x := scope.isSystem }] })).done))

def execTdone (a : BitVec 5) (s : State) : Out :=
  let tok : BitVec 32 := (s.rs a).setWidth 32
  .next (
    if s.full .cpc then s.block
    else
      let parts := match s.physDie (bitsOf 24 7 tok.toNat) with
        | some d => if s.exitRefused s.pt d then [] else [(Home.sched d, Act.tdone s.me.rcbp.toNat tok)]
        | none => []
      let op : Op := { oid := 0, party := .strand 0, rcb := 0, cls := some .cpc, fin := .none,
                       engine := parts.head?.map Prod.fst }
      ((s.issueOp op clsE { rel := true, scope := s.scope s.key 3 } 0 0 false parts).touch s.key).done)

end Sys2Proof.Machine
end

