-- ==== Sys2Proof/Machine/Panels.lean ====
section
/-!
DEFINITION. Other panels, hosts and pacing (R190, R253, R291, R308, R336, R346, R353, R361, R364, R365): replies, timeouts,
operations that arrive from outside, and grants of the pacing. A list of the outbox that begins with 3 is an answer. An event
whose condition does not hold leaves the state as it is.
-/
namespace Sys2Proof.Machine

/-! ## Replies (R190, R253, R365) -/

def refusal : Word := BitVec.allOnes 64
/-- The completion value and stamp of a reply (R190, R253, R308). -/
def replyValue (q : Request) (refused : Bool) (value : Word) (count : BitVec 32) : Word × BitVec 32 :=
  if refused then (refusal, q.stamp)
  else match q.kind with
    | 0 => (extend q.sx (8 * q.n) value.toNat, q.stamp)
    | 1 => (0, q.stamp)
    | 2 => (extend false (8 * q.n) value.toNat, q.stamp)
    | 3 => (word q.n, q.stamp)
    | 4 => (count.setWidth 64, q.stamp)
    | 7 => (value, q.stamp)
    | 9 => (elemWord q.n q.sx value.toNat, q.stamp)
    | _ => (value, count)

/-- A late reply is counted (R230). -/
def State.late (s : State) (pt : Nat) : State :=
  let c := s.cycle pt
  s.modTile pt (fun t => { t with latedrop := bump32 t.latedrop, lateAt := c, lateNow := (if t.lateAt = c then t.lateNow else 0) + 1 })
def State.setTag (s : State) (pt tag : Nat) (t : Tag) : State := s.modTile pt (fun y => { y with tags := SMap.put y.tags tag t })
def State.dropOp (s : State) (o : Option Nat) : State :=
  match o with | some q => { s with ops := s.ops.filter (fun x => x.oid != q) } | none => s
/-- A completion word for another panel's operation goes to the deposit port. -/
def State.depositReply (s : State) (pt cp : Nat) (v : Word × BitVec 32) : State :=
  { s with deposits := s.deposits ++ [{ pt := pt, idx := cp, act := .set v.1 v.2, pid := none, oid := none }] }

def execCrossPanelReply (pt tag gen : Nat) (refused : Bool) (value : Word) (count : BitVec 32) (bytes : List Byte) (s : State) : Out :=
  let t := SMap.get (s.tile pt).tags tag {}
  .next (if !s.insideOpen (pt / 144) then s else match t.req with
    | none => s.late pt
    | some q =>
      if t.gen.toNat ≠ gen then s.late pt
      else
        let u := s.setTag pt tag { t with req := none }
        match q.oid.bind u.op? with
        | some o =>
          if refused then (u.dropOp q.oid).depositReply pt q.cp (refusal, q.stamp)
          else
            -- the bytes of a copy from the other panel are written here before the deposit (R253)
            let proto : Part := { pid := 0, oid := o.oid, party := .copy pt, src := pt, home := .absent, lane := 0, gates := o.gates,
                                  cls := clsE, act := .read [], root := o.addr.toNat, write := true }
            (u.modOp o.oid (fun o => { o with buf := bytes.take q.n ++ zeros (q.n - bytes.length), later := [], awaits := false })).postAll proto o.later
        | none => u.depositReply pt q.cp (replyValue q refused value count))

def execRequestTimeout (pt tag : Nat) (s : State) : Out :=
  let t := SMap.get (s.tile pt).tags tag {}
  .next (match t.req with
    | none => s
    | some q =>
      if s.refNs < q.issued + s.tmo then s
      else ((s.setTag pt tag { gen := t.gen + 1, req := none }).dropOp q.oid).raiseTimeout pt q.slot q.cp)

/-! ## Arrivals (R346, R364) -/

/-- An answer of a die to the outside: value, count, bytes. -/
def State.answer (s : State) (d : Option Nat) (v : Word) (count : Nat) (bs : List Byte) : State :=
  s.give d ([3, v.toNat, count] ++ bs.map BitVec.toNat)
def State.refuse (s : State) (d : Option Nat) : State := s.answer d refusal 0 []
/-- The physical die that answers for a target: its own, or that of the page-table root (log 92). -/
def State.targetDie (s : State) (t : RemoteTarget) : Option Nat :=
  match t with
  | .scratch d _ _ => s.physDie d
  | .dieMem d _ => s.physDie d
  | .pennant d _ _ => s.physDie d
  | .virt root _ => s.physDie (bitsOf 36 7 root)

/-- The physical dies that n bytes of a target lie on; behind virtual addresses, the tables of their walks and the frames. -/
def State.targetDies (s : State) (t : RemoteTarget) (n : Nat) : List Nat :=
  match t with
  | .scratch d _ _ => (s.physDie d).toList
  | .dieMem d _ => (s.physDie d).toList
  | .pennant d _ _ => (s.physDie d).toList
  | .virt root va => (List.range ((va % 2 ^ 16 + n + 2 ^ 16 - 1) / 2 ^ 16)).flatMap (fun i =>
      let a := (va / 2 ^ 16 + i) * 2 ^ 16
      s.tablesFrom a 3 1 (bitsOf 36 7 root) (root % 2 ^ 36 / 8192 * 8192) ++ ((s.walk root a false).map Leaf.die).toList)
/-- Links and ports let a message from outside reach its target's dies (R16, R376, log 92). -/
def State.targetOpen (s : State) (t : RemoteTarget) (n : Nat) : Bool := !s.gateways.isEmpty && (s.targetDies t n).all s.insideOpen
/-- The bytes of memory that an operation touches. -/
def remoteSize (op : RemoteOp) : Nat :=
  match op with
  | .load n _ => n | .copyOut n => n | .store bs => bs.length | .copyIn bs => bs.length | .atomic _ ty _ _ => atomicBytes ty
  | _ => 1

/-- Bytes of die memory that nobody outside the DCC writes (R239, R329). -/
def guarded (off n : Nat) : Bool := decide (2 ^ 36 < off + n) || rangesMeet off n Config.statusBlockOff 4096 || rangesMeet off n Config.mapBlockOff 4096

/-- The parts of n bytes of a target: `miss` where the target does not exist (R247), `refused` where it may not be touched. -/
inductive Spot where
  | here (parts : List (Home × List Seg))
  | miss
  | refused
  deriving DecidableEq, Repr

/-- Runs of virtual addresses, none across a page, under the root that firmware binds to the requester: each is walked and
its leaf's A set (R290, R291); none where a walk faults. Only a merge or a store changes D (log 16). -/
def State.walkRuns (s : State) (root : Nat) (write : Bool) : List (Nat × List Seg) → Option (State × List (Home × List Seg))
  | [] => some (s, [])
  | (_, gs) :: r => match s.walk root ((gs.head?.map Seg.key).getD 0) write with
    | none => none
    | some e => match (s.orLeaf e.ldie e.off 2).walkRuns root write r with
      | none => none
      | some (t, l) =>
        let k := leafKey e ((gs.head?.map Seg.key).getD 0)
        some (t, (.channel e.die (s.channelOf e.die (k % 2 ^ 36)), gs.map (fun g => { g with key := leafKey e g.key })) :: l)

def State.spot (s : State) (target : RemoteTarget) (n : Nat) (write st : Bool) : State × Spot :=
  match target with
  | .scratch die tile off =>
    (s, match s.physTile die tile with
      | none => .miss
      | some pt =>
        if Config.scratchBytes < off + n ∨ (write && s.protectedBytes pt off n st) = true then .refused
        else .here ((byLine (cutRuns 64 [(off, n)] 0)).map (fun x =>
          (Home.agent pt, x.2.map (fun g => { g with key := scratchKey pt g.key })))))
  | .dieMem die off =>
    (s, match s.physDie die with
      | none => .miss
      | some d =>
        if 2 ^ 36 < off + n ∨ (write && guarded off n) = true then .refused
        else .here ((byLine (cutRuns 256 [(off, n)] 0)).map (fun x =>
          (Home.channel d (s.channelOf d (256 * x.1)), x.2.map (fun g => { g with key := dieKey d g.key })))))
  | .virt root va =>
    if 2 ^ 48 < va + n then (s, .refused)
    else (match s.walkRuns root write (byLine (cutRuns 256 [(va, n)] 0)) with
      | some (t, l) => (t, .here l)
      | none => (s, .refused))
  | .pennant _ _ _ => (s, .refused)

/-- An operation from outside reaches its homes, in no order with others (R336, R346); it is performed there like any other
and answered by a die once it completes. -/
def State.arrive (s : State) (die : Option Nat) (fin : Ending) (res : Word) (buf : List Byte) (acts : List (Home × Act)) : State :=
  let oid := s.nextId
  let op : Op := { oid := oid, party := .outside oid, rcb := 0, cls := none, fin := fin, res := res, buf := buf
                   addr := match die with | some d => word (d + 1) | none => 0 }
  acts.foldl (fun (t : State) q => State.fresh { t with arrived := t.arrived ++
      [{ pid := t.nextId, oid := oid, party := .outside oid, src := 0, home := q.1, lane := 2, gates := [], cls := clsE, act := q.2 }] })
    (State.fresh { s with ops := s.ops ++ [op] })
def outReads (l : List (Home × List Seg)) : List (Home × Act) := l.map (fun x => (x.1, .read x.2))
def outWrites (bs : List Byte) (l : List (Home × List Seg)) : List (Home × Act) := l.map (fun x => (x.1, .write (cellsOf bs x.2)))
/-- One act at the first byte of a target. -/
def outAt (f : Nat → Act) (l : List (Home × List Seg)) : List (Home × Act) := l.map (fun x => (x.1, f ((x.2.head?.map Seg.key).getD 0)))

/-- A memory operation from outside. -/
def State.remoteMem (s : State) (target : RemoteTarget) (op : RemoteOp) : State :=
  let die := s.targetDie target
  let go (n : Nat) (write st : Bool) (missing : State) (f : State → List (Home × List Seg) → State) : State :=
    match s.spot target n write st with
    | (t, .here l) => f t l
    | (_, .miss) => missing
    | (_, .refused) => s.refuse die
  let missed := s.answer die
  match op with
  | .load n sx => go n false false (missed 0 0 []) (fun t l => t.arrive die (.answer 1 n sx) 0 (zeros n) (outReads l))
  | .copyOut n => go n false false (missed (word n) 0 (zeros n)) (fun t l => t.arrive die (.answer 2 n false) 0 (zeros n) (outReads l))
  | .store bs => go bs.length true true (missed 0 0 []) (fun t l => t.arrive die (.answer 3 0 false) 0 [] (outWrites bs l))
  | .nibble hi v => go 1 true false (missed 0 0 []) (fun t l =>
      t.arrive die (.answer 3 0 false) 0 [] (outAt (fun k => .nibbles [(k, hi, v)]) l))
  | .copyIn bs => go bs.length true false (missed (word bs.length) 0 []) (fun t l =>
      t.arrive die (.answer 3 0 false) (word bs.length) [] (outWrites bs l))
  | .atomic major ty v e => go (atomicBytes ty) true false (missed 0 0 []) (fun t l =>
      t.arrive die (.answer 3 0 false) 0 [] (onePart l (fun gs => .atomic gs major ty v e)))
  | _ => s.refuse die

/-- A pennant operation from outside: a write waits at the deposit port and is answered when applied; a sample is answered at
once (R185, R190). -/
def State.remotePen (s : State) (pt idx : Nat) (op : RemoteOp) : State :=
  let port (a : PenAct) : State :=
    { s with deposits := s.deposits ++ [{ pt := pt, idx := idx, act := a, pid := none, oid := none, answer := true }] }
  match op with
  | .penWrite v st => port (.set v st)
  | .penAdd v st => port (.add v st)
  | .penSample kind expect =>
    let p := s.pen pt idx
    let r := sampleOf p kind (expect.setWidth 32)
    s.answer (some (pt / 144)) r.1 p.hoist.toNat []
  | _ => s.refuse (some (pt / 144))

def execRemoteRequest (target : RemoteTarget) (op : RemoteOp) (s : State) : Out :=
  .next (if s.bootPhase ≠ 7 ∨ !s.targetOpen target (remoteSize op) then s
    else match target, op with
      | .pennant die tile idx, op => (match s.physTile die tile with
        | some pt => if (s.agentAmid pt).isSome then s else if idx < 64 then s.remotePen pt idx op else s.refuse (s.physDie die)
        | none => s.answer (s.physDie die) (match op with | .penSample kind _ => (sampleAbsent kind).1 | _ => 0) 0 [])
      | .scratch die tile _, .piece grid place rcb part face step cells => (match s.physTile die tile with
        | some pt =>
            -- to the buffer, and to the ring of a mirrored partition (R278)
            let p : Piece := { id := s.nextId, src := 128 + die, place := place, pt := pt, part := part, grid := grid, rcb := rcb, desc := default
                               face := face, step := BitVec.ofNat 32 step, cells := cells, ring := false, all := false }
            let t := State.fresh { s with pieces := s.pieces ++ [p] }
            State.fresh { t with pieces := t.pieces ++ [{ p with id := t.nextId, ring := true }] }
        | none => s)
      | t, op => s.remoteMem t op)

/-- A host writes die memory, or a launch pennant of an edge die with stamp 0 (R177, R361, R364). -/
def execHostWrite (target : RemoteTarget) (bytes : List Byte) (s : State) : Out :=
  .next (if s.bootPhase ≠ 7 ∨ !s.targetOpen target bytes.length then s
    else match target with
      | .dieMem _ _ => (match s.spot target bytes.length true false with
        | (t, .here l) => t.arrive none .none 0 [] (outWrites bytes l)
        | _ => s)
      | .pennant die tile idx =>
        (match s.physTile die tile with
          | some pt =>
            if tile = 0 ∧ idx < 16 ∧ (die < 8 ∨ 120 ≤ die) ∧ bytes.length = 8 then
              { s with deposits := s.deposits ++ [{ pt := pt, idx := idx, act := .set (word (ofBytes bytes)) 0, pid := none, oid := none }] }
            else s
          | none => s)
      | _ => s)

/-! ## Pacing (R353) -/

/-- Dies to which the walk of a waiting part has still to cross: its reads are parts of VC0 too (R349). -/
def State.walksOf (s : State) (p : Part) : List Nat :=
  if p.home = .virt then (s.unwalked p).flatMap (s.walkDies (p.src / 144) p.root) else []
/-- Parts that the bridge of a die holds for another and has no grants for. -/
def State.announced (s : State) (src dst : Nat) : Nat :=
  (s.chan.filter (fun p => p.src / 144 == src && needsGrant p == some dst)).length +
    (s.pieces.filter (fun p => p.src == src && s.pieceDie p == some dst)).length +
    ((s.posts.filter (fun p => p.src / 144 == src)).flatMap (fun p => (s.walksOf p).filter (· == dst))).length +
    ((s.pieces.filter (fun p => p.pt / 144 == src)).flatMap (fun p => (s.pieceWalks p).filter (· == dst))).length +
    ((s.ops.filter (fun o => opTile o / 144 == src)).flatMap (fun o => (s.stepWalks o).filter (· == dst))).length +
    (s.jobs.filter (fun j => j.pt / 144 == src && s.jobDie j == some dst)).length +
    (s.tiles.filter (fun (e : Nat × Tile) => e.1 / 144 == src && s.mergeDie e.1 == some dst)).length - SMap.get (s.die src).grants dst 0
/-- The announcing die whose turn it is: the next one, in rising order, after the die granted last. -/
def State.grantTurn (s : State) (dst : Nat) : Option Nat :=
  let from' := match (s.die dst).granted with | some d => d + 1 | none => 0
  (findFrom (fun k => decide (0 < s.announced (k % 128) dst)) from' 128).map (fun k => k % 128)
def execPacingGrant (src dst n : Nat) (s : State) : Out :=
  let m := min n (s.announced src dst)
  .next (if m = 0 ∨ s.grantTurn dst ≠ some src then s
    else (s.modDie src (fun x => { x with grants := SMap.put x.grants dst (SMap.get x.grants dst 0 + m) })).modDie dst
      (fun x => { x with granted := some src }))

end Sys2Proof.Machine
end

