-- ==== Sys2Proof/Machine/Tasks.lean ====
section
/-!
DEFINITION. Work stealing between the ready queues of dies (R60, R61). An event whose condition does not hold leaves the
state as it is.
-/
namespace Sys2Proof.Machine

/-- Neighbouring logical positions in the order north, east, south, west, where regions can have tiles (R61). -/
def State.logNeighbours (s : State) (l : Nat) : List Nat :=
  let n := if 8 ≤ l then [l - 8] else []
  let e := if l % 8 < 7 then [l + 1] else []
  let so := if l < 120 then [l + 8] else []
  let w := if 0 < l % 8 then [l - 1] else []
  (n ++ e ++ so ++ w).filter (fun k => (s.dmapOf k).2 == 0)

/-- Records of a region that can be stolen from a queue, in order of age. -/
def Sched.stealable (q : Sched) (rcb : Nat) : List Record :=
  q.ready.filter (fun r => r.region == rcb && ctlAny r.ctl && q.eligible r && !ctlBar r.ctl)
/-- The youngest at the lowest priority that holds one. -/
def Sched.gift (q : Sched) (rcb : Nat) : Option Record :=
  let es := q.stealable rcb
  [0, 1, 2, 3].findSome? (fun p => (es.filter (fun r => ctlPrio r.ctl == p)).getLast?)

def execStealRound (die rcb : Nat) (s : State) : Out :=
  let q := (s.die die).sched
  let wanted := !q.ready.any (fun r => r.region == rcb && q.eligible r) &&
    q.empties.any (fun e => e.1 == rcb && decide (s.refNs ≤ e.2 + 1000)) &&
    !q.rounds.any (fun e => e.1 == rcb && decide (s.refNs < e.2 + 1000))
  .next (match s.logDie die with
    | none => s
    | some l =>
      if !wanted then s
      else
        let t := s.modSched die (fun q => { q with rounds := SMap.put q.rounds rcb s.refNs })
        match (s.logNeighbours l).filterMap s.physDie with
        | [] => t
        | a :: r => State.fresh { t with steals := t.steals ++ [{ id := t.nextId, rcb := rcb, thief := die, asked := a, left := r, stage := 0, task := none }] })

/-- A steal in its next state. -/
def State.modSteal (s : State) (id : Nat) (f : Steal → Option Steal) : State :=
  { s with steals := s.steals.filterMap (fun x => if x.id == id then f x else some x) }

/-- The die asked grants, and the record's token waits in its outstanding table; or the next die is asked, as where that table
has no room for it (log 78). A steal waits at a link that is down (R376, log 83). -/
def execStealGrant (id : Nat) (s : State) : Out :=
  .next (match s.steals.find? (fun x => x.id == id && x.stage == 0 && !s.cutOff x.thief x.asked) with
    | none => s
    | some x =>
      let q := (s.die x.asked).sched
      let refuse := s.modSteal id (fun x => match x.left with | [] => none | a :: r => some { x with asked := a, left := r })
      if (q.stealable x.rcb).length < 2 then refuse
      else match q.gift x.rcb with
        | none => refuse
        | some r =>
          if !r.stolen ∧ Config.queueMax ≤ q.out.length then refuse
          else
          let out := if r.stolen then q.out else q.out ++ [(x.rcb, r.token)]
          (s.modSched x.asked (fun q => { q with ready := q.ready.erase r, out := out })).modSteal id
            (fun x => some { x with stage := 1, task := some { r with stolen := true } }))

/-- The thief appends the record, which its sequence counter counts (R357,
log 115); it waits while the thief's queue is full (log 78). -/
def execStealReceipt (id : Nat) (s : State) : Out :=
  .next (match s.steals.find? (fun x => x.id == id && x.stage == 1 && !s.cutOff x.asked x.thief) with
    | none => s
    | some x => match x.task with
      | none => s
      | some r =>
        if Config.queueMax ≤ (s.die x.thief).sched.ready.length then s
        else (s.modSched x.thief (fun q => { q with ready := q.ready ++ [r], seq := (q.seq + 1) % 2 ^ 24 })).modSteal id (fun _ => none))

end Sys2Proof.Machine
end

