-- ==== Sys2Proof/Machine/Dispatch.lean ====
section
/-!
DEFINITION. One arm per constructor: the meaning of every instruction and of every event.
-/
namespace Sys2Proof.Machine

def exec (i : Instr) (s : State) : Host.Outcome State Fault Refusal :=
  match i with
  | .add d a b => Sys2Proof.Machine.execAdd d a b s
  | .sub d a b => Sys2Proof.Machine.execSub d a b s
  | .addp d a b => Sys2Proof.Machine.execAddp d a b s
  | .mul d a b => Sys2Proof.Machine.execMul d a b s
  | .mulhu d a b => Sys2Proof.Machine.execMulhu d a b s
  | .mulhs d a b => Sys2Proof.Machine.execMulhs d a b s
  | .divu d a b => Sys2Proof.Machine.execDivu d a b s
  | .divs d a b => Sys2Proof.Machine.execDivs d a b s
  | .remu d a b => Sys2Proof.Machine.execRemu d a b s
  | .rems d a b => Sys2Proof.Machine.execRems d a b s
  | .and d a b => Sys2Proof.Machine.execAnd d a b s
  | .or d a b => Sys2Proof.Machine.execOr d a b s
  | .xor d a b => Sys2Proof.Machine.execXor d a b s
  | .andn d a b => Sys2Proof.Machine.execAndn d a b s
  | .shl d a b => Sys2Proof.Machine.execShl d a b s
  | .shr d a b => Sys2Proof.Machine.execShr d a b s
  | .sha d a b => Sys2Proof.Machine.execSha d a b s
  | .rotl d a b => Sys2Proof.Machine.execRotl d a b s
  | .clz d a => Sys2Proof.Machine.execClz d a s
  | .ctz d a => Sys2Proof.Machine.execCtz d a s
  | .popc d a => Sys2Proof.Machine.execPopc d a s
  | .mins d a b => Sys2Proof.Machine.execMins d a b s
  | .minu d a b => Sys2Proof.Machine.execMinu d a b s
  | .maxs d a b => Sys2Proof.Machine.execMaxs d a b s
  | .maxu d a b => Sys2Proof.Machine.execMaxu d a b s
  | .slt d a b => Sys2Proof.Machine.execSlt d a b s
  | .sltu d a b => Sys2Proof.Machine.execSltu d a b s
  | .seq d a b => Sys2Proof.Machine.execSeq d a b s
  | .mad d a b c => Sys2Proof.Machine.execMad d a b c s
  | .sel d a b c => Sys2Proof.Machine.execSel d a b c s
  | .bfx d a p n => Sys2Proof.Machine.execBfx d a p n s
  | .bfi d a p n => Sys2Proof.Machine.execBfi d a p n s
  | .lil d i0 => Sys2Proof.Machine.execLil d i0 s
  | .lih d h i0 => Sys2Proof.Machine.execLih d h i0 s
  | .tld t c g => Sys2Proof.Machine.execTld t c g s
  | .tst t c g => Sys2Proof.Machine.execTst t c g s
  | .tldv v c g => Sys2Proof.Machine.execTldv v c g s
  | .tstv v c g => Sys2Proof.Machine.execTstv v c g s
  | .addi d a i0 => Sys2Proof.Machine.execAddi d a i0 s
  | .andi d a i0 => Sys2Proof.Machine.execAndi d a i0 s
  | .ori d a i0 => Sys2Proof.Machine.execOri d a i0 s
  | .xori d a i0 => Sys2Proof.Machine.execXori d a i0 s
  | .shli d a n => Sys2Proof.Machine.execShli d a n s
  | .shri d a n => Sys2Proof.Machine.execShri d a n s
  | .shai d a n => Sys2Proof.Machine.execShai d a n s
  | .slti d a i0 => Sys2Proof.Machine.execSlti d a i0 s
  | .b c a b o => Sys2Proof.Machine.execB c a b o s
  | .bz a o => Sys2Proof.Machine.execBz a o s
  | .bnz a o => Sys2Proof.Machine.execBnz a o s
  | .loop a o => Sys2Proof.Machine.execLoop a o s
  | .jmp o => Sys2Proof.Machine.execJmp o s
  | .jal o => Sys2Proof.Machine.execJal o s
  | .nop => Sys2Proof.Machine.execNop s
  | .pend => Sys2Proof.Machine.execPend s
  | .eret => Sys2Proof.Machine.execEret s
  | .halt => Sys2Proof.Machine.execHalt s
  | .trap c => Sys2Proof.Machine.execTrap c s
  | .bkpt c => Sys2Proof.Machine.execBkpt c s
  | .jr a => Sys2Proof.Machine.execJr a s
  | .jalr d a => Sys2Proof.Machine.execJalr d a s
  | .spawn d a => Sys2Proof.Machine.execSpawn d a s
  | .take d a => Sys2Proof.Machine.execTake d a s
  | .tdone a => Sys2Proof.Machine.execTdone a s
  | .rtset d a b => Sys2Proof.Machine.execRtset d a b s
  | .rtclr a => Sys2Proof.Machine.execRtclr a s
  | .segld g a => Sys2Proof.Machine.execSegld g a s
  | .segst g a => Sys2Proof.Machine.execSegst g a s
  | .gbind g a => Sys2Proof.Machine.execGbind g a s
  | .gstep g a => Sys2Proof.Machine.execGstep g a s
  | .gqry d g b => Sys2Proof.Machine.execGqry d g b s
  | .tmap d a g => Sys2Proof.Machine.execTmap d a g s
  | .tqry d a => Sys2Proof.Machine.execTqry d a s
  | .evack a => Sys2Proof.Machine.execEvack a s
  | .evict d a => Sys2Proof.Machine.execEvict d a s
  | .resume d a => Sys2Proof.Machine.execResume d a s
  | .ctxsv a b => Sys2Proof.Machine.execCtxsv a b s
  | .ctxld a b => Sys2Proof.Machine.execCtxld a b s
  | .scopew a b => Sys2Proof.Machine.execScopew a b s
  | .buntw a b => Sys2Proof.Machine.execBuntw a b s
  | .plotw a b => Sys2Proof.Machine.execPlotw a b s
  | .pclr a => Sys2Proof.Machine.execPclr a s
  | .ld t b w x d => Sys2Proof.Machine.execLd t b w x d s
  | .ldIndex t b x w s0 d => Sys2Proof.Machine.execLdIndex t b x w s0 d s
  | .ldAcq t b w x g => Sys2Proof.Machine.execLdAcq t b w x g s
  | .st t b w d => Sys2Proof.Machine.execSt t b w d s
  | .stIndex t b x w d => Sys2Proof.Machine.execStIndex t b x w d s
  | .stRel t b w g => Sys2Proof.Machine.execStRel t b w g s
  | .pfx b x d => Sys2Proof.Machine.execPfx b x d s
  | .fill d v n w c e => Sys2Proof.Machine.execFill d v n w c e s
  | .ldv v b x d => Sys2Proof.Machine.execLdv v b x d s
  | .stv v b x d => Sys2Proof.Machine.execStv v b x d s
  | .ldvs v b s0 w => Sys2Proof.Machine.execLdvs v b s0 w s
  | .stvs v b s0 w => Sys2Proof.Machine.execStvs v b s0 w s
  | .ldvx v b i0 w => Sys2Proof.Machine.execLdvx v b i0 w s
  | .stvx v b i0 w => Sys2Proof.Machine.execStvx v b i0 w s
  | .vldf t b r s0 f => Sys2Proof.Machine.execVldf t b r s0 f s
  | .vldfScales t b r s0 => Sys2Proof.Machine.execVldfScales t b r s0 s
  | .vstf t b r s0 f => Sys2Proof.Machine.execVstf t b r s0 f s
  | .vstfScales t b r s0 => Sys2Proof.Machine.execVstfScales t b r s0 s
  | .aadd d b v y o g => Sys2Proof.Machine.execAadd d b v y o g s
  | .amin d b v y o g => Sys2Proof.Machine.execAmin d b v y o g s
  | .amax d b v y o g => Sys2Proof.Machine.execAmax d b v y o g s
  | .afmax d b v y o g => Sys2Proof.Machine.execAfmax d b v y o g s
  | .aand d b v y o g => Sys2Proof.Machine.execAand d b v y o g s
  | .aor d b v y o g => Sys2Proof.Machine.execAor d b v y o g s
  | .axor d b v y o g => Sys2Proof.Machine.execAxor d b v y o g s
  | .aswp d b v y o g => Sys2Proof.Machine.execAswp d b v y o g s
  | .acas d b v y o g => Sys2Proof.Machine.execAcas d b v y o g s
  | .fence o g s0 => Sys2Proof.Machine.execFence o g s0 s
  | .wait a b c d => Sys2Proof.Machine.execWait a b c d s
  | .cpy d a n p e => Sys2Proof.Machine.execCpy d a n p e s
  | .cpys d a n p e => Sys2Proof.Machine.execCpys d a n p e s
  | .send a v r o p e => Sys2Proof.Machine.execSend a v r o p e s
  | .sysr d n => Sys2Proof.Machine.execSysr d n s
  | .sysw a n => Sys2Proof.Machine.execSysw a n s
  | .syswPer a => Sys2Proof.Machine.execSyswPer a s
  | .syswPph a => Sys2Proof.Machine.execSyswPph a s
  | .syswFcsr a => Sys2Proof.Machine.execSyswFcsr a s
  | .pwr x v t o g => Sys2Proof.Machine.execPwr x v t o g s
  | .prd x e f t o g => Sys2Proof.Machine.execPrd x e f t o g s
  | .psame x e f t o g => Sys2Proof.Machine.execPsame x e f t o g s
  | .padd x e f t o g => Sys2Proof.Machine.execPadd x e f t o g s
  | .pmc b v o g => Sys2Proof.Machine.execPmc b v o g s
  | .pstamp x e t o g => Sys2Proof.Machine.execPstamp x e t o g s
  | .gld d c s0 g k => Sys2Proof.Machine.execGld d c s0 g k s
  | .gst d c g => Sys2Proof.Machine.execGst d c g s
  | .gldv v c s0 g k => Sys2Proof.Machine.execGldv v c s0 g k s
  | .vadd d a b w m => Sys2Proof.Machine.execVadd d a b w m s
  | .vsub d a b w m => Sys2Proof.Machine.execVsub d a b w m s
  | .vmul d a b w m => Sys2Proof.Machine.execVmul d a b w m s
  | .vmulhSigned d a b w m => Sys2Proof.Machine.execVmulhSigned d a b w m s
  | .vmulhUnsigned d a b w m => Sys2Proof.Machine.execVmulhUnsigned d a b w m s
  | .vmad d a b w m => Sys2Proof.Machine.execVmad d a b w m s
  | .vand d a b w m => Sys2Proof.Machine.execVand d a b w m s
  | .vor d a b w m => Sys2Proof.Machine.execVor d a b w m s
  | .vxor d a b w m => Sys2Proof.Machine.execVxor d a b w m s
  | .vshl d a b w m => Sys2Proof.Machine.execVshl d a b w m s
  | .vshr d a b w m => Sys2Proof.Machine.execVshr d a b w m s
  | .vsha d a b w m => Sys2Proof.Machine.execVsha d a b w m s
  | .vminSigned d a b w m => Sys2Proof.Machine.execVminSigned d a b w m s
  | .vminUnsigned d a b w m => Sys2Proof.Machine.execVminUnsigned d a b w m s
  | .vmaxSigned d a b w m => Sys2Proof.Machine.execVmaxSigned d a b w m s
  | .vmaxUnsigned d a b w m => Sys2Proof.Machine.execVmaxUnsigned d a b w m s
  | .vcmp k a b c w => Sys2Proof.Machine.execVcmp k a b c w s
  | .vsel d a k w => Sys2Proof.Machine.execVsel d a k w s
  | .vmov d a m => Sys2Proof.Machine.execVmov d a m s
  | .vabs d a w m => Sys2Proof.Machine.execVabs d a w m s
  | .vfsqrt d a w m => Sys2Proof.Machine.execVfsqrt d a w m s
  | .vfrcp d a w m => Sys2Proof.Machine.execVfrcp d a w m s
  | .vfrsq d a w m => Sys2Proof.Machine.execVfrsq d a w m s
  | .vfclass d a w m => Sys2Proof.Machine.execVfclass d a w m s
  | .viota d w m => Sys2Proof.Machine.execViota d w m s
  | .vperm d a b w m => Sys2Proof.Machine.execVperm d a b w m s
  | .vrot d a n w m => Sys2Proof.Machine.execVrot d a n w m s
  | .vbcast d s0 w m => Sys2Proof.Machine.execVbcast d s0 w m s
  | .vext d a n w x => Sys2Proof.Machine.execVext d a n w x s
  | .vins d s0 n w => Sys2Proof.Machine.execVins d s0 n w s
  | .vred d a o x w m => Sys2Proof.Machine.execVred d a o x w m s
  | .vfred d a o w m => Sys2Proof.Machine.execVfred d a o w m s
  | .vcompress d a k w => Sys2Proof.Machine.execVcompress d a k w s
  | .kand d a b => Sys2Proof.Machine.execKand d a b s
  | .kor d a b => Sys2Proof.Machine.execKor d a b s
  | .kxor d a b => Sys2Proof.Machine.execKxor d a b s
  | .knot d a => Sys2Proof.Machine.execKnot d a s
  | .kpop a d => Sys2Proof.Machine.execKpop a d s
  | .vpack d a b w s0 => Sys2Proof.Machine.execVpack d a b w s0 s
  | .vunpack d a h w x => Sys2Proof.Machine.execVunpack d a h w x s
  | .vscale d a q w r s0 => Sys2Proof.Machine.execVscale d a q w r s0 s
  | .vfadd d a b w m => Sys2Proof.Machine.execVfadd d a b w m s
  | .vfsub d a b w m => Sys2Proof.Machine.execVfsub d a b w m s
  | .vfmul d a b w m => Sys2Proof.Machine.execVfmul d a b w m s
  | .vfma d a b w m => Sys2Proof.Machine.execVfma d a b w m s
  | .vfms d a b w m => Sys2Proof.Machine.execVfms d a b w m s
  | .vfnma d a b w m => Sys2Proof.Machine.execVfnma d a b w m s
  | .vfdiv d a b w m => Sys2Proof.Machine.execVfdiv d a b w m s
  | .vfmin d a b w m => Sys2Proof.Machine.execVfmin d a b w m s
  | .vfmax d a b w m => Sys2Proof.Machine.execVfmax d a b w m s
  | .vfcmp k a b c w => Sys2Proof.Machine.execVfcmp k a b c w s
  | .vfsgn d a b w m => Sys2Proof.Machine.execVfsgn d a b w m s
  | .vcvt d a i0 x r s0 => Sys2Proof.Machine.execVcvt d a i0 x r s0 s
  | .vcvti d a f t r s0 => Sys2Proof.Machine.execVcvti d a f t r s0 s
  | .vcvtf d a f t r s0 => Sys2Proof.Machine.execVcvtf d a f t r s0 s
  | .fadd d a b f r => Sys2Proof.Machine.execFadd d a b f r s
  | .fsub d a b f r => Sys2Proof.Machine.execFsub d a b f r s
  | .fmul d a b f r => Sys2Proof.Machine.execFmul d a b f r s
  | .fma d a b f r => Sys2Proof.Machine.execFma d a b f r s
  | .fdiv d a b f r => Sys2Proof.Machine.execFdiv d a b f r s
  | .fsqrt d a f r => Sys2Proof.Machine.execFsqrt d a f r s
  | .fmin d a b f => Sys2Proof.Machine.execFmin d a b f s
  | .fmax d a b f => Sys2Proof.Machine.execFmax d a b f s
  | .fclass d a f => Sys2Proof.Machine.execFclass d a f s
  | .fcmp d a b f c => Sys2Proof.Machine.execFcmp d a b f c s
  | .fcvt d a t s0 r x => Sys2Proof.Machine.execFcvt d a t s0 r x s
  | .modeM f v => Sys2Proof.Machine.execModeM f v s
  | .modeV => Sys2Proof.Machine.execModeV s
  | .mop a b c d f => Sys2Proof.Machine.execMop a b c d f s
  | .mopn a b c d f => Sys2Proof.Machine.execMopn a b c d f s
  | .mdrain d m g f => Sys2Proof.Machine.execMdrain d m g f s
  | .mdrainReg m g f v => Sys2Proof.Machine.execMdrainReg m g f v s
  | .mscale a r => Sys2Proof.Machine.execMscale a r s
  | .mzero => Sys2Proof.Machine.execMzero s
  | .mtrn => Sys2Proof.Machine.execMtrn s
  | .mqry d => Sys2Proof.Machine.execMqry d s
  | .regionAdmission rcb img => Sys2Proof.Machine.execRegionAdmission rcb img s
  | .strandStart pt slot => Sys2Proof.Machine.execStrandStart pt slot s
  | .boundaryWake pt slot => Sys2Proof.Machine.execBoundaryWake pt slot s
  | .waitRelease pt slot => Sys2Proof.Machine.execWaitRelease pt slot s
  | .fenceRelease pt slot => Sys2Proof.Machine.execFenceRelease pt slot s
  | .haltComplete pt slot => Sys2Proof.Machine.execHaltComplete pt slot s
  | .regionEnd rcb => Sys2Proof.Machine.execRegionEnd rcb s
  | .quiescenceEvent rcb => Sys2Proof.Machine.execQuiescenceEvent rcb s
  | .priorityPreemption pt slot rcb => Sys2Proof.Machine.execPriorityPreemption pt slot rcb s
  | .stealRound die rcb => Sys2Proof.Machine.execStealRound die rcb s
  | .stealGrant id => Sys2Proof.Machine.execStealGrant id s
  | .stealReceipt id => Sys2Proof.Machine.execStealReceipt id s
  | .partDepart pid => Sys2Proof.Machine.execPartDepart pid s
  | .partCarry pid => Sys2Proof.Machine.execPartCarry pid s
  | .partPerform pid => Sys2Proof.Machine.execPartPerform pid s
  | .operationComplete oid bad => Sys2Proof.Machine.execOperationComplete oid bad s
  | .deposit pt => Sys2Proof.Machine.execDeposit pt s
  | .pwrRelEntry oid => Sys2Proof.Machine.execPwrRelEntry oid s
  | .tileOpApply pt slot => Sys2Proof.Machine.execTileOpApply pt slot s
  | .mdrainApply pt slot => Sys2Proof.Machine.execMdrainApply pt slot s
  | .copyComplete oid => Sys2Proof.Machine.execCopyComplete oid s
  | .sendComplete oid => Sys2Proof.Machine.execSendComplete oid s
  | .gstepProcess oid => Sys2Proof.Machine.execGstepProcess oid s
  | .gridPieceDeposit id => Sys2Proof.Machine.execGridPieceDeposit id s
  | .mirrorCopy id => Sys2Proof.Machine.execMirrorCopy id s
  | .pageWalk pid => Sys2Proof.Machine.execPageWalk pid s
  | .translationDrop pt i0 => Sys2Proof.Machine.execTranslationDrop pt i0 s
  | .plotCacheFill pt rcb x => Sys2Proof.Machine.execPlotCacheFill pt rcb x s
  | .plotCacheDrop pt i0 => Sys2Proof.Machine.execPlotCacheDrop pt i0 s
  | .logMerge pt => Sys2Proof.Machine.execLogMerge pt s
  | .harvest pt => Sys2Proof.Machine.execHarvest pt s
  | .flush pt => Sys2Proof.Machine.execFlush pt s
  | .requestComplete pt => Sys2Proof.Machine.execRequestComplete pt s
  | .eventDeposit pt => Sys2Proof.Machine.execEventDeposit pt s
  | .evictComplete pt slot => Sys2Proof.Machine.execEvictComplete pt slot s
  | .ctxsvComplete oid => Sys2Proof.Machine.execCtxsvComplete oid s
  | .ctxldComplete oid => Sys2Proof.Machine.execCtxldComplete oid s
  | .crossPanelReply pt tag gen refused value count bytes => Sys2Proof.Machine.execCrossPanelReply pt tag gen refused value count bytes s
  | .requestTimeout pt tag => Sys2Proof.Machine.execRequestTimeout pt tag s
  | .remoteRequest target op => Sys2Proof.Machine.execRemoteRequest target op s
  | .hostWrite target bytes => Sys2Proof.Machine.execHostWrite target bytes s
  | .pacingGrant src dst n => Sys2Proof.Machine.execPacingGrant src dst n s
  | .driftAlarm pt => Sys2Proof.Machine.execDriftAlarm pt s
  | .thermalThrottle pt temp => Sys2Proof.Machine.execThermalThrottle pt temp s
  | .droopDetect row => Sys2Proof.Machine.execDroopDetect row s
  | .droopRecovery row => Sys2Proof.Machine.execDroopRecovery row s
  | .budgetThrottle die => Sys2Proof.Machine.execBudgetThrottle die s
  | .turnsChange pt rise => Sys2Proof.Machine.execTurnsChange pt rise s
  | .drawRefresh die draw => Sys2Proof.Machine.execDrawRefresh die draw s
  | .statusBlockRefresh die => Sys2Proof.Machine.execStatusBlockRefresh die s
  | .quantaSend die dir q kind => Sys2Proof.Machine.execQuantaSend die dir q kind s
  | .quantaReceipt id => Sys2Proof.Machine.execQuantaReceipt id s
  | .quantaAck id => Sys2Proof.Machine.execQuantaAck id s
  | .quantaReturn id => Sys2Proof.Machine.execQuantaReturn id s
  | .quantaRecall die dir q => Sys2Proof.Machine.execQuantaRecall die dir q s
  | .sidebandFailure die dir => Sys2Proof.Machine.execSidebandFailure die dir s
  | .correctedError die u => Sys2Proof.Machine.execCorrectedError die u s
  | .selfTestResult die u pass dead => Sys2Proof.Machine.execSelfTestResult die u pass dead s
  | .spareCopyEnd die g => Sys2Proof.Machine.execSpareCopyEnd die g s
  | .flitTagFailure die link => Sys2Proof.Machine.execFlitTagFailure die link s
  | .panelReset => Sys2Proof.Machine.execPanelReset s
  | .powerRegionEnergise => Sys2Proof.Machine.execPowerRegionEnergise s
  | .imageCheck die => Sys2Proof.Machine.execImageCheck die s
  | .recoveryImage img => Sys2Proof.Machine.execRecoveryImage img s
  | .linkAuthentication die dir ok key => Sys2Proof.Machine.execLinkAuthentication die dir ok key s
  | .getMeasurements die => Sys2Proof.Machine.execGetMeasurements die s
  | .inletOvertemp temp => Sys2Proof.Machine.execInletOvertemp temp s
  | .localWriteApply pt => Sys2Proof.Machine.execLocalWriteApply pt s
  | .driftChange pt d => Sys2Proof.Machine.execDriftChange pt d s
  | .sidebandRestore die dir => Sys2Proof.Machine.execSidebandRestore die dir s
  | .faultDomainTakedown rcb => Sys2Proof.Machine.execFaultDomainTakedown rcb s
  | .regionRollback rcb => Sys2Proof.Machine.execRegionRollback rcb s
  | .turnTableChange die tts => Sys2Proof.Machine.execTurnTableChange die tts s
  | .dccRestart die => Sys2Proof.Machine.execDccRestart die s

end Sys2Proof.Machine
end

