-- ==== Sys2Proof/Machine/Names.lean ====
section
/-!
DEFINITION. What a word names: the v registers of its fields (R51, R73), and the registers it writes, for the rule on pairs
(R69). A register is named by a number: s n is n, v n is 256 + n, k n is 512 + n, q n is 768 + n, sg n is 1024 + n, and a
system register 4096 + its number.
-/
namespace Sys2Proof.Machine

/-- The registers of the grid's block, which a grid operation writes (R167). -/
def blockDests (x : Strand) : List Nat :=
  if modeM x.modew then (List.range (blockSize (modeMf x.modew))).map (fun r => 256 + modeVb x.modew + r) else []

/-- The v registers that a word names. -/
def vNames : Instr → List Nat
  | .add _ _ _ => []
  | .sub _ _ _ => []
  | .addp _ _ _ => []
  | .mul _ _ _ => []
  | .mulhu _ _ _ => []
  | .mulhs _ _ _ => []
  | .divu _ _ _ => []
  | .divs _ _ _ => []
  | .remu _ _ _ => []
  | .rems _ _ _ => []
  | .and _ _ _ => []
  | .or _ _ _ => []
  | .xor _ _ _ => []
  | .andn _ _ _ => []
  | .shl _ _ _ => []
  | .shr _ _ _ => []
  | .sha _ _ _ => []
  | .rotl _ _ _ => []
  | .clz _ _ => []
  | .ctz _ _ => []
  | .popc _ _ => []
  | .mins _ _ _ => []
  | .minu _ _ _ => []
  | .maxs _ _ _ => []
  | .maxu _ _ _ => []
  | .slt _ _ _ => []
  | .sltu _ _ _ => []
  | .seq _ _ _ => []
  | .mad _ _ _ _ => []
  | .sel _ _ _ _ => []
  | .bfx _ _ _ _ => []
  | .bfi _ _ _ _ => []
  | .lil _ _ => []
  | .lih _ _ _ => []
  | .tld _ _ _ => []
  | .tst _ _ _ => []
  | .tldv v _ _ => [v.toNat]
  | .tstv v _ _ => [v.toNat]
  | .addi _ _ _ => []
  | .andi _ _ _ => []
  | .ori _ _ _ => []
  | .xori _ _ _ => []
  | .shli _ _ _ => []
  | .shri _ _ _ => []
  | .shai _ _ _ => []
  | .slti _ _ _ => []
  | .b _ _ _ _ => []
  | .bz _ _ => []
  | .bnz _ _ => []
  | .loop _ _ => []
  | .jmp _ => []
  | .jal _ => []
  | .nop => []
  | .pend => []
  | .eret => []
  | .halt => []
  | .trap _ => []
  | .bkpt _ => []
  | .jr _ => []
  | .jalr _ _ => []
  | .spawn _ _ => []
  | .take _ _ => []
  | .tdone _ => []
  | .rtset _ _ _ => []
  | .rtclr _ => []
  | .segld _ _ => []
  | .segst _ _ => []
  | .gbind _ _ => []
  | .gstep _ _ => []
  | .gqry _ _ _ => []
  | .tmap _ _ _ => []
  | .tqry _ _ => []
  | .evack _ => []
  | .evict _ _ => []
  | .resume _ _ => []
  | .ctxsv _ _ => []
  | .ctxld _ _ => []
  | .scopew _ _ => []
  | .buntw _ _ => []
  | .plotw _ _ => []
  | .pclr _ => []
  | .ld _ _ _ _ _ => []
  | .ldIndex _ _ _ _ _ _ => []
  | .ldAcq _ _ _ _ _ => []
  | .st _ _ _ _ => []
  | .stIndex _ _ _ _ _ => []
  | .stRel _ _ _ _ => []
  | .pfx _ _ _ => []
  | .fill _ _ _ _ _ _ => []
  | .ldv v _ _ _ => [v.toNat]
  | .stv v _ _ _ => [v.toNat]
  | .ldvs v _ _ _ => [v.toNat]
  | .stvs v _ _ _ => [v.toNat]
  | .ldvx v _ i _ => [v.toNat, i.toNat]
  | .stvx v _ i _ => [v.toNat, i.toNat]
  | .vldf t _ _ _ _ => [t.toNat]
  | .vldfScales _ _ _ _ => []
  | .vstf t _ _ _ _ => [t.toNat]
  | .vstfScales _ _ _ _ => []
  | .aadd _ _ _ _ _ _ => []
  | .amin _ _ _ _ _ _ => []
  | .amax _ _ _ _ _ _ => []
  | .afmax _ _ _ _ _ _ => []
  | .aand _ _ _ _ _ _ => []
  | .aor _ _ _ _ _ _ => []
  | .axor _ _ _ _ _ _ => []
  | .aswp _ _ _ _ _ _ => []
  | .acas _ _ _ _ _ _ => []
  | .fence _ _ _ => []
  | .wait _ _ _ _ => []
  | .cpy _ _ _ _ _ => []
  | .cpys _ _ _ _ _ => []
  | .send _ v _ _ _ _ => [v.toNat]
  | .sysr _ _ => []
  | .sysw _ _ => []
  | .syswPer _ => []
  | .syswPph _ => []
  | .syswFcsr _ => []
  | .pwr _ _ _ _ _ => []
  | .prd _ _ _ _ _ _ => []
  | .psame _ _ _ _ _ _ => []
  | .padd _ _ _ _ _ _ => []
  | .pmc _ _ _ _ => []
  | .pstamp _ _ _ _ _ => []
  | .gld _ _ _ _ _ => []
  | .gst _ _ _ => []
  | .gldv v _ _ _ _ => [v.toNat]
  | .vadd d a b _ _ => [d.toNat, a.toNat, b.toNat]
  | .vsub d a b _ _ => [d.toNat, a.toNat, b.toNat]
  | .vmul d a b _ _ => [d.toNat, a.toNat, b.toNat]
  | .vmulhSigned d a b _ _ => [d.toNat, a.toNat, b.toNat]
  | .vmulhUnsigned d a b _ _ => [d.toNat, a.toNat, b.toNat]
  | .vmad d a b _ _ => [d.toNat, a.toNat, b.toNat]
  | .vand d a b _ _ => [d.toNat, a.toNat, b.toNat]
  | .vor d a b _ _ => [d.toNat, a.toNat, b.toNat]
  | .vxor d a b _ _ => [d.toNat, a.toNat, b.toNat]
  | .vshl d a b _ _ => [d.toNat, a.toNat, b.toNat]
  | .vshr d a b _ _ => [d.toNat, a.toNat, b.toNat]
  | .vsha d a b _ _ => [d.toNat, a.toNat, b.toNat]
  | .vminSigned d a b _ _ => [d.toNat, a.toNat, b.toNat]
  | .vminUnsigned d a b _ _ => [d.toNat, a.toNat, b.toNat]
  | .vmaxSigned d a b _ _ => [d.toNat, a.toNat, b.toNat]
  | .vmaxUnsigned d a b _ _ => [d.toNat, a.toNat, b.toNat]
  | .vcmp _ a b _ _ => [a.toNat, b.toNat]
  | .vsel d a _ _ => [d.toNat, a.toNat]
  | .vmov d a _ => [d.toNat, a.toNat]
  | .vabs d a _ _ => [d.toNat, a.toNat]
  | .vfsqrt d a _ _ => [d.toNat, a.toNat]
  | .vfrcp d a _ _ => [d.toNat, a.toNat]
  | .vfrsq d a _ _ => [d.toNat, a.toNat]
  | .vfclass d a _ _ => [d.toNat, a.toNat]
  | .viota d _ _ => [d.toNat]
  | .vperm d a b _ _ => [d.toNat, a.toNat, b.toNat]
  | .vrot d a _ _ _ => [d.toNat, a.toNat]
  | .vbcast d _ _ _ => [d.toNat]
  | .vext _ a _ _ _ => [a.toNat]
  | .vins d _ _ _ => [d.toNat]
  | .vred _ a _ _ _ _ => [a.toNat]
  | .vfred _ a _ _ _ => [a.toNat]
  | .vcompress d a _ _ => [d.toNat, a.toNat]
  | .kand _ _ _ => []
  | .kor _ _ _ => []
  | .kxor _ _ _ => []
  | .knot _ _ => []
  | .kpop _ _ => []
  | .vpack d a b _ _ => [d.toNat, a.toNat, b.toNat]
  | .vunpack d a _ _ _ => [d.toNat, a.toNat]
  | .vscale d a _ _ _ _ => [d.toNat, a.toNat]
  | .vfadd d a b _ _ => [d.toNat, a.toNat, b.toNat]
  | .vfsub d a b _ _ => [d.toNat, a.toNat, b.toNat]
  | .vfmul d a b _ _ => [d.toNat, a.toNat, b.toNat]
  | .vfma d a b _ _ => [d.toNat, a.toNat, b.toNat]
  | .vfms d a b _ _ => [d.toNat, a.toNat, b.toNat]
  | .vfnma d a b _ _ => [d.toNat, a.toNat, b.toNat]
  | .vfdiv d a b _ _ => [d.toNat, a.toNat, b.toNat]
  | .vfmin d a b _ _ => [d.toNat, a.toNat, b.toNat]
  | .vfmax d a b _ _ => [d.toNat, a.toNat, b.toNat]
  | .vfcmp _ a b _ _ => [a.toNat, b.toNat]
  | .vfsgn d a b _ _ => [d.toNat, a.toNat, b.toNat]
  | .vcvt d a _ _ _ _ => [d.toNat, a.toNat]
  | .vcvti d a _ _ _ _ => [d.toNat, a.toNat]
  | .vcvtf d a _ _ _ _ => [d.toNat, a.toNat]
  | .fadd _ _ _ _ _ => []
  | .fsub _ _ _ _ _ => []
  | .fmul _ _ _ _ _ => []
  | .fma _ _ _ _ _ => []
  | .fdiv _ _ _ _ _ => []
  | .fsqrt _ _ _ _ => []
  | .fmin _ _ _ _ => []
  | .fmax _ _ _ _ => []
  | .fclass _ _ _ => []
  | .fcmp _ _ _ _ _ => []
  | .fcvt _ _ _ _ _ _ => []
  | .modeM _ v => [v.toNat]
  | .modeV => []
  | .mop a b _ _ _ => [a.toNat, b.toNat]
  | .mopn a b _ _ _ => [a.toNat, b.toNat]
  | .mdrain _ _ _ _ => []
  | .mdrainReg _ _ _ v => [v.toNat]
  | .mscale _ _ => []
  | .mzero => []
  | .mtrn => []
  | .mqry _ => []
  | .regionAdmission _ _ => []
  | .strandStart _ _ => []
  | .boundaryWake _ _ => []
  | .waitRelease _ _ => []
  | .fenceRelease _ _ => []
  | .haltComplete _ _ => []
  | .regionEnd _ => []
  | .quiescenceEvent _ => []
  | .priorityPreemption _ _ _ => []
  | .stealRound _ _ => []
  | .stealGrant _ => []
  | .stealReceipt _ => []
  | .partDepart _ => []
  | .partCarry _ => []
  | .partPerform _ => []
  | .operationComplete _ _ => []
  | .deposit _ => []
  | .pwrRelEntry _ => []
  | .tileOpApply _ _ => []
  | .mdrainApply _ _ => []
  | .copyComplete _ => []
  | .sendComplete _ => []
  | .gstepProcess _ => []
  | .gridPieceDeposit _ => []
  | .mirrorCopy _ => []
  | .pageWalk _ => []
  | .translationDrop _ _ => []
  | .plotCacheFill _ _ _ => []
  | .plotCacheDrop _ _ => []
  | .logMerge _ => []
  | .harvest _ => []
  | .flush _ => []
  | .requestComplete _ => []
  | .eventDeposit _ => []
  | .evictComplete _ _ => []
  | .ctxsvComplete _ => []
  | .ctxldComplete _ => []
  | .crossPanelReply _ _ _ _ _ _ _ => []
  | .requestTimeout _ _ => []
  | .remoteRequest _ _ => []
  | .hostWrite _ _ => []
  | .pacingGrant _ _ _ => []
  | .driftAlarm _ => []
  | .thermalThrottle _ _ => []
  | .droopDetect _ => []
  | .droopRecovery _ => []
  | .budgetThrottle _ => []
  | .turnsChange _ _ => []
  | .drawRefresh _ _ => []
  | .statusBlockRefresh _ => []
  | .quantaSend _ _ _ _ => []
  | .quantaReceipt _ => []
  | .quantaAck _ => []
  | .quantaReturn _ => []
  | .quantaRecall _ _ _ => []
  | .sidebandFailure _ _ => []
  | .correctedError _ _ => []
  | .selfTestResult _ _ _ _ => []
  | .spareCopyEnd _ _ => []
  | .flitTagFailure _ _ => []
  | .panelReset => []
  | .powerRegionEnergise => []
  | .imageCheck _ => []
  | .recoveryImage _ => []
  | .linkAuthentication _ _ _ _ => []
  | .getMeasurements _ => []
  | .inletOvertemp _ => []
  | .localWriteApply _ => []
  | .driftChange _ _ => []
  | .sidebandRestore _ _ => []
  | .faultDomainTakedown _ => []
  | .regionRollback _ => []
  | .turnTableChange _ _ => []
  | .dccRestart _ => []

/-- The registers that a word of a strand writes. -/
def dests (x : Strand) : Instr → List Nat
  | .add d _ _ => [d.toNat]
  | .sub d _ _ => [d.toNat]
  | .addp d _ _ => [d.toNat]
  | .mul d _ _ => [d.toNat]
  | .mulhu d _ _ => [d.toNat]
  | .mulhs d _ _ => [d.toNat]
  | .divu d _ _ => [d.toNat]
  | .divs d _ _ => [d.toNat]
  | .remu d _ _ => [d.toNat]
  | .rems d _ _ => [d.toNat]
  | .and d _ _ => [d.toNat]
  | .or d _ _ => [d.toNat]
  | .xor d _ _ => [d.toNat]
  | .andn d _ _ => [d.toNat]
  | .shl d _ _ => [d.toNat]
  | .shr d _ _ => [d.toNat]
  | .sha d _ _ => [d.toNat]
  | .rotl d _ _ => [d.toNat]
  | .clz d _ => [d.toNat]
  | .ctz d _ => [d.toNat]
  | .popc d _ => [d.toNat]
  | .mins d _ _ => [d.toNat]
  | .minu d _ _ => [d.toNat]
  | .maxs d _ _ => [d.toNat]
  | .maxu d _ _ => [d.toNat]
  | .slt d _ _ => [d.toNat]
  | .sltu d _ _ => [d.toNat]
  | .seq d _ _ => [d.toNat]
  | .mad d _ _ _ => [d.toNat]
  | .sel d _ _ _ => [d.toNat]
  | .bfx d _ _ _ => [d.toNat]
  | .bfi d _ _ _ => [d.toNat]
  | .lil d _ => [d.toNat]
  | .lih d _ _ => [d.toNat]
  | .tld t _ _ => [t.toNat]
  | .tst _ _ _ => []
  | .tldv v _ _ => [256 + v.toNat]
  | .tstv _ _ _ => []
  | .addi d _ _ => [d.toNat]
  | .andi d _ _ => [d.toNat]
  | .ori d _ _ => [d.toNat]
  | .xori d _ _ => [d.toNat]
  | .shli d _ _ => [d.toNat]
  | .shri d _ _ => [d.toNat]
  | .shai d _ _ => [d.toNat]
  | .slti d _ _ => [d.toNat]
  | .b _ _ _ _ => []
  | .bz _ _ => []
  | .bnz _ _ => []
  | .loop a _ => [a.toNat]
  | .jmp _ => []
  | .jal _ => [31]
  | .nop => []
  | .pend => []
  | .eret => []
  | .halt => []
  | .trap _ => []
  | .bkpt _ => []
  | .jr _ => []
  | .jalr d _ => [d.toNat, 31]
  | .spawn d _ => [d.toNat]
  | .take d _ => [d.toNat]
  | .tdone _ => []
  | .rtset d _ _ => [d.toNat]
  | .rtclr _ => []
  | .segld g _ => [1024 + g.toNat]
  | .segst _ _ => []
  | .gbind g _ => [1024 + g.toNat]
  | .gstep _ _ => []
  | .gqry d _ _ => [d.toNat]
  | .tmap d _ _ => [d.toNat]
  | .tqry d _ => [d.toNat]
  | .evack _ => []
  | .evict d _ => [d.toNat]
  | .resume d _ => [d.toNat]
  | .ctxsv _ _ => []
  | .ctxld _ _ => []
  | .scopew _ _ => []
  | .buntw _ _ => []
  | .plotw _ _ => []
  | .pclr _ => []
  | .ld t _ _ _ _ => [t.toNat]
  | .ldIndex t _ _ _ _ _ => [t.toNat]
  | .ldAcq t _ _ _ _ => [t.toNat]
  | .st _ _ _ _ => []
  | .stIndex _ _ _ _ _ => []
  | .stRel _ _ _ _ => []
  | .pfx _ _ _ => []
  | .fill _ _ _ _ _ _ => []
  | .ldv v _ _ _ => [256 + v.toNat]
  | .stv _ _ _ _ => []
  | .ldvs v _ _ _ => [256 + v.toNat]
  | .stvs _ _ _ _ => []
  | .ldvx v _ _ _ => [256 + v.toNat]
  | .stvx _ _ _ _ => []
  | .vldf t _ _ _ _ => [256 + t.toNat]
  | .vldfScales t _ _ _ => [768 + t.toNat]
  | .vstf _ _ _ _ _ => []
  | .vstfScales _ _ _ _ => []
  | .aadd d _ _ _ _ _ => [d.toNat]
  | .amin d _ _ _ _ _ => [d.toNat]
  | .amax d _ _ _ _ _ => [d.toNat]
  | .afmax d _ _ _ _ _ => [d.toNat]
  | .aand d _ _ _ _ _ => [d.toNat]
  | .aor d _ _ _ _ _ => [d.toNat]
  | .axor d _ _ _ _ _ => [d.toNat]
  | .aswp d _ _ _ _ _ => [d.toNat]
  | .acas d _ _ _ _ _ => [d.toNat]
  | .fence _ _ _ => []
  | .wait _ _ _ _ => []
  | .cpy _ _ _ _ _ => []
  | .cpys _ _ _ _ _ => []
  | .send _ _ _ _ _ _ => []
  | .sysr d _ => [d.toNat]
  | .sysw _ n => [4096 + n.toNat]
  | .syswPer _ => [4096 + 0x010]
  | .syswPph _ => [4096 + 0x011]
  | .syswFcsr _ => [4096 + 0x001]
  | .pwr _ _ _ _ _ => []
  | .prd _ e f _ _ _ => [e.toNat, f.toNat]
  | .psame _ e _ _ _ _ => [e.toNat]
  | .padd _ e _ _ _ _ => [e.toNat]
  | .pmc _ _ _ _ => []
  | .pstamp _ e _ _ _ => [e.toNat]
  | .gld d _ s _ k => if k = 1 then [d.toNat, s.toNat] else [d.toNat]
  | .gst _ _ _ => []
  | .gldv v _ s _ k => if k = 1 then [256 + v.toNat, s.toNat] else [256 + v.toNat]
  | .vadd d _ _ _ _ => [256 + d.toNat]
  | .vsub d _ _ _ _ => [256 + d.toNat]
  | .vmul d _ _ _ _ => [256 + d.toNat]
  | .vmulhSigned d _ _ _ _ => [256 + d.toNat]
  | .vmulhUnsigned d _ _ _ _ => [256 + d.toNat]
  | .vmad d _ _ _ _ => [256 + d.toNat]
  | .vand d _ _ _ _ => [256 + d.toNat]
  | .vor d _ _ _ _ => [256 + d.toNat]
  | .vxor d _ _ _ _ => [256 + d.toNat]
  | .vshl d _ _ _ _ => [256 + d.toNat]
  | .vshr d _ _ _ _ => [256 + d.toNat]
  | .vsha d _ _ _ _ => [256 + d.toNat]
  | .vminSigned d _ _ _ _ => [256 + d.toNat]
  | .vminUnsigned d _ _ _ _ => [256 + d.toNat]
  | .vmaxSigned d _ _ _ _ => [256 + d.toNat]
  | .vmaxUnsigned d _ _ _ _ => [256 + d.toNat]
  | .vcmp k _ _ _ _ => [512 + k.toNat]
  | .vsel d _ _ _ => [256 + d.toNat]
  | .vmov d _ _ => [256 + d.toNat]
  | .vabs d _ _ _ => [256 + d.toNat]
  | .vfsqrt d _ _ _ => [256 + d.toNat]
  | .vfrcp d _ _ _ => [256 + d.toNat]
  | .vfrsq d _ _ _ => [256 + d.toNat]
  | .vfclass d _ _ _ => [256 + d.toNat]
  | .viota d _ _ => [256 + d.toNat]
  | .vperm d _ _ _ _ => [256 + d.toNat]
  | .vrot d _ _ _ _ => [256 + d.toNat]
  | .vbcast d _ _ _ => [256 + d.toNat]
  | .vext d _ _ _ _ => [d.toNat]
  | .vins d _ _ _ => [256 + d.toNat]
  | .vred d _ _ _ _ _ => [d.toNat]
  | .vfred d _ _ _ _ => [d.toNat]
  | .vcompress d _ _ _ => [256 + d.toNat]
  | .kand d _ _ => [512 + d.toNat]
  | .kor d _ _ => [512 + d.toNat]
  | .kxor d _ _ => [512 + d.toNat]
  | .knot d _ => [512 + d.toNat]
  | .kpop _ d => [d.toNat]
  | .vpack d _ _ _ _ => [256 + d.toNat]
  | .vunpack d _ _ _ _ => [256 + d.toNat]
  | .vscale d _ _ _ _ _ => [256 + d.toNat]
  | .vfadd d _ _ _ _ => [256 + d.toNat]
  | .vfsub d _ _ _ _ => [256 + d.toNat]
  | .vfmul d _ _ _ _ => [256 + d.toNat]
  | .vfma d _ _ _ _ => [256 + d.toNat]
  | .vfms d _ _ _ _ => [256 + d.toNat]
  | .vfnma d _ _ _ _ => [256 + d.toNat]
  | .vfdiv d _ _ _ _ => [256 + d.toNat]
  | .vfmin d _ _ _ _ => [256 + d.toNat]
  | .vfmax d _ _ _ _ => [256 + d.toNat]
  | .vfcmp k _ _ _ _ => [512 + k.toNat]
  | .vfsgn d _ _ _ _ => [256 + d.toNat]
  | .vcvt d _ _ _ _ _ => [256 + d.toNat]
  | .vcvti d _ _ _ _ _ => [256 + d.toNat]
  | .vcvtf d _ _ _ _ _ => [256 + d.toNat]
  | .fadd d _ _ _ _ => [d.toNat]
  | .fsub d _ _ _ _ => [d.toNat]
  | .fmul d _ _ _ _ => [d.toNat]
  | .fma d _ _ _ _ => [d.toNat]
  | .fdiv d _ _ _ _ => [d.toNat]
  | .fsqrt d _ _ _ => [d.toNat]
  | .fmin d _ _ _ => [d.toNat]
  | .fmax d _ _ _ => [d.toNat]
  | .fclass d _ _ => [d.toNat]
  | .fcmp d _ _ _ _ => [d.toNat]
  | .fcvt d _ _ _ _ _ => [d.toNat]
  | .modeM _ _ => [4096 + 0x002]
  | .modeV => [4096 + 0x002]
  | .mop _ _ _ _ _ => blockDests x
  | .mopn _ _ _ _ _ => blockDests x
  | .mdrain _ _ _ _ => []
  | .mdrainReg _ _ f v => if modeM x.modew then (List.range (drainRegs (modeMf x.modew) f.toNat)).map (fun r => 256 + v.toNat + r) else []
  | .mscale _ _ => blockDests x
  | .mzero => blockDests x
  | .mtrn => blockDests x
  | .mqry d => [d.toNat]
  | .regionAdmission _ _ => []
  | .strandStart _ _ => []
  | .boundaryWake _ _ => []
  | .waitRelease _ _ => []
  | .fenceRelease _ _ => []
  | .haltComplete _ _ => []
  | .regionEnd _ => []
  | .quiescenceEvent _ => []
  | .priorityPreemption _ _ _ => []
  | .stealRound _ _ => []
  | .stealGrant _ => []
  | .stealReceipt _ => []
  | .partDepart _ => []
  | .partCarry _ => []
  | .partPerform _ => []
  | .operationComplete _ _ => []
  | .deposit _ => []
  | .pwrRelEntry _ => []
  | .tileOpApply _ _ => []
  | .mdrainApply _ _ => []
  | .copyComplete _ => []
  | .sendComplete _ => []
  | .gstepProcess _ => []
  | .gridPieceDeposit _ => []
  | .mirrorCopy _ => []
  | .pageWalk _ => []
  | .translationDrop _ _ => []
  | .plotCacheFill _ _ _ => []
  | .plotCacheDrop _ _ => []
  | .logMerge _ => []
  | .harvest _ => []
  | .flush _ => []
  | .requestComplete _ => []
  | .eventDeposit _ => []
  | .evictComplete _ _ => []
  | .ctxsvComplete _ => []
  | .ctxldComplete _ => []
  | .crossPanelReply _ _ _ _ _ _ _ => []
  | .requestTimeout _ _ => []
  | .remoteRequest _ _ => []
  | .hostWrite _ _ => []
  | .pacingGrant _ _ _ => []
  | .driftAlarm _ => []
  | .thermalThrottle _ _ => []
  | .droopDetect _ => []
  | .droopRecovery _ => []
  | .budgetThrottle _ => []
  | .turnsChange _ _ => []
  | .drawRefresh _ _ => []
  | .statusBlockRefresh _ => []
  | .quantaSend _ _ _ _ => []
  | .quantaReceipt _ => []
  | .quantaAck _ => []
  | .quantaReturn _ => []
  | .quantaRecall _ _ _ => []
  | .sidebandFailure _ _ => []
  | .correctedError _ _ => []
  | .selfTestResult _ _ _ _ => []
  | .spareCopyEnd _ _ => []
  | .flitTagFailure _ _ => []
  | .panelReset => []
  | .powerRegionEnergise => []
  | .imageCheck _ => []
  | .recoveryImage _ => []
  | .linkAuthentication _ _ _ _ => []
  | .getMeasurements _ => []
  | .inletOvertemp _ => []
  | .localWriteApply _ => []
  | .driftChange _ _ => []
  | .sidebandRestore _ _ => []
  | .faultDomainTakedown _ => []
  | .regionRollback _ => []
  | .turnTableChange _ _ => []
  | .dccRestart _ => []

/-- The vector, mask and scale registers that a word names as sources, numbered as XVAL numbers them (R206); MOP and MOPN read
scales in the scaled formats alone (R168, R170). -/
def reads : Instr → List Nat
  | .add _ _ _ => []
  | .sub _ _ _ => []
  | .addp _ _ _ => []
  | .mul _ _ _ => []
  | .mulhu _ _ _ => []
  | .mulhs _ _ _ => []
  | .divu _ _ _ => []
  | .divs _ _ _ => []
  | .remu _ _ _ => []
  | .rems _ _ _ => []
  | .and _ _ _ => []
  | .or _ _ _ => []
  | .xor _ _ _ => []
  | .andn _ _ _ => []
  | .shl _ _ _ => []
  | .shr _ _ _ => []
  | .sha _ _ _ => []
  | .rotl _ _ _ => []
  | .clz _ _ => []
  | .ctz _ _ => []
  | .popc _ _ => []
  | .mins _ _ _ => []
  | .minu _ _ _ => []
  | .maxs _ _ _ => []
  | .maxu _ _ _ => []
  | .slt _ _ _ => []
  | .sltu _ _ _ => []
  | .seq _ _ _ => []
  | .mad _ _ _ _ => []
  | .sel _ _ _ _ => []
  | .bfx _ _ _ _ => []
  | .bfi _ _ _ _ => []
  | .lil _ _ => []
  | .lih _ _ _ => []
  | .tld _ _ _ => []
  | .tst _ _ _ => []
  | .tldv _ _ _ => []
  | .tstv v _ _ => [v.toNat]
  | .addi _ _ _ => []
  | .andi _ _ _ => []
  | .ori _ _ _ => []
  | .xori _ _ _ => []
  | .shli _ _ _ => []
  | .shri _ _ _ => []
  | .shai _ _ _ => []
  | .slti _ _ _ => []
  | .b _ _ _ _ => []
  | .bz _ _ => []
  | .bnz _ _ => []
  | .loop _ _ => []
  | .jmp _ => []
  | .jal _ => []
  | .nop => []
  | .pend => []
  | .eret => []
  | .halt => []
  | .trap _ => []
  | .bkpt _ => []
  | .jr _ => []
  | .jalr _ _ => []
  | .spawn _ _ => []
  | .take _ _ => []
  | .tdone _ => []
  | .rtset _ _ _ => []
  | .rtclr _ => []
  | .segld _ _ => []
  | .segst _ _ => []
  | .gbind _ _ => []
  | .gstep _ _ => []
  | .gqry _ _ _ => []
  | .tmap _ _ _ => []
  | .tqry _ _ => []
  | .evack _ => []
  | .evict _ _ => []
  | .resume _ _ => []
  | .ctxsv _ _ => []
  | .ctxld _ _ => []
  | .scopew _ _ => []
  | .buntw _ _ => []
  | .plotw _ _ => []
  | .pclr _ => []
  | .ld _ _ _ _ _ => []
  | .ldIndex _ _ _ _ _ _ => []
  | .ldAcq _ _ _ _ _ => []
  | .st _ _ _ _ => []
  | .stIndex _ _ _ _ _ => []
  | .stRel _ _ _ _ => []
  | .pfx _ _ _ => []
  | .fill _ _ _ _ _ _ => []
  | .ldv _ _ _ _ => []
  | .stv v _ _ _ => [v.toNat]
  | .ldvs _ _ _ _ => []
  | .stvs v _ _ _ => [v.toNat]
  | .ldvx _ _ i _ => [i.toNat]
  | .stvx v _ i _ => [v.toNat, i.toNat]
  | .vldf _ _ _ _ _ => []
  | .vldfScales _ _ _ _ => []
  | .vstf t _ _ _ _ => [t.toNat]
  | .vstfScales t _ _ _ => [512 + t.toNat]
  | .aadd _ _ _ _ _ _ => []
  | .amin _ _ _ _ _ _ => []
  | .amax _ _ _ _ _ _ => []
  | .afmax _ _ _ _ _ _ => []
  | .aand _ _ _ _ _ _ => []
  | .aor _ _ _ _ _ _ => []
  | .axor _ _ _ _ _ _ => []
  | .aswp _ _ _ _ _ _ => []
  | .acas _ _ _ _ _ _ => []
  | .fence _ _ _ => []
  | .wait _ _ _ _ => []
  | .cpy _ _ _ _ _ => []
  | .cpys _ _ _ _ _ => []
  | .send _ v _ _ _ _ => [v.toNat]
  | .sysr _ _ => []
  | .sysw _ _ => []
  | .syswPer _ => []
  | .syswPph _ => []
  | .syswFcsr _ => []
  | .pwr _ _ _ _ _ => []
  | .prd _ _ _ _ _ _ => []
  | .psame _ _ _ _ _ _ => []
  | .padd _ _ _ _ _ _ => []
  | .pmc _ _ _ _ => []
  | .pstamp _ _ _ _ _ => []
  | .gld _ _ _ _ _ => []
  | .gst _ _ _ => []
  | .gldv _ _ _ _ _ => []
  | .vadd d a b _ m => [a.toNat, b.toNat] ++ (if m = 1 then [d.toNat, 257] else [])
  | .vsub d a b _ m => [a.toNat, b.toNat] ++ (if m = 1 then [d.toNat, 257] else [])
  | .vmul d a b _ m => [a.toNat, b.toNat] ++ (if m = 1 then [d.toNat, 257] else [])
  | .vmulhSigned d a b _ m => [a.toNat, b.toNat] ++ (if m = 1 then [d.toNat, 257] else [])
  | .vmulhUnsigned d a b _ m => [a.toNat, b.toNat] ++ (if m = 1 then [d.toNat, 257] else [])
  | .vmad d a b _ m => [d.toNat, a.toNat, b.toNat] ++ (if m = 1 then [257] else [])
  | .vand d a b _ m => [a.toNat, b.toNat] ++ (if m = 1 then [d.toNat, 257] else [])
  | .vor d a b _ m => [a.toNat, b.toNat] ++ (if m = 1 then [d.toNat, 257] else [])
  | .vxor d a b _ m => [a.toNat, b.toNat] ++ (if m = 1 then [d.toNat, 257] else [])
  | .vshl d a b _ m => [a.toNat, b.toNat] ++ (if m = 1 then [d.toNat, 257] else [])
  | .vshr d a b _ m => [a.toNat, b.toNat] ++ (if m = 1 then [d.toNat, 257] else [])
  | .vsha d a b _ m => [a.toNat, b.toNat] ++ (if m = 1 then [d.toNat, 257] else [])
  | .vminSigned d a b _ m => [a.toNat, b.toNat] ++ (if m = 1 then [d.toNat, 257] else [])
  | .vminUnsigned d a b _ m => [a.toNat, b.toNat] ++ (if m = 1 then [d.toNat, 257] else [])
  | .vmaxSigned d a b _ m => [a.toNat, b.toNat] ++ (if m = 1 then [d.toNat, 257] else [])
  | .vmaxUnsigned d a b _ m => [a.toNat, b.toNat] ++ (if m = 1 then [d.toNat, 257] else [])
  | .vcmp _ a b _ _ => [a.toNat, b.toNat]
  | .vsel d a k _ => [d.toNat, a.toNat, 256 + k.toNat]
  | .vmov d a m => [a.toNat] ++ (if m = 1 then [d.toNat, 257] else [])
  | .vabs d a _ m => [a.toNat] ++ (if m = 1 then [d.toNat, 257] else [])
  | .vfsqrt d a _ m => [a.toNat] ++ (if m = 1 then [d.toNat, 257] else [])
  | .vfrcp d a _ m => [a.toNat] ++ (if m = 1 then [d.toNat, 257] else [])
  | .vfrsq d a _ m => [a.toNat] ++ (if m = 1 then [d.toNat, 257] else [])
  | .vfclass d a _ m => [a.toNat] ++ (if m = 1 then [d.toNat, 257] else [])
  | .viota d _ m => [] ++ (if m = 1 then [d.toNat, 257] else [])
  | .vperm d a b _ m => [a.toNat, b.toNat] ++ (if m = 1 then [d.toNat, 257] else [])
  | .vrot d a _ _ m => [a.toNat] ++ (if m = 1 then [d.toNat, 257] else [])
  | .vbcast d _ _ m => [] ++ (if m = 1 then [d.toNat, 257] else [])
  | .vext _ a _ _ _ => [a.toNat]
  | .vins d _ _ _ => [d.toNat]
  | .vred _ a _ _ _ m => [a.toNat] ++ (if m = 1 then [257] else [])
  | .vfred _ a _ _ m => [a.toNat] ++ (if m = 1 then [257] else [])
  | .vcompress _ a k _ => [a.toNat, 256 + k.toNat]
  | .kand _ a b => [256 + a.toNat, 256 + b.toNat]
  | .kor _ a b => [256 + a.toNat, 256 + b.toNat]
  | .kxor _ a b => [256 + a.toNat, 256 + b.toNat]
  | .knot _ a => [256 + a.toNat]
  | .kpop a _ => [256 + a.toNat]
  | .vpack _ a b _ _ => [a.toNat, b.toNat]
  | .vunpack _ a _ _ _ => [a.toNat]
  | .vscale _ a q _ _ _ => [a.toNat, 512 + q.toNat]
  | .vfadd d a b _ m => [a.toNat, b.toNat] ++ (if m = 1 then [d.toNat, 257] else [])
  | .vfsub d a b _ m => [a.toNat, b.toNat] ++ (if m = 1 then [d.toNat, 257] else [])
  | .vfmul d a b _ m => [a.toNat, b.toNat] ++ (if m = 1 then [d.toNat, 257] else [])
  | .vfma d a b _ m => [d.toNat, a.toNat, b.toNat] ++ (if m = 1 then [257] else [])
  | .vfms d a b _ m => [d.toNat, a.toNat, b.toNat] ++ (if m = 1 then [257] else [])
  | .vfnma d a b _ m => [d.toNat, a.toNat, b.toNat] ++ (if m = 1 then [257] else [])
  | .vfdiv d a b _ m => [a.toNat, b.toNat] ++ (if m = 1 then [d.toNat, 257] else [])
  | .vfmin d a b _ m => [a.toNat, b.toNat] ++ (if m = 1 then [d.toNat, 257] else [])
  | .vfmax d a b _ m => [a.toNat, b.toNat] ++ (if m = 1 then [d.toNat, 257] else [])
  | .vfcmp _ a b _ _ => [a.toNat, b.toNat]
  | .vfsgn d a b _ m => [a.toNat, b.toNat] ++ (if m = 1 then [d.toNat, 257] else [])
  | .vcvt _ a _ _ _ _ => [a.toNat]
  | .vcvti _ a _ _ _ _ => [a.toNat]
  | .vcvtf _ a _ _ _ _ => [a.toNat]
  | .fadd _ _ _ _ _ => []
  | .fsub _ _ _ _ _ => []
  | .fmul _ _ _ _ _ => []
  | .fma _ _ _ _ _ => []
  | .fdiv _ _ _ _ _ => []
  | .fsqrt _ _ _ _ => []
  | .fmin _ _ _ _ => []
  | .fmax _ _ _ _ => []
  | .fclass _ _ _ => []
  | .fcmp _ _ _ _ _ => []
  | .fcvt _ _ _ _ _ _ => []
  | .modeM _ _ => []
  | .modeV => []
  | .mop a b c d f => [a.toNat, b.toNat] ++ (if 4 ≤ f.toNat then [512 + c.toNat, 512 + d.toNat] else []) ++ [262, 263]
  | .mopn a b c d f => [a.toNat, b.toNat] ++ (if 4 ≤ f.toNat then [512 + c.toNat, 512 + d.toNat] else []) ++ [262, 263]
  | .mdrain _ _ _ _ => []
  | .mdrainReg _ _ _ _ => []
  | .mscale _ _ => [262, 263]
  | .mzero => []
  | .mtrn => []
  | .mqry _ => []
  | .regionAdmission _ _ => []
  | .strandStart _ _ => []
  | .boundaryWake _ _ => []
  | .waitRelease _ _ => []
  | .fenceRelease _ _ => []
  | .haltComplete _ _ => []
  | .regionEnd _ => []
  | .quiescenceEvent _ => []
  | .priorityPreemption _ _ _ => []
  | .stealRound _ _ => []
  | .stealGrant _ => []
  | .stealReceipt _ => []
  | .partDepart _ => []
  | .partCarry _ => []
  | .partPerform _ => []
  | .operationComplete _ _ => []
  | .deposit _ => []
  | .pwrRelEntry _ => []
  | .tileOpApply _ _ => []
  | .mdrainApply _ _ => []
  | .copyComplete _ => []
  | .sendComplete _ => []
  | .gstepProcess _ => []
  | .gridPieceDeposit _ => []
  | .mirrorCopy _ => []
  | .pageWalk _ => []
  | .translationDrop _ _ => []
  | .plotCacheFill _ _ _ => []
  | .plotCacheDrop _ _ => []
  | .logMerge _ => []
  | .harvest _ => []
  | .flush _ => []
  | .requestComplete _ => []
  | .eventDeposit _ => []
  | .evictComplete _ _ => []
  | .ctxsvComplete _ => []
  | .ctxldComplete _ => []
  | .crossPanelReply _ _ _ _ _ _ _ => []
  | .requestTimeout _ _ => []
  | .remoteRequest _ _ => []
  | .hostWrite _ _ => []
  | .pacingGrant _ _ _ => []
  | .driftAlarm _ => []
  | .thermalThrottle _ _ => []
  | .droopDetect _ => []
  | .droopRecovery _ => []
  | .budgetThrottle _ => []
  | .turnsChange _ _ => []
  | .drawRefresh _ _ => []
  | .statusBlockRefresh _ => []
  | .quantaSend _ _ _ _ => []
  | .quantaReceipt _ => []
  | .quantaAck _ => []
  | .quantaReturn _ => []
  | .quantaRecall _ _ _ => []
  | .sidebandFailure _ _ => []
  | .correctedError _ _ => []
  | .selfTestResult _ _ _ _ => []
  | .spareCopyEnd _ _ => []
  | .flitTagFailure _ _ => []
  | .panelReset => []
  | .powerRegionEnergise => []
  | .imageCheck _ => []
  | .recoveryImage _ => []
  | .linkAuthentication _ _ _ _ => []
  | .getMeasurements _ => []
  | .inletOvertemp _ => []
  | .localWriteApply _ => []
  | .driftChange _ _ => []
  | .sidebandRestore _ _ => []
  | .faultDomainTakedown _ => []
  | .regionRollback _ => []
  | .turnTableChange _ _ => []
  | .dccRestart _ => []

/-! ## Counted words (R220, R223) -/

/-- The counter of the class that an instruction counts in, where what it acts on lies on this panel. -/
def countClass (i : Instr) : Option Cls :=
  match i with
  | .add _ _ _ => none
  | .sub _ _ _ => none
  | .addp _ _ _ => none
  | .mul _ _ _ => none
  | .mulhu _ _ _ => none
  | .mulhs _ _ _ => none
  | .divu _ _ _ => none
  | .divs _ _ _ => none
  | .remu _ _ _ => none
  | .rems _ _ _ => none
  | .and _ _ _ => none
  | .or _ _ _ => none
  | .xor _ _ _ => none
  | .andn _ _ _ => none
  | .shl _ _ _ => none
  | .shr _ _ _ => none
  | .sha _ _ _ => none
  | .rotl _ _ _ => none
  | .clz _ _ => none
  | .ctz _ _ => none
  | .popc _ _ => none
  | .mins _ _ _ => none
  | .minu _ _ _ => none
  | .maxs _ _ _ => none
  | .maxu _ _ _ => none
  | .slt _ _ _ => none
  | .sltu _ _ _ => none
  | .seq _ _ _ => none
  | .mad _ _ _ _ => none
  | .sel _ _ _ _ => none
  | .bfx _ _ _ _ => none
  | .bfi _ _ _ _ => none
  | .lil _ _ => none
  | .lih _ _ _ => none
  | .tld _ _ _ => some .ldc
  | .tst _ _ _ => some .stc
  | .tldv _ _ _ => some .ldc
  | .tstv _ _ _ => some .stc
  | .addi _ _ _ => none
  | .andi _ _ _ => none
  | .ori _ _ _ => none
  | .xori _ _ _ => none
  | .shli _ _ _ => none
  | .shri _ _ _ => none
  | .shai _ _ _ => none
  | .slti _ _ _ => none
  | .b _ _ _ _ => none
  | .bz _ _ => none
  | .bnz _ _ => none
  | .loop _ _ => none
  | .jmp _ => none
  | .jal _ => none
  | .nop => none
  | .pend => none
  | .eret => none
  | .halt => none
  | .trap _ => none
  | .bkpt _ => none
  | .jr _ => none
  | .jalr _ _ => none
  | .spawn _ _ => some .cpc
  | .take _ _ => some .cpc
  | .tdone _ => some .cpc
  | .rtset _ _ _ => some .cpc
  | .rtclr _ => some .cpc
  | .segld _ _ => some .ldc
  | .segst _ _ => some .stc
  | .gbind _ _ => some .ldc
  | .gstep _ _ => some .cpc
  | .gqry _ _ _ => none
  | .tmap _ _ _ => some .ldc
  | .tqry _ _ => none
  | .evack _ => none
  | .evict _ _ => some .cpc
  | .resume _ _ => none
  | .ctxsv _ _ => some .cpc
  | .ctxld _ _ => some .cpc
  | .scopew _ _ => some .stc
  | .buntw _ _ => some .stc
  | .plotw _ _ => some .stc
  | .pclr _ => none
  | .ld _ _ _ _ _ => some .ldc
  | .ldIndex _ _ _ _ _ _ => some .ldc
  | .ldAcq _ _ _ _ _ => some .ldc
  | .st _ _ _ _ => some .stc
  | .stIndex _ _ _ _ _ => some .stc
  | .stRel _ _ _ _ => some .stc
  | .pfx _ _ _ => none
  | .fill _ _ _ _ _ _ => some .cpc
  | .ldv _ _ _ _ => some .ldc
  | .stv _ _ _ _ => some .stc
  | .ldvs _ _ _ _ => some .ldc
  | .stvs _ _ _ _ => some .stc
  | .ldvx _ _ _ _ => some .ldc
  | .stvx _ _ _ _ => some .stc
  | .vldf _ _ _ _ _ => some .ldc
  | .vldfScales _ _ _ _ => some .ldc
  | .vstf _ _ _ _ _ => some .stc
  | .vstfScales _ _ _ _ => some .stc
  | .aadd _ _ _ _ _ _ => some .ldc
  | .amin _ _ _ _ _ _ => some .ldc
  | .amax _ _ _ _ _ _ => some .ldc
  | .afmax _ _ _ _ _ _ => some .ldc
  | .aand _ _ _ _ _ _ => some .ldc
  | .aor _ _ _ _ _ _ => some .ldc
  | .axor _ _ _ _ _ _ => some .ldc
  | .aswp _ _ _ _ _ _ => some .ldc
  | .acas _ _ _ _ _ _ => some .ldc
  | .fence _ _ _ => none
  | .wait _ _ _ _ => none
  | .cpy _ _ _ _ _ => some .cpc
  | .cpys _ _ _ _ _ => some .cpc
  | .send _ _ _ _ _ _ => some .cpc
  | .sysr _ _ => none
  | .sysw _ _ => none
  | .syswPer _ => none
  | .syswPph _ => none
  | .syswFcsr _ => none
  | .pwr _ _ _ _ _ => some .stc
  | .prd _ _ _ _ _ _ => some .ldc
  | .psame _ _ _ _ _ _ => some .ldc
  | .padd _ _ _ _ _ _ => some .ldc
  | .pmc _ _ _ _ => some .stc
  | .pstamp _ _ _ _ _ => some .ldc
  | .gld _ _ _ _ _ => some .ldc
  | .gst _ _ _ => some .stc
  | .gldv _ _ _ _ _ => some .ldc
  | .vadd _ _ _ _ _ => none
  | .vsub _ _ _ _ _ => none
  | .vmul _ _ _ _ _ => none
  | .vmulhSigned _ _ _ _ _ => none
  | .vmulhUnsigned _ _ _ _ _ => none
  | .vmad _ _ _ _ _ => none
  | .vand _ _ _ _ _ => none
  | .vor _ _ _ _ _ => none
  | .vxor _ _ _ _ _ => none
  | .vshl _ _ _ _ _ => none
  | .vshr _ _ _ _ _ => none
  | .vsha _ _ _ _ _ => none
  | .vminSigned _ _ _ _ _ => none
  | .vminUnsigned _ _ _ _ _ => none
  | .vmaxSigned _ _ _ _ _ => none
  | .vmaxUnsigned _ _ _ _ _ => none
  | .vcmp _ _ _ _ _ => none
  | .vsel _ _ _ _ => none
  | .vmov _ _ _ => none
  | .vabs _ _ _ _ => none
  | .vfsqrt _ _ _ _ => none
  | .vfrcp _ _ _ _ => none
  | .vfrsq _ _ _ _ => none
  | .vfclass _ _ _ _ => none
  | .viota _ _ _ => none
  | .vperm _ _ _ _ _ => none
  | .vrot _ _ _ _ _ => none
  | .vbcast _ _ _ _ => none
  | .vext _ _ _ _ _ => none
  | .vins _ _ _ _ => none
  | .vred _ _ _ _ _ _ => none
  | .vfred _ _ _ _ _ => none
  | .vcompress _ _ _ _ => none
  | .kand _ _ _ => none
  | .kor _ _ _ => none
  | .kxor _ _ _ => none
  | .knot _ _ => none
  | .kpop _ _ => none
  | .vpack _ _ _ _ _ => none
  | .vunpack _ _ _ _ _ => none
  | .vscale _ _ _ _ _ _ => none
  | .vfadd _ _ _ _ _ => none
  | .vfsub _ _ _ _ _ => none
  | .vfmul _ _ _ _ _ => none
  | .vfma _ _ _ _ _ => none
  | .vfms _ _ _ _ _ => none
  | .vfnma _ _ _ _ _ => none
  | .vfdiv _ _ _ _ _ => none
  | .vfmin _ _ _ _ _ => none
  | .vfmax _ _ _ _ _ => none
  | .vfcmp _ _ _ _ _ => none
  | .vfsgn _ _ _ _ _ => none
  | .vcvt _ _ _ _ _ _ => none
  | .vcvti _ _ _ _ _ _ => none
  | .vcvtf _ _ _ _ _ _ => none
  | .fadd _ _ _ _ _ => none
  | .fsub _ _ _ _ _ => none
  | .fmul _ _ _ _ _ => none
  | .fma _ _ _ _ _ => none
  | .fdiv _ _ _ _ _ => none
  | .fsqrt _ _ _ _ => none
  | .fmin _ _ _ _ => none
  | .fmax _ _ _ _ => none
  | .fclass _ _ _ => none
  | .fcmp _ _ _ _ _ => none
  | .fcvt _ _ _ _ _ _ => none
  | .modeM _ _ => none
  | .modeV => none
  | .mop _ _ _ _ _ => some .toc
  | .mopn _ _ _ _ _ => some .toc
  | .mdrain _ _ _ _ => some .toc
  | .mdrainReg _ _ _ _ => some .toc
  | .mscale _ _ => some .toc
  | .mzero => some .toc
  | .mtrn => some .toc
  | .mqry _ => none
  | .regionAdmission _ _ => none
  | .strandStart _ _ => none
  | .boundaryWake _ _ => none
  | .waitRelease _ _ => none
  | .fenceRelease _ _ => none
  | .haltComplete _ _ => none
  | .regionEnd _ => none
  | .quiescenceEvent _ => none
  | .priorityPreemption _ _ _ => none
  | .stealRound _ _ => none
  | .stealGrant _ => none
  | .stealReceipt _ => none
  | .partDepart _ => none
  | .partCarry _ => none
  | .partPerform _ => none
  | .operationComplete _ _ => none
  | .deposit _ => none
  | .pwrRelEntry _ => none
  | .tileOpApply _ _ => none
  | .mdrainApply _ _ => none
  | .copyComplete _ => none
  | .sendComplete _ => none
  | .gstepProcess _ => none
  | .gridPieceDeposit _ => none
  | .mirrorCopy _ => none
  | .pageWalk _ => none
  | .translationDrop _ _ => none
  | .plotCacheFill _ _ _ => none
  | .plotCacheDrop _ _ => none
  | .logMerge _ => none
  | .harvest _ => none
  | .flush _ => none
  | .requestComplete _ => none
  | .eventDeposit _ => none
  | .evictComplete _ _ => none
  | .ctxsvComplete _ => none
  | .ctxldComplete _ => none
  | .crossPanelReply _ _ _ _ _ _ _ => none
  | .requestTimeout _ _ => none
  | .remoteRequest _ _ => none
  | .hostWrite _ _ => none
  | .pacingGrant _ _ _ => none
  | .driftAlarm _ => none
  | .thermalThrottle _ _ => none
  | .droopDetect _ => none
  | .droopRecovery _ => none
  | .budgetThrottle _ => none
  | .turnsChange _ _ => none
  | .drawRefresh _ _ => none
  | .statusBlockRefresh _ => none
  | .quantaSend _ _ _ _ => none
  | .quantaReceipt _ => none
  | .quantaAck _ => none
  | .quantaReturn _ => none
  | .quantaRecall _ _ _ => none
  | .sidebandFailure _ _ => none
  | .correctedError _ _ => none
  | .selfTestResult _ _ _ _ => none
  | .spareCopyEnd _ _ => none
  | .flitTagFailure _ _ => none
  | .panelReset => none
  | .powerRegionEnergise => none
  | .imageCheck _ => none
  | .recoveryImage _ => none
  | .linkAuthentication _ _ _ _ => none
  | .getMeasurements _ => none
  | .inletOvertemp _ => none
  | .localWriteApply _ => none
  | .driftChange _ _ => none
  | .sidebandRestore _ _ => none
  | .faultDomainTakedown _ => none
  | .regionRollback _ => none
  | .turnTableChange _ _ => none
  | .dccRestart _ => none

end Sys2Proof.Machine
end

