-- ==== Sys2Proof/Machine/Issue.lean ====
section
/-!
DEFINITION. Issue (R56, R67 to R72, R99): which strand of a tile issues, the fetch of its bundle, the checks in their
order, and the performance of a lone word or a pair through exec.
-/
namespace Sys2Proof.Machine

/-! ## Fetch -/

/-- The bundle that holds a position of a strand's text, read from its tile's text window (R67, R98). -/
def State.bundleAt (s : State) (key pos : Nat) : BitVec 64 :=
  let r := s.region (s.strand key).rcbp.toNat
  BitVec.ofNat 64 (s.nat (scratchKey (key / 16) (r.image.textOff + pos / 8 * 8)) 8)

/-- The instruction of a word for a strand: one that decodes, stands lone where it must, and names v registers below VLIM
(R51, R72 step 3, R92). -/
def Strand.instr? (x : Strand) (w : IWord) : Option Instr :=
  match decodeWord w with
  | none => none
  | some i => if (mustBeLone i && !wordLone w) || (vNames i).any (fun n => decide (x.vlim.toNat ≤ n)) then none else some i

/-- Both words of a pair are instructions that name a common destination (R69, R72 step 2). -/
def Strand.sameDest (x : Strand) (w0 w1 : IWord) : Bool :=
  match x.instr? w0, x.instr? w1 with
  | some i, some j => (dests x i).any (fun d => (dests x j).contains d)
  | _, _ => false

/-! ## One word -/

/-- A tensor access of one element goes to another panel (R308). -/
def State.tensorCross (s : State) (c : Word) (g : BitVec 3) (store : Bool) : Bool :=
  match s.translate s.pt s.me.rcbp.toNat s.plotCount (tensorHeader (s.src.seg g)) c.toNat (oneElem c 2) store with
  | .ok us => us.any (fun u => shardChip u.sh != s.chip.toNat)
  | _ => false
/-- A pennant word that no counter counts: one on the tile's own pennants, whose PWR looks for itself whether it is held back,
or one to another panel (R183). -/
def State.penUncounted (s : State) (x : BitVec 1) (t : BitVec 6) (o : BitVec 2) : Bool :=
  match s.penTarget x t o with
  | .ok (.here _) => true
  | .ok (.cross _ _ _ _ _) => true
  | _ => false
/-- A word of a counted class whose operation is not counted (R183, R253, R308). -/
def State.uncounted (s : State) (i : Instr) : Bool :=
  match i with
  | .ld _ b _ _ _ => s.segCross (s.rs b)
  | .ldIndex _ b _ _ _ _ => s.segCross (s.rs b)
  | .st _ b _ _ => s.segCross (s.rs b)
  | .stIndex _ b _ _ _ => s.segCross (s.rs b)
  | .aadd _ b _ _ _ _ => s.segCross (s.rs b)
  | .amin _ b _ _ _ _ => s.segCross (s.rs b)
  | .amax _ b _ _ _ _ => s.segCross (s.rs b)
  | .afmax _ b _ _ _ _ => s.segCross (s.rs b)
  | .aand _ b _ _ _ _ => s.segCross (s.rs b)
  | .aor _ b _ _ _ _ => s.segCross (s.rs b)
  | .axor _ b _ _ _ _ => s.segCross (s.rs b)
  | .aswp _ b _ _ _ _ => s.segCross (s.rs b)
  | .acas _ b _ _ _ _ => s.segCross (s.rs b)
  | .cpy d a _ _ _ => s.segCross (s.rs a) || s.segCross (s.rs d)
  | .tld _ c g => s.tensorCross (s.rs c) g false
  | .tst _ c g => s.tensorCross (s.rs c) g true
  | .pwr x _ t o _ => s.penUncounted x t o
  | .prd x _ _ t o _ => s.penUncounted x t o
  | .psame x _ _ t o _ => s.penUncounted x t o
  | .padd x _ _ t o _ => s.penUncounted x t o
  | .pstamp x _ t o _ => s.penUncounted x t o
  | _ => false
/-- The strand is not ready for a counted word whose counter is full, whatever else the word would do (R223, log 25). -/
def State.counterFull (s : State) (i : Instr) : Bool :=
  match countClass i with
  | some c => s.full c && !s.uncounted i
  | none => false

/-- The unit of a tile that holds a register, by its number in XVAL (R206, R379): the vector file, or the core. -/
def regUnit (pt r : Nat) : FaultUnit := .tileSram (pt % 144) (if r < 0x100 then 16 else 18)
/-- A word that is an instruction: an uncorrectable register that it reads traps (R206), else it is performed. k0 is a constant and
no register (R142). -/
def State.runWord (s : State) (i : Instr) : Out :=
  match s.iss.bad with
  | none => exec i s
  | some r =>
    if r != 0x100 && (reads i).contains r then
      .next ((s.trap causeData (word r)).tellError (s.pt / 144) (regUnit s.pt r) s.me.rcbp.toNat causeData.toNat)
    else exec i s

/-- A lone word (R70): its encoding, its counter, then the word itself. -/
def State.loneWord (s : State) (w : IWord) : Out :=
  match s.me.instr? w with
  | none => .next (s.trap causeEncoding (w.setWidth 64))
  | some i => if s.counterFull i then .next s.block else s.runWord i

/-- Operations that complete between the reads and the writes of a bundle (R96, R141), and the v registers that they
write as its words read them. -/
def State.completeAll (s : State) : List Nat → State
  | [] => s
  | o :: r => (match exec (.operationComplete o none) s with | .next t => t | _ => s).completeAll r
def endsInV (f : Ending) : List Nat :=
  match f with
  | .vec v => [v.toNat] | .conv v _ _ _ _ => [v.toNat] | .cells v _ _ ok => if ok then [v.toNat] else [] | .run v _ _ => [v.toNat] | _ => []
def State.oldVs (s : State) (key : Nat) (early : List Nat) : List (Nat × VReg) :=
  (s.ops.filter (fun o => early.contains o.oid && o.party == .strand key && s.mayComplete o)).flatMap (fun o =>
    (endsInV o.fin).map (fun v => (v, s.vget key v)))

/-- The state in which a word runs. -/
def State.atWord (s : State) (i : Issue) (early : List Nat) : State :=
  if early.isEmpty then { s with iss := i }
  else
    let key := i.pt * 16 + i.slot
    { s.completeAll early with iss := { i with old := some (s.strand key), oldV := s.oldVs key early } }

/-! ## Pairs (R69) -/

/-- A pair's words one after the other: i performed, then j, both reading the strand as the bundle found it. -/
def State.commit (s : State) (x : Strand) (i j : Instr) : Out :=
  match exec i s with
  | .next t => exec j { t with iss := { s.iss with old := some x, next := t.me.pc } }
  | r => r

/-- The two words of a pair that is not illegal: the traps of word 0, then those of word 1, then both (R69, R72). A WAIT
counts the operation of its partner (R225): the partner then goes first. -/
def State.pairWords (s : State) (i j : Instr) : Out :=
  let x := s.src
  match s.runWord i, s.runWord j with
  | .next t, .next u =>
    -- a plot entry that either word waits for is still wanted (R304)
    if t.iss.res = .blocked ∨ u.iss.res = .blocked then
      .next { s with iss := { s.iss with res := .blocked, want := t.iss.want.or u.iss.want } }
    else if u.iss.res = .trapped ∧ t.iss.res ≠ .trapped then .next u
    else match i with
      | .wait _ _ _ _ =>
        (match s.commit x j i with
          | .next v => if v.iss.res = .trapped then .next t else .next v
          | r => r)
      | _ => if t.iss.res = .trapped then .next t else s.commit x i j
  | .next _, r => r
  | r, _ => r

/-- A pair (R72 steps 2 to 4). -/
def State.pair (s : State) (w0 w1 : IWord) : Out :=
  let x := s.me
  if x.sameDest w0 w1 then .next (s.trap causeBundle s.iss.bundle)
  else match x.instr? w0, x.instr? w1 with
    | none, _ => .next (s.trap causeEncoding (w0.setWidth 64))
    | some _, none => .next (s.trap causeEncoding (w1.setWidth 64))
    | some i, some j => if s.counterFull i || s.counterFull j then .next s.block else s.pairWords i j

/-! ## A strand's turn -/

/-- The odd position of a restored context has trapped (R71, R97, log 27). -/
def State.evenPc (s : State) (key : Nat) : State := s.modStrand key (fun x => { x with oddPc := false })
/-- What the strand issues at its position: the position (R99), the bundle (R68, R71), the words. -/
def State.attempt (s : State) (pt slot lag : Nat) (bad : Option Nat) (early : List Nat) (fetch : Bool) : Out :=
  let key := pt * 16 + slot
  let x := s.strand key
  let pos := x.pc.toNat
  let base := pos / 8 * 8
  let b := s.bundleAt key pos
  let w0 := bundleWord0 b
  let w1 := bundleWord1 b
  let i : Issue := { pt := pt, slot := slot, pos := x.pc, base := word base, next := word (base + 8), bundle := b, word := w0,
                     lag := lag, bad := bad, fetch := fetch }
  let t := s.atWord i early
  if (s.region x.rcbp.toNat).textLen ≤ pos then .next ((t.trapWith causeLimit x.pc x.pc).evenPc key)
  else if x.oddPc || pos % 4 != 0 then .next ((t.trap causeBundle b).evenPc key)
  else if pos % 8 = 4 then
    (if wordLone w0 && wordLone w1 then State.loneWord { t with iss := { t.iss with word := w1 } } w1
     else .next (t.trap causeBundle b))
  else if wordLone w0 && wordLone w1 then State.loneWord { t with iss := { t.iss with next := word (base + 4) } } w0
  else if wordLone w0 || wordLone w1 || wordIsA w0 || !wordIsA w1 then .next (t.trap causeBundle b)
  else State.pair { t with iss := { t.iss with paired := true } } w0 w1

/-- The strand is Running, not released in this cycle, and 8 cycles have passed since its last issue (R56, R224). -/
def State.rested (s : State) (pt slot : Nat) : Bool :=
  let x := s.strand (pt * 16 + slot)
  x.st == .running && x.freed != some (s.cycle pt) && (match x.last with | none => true | some c => decide (c + 8 ≤ s.cycle pt))

/-- The strand is ready: nothing holds back its next word (R56, R223, R344, R365). -/
def State.ready (s : State) (pt slot : Nat) : Bool :=
  s.rested pt slot && (match s.attempt pt slot 0 none [] false with | .next t => t.iss.res != .blocked | _ => true)
/-- The plot entry that a rested strand waits for (R304). -/
def State.plotWanted (s : State) (pt slot : Nat) : Option Nat :=
  if s.rested pt slot then (match s.attempt pt slot 0 none [] false with | .next t => t.iss.want | _ => none) else none

/-- The tile may issue in its present cycle: an enabled turn in which nothing has issued, once the strands that start in it
have started and E has fallen (R56, R57, R231, R232). -/
def State.turnOpen (s : State) (pt : Nat) : Bool :=
  let t := s.tile pt
  let c := s.cycle pt
  s.bootPhase == 7 && turnEnabled t.turns (c % 16) && t.lastIssue != some c && !(List.range 16).any (s.startLate pt) && !s.fallDue pt

/-- The first ready strand after the one that last issued (R56). -/
def State.nextSlot (s : State) (pt : Nat) : Option Nat :=
  ((List.range 16).map (fun i => ((s.tile pt).lastSlot + 1 + i) % 16)).find? (s.ready pt)

/-- The turn is used: the strand and the tile remember it. -/
def State.endIssue (s : State) (pt slot : Nat) (t : State) : State :=
  let key := pt * 16 + slot
  let c := s.cycle pt
  let u := (t.modStrand key (fun x => { x with last := some c })).modTile pt
    (fun y => { y with lastSlot := slot, lastIssue := some c })
  { u.pruneGates key with iss := {} }

/-- One issue of a tile. The agenda names the strand; another choice than R56's is none of the machine's. -/
def State.issueTurn (s : State) (pt slot lag : Nat) (bad : Option Nat) (early : List Nat) (fetch : Bool) : Out :=
  if s.turnOpen pt && s.nextSlot pt == some slot then
    match s.attempt pt slot lag bad early fetch with
    | .next t => .next (if t.iss.res = .blocked then s else s.endIssue pt slot t)
    | r => r
  else .next s

end Sys2Proof.Machine
end

