-- ==== Sys2Proof/Machine/Sched.lean ====
section
/-!
DEFINITION. The order of steps (R22, R56, R65, R337). The agenda of State names the choices; where it is empty the machine
takes the first step it finds, and that order is the model's (log 19). One nominal cycle passes in a step of its own, and no
tile passes a cycle whose issue, wake, start, local write or held-back release is still to come.
-/
namespace Sys2Proof.Machine

/-! ## The passing of a cycle -/

/-- Tiles that hold anything, and those of dies under a budget demand, which E follows with or without a strand (R232, R236). -/
def State.knownTiles (s : State) : List Nat :=
  (s.tiles.map Prod.fst ++ s.strands.map (fun (e : Nat × Strand) => e.1 / 16) ++
    s.dies.flatMap (fun (e : Nat × Die) => if e.2.budget < 16 then (List.range 144).map (fun i => e.1 * 144 + i) else [])).eraseDups

/-- A strand that its tile may not leave as it is: Idle past its boundary, or Held in a hold that is met (R65, R224, R347). -/
def State.strandLate (s : State) (pt slot : Nat) : Bool :=
  let x := s.strand (pt * 16 + slot)
  match x.st, x.hold with
  | .idle, _ => decide (boundary x x.pidx.toNat < (s.cycle pt : Nat))
  | .held, .wait l _ _ => x.meets l
  | .held, .halt _ => x.meets 0
  | .held, .fence gs _ _ => !gs.any s.gateWaits
  | _, _ => false
/-- The tile may pass its present cycle: nothing of the cycle is still to come. -/
def State.mayPass (s : State) (pt : Nat) : Bool :=
  !(s.turnOpen pt && (s.nextSlot pt).isSome) && (s.localDue pt).isNone &&
    !(List.range 16).any (fun i => s.strandLate pt i || s.startLate pt i) && !s.fallDue pt &&
    !s.heldRels.any (fun r => r.pt == pt && r.openAt.isSome) && !s.regions.any (fun r => r.qWait.contains pt && s.quietOpen pt)

def State.addSkew (s : State) (pts : List Nat) (d : Int) : State :=
  pts.foldl (fun (t : State) pt => t.modTile pt (fun x => { x with skew := x.skew + d })) s
/-- The end of a cycle on a tile: a held-back release whose gates stand open enters the pennant file in the next one
(R183), and RTC is noted (R228). -/
def State.leaveCycle (s : State) (pt : Nat) : State :=
  let t := { s with heldRels := s.heldRels.map (fun (r : HeldRel) =>
    if r.pt == pt && r.openAt.isNone && !r.gates.any (fun g => s.gateClosed g (.pens pt)) then { r with openAt := some (s.cycle pt) } else r) }
  t.modTile pt (fun x => { x with rtcPast := (s.rtc pt :: x.rtcPast).take 8 })

/-- Where a tile's oscillator may stand after a nominal cycle, in millionths of one: its frequency lies within d ppm of the
nominal (R22). A tile whose own cycle does not end with it falls behind; one whose phase can pass a whole cycle may end one
more (log 33). -/
def Tile.tickPhase (slow : Bool) (t : Tile) : Tile :=
  let d := t.drift.toNat
  { t with phase := if slow then (t.phase.1 + 1000000 - d, 999999) else (t.phase.1 - d, min t.phase.2 999999 + d) }
def Tile.mayLag (t : Tile) : Bool := decide (t.phase.1 < t.drift.toNat)
def Tile.mayGain (t : Tile) : Bool := decide (1000000 ≤ t.phase.2)
/-- RTC of every tile lies within 16 ns of panel reference time and has not stepped back (R23); on a tile that begins a cycle
it has risen since 8 cycles ago (R228). -/
def State.rtcOk (old s : State) (moving : List Nat) : Bool :=
  s.tiles.all (fun (e : Nat × Tile) => decide (e.2.rtcOff ≤ 16 ∧ old.rtc e.1 ≤ s.rtc e.1)) &&
    moving.all (fun pt => ((s.tile pt).rtcPast[7]?).all (fun v => decide (v < s.rtc pt)))
/-- C0 of the contexts on a tile that wait for their NBRTC, as its new cycle begins (R219). -/
def State.settleDues (s : State) (moving : List Nat) : State :=
  { s with
    strands := s.strands.map (fun (e : Nat × Strand) => if moving.contains (e.1 / 16) then (e.1, s.settleDue (e.1 / 16) e.2) else e)
    tiles := s.tiles.map (fun (e : Nat × Tile) => if moving.contains e.1 then
      (e.1, { e.2 with cache := e.2.cache.map (fun (c : Nat × CacheEntry) => (c.1, { c.2 with strand := s.settleDue e.1 c.2.strand })) })
      else e) }
/-- A power region whose droop demands must have fallen by now (R232). -/
def State.droopLate (s : State) : Bool :=
  let next := (s.ticks + 1) * 10 / 11
  s.rows.any (fun (e : Nat × PowerRegion) => e.2.fallBy.any (fun t => decide (t < next)))
/-- The demand that the end of a cycle leaves a tile with (R232). -/
def State.noteDemand (s : State) (pt : Nat) : State := s.modTile pt (fun t => { t with seen := s.turnDemand pt })
/-- The tile's clock, where its skew or its offset of RTC has changed by the start of its new cycle (R219). -/
def State.noteClock (s : State) (pt : Nat) : State :=
  s.modTile pt (fun t =>
    if (t.clock.head?.map Prod.snd).getD (0, 0) = (t.skew, t.rtcOff) then t else { t with clock := (s.cycle pt, t.skew, t.rtcOff) :: t.clock })

def State.pass (s : State) (tick : Bool) (slow fast : List Nat) (offs : List (Nat × Nat)) (temps : List (Nat × BitVec 16)) : State :=
  let moving := s.knownTiles.filter (fun p => if tick then !slow.contains p else fast.contains p)
  if !moving.all s.mayPass || !(if tick then slow.all (fun p => (s.tile p).mayLag) else fast.all (fun p => (s.tile p).mayGain)) then s
  else
    let s0 := moving.foldl State.leaveCycle s
    let s1 := if tick then
        ({ s0 with ticks := s0.ticks + 1
                   tiles := s0.tiles.map (fun (e : Nat × Tile) => (e.1, e.2.tickPhase (slow.contains e.1))) } : State).addSkew slow.eraseDups (-1)
      else fast.eraseDups.foldl (fun (t : State) pt => t.modTile pt (fun x =>
        { x with skew := x.skew + 1, phase := (x.phase.1 - 1000000, x.phase.2 - 1000000) })) s0
    let s2 := offs.foldl (fun (t : State) e => t.modTile e.1 (fun x => { x with rtcOff := e.2 })) s1
    let s3 := (temps.foldl (fun (t : State) e => t.modTile e.1 (fun x => { x with temp := e.2 })) s2).throttles
    let s4 := (moving.foldl State.noteClock (moving.foldl State.noteDemand s3)).settleDues moving
    if s.rtcOk s4 moving && !(tick && s.droopLate) then s4 else s

/-! ## One turn -/

def State.runTurn (s : State) (t : Turn) : Out :=
  match t with
  | .issue pt slot lag bad early fetch => s.issueTurn pt slot lag bad early fetch
  | .event i => if isWord i then .next s else exec i s
  | .pass tick slow fast offs temps => .next (s.pass tick slow fast offs temps)
  | .selfTest bad grade pts fp => .next (s.selfTestPhase bad grade pts fp)
  | .trim d => .next (s.trimPhase d)
  | .threshold n => .next (s.setThreshold n)
  | .policy n => .next (s.setPolicy n)
  | .faultPolicy domain n => .next (s.setFaultPolicy domain n)
  | .droopFall row => .next (s.droopFallStep row)
  | .port n down => .next (s.setPort n down)
  | .buddy pt entry die => .next (s.nameBuddy pt entry die)
  | .answer n => .next (s.sendAnswer n)
  | .configure chip dmap csl tmo threshold => .next (s.configurePhase chip dmap csl tmo threshold)

/-! ## The choice where the agenda is empty -/

/-- Steps that parts and operations may take. -/
def State.trafficSteps (s : State) : List (State → Out) :=
  s.posts.map (fun p => execPartDepart p.pid) ++ (s.posts.filter (fun p => p.home == .virt)).map (fun p => execPageWalk p.pid) ++
  s.chan.map (fun p => execPartCarry p.pid) ++
  (s.chan.filterMap (fun p => (needsGrant p).map (fun d => execPacingGrant (p.src / 144) d 1))) ++
  (s.pieces.filterMap (fun p => (s.pieceDie p).map (fun d => execPacingGrant p.src d 1))) ++
  (s.posts.flatMap (fun p => (s.walksOf p).map (fun d => execPacingGrant (p.src / 144) d 1))) ++
  (s.pieces.flatMap (fun p => (s.pieceWalks p).map (fun d => execPacingGrant (p.pt / 144) d 1))) ++
  (s.ops.flatMap (fun o => (s.stepWalks o).map (fun d => execPacingGrant (opTile o / 144) d 1))) ++
  (s.jobs.filterMap (fun j => (s.jobDie j).map (fun d => execPacingGrant (j.pt / 144) d 1))) ++
  (s.tiles.filterMap (fun (e : Nat × Tile) => (s.mergeDie e.1).map (fun d => execPacingGrant (e.1 / 144) d 1))) ++
  s.arrived.map (fun p => execPartPerform p.pid) ++
  s.ops.flatMap (fun o => match o.fin with
    | .copy => [execCopyComplete o.oid] | .send _ _ _ => [execSendComplete o.oid] | .gstep _ _ => [execGstepProcess o.oid]
    | .ctxsv _ => [execCtxsvComplete o.oid] | .ctxld _ => [execCtxldComplete o.oid] | .evict _ _ => []
    | _ => [execOperationComplete o.oid none]) ++
  s.ops.filterMap (fun o => if o.pubPid.isSome then some (execOperationComplete o.oid none) else none) ++
  s.locals.map (fun l => execLocalWriteApply l.pt) ++ s.deposits.map (fun d => execDeposit d.pt) ++
  s.heldRels.map (fun r => execPwrRelEntry r.oid) ++
  s.tileOps.flatMap (fun t => [execTileOpApply (t.key / 16) (t.key % 16), execMdrainApply (t.key / 16) (t.key % 16)]) ++
  s.pieces.map (fun p => execGridPieceDeposit p.id) ++ s.jobs.map (fun j => execMirrorCopy j.id) ++
  (List.range s.answers.length).map (fun n => fun (t : State) => .next (t.sendAnswer n))
/-- Steps that strands and their tiles may take. -/
def State.strandSteps (s : State) : List (State → Out) :=
  s.strands.flatMap (fun (e : Nat × Strand) =>
    let pt := e.1 / 16
    let slot := e.1 % 16
    match e.2.st with
    | .armed => [execStrandStart pt slot] | .idle => [execBoundaryWake pt slot]
    | .held => [execWaitRelease pt slot, execFenceRelease pt slot, execHaltComplete pt slot]
    | _ => []) ++
  s.tiles.flatMap (fun (e : Nat × Tile) =>
    ((e.2.cache.filter (fun c => c.2.st == .loading)).map (fun c => execEvictComplete e.1 c.2.slot)) ++
    ((e.2.plots.findIdx? Plot.old).toList.map (fun i => execPlotCacheDrop e.1 i)) ++
    (if e.2.events.isEmpty then [] else [execEventDeposit e.1]) ++
    ((List.range 64).filter (fun i => (SMap.get e.2.tags i {}).req.isSome)).map (fun i => execRequestTimeout e.1 i))
/-- Steps that the DCCs, schedulers and throttles may take. -/
def State.systemSteps (s : State) : List (State → Out) :=
  s.regions.flatMap (fun r => [execRegionEnd r.rcb, execQuiescenceEvent r.rcb] ++
    r.tiles.flatMap (fun pt => (List.range 16).filterMap (fun i =>
      if (s.strand (pt * 16 + i)).rcbp == word r.rcb then (s.plotWanted pt i).map (execPlotCacheFill pt r.rcb) else none))) ++
  s.tiles.flatMap (fun (e : Nat × Tile) => [execLogMerge e.1, execHarvest e.1, execFlush e.1, execRequestComplete e.1, execDriftAlarm e.1,
    execTurnsChange e.1 0]) ++
  s.dies.flatMap (fun (e : Nat × Die) => e.2.sched.empties.map (fun (q : Nat × Nat) => execStealRound e.1 q.1)) ++
  s.rows.map (fun (e : Nat × PowerRegion) => fun (t : State) => .next (t.droopFallStep e.1)) ++
  s.rows.map (fun (e : Nat × PowerRegion) => execDroopRecovery e.1) ++
  s.steals.flatMap (fun x => [execStealGrant x.id, execStealReceipt x.id]) ++
  s.transfers.flatMap (fun t => [execQuantaReceipt t.id, execQuantaAck t.id, execQuantaReturn t.id])
/-- The state after a step that changes something. -/
def State.useful (s : State) (f : State → Out) : Option State :=
  match f s with | .next t => if t = s then none else some t | _ => none

/-- The next link end that has not run its authentication. -/
def State.untried (s : State) : Option (Nat × Dir) :=
  (List.range 128).findSome? (fun d => ([Dir.n, .e, .s, .w].find? (fun dir =>
    (dieAt d dir).isSome && !(s.die d).linkTried.getD (dirNo dir) false)).map (fun dir => (d, dir)))
/-- The phases of boot with no unit faulty, positions (3, 7) and (4, 8) spare (R374, R379). -/
def State.bootStep (s : State) : Out :=
  match s.bootPhase with
  | 0 => .next ((s.useful execPowerRegionEnergise).getD (s.pass true [] [] [] []))
  | 1 => execImageCheck ((findFrom (fun d => !(s.die d).digestOk) 0 128).getD 0) s
  | 2 => .next (s.selfTestPhase [] 0 [] [])
  | 3 => .next (s.trimPhase [])
  | 4 => (match s.untried with | some (d, dir) => execLinkAuthentication d dir true s.nextId s | none => .next s)
  | 5 => .next (s.configurePhase s.chip.toNat [(59, 59, 1), (68, 68, 1)] [] 2000000 95)
  | _ => .next (s.pass true [] [] [] [])
/-- The tile and slot that may issue now. -/
def State.nextIssue (s : State) : Option (Nat × Nat) :=
  s.knownTiles.findSome? (fun pt => if s.turnOpen pt then (s.nextSlot pt).map (fun i => (pt, i)) else none)
/-- Issue first, then the first step that changes something, then the next cycle. -/
def State.defaultStep (s : State) : Out :=
  if s.bootPhase ≠ 7 then s.bootStep
  else match s.nextIssue with
    | some (pt, slot) => s.issueTurn pt slot 0 none [] false
    | none => match (s.trafficSteps ++ s.strandSteps ++ s.systemSteps).findSome? s.useful with
      | some t => .next t
      | none => .next (s.pass true [] [] [] [])

/-- The next turn: the head of the agenda, which leaves it, or the default. -/
def State.turn (s : State) : Out :=
  match s.agenda with
  | t :: r => State.runTurn { s with agenda := r } t
  | [] => s.defaultStep

/-! ## A bundle placed for the next step -/

/-- The bundle that issues a word: an A-class word, and a C-class word with L = 0, beside a word without effect (R68, R69):
KOR k0, k0, k0 as word 1, NOP as word 0; a lone word first, before NOP. -/
def bundleOf (w : Nat) : Nat :=
  if bitOf 30 w then w + 0x56000000 * 2 ^ 32
  else if bitOf 31 w then 0x16000000 + w * 2 ^ 32
  else w + 0x9C000001 * 2 ^ 32
/-- The state in which the next step issues a word: the panel runs, strand 0 of tile 0 is Running at position 0 of a region of
one bundle, and the agenda issues it (log 20). -/
def State.placed (s : State) (w : Nat) : State :=
  let t := { s with bootPhase := 7, agenda := [Turn.issue 0 0 0 none [] false], iss := {} }
  let x := { s.strand 0 with st := .running, pc := 0, rcbp := 0, last := none, vbase := 0, vlim := 128, hold := .none }
  let t1 := t.setStrand 0 { x with gates := [], relieved := [], freed := none, oddPc := false, relAt := none }
  let t2 := t1.modTile 0 (fun y => { y with turns := 16, seen := 16, lastSlot := 15, lastIssue := none, penCycle := none, penOld := [] })
  let r : Region := { rcb := 0, st := .running, textLen := 8, tiles := [0] }
  ({ t2 with regions := r :: t2.regions.filter (fun q => q.rcb != 0) }).setNat (scratchKey 0 0) 8 (bundleOf w)

end Sys2Proof.Machine
end

