-- ==== Sys2Proof/Machine/Step.lean ====
section
/-!
DEFINITION. One step of the panel: one turn of its agenda.
-/
namespace Sys2Proof.Machine

def step (s : State) : Host.Outcome State Fault Refusal := s.turn

/-- The state whose next step fetches and runs the word w of 32 bits (log 20). -/
def State.withFetchWord (s : State) (_nbits w : Nat) : State := s.placed (w % 2 ^ 32)

end Sys2Proof.Machine
end

