-- ==== Sys2Proof/Safety.lean ====
section
/-!
DEFINITION. What a safe run is, the invariant that states keep, and the frames that statements use: what a word or an event
writes, with everything else of the panel as it was.
-/
namespace Sys2Proof.Safety

open Sys2Proof.Machine

/-- The step goes on. -/
def goesOn (s : State) : Prop := ∃ t, step s = .next t

/-- Memory is in its canonical form: equal memories are equal data. -/
def Inv (s : State) : Prop := Memory.wf s.mem = true

/-! ## Frames -/

/-- Every byte of memory reads as before. -/
def MemKept (s t : State) : Prop := ∀ a, memGet t.mem a = memGet s.mem a
/-- Every byte of memory outside the n bytes from k up reads as before. -/
def MemKeptBut (s t : State) (k n : Nat) : Prop := ∀ a, (a < k ∨ k + n ≤ a) → memGet t.mem a = memGet s.mem a
/-- Every strand but one is as before. -/
def StrandsKeptBut (s t : State) (key : Nat) : Prop := ∀ k, k ≠ key → t.strand k = s.strand k

/-- A word is performed: the issuing strand becomes x, and nothing else of the panel changes. -/
def Performed (s t : State) (x : Strand) : Prop :=
  t.strand s.key = x ∧ StrandsKeptBut s t s.key ∧ MemKept s t ∧
  t = { s with strands := t.strands, iss := { s.iss with res := .done } }

/-- A word writes v to s d, where d is not 0 (R94), and goes on at pc. -/
def WritesReg (s t : State) (d : BitVec 5) (v pc : Word) : Prop :=
  ∃ x, Performed s t x ∧ x = { s.me with s := x.s, pc := pc } ∧
    ∀ r, x.reg r = if r = 0 then 0 else if r = d then v else s.me.reg r
/-- A word writes v to s e and then w to s f. -/
def WritesRegs (s t : State) (e f : BitVec 5) (v w pc : Word) : Prop :=
  ∃ x, Performed s t x ∧ x = { s.me with s := x.s, pc := pc } ∧
    ∀ r, x.reg r = if r = 0 then 0 else if r = f then w else if r = e then v else s.me.reg r
/-- A word writes v to k d, where d is not 0 (R142). -/
def WritesMask (s t : State) (d : BitVec 3) (v : Word) : Prop :=
  ∃ x, Performed s t x ∧ x = { s.me with k := x.k, pc := s.iss.next } ∧
    ∀ r, x.mask r = if r = 0 then BitVec.allOnes 64 else if r = d then v else s.me.mask r
/-- A word changes nothing but the position, which becomes pc. -/
def Moves (s t : State) (pc : Word) : Prop := Performed s t { s.me with pc := pc }

/-- A word raises flags f and writes v to s d. -/
def WritesFlagged (s t : State) (d : BitVec 5) (v : Word) (f : Flags) : Prop :=
  ∃ x, Performed s t x ∧ x = { s.me with s := x.s, fcsr := s.me.fcsr ||| f.setWidth 64, pc := s.iss.next } ∧
    ∀ r, x.reg r = if r = 0 then 0 else if r = d then v else s.me.reg r

/-- A strand that has passed a WAIT with these limits of LDC, STC and TOC, u of its tile operations not yet applied: the flags of
the operations that they cover are no longer such as a SYSW of FCSR keeps (R132, log 106). -/
def passed (x : Strand) (u : Nat) (l c o : BitVec 6) : Strand :=
  { x with lateLd := if l = 0 then 0 else x.lateLd, lateSt := if c = 0 then 0 else x.lateSt
           lateTo := if o = 63 then x.lateTo else x.lateTo.take (o.toNat - u) }
/-- Register v of the issuing strand as a write of some of its lanes finds it: where v lies in the grid's block, as the tile
operations applied before the write leave it (R161), else as it stood when the word read its sources (R141, log 81). -/
def heldV (s : State) (v : BitVec 7) : VReg :=
  match s.iss.oldV.lookup v.toNat with
  | some x => x
  | none => (if s.me.inBlock v.toNat then s.lagged else s).vget s.key v.toNat
/-- A word raises flags f and writes x to register v of its strand. Tile operations that apply between its reads and its write
come first (R141, R161); where none does, `s.lagged` is s. -/
def WritesV (s t : State) (v : BitVec 7) (x : VReg) (f : Flags) : Prop :=
  let u := s.lagged
  t.vget s.key v.toNat = x ∧ (∀ e, e ≠ vIndex s.key (u.strand s.key) v.toNat → SMap.get t.vregs e 0 = SMap.get u.vregs e 0) ∧
  t.strand s.key = { u.strand s.key with fcsr := (u.strand s.key).fcsr ||| f.setWidth 64, pc := s.iss.next } ∧
  StrandsKeptBut u t s.key ∧ MemKept s t ∧
  t = { u with strands := t.strands, vregs := t.vregs, iss := { s.iss with res := .done } }
/-- Lanes of n bits of register v: lane i is f i where it is given, else what the register held. -/
def WritesLanes (s t : State) (v : BitVec 7) (n : Nat) (f : Nat → Option Nat) (fl : Flags) : Prop :=
  ∃ x, WritesV s t v x fl ∧ ∀ i, i < 512 / n → lane n i x.toNat = (f i).getD (lane n i (heldV s v).toNat) % 2 ^ n

/-- The registers of a strand as before: all of it but the position, the counters of R220, the gates on its later accesses
and its quiet count. -/
def RegsKept (x y : Strand) : Prop :=
  y = { x with pc := y.pc, ldc := y.ldc, stc := y.stc, cpc := y.cpc, toc := y.toc, gates := y.gates, quiet := y.quiet, busy := y.busy, busyTake := y.busyTake }

/-- The word issues one operation of class c that completes as `fin` says, with parts of these homes, acts and gates, and
goes on. Its parts are performed later (R337): no register and no byte of memory changes now. -/
def Issues (s t : State) (c : Option Cls) (fin : Ending) (parts : List (Home × Act × List Gate)) : Prop :=
  let y := t.strand s.key
  RegsKept s.me y ∧ y.pc = s.iss.next ∧ (∀ k, y.count k = s.me.count k + (if c = some k then 1 else 0)) ∧
  StrandsKeptBut s t s.key ∧ MemKept s t ∧
  (∃ o q, t.ops = s.ops ++ [o] ∧ o.oid = s.nextId ∧ o.party = .strand s.key ∧ o.rcb = s.me.rcbp.toNat ∧ o.cls = c ∧ o.fin = fin ∧
    t.posts = s.posts ++ q ∧ q.map (fun p => (p.home, p.act, p.gates)) = parts ∧ ∀ p ∈ q, p.oid = o.oid ∧ p.src = s.pt) ∧
  (t.regions = s.regions ∨ t.regions = (s.rearm s.key).regions) ∧
  t = { s with strands := t.strands, regions := t.regions, ops := t.ops, posts := t.posts, nextId := t.nextId,
               iss := { s.iss with res := .done } }

/-- The word is sent to another panel under a free tag of the tile: one message leaves after the parts that read its bytes,
and the tag holds a request that waits for its reply (R253, R365). No counter rises. -/
def Sends (s t : State) (chip : Nat) (reads : List (Home × Act)) : Prop :=
  let y := t.strand s.key
  RegsKept s.me y ∧ y.pc = s.iss.next ∧ (∀ k, y.count k = s.me.count k) ∧ StrandsKeptBut s t s.key ∧ MemKept s t ∧
  (∃ p q i m r, s.freeTag = some i ∧ t.posts = s.posts ++ q ++ [p] ∧ q.map (fun p => (p.home, p.act)) = reads ∧ p.home = .cross ∧
    p.act = .message ([1, chip, s.pt, i, (SMap.get (s.tile s.pt).tags i {}).gen.toNat] ++ m) ∧
    t.tiles = (s.modTile s.pt (fun y => { y with tags := SMap.put y.tags i { SMap.get y.tags i {} with req := some r } })).tiles ∧
    r.chip = chip ∧ r.slot = s.iss.slot ∧ r.issued = s.refNs) ∧
  (t.regions = s.regions ∨ t.regions = (s.rearm s.key).regions) ∧
  (t.ops = s.ops ∨ ∃ o, t.ops = s.ops ++ [o] ∧ o.cls = none ∧ o.party = .strand s.key) ∧
  t = { s with strands := t.strands, regions := t.regions, tiles := t.tiles, ops := t.ops, posts := t.posts, nextId := t.nextId,
               iss := { s.iss with res := .done } }

/-- The word issues a write of a local pennant, which lands at the end of the second cycle from now (R181); no pennant changes
yet. -/
def WritesLocally (s t : State) (idx : Nat) (act : PenAct) (e : Option (BitVec 5)) : Prop :=
  let y := t.strand s.key
  RegsKept s.me y ∧ y.pc = s.iss.next ∧ (∀ k, y.count k = s.me.count k) ∧ y.quiet = 0 ∧ y.busy = true ∧ y.busyTake = true ∧
  StrandsKeptBut s t s.key ∧ MemKept s t ∧
  t.locals = s.locals ++ [{ pid := s.nextId, pt := s.pt, due := s.cycle s.pt + 2, idx := idx, act := act, key := s.key, e := e, oid := none }] ∧
  t.regions = (s.rearm s.key).regions ∧
  t = { s with strands := t.strands, regions := t.regions, locals := t.locals, nextId := s.nextId + 1
               iss := { s.iss with res := .done } }

/-- A tile with an event word raised in cycle c: the word is on its way where the pending bit was 0, and is merged where it was 1
(R210). -/
def raisedTile (T : Tile) (c : Nat) (set : Bool) (w : Word) : Tile :=
  { T with events := if set then T.events else T.events ++ [w], raisedAt := some c
           raised := (if T.raisedAt = some c then T.raised else []) ++ [(w, set)] }
/-- The page-fault upcall of slot i raised. -/
def faultRaised (T : Tile) (c i : Nat) (w : Word) : Tile :=
  { raisedTile T c (T.pfp.getLsbD i) w with pfp := T.pfp ||| BitVec.ofNat 16 (2 ^ i) }
/-- The strand becomes y, Parked, and its page-fault upcall is raised with the address of its first parked access (R209, R210, R212). Its
region's detector is re-armed (R64). -/
def Parks (s t : State) (y : Strand) : Prop :=
  let w := eventWord 1 s.iss.slot 0 (s.firstParked (.strand s.key))
  t.strand s.key = { y with st := .parked } ∧ StrandsKeptBut s t s.key ∧ MemKept s t ∧
  (s.iss.slot < 16 → t.tile s.pt = faultRaised (s.tile s.pt) (s.cycle s.pt) s.iss.slot w ∧ ∀ p, p ≠ s.pt → t.tile p = s.tile p) ∧
  t = { s with strands := t.strands, tiles := t.tiles, regions := (s.rearm s.key).regions, iss := { s.iss with res := .done } }

/-- The word traps: the trap of R204 with this cause, XPC and XVAL, and nothing of the word's effect. -/
def Traps (s t : State) (cause : BitVec 6) (xpc xval : Word) : Prop :=
  t = { s.trapAt s.key s.iss.pos cause xpc xval with iss := { (s.trapAt s.key s.iss.pos cause xpc xval).iss with res := .trapped } }

/-- A word that makes one access (R246, R248, R253): the first check that fails traps; where the counter of its class is full
the strand is not ready and nothing changes (R223); else it issues, with the parts given; an access to another panel is sent,
or waits for a tag. -/
def AccessesAs (s : State) (i : Instr) (a : Access) (c : Cls) (fin : Ending) (parts : Land → List (Home × Act × List Gate)) : Prop :=
  (∀ e x, s.check a = .error (e, x) → ∃ t, exec i s = .next t ∧ Traps s t e s.iss.pos x) ∧
  (∀ l, s.check a = .ok l → (∀ k, l ≠ .cross k) → s.full c = true → exec i s = .next s.block) ∧
  (∀ l, s.check a = .ok l → (∀ k, l ≠ .cross k) → s.full c = false →
    ∃ t, exec i s = .next t ∧ Issues s t (some c) fin (parts l)) ∧
  (∀ k, s.check a = .ok (.cross k) → a.crossOk = true ∧ (s.freeTag = none → exec i s = .next s.block) ∧
    (s.freeTag ≠ none → ∃ t, exec i s = .next t ∧ Sends s t k []))
/-- The same with one part for each line that the access touches. -/
def Accesses (s : State) (i : Instr) (a : Access) (c : Cls) (fin : Ending) (act : List Seg → Act) (gates : List Gate) : Prop :=
  AccessesAs s i a c fin (fun l => (lines s.pt l a.pieces).map (fun x => (x.1, act x.2, gates)))

/-- A place of memory takes its byte from a place of the buffer. -/
def Takes (gs : List Seg) (k b : Nat) : Prop := ∃ g ∈ gs, g.key ≤ k ∧ k < g.key + g.len ∧ b = g.buf + (k - g.key)
/-- The runs that a command writes in a part, out of those of its elements: each place takes one byte, that of one of the elements
that cover it (R261); where none overlap they are the elements' runs. -/
def Picked (w l : Home × List Seg) : Prop :=
  w.1 = l.1 ∧ (∀ k b, Takes w.2 k b → Takes l.2 k b) ∧ (∀ k b, Takes l.2 k b → ∃ d, Takes w.2 k d) ∧
  (∀ k b d, Takes w.2 k b → Takes w.2 k d → b = d) ∧
  ((∀ a ∈ l.2, ∀ b ∈ l.2, a ≠ b → a.key + a.len ≤ b.key ∨ b.key + b.len ≤ a.key) → w.2 = l.2)

/-! ## Real values of floats (R115 to R125) -/

/-- A finite value is the real number x. -/
def IsReal (v : FVal) (x : ℝ) : Prop := ∃ n m e, v = .num n m e ∧ x = (if n then -1 else 1) * (m : ℝ) * (2 : ℝ) ^ (e : ℤ)
/-- A positive x lies between k and k + 1 steps, and y is the neighbour that the mode of R123 selects. -/
def Nearest (mode : Nat) (neg : Bool) (step x y : ℝ) : Prop := ∃ k : ℕ,
  let d := x / step - k
  let up : Prop := match mode with
    | 0 => 1 / 2 < d ∨ (d = 1 / 2 ∧ k % 2 = 1)
    | 1 => False
    | 2 => neg = false ∧ 0 < d
    | 3 => neg = true ∧ 0 < d
    | _ => 1 / 2 ≤ d
  0 ≤ d ∧ d < 1 ∧ (up → y = (k + 1) * step) ∧ (¬up → y = k * step)
/-- The largest finite value of a format (R116). -/
def IsLargest (t : FFmt) (x : ℝ) : Prop :=
  match t.special with
  | .ieee => x = (2 - (2 : ℝ) ^ (-(t.f : ℤ))) * (2 : ℝ) ^ ((2 : ℤ) ^ t.e - 2 - t.bias)
  | .e4m3 => x = 448
  | .finite => x = (2 - (2 : ℝ) ^ (-(t.f : ℤ))) * (2 : ℝ) ^ ((2 : ℤ) ^ t.e - 1 - t.bias)
/-- r is the rounding of a positive magnitude x under a sign (R123, R125): y is x at the format's precision, no finer than its
least subnormal, and z the same with an unbounded exponent. -/
def Rounded (t : FFmt) (mode : Nat) (sat neg : Bool) (x : ℝ) (r : Nat × Flags) : Prop :=
  ∀ (e : ℤ) (l : ℝ), (2 : ℝ) ^ e ≤ x → x < (2 : ℝ) ^ (e + 1) → IsLargest t l → ∃ y z : ℝ,
    let v := t.decode r.1
    let s : ℝ := if neg then -1 else 1
    let least : ℝ := (2 : ℝ) ^ (1 - (t.bias : ℤ))
    Nearest mode neg ((2 : ℝ) ^ (max e (1 - t.bias) - t.f)) x y ∧ Nearest mode neg ((2 : ℝ) ^ (e - t.f)) x z ∧ r.1 < 2 ^ t.bits ∧
    (y ≤ l → IsReal v (s * y) ∧ v.neg = neg ∧ (y = x → r.2 = 0) ∧
      (y ≠ x → (z < least → r.2 = flagNX ||| flagUF) ∧ (least ≤ z → r.2 = flagNX))) ∧
    (l < y → (sat = true → IsReal v (s * l) ∧ r.2 = flagOF ||| flagNX ||| flagSF) ∧
      (sat = false → (t.special = .ieee → r.2 = flagOF ||| flagNX ∧
          (mode = 1 ∨ (mode = 2 ∧ neg = true) ∨ (mode = 3 ∧ neg = false) → IsReal v (s * l)) ∧
          (¬(mode = 1 ∨ (mode = 2 ∧ neg = true) ∨ (mode = 3 ∧ neg = false)) → v = .inf neg)) ∧
        (t.special = .e4m3 → v = .nan neg false 0 ∧ r.2 = flagOF ||| flagNX) ∧
        (t.special = .finite → IsReal v (s * l) ∧ r.2 = flagOF ||| flagNX ||| flagSF)))
/-- r is a zero of a sign, exactly. -/
def ExactZero (t : FFmt) (neg : Bool) (r : Nat × Flags) : Prop := (∃ e, t.decode r.1 = .num neg 0 e) ∧ r.1 < 2 ^ t.bits ∧ r.2 = 0
/-- r is the exact x, rounded once where it is not 0. -/
def RoundedOnce (t : FFmt) (mode : Nat) (x : ℝ) (r : Nat × Flags) : Prop :=
  (0 < x → Rounded t mode false false x r) ∧ (x < 0 → Rounded t mode false true (-x) r)
/-- A pattern of a format with infinities is a NaN, and a signalling one (R117). -/
def NanPat (t : FFmt) (a : Nat) : Prop := (2 ^ t.e - 1) * 2 ^ t.f < a % 2 ^ (t.bits - 1)
def SigPat (t : FFmt) (a : Nat) : Prop := NanPat t a ∧ a / 2 ^ (t.f - 1) % 2 = 0
/-- The first of the operands' NaNs with the least payload, quieted (R127). -/
def PicksNan (t : FFmt) (l : List Nat) (r : Nat) : Prop := ∃ i c : Nat, l[i]? = some c ∧ NanPat t c ∧ r = c % 2 ^ t.bits ||| 2 ^ (t.f - 1) ∧
  ∀ j d : Nat, l[j]? = some d → NanPat t d →
    c % 2 ^ (t.f - 1) ≤ d % 2 ^ (t.f - 1) ∧ (c % 2 ^ (t.f - 1) = d % 2 ^ (t.f - 1) → i ≤ j)

/-- A value that is no NaN, as an extended real. -/
def IsExt (v : FVal) (x : EReal) : Prop :=
  match v with
  | .nan _ _ _ => False
  | .inf n => x = if n then ⊥ else ⊤
  | .num n m e => ∃ r : ℝ, IsReal (.num n m e) r ∧ x = (r : EReal)
/-- The class of a pattern (R136), read from its fields. -/
def classBit (t : FFmt) (a : Nat) : Nat :=
  let n : Bool := decide (2 ^ (t.e + t.f) ≤ a % 2 ^ t.bits)
  let e := a / 2 ^ t.f % 2 ^ t.e
  let f := a % 2 ^ t.f
  if e = 2 ^ t.e - 1 then (if f = 0 then (if n then 0 else 7) else if f / 2 ^ (t.f - 1) = 0 then 8 else 9)
  else if e = 0 then (if f = 0 then (if n then 3 else 4) else if n then 2 else 5)
  else if n then 1 else 6

/-! ## Grants of the bridges (R353) -/

/-- Die d may cross to each of these dies: the links are up, and it has a grant for each. -/
def Granted (s : State) (d : Nat) (l : List Nat) : Prop :=
  ∀ e ∈ l, s.cutOff d e = false ∧ l.count e ≤ SMap.get (s.die d).grants e 0
/-- The crossings use up a grant each, and no other of die d. -/
def UsesGrants (s t : State) (d : Nat) (l : List Nat) : Prop :=
  ∀ e, SMap.get (t.die d).grants e 0 = SMap.get (s.die d).grants e 0 - l.count e

/-! ## Bounds that steps keep -/

/-- No completion counter is above 63, each is at least the number of its strand's operations and tile operations that are
counted in it, and those of a context in the cache are at most 63 in each class (R220, R222, R223). -/
def CountsInRange (s : State) : Prop :=
  (∀ k c, s.openCount (.strand k) c + (if c = .toc then (s.tileOps.filter (fun o => o.key == k && o.lone)).length else 0) ≤
    (s.strand k).count c ∧ (s.strand k).count c ≤ 63) ∧
  ∀ e c, s.openCount (.cached e) c ≤ 63
/-- E and the demands behind it lie in 1 to 16 (R231, R232, R236). -/
def TurnsInRange (s : State) : Prop :=
  (∀ p, let t := s.tile p
    1 ≤ t.turns ∧ t.turns ≤ 16 ∧ 1 ≤ t.seen ∧ t.seen ≤ 16 ∧ 1 ≤ t.thermal ∧ t.thermal ≤ 16 ∧ 1 ≤ t.droop ∧ t.droop ≤ 16) ∧
  ∀ d, 1 ≤ (s.die d).budget ∧ (s.die d).budget ≤ 16
/-- No die holds more than 440 quanta, SET is part of HELD, and what the dies hold and the sidebands carry is 46,080 (R24,
R234, R235); transfers have numbers of their own and run between neighbours. -/
def QuantaInRange (s : State) : Prop :=
  (∀ d, (s.die d).power.set ≤ (s.die d).power.held ∧ (s.die d).power.held ≤ 440) ∧
  ((List.range 128).map (fun d => (s.die d).power.held)).sum +
    ((s.transfers.filter (fun x => x.stage != 1)).map Transfer.q).sum = 46080 ∧
  (s.transfers.map Transfer.id).Nodup ∧
  ∀ x, x ∈ s.transfers → x.id < s.nextId ∧ x.src < 128 ∧ dieAt x.src x.dir ≠ none

end Sys2Proof.Safety
end

