-- ==== Sys2Proof/Certificates/Slice0/Obligations.lean ====
section
/-!
DEFINITION. The statements for the provers. Each says what its title says of every state; what the model itself chose is named
with its log entry.
-/

open Sys2Proof Sys2Proof.Machine Sys2Proof.Safety

/-- Results of the register arithmetic words. ADD, SUB, MUL, MULHU, MULHS, AND, OR, XOR, ANDN, SHL, SHR, SHA, ROTL, MINS,
MINU, MAXS, MAXU, SLT, SLTU and SEQ complete in every state with the result of R100 in sD (discarded for s0), at the next
position, and change nothing else: no other register, flag, special register or byte of memory. -/
def Obligations.AluResults : Prop :=
  ∀ (s : State) (d a b : BitVec 5),
    let A := s.rs a
    let B := s.rs b
    let n := B.toNat % 64
    let R (i : Instr) (v : Word) : Prop := ∃ t, exec i s = .next t ∧ WritesReg s t d v s.iss.next
    R (.add d a b) (A + B) ∧ R (.sub d a b) (A - B) ∧ R (.mul d a b) (A * B) ∧
    R (.mulhu d a b) (BitVec.ofNat 64 (A.toNat * B.toNat / 2 ^ 64)) ∧
    R (.mulhs d a b) (BitVec.ofInt 64 (A.toInt * B.toInt / 2 ^ 64)) ∧
    R (.and d a b) (A &&& B) ∧ R (.or d a b) (A ||| B) ∧ R (.xor d a b) (A ^^^ B) ∧ R (.andn d a b) (A &&& ~~~B) ∧
    R (.shl d a b) (A <<< n) ∧ R (.shr d a b) (A >>> n) ∧ R (.sha d a b) (A.sshiftRight n) ∧ R (.rotl d a b) (A.rotateLeft n) ∧
    R (.mins d a b) (if A.toInt ≤ B.toInt then A else B) ∧ R (.minu d a b) (if A.toNat ≤ B.toNat then A else B) ∧
    R (.maxs d a b) (if A.toInt ≤ B.toInt then B else A) ∧ R (.maxu d a b) (if A.toNat ≤ B.toNat then B else A) ∧
    R (.slt d a b) (if A.toInt < B.toInt then 1 else 0) ∧ R (.sltu d a b) (if A.toNat < B.toNat then 1 else 0) ∧
    R (.seq d a b) (if A = B then 1 else 0)

/-- Division truncates toward zero and never traps. DIVU, DIVS, REMU and REMS complete in every state with the results of the
table of R101: by zero all ones and the dividend; for the most negative number by -1 that number and 0; else the truncated
quotient and the remainder with the sign of the dividend. Nothing else changes. -/
def Obligations.DivisionResults : Prop :=
  ∀ (s : State) (d a b : BitVec 5),
    let A := s.rs a
    let B := s.rs b
    let R (i : Instr) (v : Word) : Prop := ∃ t, exec i s = .next t ∧ WritesReg s t d v s.iss.next
    let least : Word := 0x8000000000000000
    R (.divu d a b) (if B = 0 then 0xFFFFFFFFFFFFFFFF else BitVec.ofNat 64 (A.toNat / B.toNat)) ∧
    R (.remu d a b) (if B = 0 then A else BitVec.ofNat 64 (A.toNat % B.toNat)) ∧
    R (.divs d a b) (if B = 0 then 0xFFFFFFFFFFFFFFFF else if A = least ∧ B = -1 then least
      else BitVec.ofInt 64 (A.toInt.tdiv B.toInt)) ∧
    R (.rems d a b) (if B = 0 then A else if A = least ∧ B = -1 then 0
      else BitVec.ofInt 64 (A.toInt - A.toInt.tdiv B.toInt * B.toInt))

/-- ADDP adds within the offset field and traps a carry out of it. ADDP adds the signed sB to the offset field of sA: where
the exact sum lies in the field it completes with the upper eleven bits of sA kept; else it traps pointer carry with XVAL = sA
and writes nothing. ADD and SUB apply no such check and complete with the 64-bit sum and difference. -/
def Obligations.AddPointer : Prop :=
  ∀ (s : State) (d a b : BitVec 5),
    let A := s.rs a
    let o : Int := ((A.toNat % 2 ^ 53 : Nat) : Int) + (s.rs b).toInt
    (0 ≤ o → o < 2 ^ 53 → ∃ t v, exec (.addp d a b) s = .next t ∧ WritesReg s t d v s.iss.next ∧
      v.toNat / 2 ^ 53 = A.toNat / 2 ^ 53 ∧ ((v.toNat % 2 ^ 53 : Nat) : Int) = o) ∧
    ((o < 0 ∨ 2 ^ 53 ≤ o) → ∃ t, exec (.addp d a b) s = .next t ∧ Traps s t 6 s.iss.pos A) ∧
    (∃ t, exec (.add d a b) s = .next t ∧ WritesReg s t d (A + s.rs b) s.iss.next) ∧
    (∃ t, exec (.sub d a b) s = .next t ∧ WritesReg s t d (A - s.rs b) s.iss.next)

/-- Results of the immediate, multiply-add, select, constant and bit words. ADDI, ANDI, ORI, XORI, SHLI, SHRI, SHAI, SLTI,
MAD, SEL and LIL complete in every state with the results of R103, R104 and R106, the immediate sign-extended. CLZ, CTZ and
POPC complete in every state: CLZ writes the number n of leading zero bits: n is at most 64, the n highest bits of sA are 0
and, below 64, the next bit is 1; CTZ the same from below; POPC the number of one bits. For a field that lies in the word (pos
+ len at most 64) BFX writes the field of sA zero-extended, BFI replaces the field of sD by the low bits of sA and keeps the
other bits; LIH replaces 16 bits of sD by the immediate. Nothing else changes. -/
def Obligations.ImmediateResults : Prop :=
  (∀ (s : State) (d a b c : BitVec 5) (i : BitVec 14) (n : BitVec 6) (j : BitVec 19),
    let A := s.rs a
    let B := s.rs b
    let I : Word := i.signExtend 64
    let R (i : Instr) (v : Word) : Prop := ∃ t, exec i s = .next t ∧ WritesReg s t d v s.iss.next
    R (.addi d a i) (A + I) ∧ R (.andi d a i) (A &&& I) ∧ R (.ori d a i) (A ||| I) ∧ R (.xori d a i) (A ^^^ I) ∧
    R (.shli d a n) (A <<< n.toNat) ∧ R (.shri d a n) (A >>> n.toNat) ∧ R (.shai d a n) (A.sshiftRight n.toNat) ∧
    R (.slti d a i) (if A.toInt < I.toInt then 1 else 0) ∧
    R (.mad d a b c) (A * B + s.rs c) ∧ R (.sel d a b c) (if s.rs c ≠ 0 then A else B) ∧ R (.lil d j) (j.signExtend 64)) ∧
  (∀ (s : State) (d a : BitVec 5) (p m : BitVec 6) (h : BitVec 2) (i : BitVec 16),
    let A := s.rs a
    (∃ t n, exec (.clz d a) s = .next t ∧ WritesReg s t d (BitVec.ofNat 64 n) s.iss.next ∧ n ≤ 64 ∧
      (∀ i, i < n → A.getLsbD (63 - i) = false) ∧ (n < 64 → A.getLsbD (63 - n) = true)) ∧
    (∃ t n, exec (.ctz d a) s = .next t ∧ WritesReg s t d (BitVec.ofNat 64 n) s.iss.next ∧ n ≤ 64 ∧
      (∀ i, i < n → A.getLsbD i = false) ∧ (n < 64 → A.getLsbD n = true)) ∧
    (∃ t, exec (.popc d a) s = .next t ∧
      WritesReg s t d (BitVec.ofNat 64 ((List.range 64).countP (fun i => A.getLsbD i))) s.iss.next) ∧
    (p.toNat + m.toNat + 1 ≤ 64 →
      (∃ t v, exec (.bfx d a p m) s = .next t ∧ WritesReg s t d v s.iss.next ∧
        ∀ j, j < 64 → v.getLsbD j = (decide (j ≤ m.toNat) && A.getLsbD (p.toNat + j))) ∧
      (∃ t v, exec (.bfi d a p m) s = .next t ∧ WritesReg s t d v s.iss.next ∧
        ∀ j, j < 64 → v.getLsbD j = if p.toNat ≤ j ∧ j ≤ p.toNat + m.toNat then A.getLsbD (j - p.toNat) else (s.rs d).getLsbD j)) ∧
    (∃ t v, exec (.lih d h i) s = .next t ∧ WritesReg s t d v s.iss.next ∧
      ∀ j, j < 64 → v.getLsbD j = if 16 * h.toNat ≤ j ∧ j < 16 * h.toNat + 16 then i.getLsbD (j - 16 * h.toNat) else (s.rs d).getLsbD j))

/-- Float results are the exact result rounded once. In each lane format and rounding mode: the sum, difference, product,
fused product, quotient and square root of finite operands is the exact real result rounded once, with the flags of that
rounding, and an exact zero has the sign of R124; a nonzero number by 0 gives infinity and DZ; infinities give the infinity,
zero or invalid result that their real limits have; an operation with no numeric result gives the canonical NaN and NV; with
NaN operands the result is the quieted one with the least payload, the first of equals, and NV is raised where one is
signalling or where a fused product is 0 times infinity. Minimum, maximum and the six comparisons order the real values. A
conversion between any two formats, a product by a power of two and an integer made a float are rounded once too, with
saturation where asked; an infinity and a NaN convert as R125 and R129 say (a NaN that keeps its format is log 79 and not
claimed). Three points of this are the model's: the operand order of the NaN choice of a fused product, which is a, b and then
the addend (log 50), that a NaN operand whose product is negated keeps its sign (log 51), and that a NaN becomes the canonical
one of F16 and BF16 even from a narrower format (log 52). A float made an integer is rounded to one and replaced outside the
range as R126 says. A grid cell takes the exact sum of its value and its scaled products, rounded once, an exact zero with the
sign of R124. Of NaN inputs, a scale of 0xFF among them, it takes the one that R127 chooses; that such a scale raises NV in a
cell, and the NaN of a VSCALE lane under it, are log 55. A product 0 x infinity or of an infinity against the first one makes
the NaN of its index (R128). -/
def Obligations.FloatValues : Prop :=
  ∀ (w : BitVec 2) (M a b c : Nat) (f g sat : Bool),
    let t := laneFmt w
    let A := t.decode a
    let B := t.decode b
    let C := t.decode c
    let invalid (r : Nat × Flags) : Prop := r = ((2 ^ t.e - 1) * 2 ^ t.f + 2 ^ (t.f - 1), flagNV)
    let infinite (n : Bool) (fl : Flags) (r : Nat × Flags) : Prop := t.decode r.1 = .inf n ∧ r.2 = fl
    let picks (l : List Nat) (r : Nat × Flags) (also : Prop) : Prop := (∃ k ∈ l, NanPat t k) → PicksNan t l r.1 ∧
      (also ∨ (∃ k ∈ l, SigPat t k) → r.2 = flagNV) ∧ (¬(also ∨ ∃ k ∈ l, SigPat t k) → r.2 = 0)
    let sums (x y : ℝ) (n m : Bool) (r : Nat × Flags) : Prop := RoundedOnce t M (x + y) r ∧
      (x + y = 0 → (x = 0 → n = m → ExactZero t n r) ∧ (x ≠ 0 ∨ n ≠ m → ExactZero t (M == 3) r))
    let infinities (n m : Option Bool) (r : Nat × Flags) : Prop :=
      (∀ k, n = some k → m = none → infinite k 0 r) ∧ (∀ k, n = none → m = some k → infinite k 0 r) ∧
      (∀ k j, n = some k → m = some j → (k = j → infinite k 0 r) ∧ (k ≠ j → invalid r))
    let inf (v : FVal) : Option Bool := match v with | .inf n => some n | _ => none
    let sg (n : Bool) : ℝ := if n then -1 else 1
    -- R134: sums and differences
    (let r := t.addPat M f a b
     (∀ x y, IsReal A x → IsReal B y → sums x (sg f * y) A.neg (B.neg != f) r) ∧ picks [a, b] r False ∧
     (¬NanPat t a → ¬NanPat t b → infinities (inf A) ((inf B).map (fun n => n != f)) r)) ∧
    -- products
    (let r := t.mulPat M a b
     (∀ x y, IsReal A x → IsReal B y → RoundedOnce t M (x * y) r ∧ (x * y = 0 → ExactZero t (A.neg != B.neg) r)) ∧ picks [a, b] r False ∧
     (∀ n x, A = .inf n → IsReal B x → (x = 0 → invalid r) ∧ (x ≠ 0 → infinite (n != B.neg) 0 r)) ∧
     (∀ n x, B = .inf n → IsReal A x → (x = 0 → invalid r) ∧ (x ≠ 0 → infinite (A.neg != n) 0 r)) ∧
     (∀ n m, A = .inf n → B = .inf m → infinite (n != m) 0 r)) ∧
    -- fused products
    (let r := t.fmaPat M f g a b c
     let zi : Prop := (IsReal A 0 ∧ (inf B).isSome = true) ∨ ((inf A).isSome = true ∧ IsReal B 0)
     let s := (A.neg != B.neg) != f
     (∀ x y z, IsReal A x → IsReal B y → IsReal C z → sums (sg f * (x * y)) (sg g * z) s (C.neg != g) r) ∧ picks [a, b, c] r zi ∧
     (¬NanPat t a → ¬NanPat t b → ¬NanPat t c → (zi → invalid r) ∧
       (¬zi → infinities (if (inf A).isSome || (inf B).isSome then some s else none) ((inf C).map (fun n => n != g)) r))) ∧
    -- quotients
    (let r := t.divPat M a b
     (∀ x y, IsReal A x → IsReal B y → (y ≠ 0 → RoundedOnce t M (x / y) r ∧ (x = 0 → ExactZero t (A.neg != B.neg) r)) ∧
       (y = 0 → x ≠ 0 → infinite (A.neg != B.neg) flagDZ r) ∧ (y = 0 → x = 0 → invalid r)) ∧ picks [a, b] r False ∧
     (∀ n x, A = .inf n → IsReal B x → infinite (n != B.neg) 0 r) ∧ (∀ n x, B = .inf n → IsReal A x → ExactZero t (A.neg != n) r) ∧
     (∀ n m, A = .inf n → B = .inf m → invalid r)) ∧
    -- square roots
    (let r := t.sqrtPat M a
     (∀ x, IsReal A x → (0 < x → Rounded t M false false (Real.sqrt x) r) ∧ (x = 0 → ExactZero t A.neg r) ∧ (x < 0 → invalid r)) ∧
     picks [a] r False ∧ (A = .inf false → infinite false 0 r) ∧ (A = .inf true → invalid r)) ∧
    -- R135, R137: order
    (∀ x y, IsReal A x → IsReal B y →
      (∀ k, (t.cmpPat k a b).2 = 0 ∧ ((t.cmpPat k a b).1 = true ↔
        match k with | 0 => x = y | 1 => x ≠ y | 2 => x < y | 3 => x ≤ y | 4 => False | _ => True)) ∧
      (∀ hi, let r := t.minMaxPat hi a b
        r.2 = 0 ∧ (r.1 = a % 2 ^ t.bits ∨ r.1 = b % 2 ^ t.bits) ∧
        (x < y → r.1 = (if hi then b else a) % 2 ^ t.bits) ∧ (y < x → r.1 = (if hi then a else b) % 2 ^ t.bits) ∧
        (x = 0 → y = 0 → A.neg ≠ B.neg → (t.decode r.1).neg = !hi))) ∧
    -- R138, R155: integers and powers of two
    (∀ v : Int, let r := t.ofInteger M sat v
      (v = 0 → ExactZero t false r) ∧ (v ≠ 0 → Rounded t M sat (decide (v < 0)) |(v : ℝ)| r)) ∧
    (∀ (k : Nat) (x : ℝ), k < 255 → IsReal A x → let r := t.scalePat M sat k a
      (x = 0 → ExactZero t A.neg r) ∧ (x ≠ 0 → Rounded t M sat A.neg (|x| * (2 : ℝ) ^ ((k : ℤ) - 127)) r)) ∧
    (∀ k : Nat, let r := t.scalePat M sat k a
      (k = 255 → invalid r) ∧ (k < 255 → picks [a] r False ∧ ∀ n, A = .inf n → (sat = false → infinite n 0 r) ∧
        (sat = true → r.2 = flagSF ||| flagNX ∧ ∀ l, IsLargest t l → IsReal (t.decode r.1) (sg n * l)))) ∧
    -- R126: floats to integers
    (∀ (n : Nat) (signed : Bool), 0 < n → let r := t.toInt n signed M sat a
      let lo : Int := if signed then -2 ^ (n - 1) else 0
      let hi : Int := if signed then 2 ^ (n - 1) - 1 else 2 ^ n - 1
      let gives (v : Int) (fl : Flags) : Prop := r = ((v % 2 ^ n).toNat, fl)
      let outside (v : Int) : Prop := (sat = true → gives v (flagNV ||| flagSF)) ∧ (sat = false → gives (2 ^ (n - 1)) flagNV)
      (NanPat t a → outside 0) ∧ (∀ k, A = .inf k → outside (if k then lo else hi)) ∧
      (∀ x, IsReal A x → ∃ m : Nat, Nearest M A.neg 1 |x| m ∧
        (let v : Int := if A.neg then -m else m
         (v < lo → outside lo) ∧ (hi < v → outside hi) ∧
         (lo ≤ v → v ≤ hi → ((m : ℝ) = |x| → gives v 0) ∧ ((m : ℝ) ≠ |x| → gives v flagNX))))) ∧
    -- R125, R129: between formats
    (∀ d e, d < 9 → e < 9 → let D := ffmt d
      let r := D.convert (ffmt e) M sat a
      let X := (ffmt e).decode a
      (∀ x, IsReal X x → (x = 0 → ExactZero D X.neg r) ∧ (x ≠ 0 → Rounded D M sat X.neg |x| r)) ∧
      (∀ n, X = .inf n →
        (sat = true → r.2 = flagSF ||| flagNX ∧ ∀ l, IsLargest D l → IsReal (D.decode r.1) (sg n * l)) ∧
        (sat = false → (D.special = .ieee → D.decode r.1 = .inf n ∧ r.2 = 0) ∧
          (D.special = .e4m3 → D.decode r.1 = .nan n false 0 ∧ r.2 = flagNV) ∧
          (D.special = .finite → r.2 = flagNV ||| flagSF ∧ ∀ l, IsLargest D l → IsReal (D.decode r.1) (sg n * l)))) ∧
      (∀ n q p, X = .nan n q p → (D.special = .finite → r = (0, flagNV)) ∧
        (D.special ≠ .finite → d ≠ e → (q = true → r.2 = flagNV) ∧ (q = false → r.2 = 0) ∧
          (d < 2 → D.decode r.1 = .nan n false (p / 2 ^ (52 - D.f) * 2 ^ (52 - D.f))) ∧ (2 ≤ d → D.decode r.1 = .nan false false 0)))) ∧
    -- R170: grid cells with finite values
    (∀ (mf : Nat) (made : Nat → Nat) (x : CellIn) (z : ℝ) (l : List (ℝ × ℝ)), x.nanScale = false → IsReal x.c z →
      List.Forall₂ (fun p u => IsReal p.1 u.1 ∧ IsReal p.2 u.2) x.ab l →
      let r := mopCell mf f M made x
      let D := cellFmt mf
      let v := z + (l.map (fun u => sg f * u.1 * u.2 * (2 : ℝ) ^ x.exp)).sum
      let zeros : Prop := z = 0 ∧ ∀ u ∈ l, u.1 * u.2 = 0
      let one (n : Bool) : Prop := x.c.neg = n ∧ ∀ p ∈ x.ab, ((p.1.neg != p.2.neg) != f) = n
      RoundedOnce D M v r ∧ (v = 0 → ¬zeros → ExactZero D (M == 3) r) ∧
      (zeros → (∀ n, one n → ExactZero D n r) ∧ ((∀ n, ¬one n) → ExactZero D (M == 3) r))) ∧
    -- R128, R171: grid cells with a NaN, a scale of 0xFF or an infinity
    (∀ (mf : Nat) (made : Nat → Nat) (x : CellIn),
      let r := mopCell mf f M made x
      let D := cellFmt mf
      let enters (v : FVal) : FVal := match v with | .nan n q p => if gridClass mf = 2 then FVal.nan false q 0 else FVal.nan n q p | v => v
      let ins : List FVal := (x.c :: x.ab.flatMap (fun p => [enters p.1, enters p.2])) ++ (if x.nanScale then [FVal.nan false false 0] else [])
      let has : Prop := ∃ n q p, FVal.nan n q p ∈ ins
      let zi (p : FVal × FVal) : Prop := (IsReal p.1 0 ∧ (inf p.2).isSome = true) ∨ ((inf p.1).isSome = true ∧ IsReal p.2 0)
      let nv : Prop := (∃ p ∈ x.ab, zi p) ∨ x.nanScale = true ∨ ∃ n p, FVal.nan n true p ∈ ins
      let big (p : FVal × FVal) : Option Bool := if (inf p.1).isSome || (inf p.2).isSome then some ((p.1.neg != p.2.neg) != f) else none
      let first (n : Bool) (k : Nat) : Prop := inf x.c = some n ∨ (inf x.c = none ∧ ∃ j p, j < k ∧ x.ab[j]? = some p ∧ big p = some n ∧
        ∀ i q, i < j → x.ab[i]? = some q → big q = none)
      let bad (k : Nat) : Prop := ∃ p, x.ab[k]? = some p ∧ (zi p ∨ ∃ n m, big p = some n ∧ m ≠ n ∧ first m k)
      (has → (∀ n q p, FVal.nan n q p ∈ ins → p < 2 ^ 51) → (∃ (i : Nat) (n q : Bool) (p : Nat), ins[i]? = some (FVal.nan n q p) ∧
          D.decode r.1 = .nan n false (p / 2 ^ (52 - D.f) * 2 ^ (52 - D.f)) ∧
          ∀ (j : Nat) (m o : Bool) (u : Nat), ins[j]? = some (FVal.nan m o u) → p ≤ u ∧ (p = u → i ≤ j)) ∧ (nv → r.2 = flagNV) ∧ (¬nv → r.2 = 0)) ∧
      (¬has → (∀ k, bad k → (∀ j, j < k → ¬bad j) → r = (made k, flagNV)) ∧
        ((∀ k, ¬bad k) → ∀ n, (inf x.c = some n ∨ ∃ p ∈ x.ab, big p = some n) → D.decode r.1 = .inf n ∧ r.2 = 0)))

/-- Branches, jumps and links go where they are sent. B, BZ and BNZ complete in every state: taken they go to the bundle at
the offset from their own bundle, else to the next position, and change nothing else. LOOP also writes sA - 1 and branches
where that is not 0, with s0 always. B is stated for the six conditions of R78. JMP and JAL go to the bundle at their offset
and JR and JALR to the position in sA where its bits 1:0 are 0; JAL writes the link to s31 and JALR to sD, the link being the
position that sequential flow would issue next. A JR or JALR to a position with bits 1:0 not 0 traps illegal bundle with that
target in XVAL. -/
def Obligations.BranchesGo : Prop :=
  (∀ (s : State) (a b : BitVec 5) (o : BitVec 11) (q : BitVec 19),
    let A := s.rs a
    let B := s.rs b
    let to11 : Word := s.iss.base + (o.signExtend 64 <<< 3)
    let to19 : Word := s.iss.base + (q.signExtend 64 <<< 3)
    let G (i : Instr) (p : Prop) (w : Word) : Prop := ∃ t pc, exec i s = .next t ∧ Moves s t pc ∧ (p → pc = w) ∧ (¬p → pc = s.iss.next)
    G (.b 0 a b o) (A = B) to11 ∧ G (.b 1 a b o) (A ≠ B) to11 ∧ G (.b 2 a b o) (A.toInt < B.toInt) to11 ∧
    G (.b 3 a b o) (B.toInt ≤ A.toInt) to11 ∧ G (.b 4 a b o) (A.toNat < B.toNat) to11 ∧ G (.b 5 a b o) (B.toNat ≤ A.toNat) to11 ∧
    G (.bz a q) (A = 0) to19 ∧ G (.bnz a q) (A ≠ 0) to19 ∧
    (∃ t pc, exec (.loop a q) s = .next t ∧ WritesReg s t a (A - 1) pc ∧ (A ≠ 1 → pc = to19) ∧ (A = 1 → pc = s.iss.next))) ∧
  (∀ (s : State) (d a : BitVec 5) (o : BitVec 24),
    let A := s.rs a
    let dest : Word := s.iss.base + (o.signExtend 64 <<< 3)
    (∃ t, exec (.jmp o) s = .next t ∧ Moves s t dest) ∧ (∃ t, exec (.jal o) s = .next t ∧ WritesReg s t 31 s.iss.next dest) ∧
    (A.toNat % 4 = 0 → (∃ t, exec (.jr a) s = .next t ∧ Moves s t A) ∧ (∃ t, exec (.jalr d a) s = .next t ∧ WritesReg s t d s.iss.next A)) ∧
    (A.toNat % 4 ≠ 0 → (∃ t, exec (.jr a) s = .next t ∧ Traps s t 2 s.iss.pos A) ∧
      (∃ t, exec (.jalr d a) s = .next t ∧ Traps s t 2 s.iss.pos A)))

/-- No step takes a completion counter above 63. From every state in which each completion counter of each strand is at most
63 and at least the number of the operations of that strand, tile operations among them, that are counted in it, and in which
the operations of each context in the cache are at most 63 in each class, the parked ones among them, a step that goes on
leaves all of this so. A strand that comes back from the cache has its counters at these numbers (R216), so that R223 holds
from step to step. -/
def Obligations.CountersStayInRange : Prop :=
  ∀ s t : State, CountsInRange s → step s = .next t → CountsInRange t

/-- NOP changes nothing but PC. NOP completes in every state and changes no state except PC, which becomes the next position;
the words 0x56000000 and 0x16000000 decode to NOP. -/
def Obligations.NopMovesOn : Prop :=
  (∀ s : State, ∃ t, exec .nop s = .next t ∧ Moves s t s.iss.next) ∧
  decodeWord 0x56000000 = some .nop ∧ decodeWord 0x16000000 = some .nop

/-- PEND ends a body. PEND completes in every state. On a free-running strand it only moves on. On a periodic one PIDX becomes
the least b above PIDX whose boundary lies after the present cycle, OVR grows by the boundaries missed (saturating), the quiet
count advances where the body was not busy, the strand becomes idle at the next position, and nothing else changes; where PIDX
wraps, boundary(PIDX) stays at the cycle that b has. That a boundary which still waits for its NBRTC (R219) moves with the
lattice is the model's choice (log 11): no rule says what a PEND does before that time. -/
def Obligations.PendWaitsForItsBoundary : Prop :=
  ∀ s : State,
    let x := s.me
    let c : Int := (s.cycle s.pt : Nat)
    (x.per = 0 → ∃ t, exec .pend s = .next t ∧ Moves s t s.iss.next) ∧
    (x.per ≠ 0 → ∃ t b z, exec .pend s = .next t ∧ x.pidx.toNat < b ∧ c < boundary x b ∧
      (∀ b', x.pidx.toNat < b' → c < boundary x b' → b ≤ b') ∧
      (b < 2 ^ 64 → z = x.c0) ∧ (2 ^ 64 ≤ b → boundary { x with c0 := z } (b - 2 ^ 64) = boundary x b) ∧
      Performed s t { x with pc := s.iss.next, st := .idle, pidx := BitVec.ofNat 64 b, c0 := z
                             due := x.due.map (fun n => (n.1, n.2 + x.c0 - z))
                             ovr := BitVec.ofNat 32 (min (x.ovr.toNat + (b - x.pidx.toNat - 1)) 0xFFFFFFFF)
                             quiet := if x.busy then x.quiet else x.quiet + 1, busy := false })

/-- TRAP and BKPT raise their traps, and an unprivileged strand traps at every privileged word. TRAP raises trap instruction
with its code in XVAL and the next position in XPC; BKPT does the same with breakpoint where PRIV.BE is set and otherwise only
moves on. With PRIV.P = 0, ERET, EVICT, RESUME, CTXSV, CTXLD, PCLR and SYSW of XPC, XCAUSE, XVAL, XBASE, PRIV and LATEDROP
trap privilege and change nothing else, SYSW with its number in XVAL; EVACK does so where EVT.EN is 0. This is what each word
does once it issues: a full counter holds it back before (log 25, StepRunsTheDecodedWord). The entry is that of TrapEntry. -/
def Obligations.TrapWordsTrap : Prop :=
  (∀ (s : State) (c : BitVec 16),
    (∃ t, exec (.trap c) s = .next t ∧ Traps s t 12 s.iss.next (c.setWidth 64)) ∧
    (s.me.be = true → ∃ t, exec (.bkpt c) s = .next t ∧ Traps s t 11 s.iss.next (c.setWidth 64)) ∧
    (s.me.be = false → ∃ t, exec (.bkpt c) s = .next t ∧ Moves s t s.iss.next)) ∧
  (∀ (s : State) (d a b : BitVec 5),
    let T (i : Instr) (v : Word) : Prop := ∃ t, exec i s = .next t ∧ Traps s t 3 s.iss.pos v
    (s.me.p = false → T .eret 0 ∧ T (.evict d a) 0 ∧ T (.resume d a) 0 ∧ T (.ctxsv a b) 0 ∧ T (.ctxld a b) 0 ∧ T (.pclr a) 0 ∧
      T (.sysw a 0x030) 0x030 ∧ T (.sysw a 0x031) 0x031 ∧ T (.sysw a 0x032) 0x032 ∧ T (.sysw a 0x033) 0x033 ∧
      T (.sysw a 0x035) 0x035 ∧ T (.sysw a 0x107) 0x107) ∧
    (s.me.en = false → T (.evack a) 0))

/-- What taking a trap saves and where it goes. A trap of a strand that stands in no hold, taken at position a with the XPC
and XVAL of its rule. Outside a handler with XBASE valid: XCAUSE, XPC and XVAL are written, PP takes P, P and XH become 1, BE
stays, PC is XBASE with bits 2:0 clear; nothing else changes. Outside a handler with XBASE not valid the three registers are
written and the strand is evicted into the lowest empty cache entry with notice reason 1 and PC saved as XPC. Inside a handler
XPC, XCAUSE and XVAL keep their values and it is evicted with reason 2 and PC saved as a. With no entry free it is Halted with
the record written and the fault domain is told. Memory and every other strand stay. -/
def Obligations.TrapEntry : Prop :=
  ∀ (s : State) (key : Nat) (a xpc xval : Word) (cause : BitVec 6), (s.strand key).hold = .none →
    let x := s.strand key
    let t := s.trapAt key a cause xpc xval
    let y := { x with xcause := cause, xpc := xpc, xval := xval }
    let z := if x.xh then { x with pc := a } else { y with pc := xpc }
    StrandsKeptBut s t key ∧ MemKept s t ∧
    (x.xh = false → x.xbase.getLsbD 0 = true →
      (∃ p, t.strand key = { y with priv := p, pc := x.xbase &&& ~~~7 } ∧ p.getLsbD 0 = true ∧ p.getLsbD 1 = x.p ∧ p.getLsbD 2 = true ∧
        p.getLsbD 3 = x.be) ∧ t = { s with strands := t.strands }) ∧
    (x.xh = true ∨ x.xbase.getLsbD 0 = false →
      (∀ e, lowestEntry s (key / 16) = some e →
        t.strand key = { z with st := .evicted, was := x.st, hrec := 0, holdPos := 0 } ∧
        (t.entry (key / 16) e).st = .loading ∧ (t.entry (key / 16) e).strand = t.strand key ∧ (t.entry (key / 16) e).slot = key % 16 ∧
        (t.entry (key / 16) e).reason = (if x.xh then 2 else 1) ∧ (t.entry (key / 16) e).cause = cause.toNat) ∧
      (lowestEntry s (key / 16) = none → t.strand key = { z with st := .halted } ∧
        t.outbox = s.outbox ++ [[0, x.rcbp.toNat, cause.toNat]] ∧
        t.reports = s.reports ++ [(x.rcbp.toNat, cause.toNat)]))

/-- ERET returns from a handler. A privileged strand with bits 1:0 of XPC clear goes on at XPC with P restored from PP, XH
clear and BE and PP kept, and nothing else changed; with other bits 1:0 it traps illegal bundle; an unprivileged strand traps
privilege. -/
def Obligations.EretReturns : Prop :=
  ∀ s : State,
    let x := s.me
    (x.p = true → x.xpc.toNat % 4 = 0 → ∃ t p, exec .eret s = .next t ∧ Performed s t { x with priv := p, pc := x.xpc } ∧
      p.getLsbD 0 = x.pp ∧ p.getLsbD 1 = x.pp ∧ p.getLsbD 2 = false ∧ p.getLsbD 3 = x.be) ∧
    (x.p = true → x.xpc.toNat % 4 ≠ 0 → ∃ t, exec .eret s = .next t ∧ Traps s t 2 s.iss.pos x.xpc) ∧
    (x.p = false → ∃ t, exec .eret s = .next t ∧ Traps s t 3 s.iss.pos 0)

/-- Enabled turns stay in 1 to 16, and quanta are never created, lost or held above 440. From every state in which E and the
demands behind it lie in 1 to 16, a step that goes on leaves them there; and from every state in which no die holds more than
440 quanta, SET is part of HELD, transfers are numbered apart and run between neighbours, and what the dies hold and the
sidebands carry is 46,080, a step that goes on leaves all of this so. -/
def Obligations.TurnsAndQuantaStayInRange : Prop :=
  (∀ s t : State, TurnsInRange s → step s = .next t → TurnsInRange t) ∧
  (∀ s t : State, QuantaInRange s → step s = .next t → QuantaInRange t)

/-- WAIT and HALT hold until the counts meet their limits. WAIT of a strand none of whose accesses is parked completes where
its counts lie within its limits (63 places none) and no uncorrectable load is unreported: it only moves on; HALT, whose
limits are 0, completes where all counts are 0: the strand becomes Halted at the next position. The same where accesses are
parked but neither they nor what waits for them goes over a limit. With an uncorrectable load they trap uncorrectable data in
place of going on (log 57: the spec does not say when such a load traps a WAIT that does not hold). With counts over a limit
and no access over one that is parked or waits for a parked one the strand is Held at the next position. With such an access
over a limit it is Parked and its page-fault upcall is raised. Nothing else changes but that the flags which the limits of a
word that completes cover are no longer late (log 106). -/
def Obligations.WaitAndHalt : Prop :=
  ∀ (s : State) (a b c d : BitVec 6),
    let l : BitVec 24 := a ++ b ++ c ++ d
    let x := s.me
    let within (n : Nat) (lim : BitVec 6) : Prop := lim = 63 ∨ n ≤ lim.toNat
    let W (i : Instr) (ok : Prop) (lim : BitVec 24) (h : Hold) (y : Strand) : Prop :=
      (s.parkedOps (.strand s.key) = [] ∨ s.needsParked s.key lim = false → ok →
        (x.badLoads = [] → ∃ t, exec i s = .next t ∧ Performed s t { y with pc := s.iss.next }) ∧
        (∀ v r, x.badLoads = v :: r → ∃ t, exec i s = .next t ∧ Traps (s.setMe { x with badLoads := [] }) t 13 s.iss.pos v)) ∧
      (s.parkedOps (.strand s.key) = [] ∨ s.needsParked s.key lim = false → ¬ok →
        ∃ t, exec i s = .next t ∧ Performed s t { x with st := .held, hold := h, pc := s.iss.next }) ∧
      (s.needsParked s.key lim = true → ∃ t, exec i s = .next t ∧ Parks s t { x with hold := h, pc := s.iss.next })
    W (.wait a b c d) (within x.ldc a ∧ within x.stc b ∧ within x.cpc c ∧ within x.toc d) l (.wait l s.iss.pos s.iss.paired) (passed x (s.unapplied s.key) a b d) ∧
    W .halt (x.ldc = 0 ∧ x.stc = 0 ∧ x.cpc = 0 ∧ x.toc = 0) 0 (.halt s.iss.pos) { passed x 0 0 0 0 with st := .halted }

/-- FENCE orders the classes of its sets in its scope. FENCE completes: the gate of its earlier accesses, where there are any,
is laid on the strand's later accesses of its classes; FENCE.seq (4) with an access of them still open in its scope, none of
which is parked or waits for a parked one, leaves the strand Held; with one that is or does, it is Parked and its page-fault
upcall is raised; nothing else changes. -/
def Obligations.FenceGatesLaterAccesses : Prop :=
  ∀ (s : State) (o : BitVec 3) (g : BitVec 5) (set : BitVec 4),
    let x := s.me
    let scope := s.scope s.key g.toNat
    let needs := if o = 1 then s.pendingClasses (.strand s.key) (set.getLsbD 0) false false
      else s.pendingClasses (.strand s.key) (set.getLsbD 0) (set.getLsbD 1) (set.getLsbD 2)
    let r : GateRec := { gate := { needs := needs, scope := scope, own := true }, r := set.getLsbD 0 && o != 2, w := set.getLsbD 1
                         e := set.getLsbD 2, x := set.getLsbD 3 }
    let gates := if needs = [] then x.gates else x.gates ++ [r]
    let seq : Gate := { needs := needs, scope := scope, own := false }
    ((o ≠ 4 ∨ needs.any (s.needOpen scope) = false) →
      ∃ t, exec (.fence o g set) s = .next t ∧ Performed s t { x with gates := gates, pc := s.iss.next }) ∧
    (o = 4 → needs.any (s.needOpen scope) = true → s.gatesNeedParked s.key [seq] = false →
      ∃ t, exec (.fence o g set) s = .next t ∧ Performed s t { x with gates := gates, pc := s.iss.next, st := .held
                                                                      hold := .fence [seq] s.iss.pos s.iss.paired }) ∧
    (o = 4 → needs.any (s.needOpen scope) = true → s.gatesNeedParked s.key [seq] = true → ∃ t, exec (.fence o g set) s = .next t ∧
      Parks s t { x with gates := gates, pc := s.iss.next, hold := .fence [seq] s.iss.pos s.iss.paired })

/-- SYSR reads every register of the table of numbers. SYSR of each of the 24 numbers of R196 completes in every state with
the register named in sD and nothing else changed. -/
def Obligations.SysrReadsEveryRegister : Prop :=
  ∀ (s : State) (d : BitVec 5),
    let x := s.me
    let t := s.tile s.pt
    let R (n : BitVec 12) (v : Word) : Prop := ∃ u, exec (.sysr d n) s = .next u ∧ WritesReg s u d v s.iss.next
    s.iss.slot < 16 →
    R 0x001 x.fcsr ∧ R 0x002 x.modew ∧ R 0x010 (x.per.setWidth 64) ∧ R 0x011 (x.pph.setWidth 64) ∧ R 0x012 x.pidx ∧
    R 0x013 (x.ovr.setWidth 64) ∧ R 0x020 (x.vbase.setWidth 64) ∧ R 0x021 (x.vlim.setWidth 64) ∧ R 0x030 x.xpc ∧
    R 0x031 (x.xcause.setWidth 64) ∧ R 0x032 x.xval ∧ R 0x033 x.xbase ∧ R 0x034 (evtWord x t) ∧ R 0x035 (x.priv.setWidth 64) ∧
    R 0x036 (BitVec.ofNat 64 (x.cadIdx.toNat * 256 + x.cadNum.toNat * 16 + s.iss.slot)) ∧ R 0x037 x.rcbp ∧
    R 0x100 (s.topo s.pt) ∧ R 0x101 (s.grade s.pt) ∧ R 0x102 (t.drift.setWidth 64) ∧ R 0x103 (BitVec.ofNat 64 (s.refNs + t.rtcOff)) ∧
    R 0x104 (BitVec.ofNat 64 (t.turns * 2 ^ 16 + turnMask t.turns)) ∧ R 0x105 (t.temp.setWidth 64) ∧ R 0x106 t.mlat ∧
    R 0x107 (t.latedrop.setWidth 64)

/-- SYSW writes what its map allows and ignores read-only registers. SYSW of OVR, and by a privileged strand of XPC, XCAUSE,
XVAL, XBASE (bits 2:1 read as 0), PRIV and LATEDROP writes the register, late replies of the same cycle being counted into
LATEDROP after it; of every read-only number it only moves on; of FCSR it writes the flags and a rounding mode that is one,
keeping the old mode otherwise, and the flags of completed operations that no WAIT covers yet stay set (log 106). Nothing else
changes. -/
def Obligations.SyswWritesAndIgnores : Prop :=
  ∀ (s : State) (a : BitVec 5),
    let x := s.me
    let A := s.rs a
    let rm := if A.toNat / 256 % 8 ≤ 4 then A.toNat / 256 % 8 else x.fcsr.toNat / 256 % 8
    let P (i : Instr) (y : Strand) : Prop := ∃ t, exec i s = .next t ∧ Performed s t { y with pc := s.iss.next }
    P (.sysw a 0x013) { x with ovr := A.setWidth 32 } ∧
    (∀ n ∈ [0x002, 0x012, 0x020, 0x021, 0x034, 0x036, 0x037, 0x100, 0x101, 0x102, 0x103, 0x104, 0x105, 0x106], P (.sysw a n) x) ∧
    (x.p = true → P (.sysw a 0x030) { x with xpc := A } ∧ P (.sysw a 0x031) { x with xcause := A.setWidth 6 } ∧
      P (.sysw a 0x032) { x with xval := A } ∧ P (.sysw a 0x033) { x with xbase := A &&& ~~~6 } ∧
      P (.sysw a 0x035) { x with priv := A.setWidth 4 } ∧
      ∃ t, exec (.sysw a 0x107) s = .next t ∧ t.tile s.pt = { s.tile s.pt with latedrop := (t.tile s.pt).latedrop } ∧
        (t.tile s.pt).latedrop = BitVec.ofNat 32 (min 0xFFFFFFFF (A.toNat % 2 ^ 32 +
          (if (s.tile s.pt).lateAt = s.cycle s.pt then (s.tile s.pt).lateNow else 0))) ∧
        (∀ p, p ≠ s.pt → t.tile p = s.tile p) ∧ t.strand s.key = { x with pc := s.iss.next } ∧ StrandsKeptBut s t s.key ∧ MemKept s t ∧
        t = { s with strands := t.strands, tiles := t.tiles, iss := { s.iss with res := .done } }) ∧
    P (.syswFcsr a) { x with fcsr := BitVec.ofNat 64 (rm * 256 + A.toNat % 64) ||| ((x.lateTo.foldl (· ||| ·) (x.lateLd ||| x.lateSt)).setWidth 64) }

/-- SYSW of PER and PPH. A period within the region's bounds that exceeds the phase, or 0 where the bounds allow it, is
written; from a period of 0 boundary(PIDX) becomes the present cycle and from another it stays; writing 0 leaves the origin.
From a period of 0 a new body starts, which is not busy (log 75). That a boundary which still waits for its NBRTC (R219) moves
with the lattice, and is none where 0 is written, is the model's choice (log 11): no rule says what a write of PER does before
that time. A value outside traps privilege with XVAL 0x010. A phase below the period, or any phase of a free-running strand,
is written; else the word traps with XVAL 0x011. -/
def Obligations.PeriodWrites : Prop :=
  ∀ (s : State) (a : BitVec 5),
    let x := s.me
    let v : BitVec 24 := (s.rs a).setWidth 24
    let r := s.region x.rcbp.toNat
    let bad := v.toNat < r.permin ∨ r.permax < v.toNat ∨ (v ≠ 0 ∧ v.toNat ≤ x.pph.toNat)
    (bad → ∃ t, exec (.syswPer a) s = .next t ∧ Traps s t 3 s.iss.pos 0x010) ∧
    (¬bad → v = 0 → ∃ t, exec (.syswPer a) s = .next t ∧ Performed s t { x with per := 0, due := none, pc := s.iss.next }) ∧
    (¬bad → v ≠ 0 → ∃ t y, exec (.syswPer a) s = .next t ∧ Performed s t y ∧ y = { x with per := v, c0 := y.c0, pc := s.iss.next, due := x.due.map (fun n => (n.1, n.2 + x.c0 - y.c0)), busy := x.busy && x.per != 0 } ∧
      boundary y x.pidx.toNat = if x.per = 0 then ((s.cycle s.pt : Nat) : Int) else boundary x x.pidx.toNat) ∧
    ((x.per ≠ 0 ∧ x.per.toNat ≤ v.toNat) → ∃ t, exec (.syswPph a) s = .next t ∧ Traps s t 3 s.iss.pos 0x011) ∧
    (¬(x.per ≠ 0 ∧ x.per.toNat ≤ v.toNat) → ∃ t, exec (.syswPph a) s = .next t ∧ Performed s t { x with pph := v, pc := s.iss.next })

/-- Loads of scalars and vectors. LD in its forms, LDV, LDVS and LDVX form their address from the pointer, index and
displacement, are checked in the order of R246, and issue one operation of LDC with a read part for each line they touch; the
load to its register happens at completion. LD and its indexed form may go to another panel. No register, flag or byte of
memory changes at issue. So it goes once the word issues: a full counter holds it back before any trap of its own (log 25). -/
def Obligations.LoadsIssue : Prop :=
  ∀ (s : State) (t b x : BitVec 5) (v vi : BitVec 7) (w : BitVec 2) (sx : BitVec 1) (d : BitVec 11) (d6 : BitVec 6) (d7 : BitVec 7)
      (g : BitVec 5),
    let P := s.rs b
    let base : Int := (P.toNat % 2 ^ 53 : Nat)
    let n := 2 ^ w.toNat
    let lanes := 64 / n
    let G := gatesFor s.me.gates 1
    let L (i : Instr) (o : Int) (ps : List (Int × Nat)) (cross : Bool) (fin : Ending) : Prop :=
      Accesses s i { p := P, o := o, pieces := ps, right := .read, crossOk := cross } .ldc fin Act.read G
    let o1 := base + d.toInt
    let o2 := base + (s.rs x).toInt + d6.toInt
    let o3 := base + (s.rs x).toInt + 64 * d7.toInt
    L (.ld t b w sx d) o1 [(o1, n)] true (.bytes t n (sx == 1)) ∧ L (.ldIndex t b x w sx d6) o2 [(o2, n)] true (.bytes t n (sx == 1)) ∧
    L (.ldAcq t b w sx g) base [(base, n)] false (.bytes t n (sx == 1)) ∧ L (.ldv v b x d7) o3 [(o3, 64)] false (.vec v) ∧
    L (.ldvs v b x w) base ((List.range lanes).map (fun (i : Nat) => (base + i * (s.rs x).toInt, n))) false (.vec v) ∧
    L (.ldvx v b vi w) base ((List.range lanes).map (fun (i : Nat) =>
      (base + (n : Nat) * toSigned (8 * n) (lane (8 * n) i (s.vs vi).toNat), n))) false (.vec v)

/-- Stores of scalars and vectors. ST in its forms, STV, STVS and STVX are checked in the order of R246 and issue one
operation of STC with a write part for each line: the part carries the bytes of the register, lowest first, at the places that
the address gives. ST.rel waits for everything the strand has pending in its scope. No register, flag or byte of memory
changes at issue. So it goes once the word issues: a full counter holds it back before any trap of its own (log 25). -/
def Obligations.StoresIssue : Prop :=
  ∀ (s : State) (t b x : BitVec 5) (v vi : BitVec 7) (w : BitVec 2) (d : BitVec 11) (d6 : BitVec 6) (d7 : BitVec 7) (g : BitVec 5),
    let P := s.rs b
    let base : Int := (P.toNat % 2 ^ 53 : Nat)
    let n := 2 ^ w.toNat
    let lanes := 64 / n
    let G := gatesFor s.me.gates 2
    let rel : Gate := { needs := s.pendingOf (.strand s.key), scope := s.scope s.key g.toNat, own := false }
    let S (i : Instr) (o : Int) (ps : List (Int × Nat)) (cross st : Bool) (bs : List Byte) (G : List Gate) : Prop :=
      Accesses s i { p := P, o := o, pieces := ps, right := .write, crossOk := cross, isSt := st } .stc .none (fun q => Act.write (cellsOf bs q)) G
    let low := toBytes n (s.rs t).toNat
    let all := toBytes 64 (s.vs v).toNat
    let o1 := base + d.toInt
    let o2 := base + (s.rs x).toInt + d6.toInt
    let o3 := base + (s.rs x).toInt + 64 * d7.toInt
    S (.st t b w d) o1 [(o1, n)] true true low G ∧ S (.stIndex t b x w d6) o2 [(o2, n)] true true low G ∧
    S (.stRel t b w g) base [(base, n)] false true low (rel :: G) ∧ S (.stv v b x d7) o3 [(o3, 64)] false false all G ∧
    S (.stvs v b x w) base ((List.range lanes).map (fun (i : Nat) => (base + i * (s.rs x).toInt, n))) false false all G ∧
    S (.stvx v b vi w) base ((List.range lanes).map (fun (i : Nat) =>
      (base + (n : Nat) * toSigned (8 * n) (lane (8 * n) i (s.vs vi).toNat), n))) false false all G

/-- VLDF and VSTF. VLDF and VSTF, and their forms for scale registers, take the memory format from the pointer (the register
format where it gives none), trap rights where that format is reserved or the conversion is not allowed, and issue one load or
store of the bytes of as many elements as the register holds; a store carries the converted bytes and its flags are raised at
completion. No register, flag or byte of memory changes at issue. So it goes once the word issues: a full counter holds it
back before any trap of its own (log 25). -/
def Obligations.ConvertingAccessesIssue : Prop :=
  ∀ (s : State) (v : BitVec 7) (q : BitVec 3) (b : BitVec 5) (r : BitVec 3) (x : BitVec 1) (f : BitVec 5),
    let P := s.rs b
    let o : Int := (P.toNat % 2 ^ 53 : Nat)
    let m (f : Nat) := if P.toNat / 2 ^ 59 % 32 = 0 then f else P.toNat / 2 ^ 59 % 32
    let ok (f : Nat) : Bool := if f = 10 then m f == 10
      else m f != 10 && (m f == f || (!integerFmt (m f) && !integerFmt f && !(narrowFmt (m f) && P.toNat / 2 ^ 56 % 8 != 0)))
    let A (f n : Nat) (right : Right) : Access := { p := P, o := o, pieces := [(o, n * halves (m f) / 2)], right := right
                                                    badFmt := reservedFmt (m f), condOk := ok f }
    let whole (right : Right) : Access := { p := P, o := o, pieces := [(o, 64)], right := right }
    let wr (bs : List Byte) : List Seg → Act := fun q => Act.write (cellsOf bs q)
    let bs := toBytes 64 (s.vs v).toNat
    let cv := convertBytes f.toNat (m f.toNat) (s.mode r) (x == 1) (128 / halves f.toNat) bs
    Accesses s (.vldf v b r x 0) (whole .read) .ldc (.vec v) Act.read (gatesFor s.me.gates 1) ∧
    (f ≠ 0 → Accesses s (.vldf v b r x f) (A f.toNat (128 / halves f.toNat) .read) .ldc
      (.conv v (m f.toNat) f.toNat (BitVec.ofNat 3 (s.mode r)) (x == 1)) Act.read (gatesFor s.me.gates 1)) ∧
    Accesses s (.vldfScales q b r x) (A 10 32 .read) .ldc (.scales q) Act.read (gatesFor s.me.gates 1) ∧
    Accesses s (.vstf v b r x 0) (whole .write) .stc (.flags 0) (wr bs) (gatesFor s.me.gates 2) ∧
    (f ≠ 0 → Accesses s (.vstf v b r x f) (A f.toNat (128 / halves f.toNat) .write) .stc (.flags cv.2) (wr cv.1) (gatesFor s.me.gates 2)) ∧
    Accesses s (.vstfScales q b r x) (A 10 32 .write) .stc (.flags 0) (wr (toBytes 32 (s.src.scale q).toNat)) (gatesFor s.me.gates 2)

/-- Atomics. AADD, AMIN, AMAX, AFMAX, AAND, AOR, AXOR, ASWP and ACAS read operand and expected value at issue, need an aligned
address and the atomic right, and issue one operation of LDC with one part at the home of the word's first byte that carries
major, type, operand and expected value (log 89: the base of a segment need not be aligned, and a word that then crosses a
line or a page is one part too); the old value reaches sD at completion. A relaxed one may go to another panel. No register,
flag or byte of memory changes at issue. So it goes once the word issues: a full counter holds it back before any trap of its
own (log 25). -/
def Obligations.AtomicsIssue : Prop :=
  ∀ (s : State) (d b v : BitVec 5) (y o : BitVec 2) (g : BitVec 5),
    let P := s.rs b
    let off : Int := (P.toNat % 2 ^ 53 : Nat)
    let n := if y.toNat < 2 then 4 else 8
    let low (x : Word) : Word := BitVec.ofNat 64 (x.toNat % 2 ^ (8 * n))
    let G := (if o = 2 ∨ o = 3 then [{ needs := s.pendingOf (.strand s.key), scope := s.scope s.key g.toNat, own := false }] else []) ++
      gatesFor s.me.gates 3
    let A (i : Instr) (major : Nat) : Prop :=
      AccessesAs s i { p := P, o := off, pieces := [(off, n)], right := .atomic, crossOk := o == 0, condOk := off % (n : Int) == 0 } .ldc
        (.word d) (fun l => match lines s.pt l [(off, n)] with
          | [] => []
          | (h, q) :: r => [(h, .atomic (q ++ r.flatMap Prod.snd) major y.toNat (low (s.rs v)) (low (s.rs d)), G)])
    A (.aadd d b v y o g) 0x28 ∧ A (.amin d b v y o g) 0x29 ∧ A (.amax d b v y o g) 0x2A ∧ A (.afmax d b v y o g) 0x2B ∧
    A (.aand d b v y o g) 0x2C ∧ A (.aor d b v y o g) 0x2D ∧ A (.axor d b v y o g) 0x2E ∧ A (.aswp d b v y o g) 0x2F ∧
    A (.acas d b v y o g) 0x30

/-- An acquire keeps later accesses back. When an LD, an atomic, a sample of a pennant of another tile or a PADD with .acq (or
.ar) issues on this panel, its parts become a gate on every later access of the strand in its scope; a relaxed one adds none.
A sample of an own pennant is performed as it issues and adds none. -/
def Obligations.AcquireGatesWhatFollows : Prop :=
  ∀ (s : State) (t b : BitVec 5) (w : BitVec 2) (x : BitVec 1) (g : BitVec 5) (d : BitVec 11) (l : Land) (v e f : BitVec 5) (y o : BitVec 2)
      (k : BitVec 6),
    let P := s.rs b
    let off : Int := (P.toNat % 2 ^ 53 : Nat)
    let n := 2 ^ w.toNat
    let m := if y.toNat < 2 then 4 else 8
    let acq : Prop := o = 1 ∨ o = 3
    let scope := s.scope s.key g.toNat
    let A (needs : List Need) : GateRec := { gate := { needs := needs, scope := scope, own := true, far := true }
                                             r := true, w := true, e := true, x := scope.isSystem }
    let Adds (i : Instr) (l : List GateRec) : Prop := ∃ u, exec i s = .next u ∧ (u.strand s.key).gates = s.me.gates ++ l
    let first : Need := .part (s.nextId + 1)
    let On (i : Instr) (needs : List Need) : Prop := (acq → Adds i [A needs]) ∧ (¬acq → Adds i [])
    (s.check { p := P, o := off, pieces := [(off, n)], right := .read } = .ok l → s.full .ldc = false →
      Adds (.ldAcq t b w x g) [A ((List.range (lines s.pt l [(off, n)]).length).map (fun i => Need.part (s.nextId + 1 + i)))]) ∧
    (s.check { p := P, o := off + d.toInt, pieces := [(off + d.toInt, n)], right := .read, crossOk := true } = .ok l → (∀ k, l ≠ .cross k) →
      s.full .ldc = false → Adds (.ld t b w x d) []) ∧
    (s.check { p := P, o := off, pieces := [(off, m)], right := .atomic, crossOk := o == 0, condOk := off % (m : Int) == 0 } = .ok l →
      (∀ k, l ≠ .cross k) → s.full .ldc = false →
      ∀ i ∈ [Instr.aadd t b v y o g, .amin t b v y o g, .amax t b v y o g, .afmax t b v y o g, .aand t b v y o g, .aor t b v y o g,
          .axor t b v y o g, .aswp t b v y o g, .acas t b v y o g],
        On i (if lines s.pt l [(off, m)] = [] then [] else [first])) ∧
    (∀ q j, s.penTarget x k o = .ok (.tile q j) → s.full .ldc = false →
      ∀ i ∈ [Instr.prd x e f k o g, .psame x e f k o g, .pstamp x e k o g, .padd x e f k o g], On i [first]) ∧
    (s.penTarget x k o = .ok .absent → s.full .ldc = false →
      ∀ i ∈ [Instr.prd x e f k o g, .psame x e f k o g, .pstamp x e k o g, .padd x e f k o g], On i []) ∧
    (∀ j, s.penTarget x k o = .ok (.here j) → s.localHeld 1 {} = false →
      ∀ i ∈ [Instr.prd x e f k o g, .psame x e f k o g, .pstamp x e k o g], Adds i []) ∧
    (∀ j, s.penTarget x k o = .ok (.here j) → s.localHeld 3 (s.ord o g) = false → On (.padd x e f k o g) [.part s.nextId])

/-- CPY, CPYS and FILL. A copy checks its source, then its destination; with CPC not full it issues one command with read
parts and then write parts that wait for the reads that supply them, a release of what the strand has pending at region scope;
with C set it publishes the byte count on its pennant at completion. A byte of a CPYS destination that several elements write
takes its value from one of them, which one is open (R261). CPY may have one end on another panel: then a message leaves under
a tag. FILL writes its pattern. A failed check traps. No register, flag or byte of memory changes at issue. So it goes once
the word issues: a full counter holds it back before any trap of its own (log 25). -/
def Obligations.CopiesIssue : Prop :=
  ∀ (s : State) (d a n : BitVec 5) (p : BitVec 6) (e : BitVec 1) (v : BitVec 5) (w : BitVec 2),
    let off (q : Word) : Int := (q.toNat % 2 ^ 53 : Nat)
    let A := s.rs a
    let D := s.rs d
    let G := s.relGate (.strand s.key) true (s.scope s.key 3) ++ s.gatesEngine s.me.gates (.grid s.pt)
    let pub := if e = 1 then some p.toNat else none
    let rd (ps : List (Int × Nat)) (x : Bool) : Access := { p := A, o := off A, pieces := ps, right := .read, crossOk := x }
    let wr (ps : List (Int × Nat)) (x : Bool) : Access := { p := D, o := off D, pieces := ps, right := .write, crossOk := x }
    let flat (l m : Land) : Bool := match l, m with | .flat _ _, .flat _ _ => true | _, _ => false
    let C (i : Instr) (src dst : List (Int × Nat)) (x : Bool) : Prop :=
      (∀ c v, s.check (rd src x) = .error (c, v) → ∃ t, exec i s = .next t ∧ Traps s t c s.iss.pos v) ∧
      (∀ l c v, s.check (rd src x) = .ok l → s.check (wr dst x) = .error (c, v) → ∃ t, exec i s = .next t ∧ Traps s t c s.iss.pos v) ∧
      (∀ l m, s.check (rd src x) = .ok l → s.check (wr dst x) = .ok m → (∀ k, l ≠ .cross k) → (∀ k, m ≠ .cross k) →
        (s.full .cpc = true → exec i s = .next s.block) ∧
        (s.full .cpc = false → ∃ t o W, exec i s = .next t ∧ List.Forall₂ Picked W (lines s.pt m dst) ∧ Issues s t (some .cpc) .copy
            ((copyParts (s.nextId + 1) (flat l m) (landRoot l) (landRoot m) (lines s.pt l src) W).map
              (fun q => (q.1, q.2.1, G ++ q.2.2.1))) ∧ t.ops = s.ops ++ [o] ∧ o.pub = pub ∧ o.count = BitVec.ofNat 64 (src.map Prod.snd).sum))
    let c1 := (s.rs (n + 1)).toNat
    let z := (s.rs n).toNat
    let run (q : Word) (st : Word) : List (Int × Nat) :=
      if z = 0 then [] else (List.range c1).map (fun (j : Nat) => (off q + j * st.toInt, z))
    let x := e == 1 && (s.segCross A != s.segCross D)
    C (.cpy d a n p e) [(off A, z)] [(off D, z)] x ∧ C (.cpys d a n p e) (run A (s.rs (n + 2))) (run D (s.rs (n + 3))) false ∧
    (∀ k m, s.check (rd [(off A, z)] x) = .ok (.cross k) → s.check (wr [(off D, z)] x) = .ok m →
      (s.freeTag = none → exec (.cpy d a n p e) s = .next s.block) ∧
      (s.freeTag ≠ none → ∃ t, exec (.cpy d a n p e) s = .next t ∧ Sends s t k [])) ∧
    (∀ k l, s.check (rd [(off A, z)] x) = .ok l → (∀ k, l ≠ .cross k) → s.check (wr [(off D, z)] x) = .ok (.cross k) →
      (s.freeTag = none → exec (.cpy d a n p e) s = .next s.block) ∧
      (s.freeTag ≠ none → ∃ t, exec (.cpy d a n p e) s = .next t ∧
        Sends s t k ((lines s.pt l [(off A, z)]).map (fun q => (q.1, Act.read q.2))))) ∧
    (let len := z * 2 ^ w.toNat
     let fill := wr [(off D, len)] false
     let bs := (List.replicate z (toBytes (2 ^ w.toNat) (s.rs v).toNat)).flatten
     (∀ c v', s.check fill = .error (c, v') → ∃ t, exec (.fill d v n w p e) s = .next t ∧ Traps s t c s.iss.pos v') ∧
     (∀ m, s.check fill = .ok m → (s.full .cpc = true → exec (.fill d v n w p e) s = .next s.block) ∧
       (s.full .cpc = false → ∃ t o, exec (.fill d v n w p e) s = .next t ∧ Issues s t (some .cpc) .copy
         ((lines s.pt m [(off D, len)]).map (fun q => (q.1, Act.write (cellsOf bs q.2), G))) ∧ t.ops = s.ops ++ [o] ∧ o.pub = pub ∧
         o.count = BitVec.ofNat 64 len)))

/-- SEGLD, SEGST and PFX. SEGLD reads and SEGST (privileged) writes entry sA of the region's descriptor table: an entry beyond
the table traps segment limit; a full counter holds the strand back; else one operation of LDC or STC is issued with a part
for each block of the 32 bytes. No register, flag or byte of memory changes at issue. PFX completes in every state and moves
on. It may start the translation of the FLAT page of its byte, a choice of the issue (log 61): where its check passes and the
tile has no copy of the leaf it then asks for a walk, which no access waits for and a later step makes (TranslationEvents). So
it goes once the word issues: a full counter holds it back before any trap of its own (log 25). -/
def Obligations.DescriptorWordsIssue : Prop :=
  ∀ (s : State) (g : BitVec 3) (a b x : BitVec 5) (d : BitVec 14),
    let r := s.region s.me.rcbp.toNat
    let e := (s.rs a).toNat
    let place := r.descBase / 64 * 64 + 32 * e
    let G := gatesFor s.me.gates 4
    (r.descCount ≤ e → ∃ t, exec (.segld g a) s = .next t ∧ Traps s t 4 s.iss.pos (s.rs a)) ∧
    (e < r.descCount → s.full .ldc = true → exec (.segld g a) s = .next s.block) ∧
    (e < r.descCount → s.full .ldc = false → ∃ t, exec (.segld g a) s = .next t ∧
      Issues s t (some .ldc) (.seg g) ((s.panelLines place 32).map (fun x => (x.1, Act.read x.2, G)))) ∧
    (s.me.p = false → ∃ t, exec (.segst g a) s = .next t ∧ Traps s t 3 s.iss.pos 0) ∧
    (s.me.p = true → r.descCount ≤ e → ∃ t, exec (.segst g a) s = .next t ∧ Traps s t 4 s.iss.pos (s.rs a)) ∧
    (s.me.p = true → e < r.descCount → s.full .stc = true → exec (.segst g a) s = .next s.block) ∧
    (s.me.p = true → e < r.descCount → s.full .stc = false → ∃ t, exec (.segst g a) s = .next t ∧
      Issues s t (some .stc) .none ((s.panelLines place 32).map (fun x =>
        (x.1, Act.write (cellsOf (toBytes 32 (s.src.seg g).toNat) x.2), G)))) ∧
    (∃ t, exec (.pfx b x d) s = .next t ∧ (s.iss.fetch = false → Moves s t s.iss.next) ∧ t.strand s.key = { s.me with pc := s.iss.next } ∧
      StrandsKeptBut s t s.key ∧ t = { s with strands := t.strands, posts := t.posts, nextId := t.nextId, iss := { s.iss with res := .done } } ∧
      (let P := s.rs b
       let o : Int := ((P.toNat % 2 ^ 53 : Nat) : Int) + (s.rs x).toInt + d.toInt
       let c := s.check { p := P, o := o, pieces := [(o, 1)], right := .read }
       ((∀ root base, c ≠ .ok (.flat root base)) → Moves s t s.iss.next) ∧
       (∀ root base, c = .ok (.flat root base) → (let va := ((base : Int) + o).toNat
         (s.cachedLeaf s.pt root va ≠ none → Moves s t s.iss.next) ∧
         (s.iss.fetch = true → s.cachedLeaf s.pt root va = none → ∃ p, t.posts = s.posts ++ [p] ∧ p.pid = s.nextId ∧ p.home = .virt ∧
           p.party = .walker (s.pt / 144) ∧ p.src = s.pt ∧ p.root = root ∧ p.write = false ∧ ∃ g, p.act = .read [g] ∧ g.key = va ∧ g.len = 0)))))

/-- Pennant words on the issuing tile. On a pennant of the issuing tile, with nothing of the strand still in their way: PRD
writes value and hoist count, PSAME the hoist count less the expected one in 32 bits, PSTAMP hoist count and stamp, all from
the file as it stood before the writes of the cycle, and nothing else changes; PWR, PADD and (privileged) PCLR, which no FENCE
holds back, issue a write that lands two cycles later with the issuer's PIDX as stamp. Where something is in their way they
are not ready and nothing changes. A failed check of the address word traps. A PWR with release whose earlier accesses are
still open in its scope, whatever else stands in its way, is recorded with its value, stamp and gates and counted in STC;
nothing else changes until its entry. -/
def Obligations.LocalPennantWords : Prop :=
  ∀ (s : State) (x : BitVec 1) (e f v : BitVec 5) (t : BitVec 6) (o : BitVec 2) (g : BitVec 5) (i : Nat),
    let p := s.penSeen s.pt i
    let stamp : BitVec 32 := s.me.pidx.setWidth 32
    let rel := (o = 2 ∨ o = 3) ∧ (s.relGate (.strand s.key) true (s.scope s.key g.toNat)).any (fun q => s.gateClosed q (.pens s.pt)) = true
    (s.penTarget x t o = .ok (.here i) → s.localHeld 1 {} = false →
      (∃ u, exec (.prd x e f t o g) s = .next u ∧ WritesRegs s u e f p.value (p.hoist.setWidth 64) s.iss.next) ∧
      (∃ u, exec (.psame x e f t o g) s = .next u ∧ WritesReg s u e ((p.hoist - (s.rs f).setWidth 32).setWidth 64) s.iss.next) ∧
      (∃ u, exec (.pstamp x e t o g) s = .next u ∧ WritesReg s u e (p.hoist ++ p.stamp) s.iss.next)) ∧
    (s.penTarget x t o = .ok (.here i) → s.localHeld 1 {} = true → exec (.prd x e f t o g) s = .next s.block ∧
      exec (.psame x e f t o g) s = .next s.block ∧ exec (.pstamp x e t o g) s = .next s.block) ∧
    (s.penTarget x t o = .ok (.here i) → s.localHeld 2 {} = false → ¬rel →
      ∃ u, exec (.pwr x v t o g) s = .next u ∧ WritesLocally s u i (.set (s.rs v) stamp) none) ∧
    (s.penTarget x t o = .ok (.here i) → s.localHeld 2 {} = true → ¬rel → exec (.pwr x v t o g) s = .next s.block) ∧
    (s.penTarget x t o = .ok (.here i) → s.localHeld 3 (s.ord o g) = false →
      ∃ u, exec (.padd x e f t o g) s = .next u ∧ WritesLocally s u i (.add (s.rs f) stamp) (some e)) ∧
    (s.penTarget x t o = .ok (.here i) → s.localHeld 3 (s.ord o g) = true → exec (.padd x e f t o g) s = .next s.block) ∧
    (let free : Prop := s.localHeld 0 {} = false ∧ ∀ q ∈ s.me.gates, q.gate.far = true → s.gateClosed q.gate (.pens s.pt) = false
     s.me.p = true → (free → ∃ u, exec (.pclr v) s = .next u ∧ WritesLocally s u ((s.rs v).toNat % 64) .clear none) ∧
      (¬free → exec (.pclr v) s = .next s.block)) ∧
    (∀ c w, s.penTarget x t o = .error (c, w) → ∀ j ∈ [Instr.prd x e f t o g, .psame x e f t o g, .pstamp x e t o g, .pwr x v t o g, .padd x e f t o g],
      ∃ u, exec j s = .next u ∧ Traps s u c s.iss.pos w) ∧
    (s.penTarget x t o = .ok (.here i) → rel → s.full .stc = true → exec (.pwr x v t o g) s = .next s.block) ∧
    (s.penTarget x t o = .ok (.here i) → rel → s.full .stc = false → ∃ u op, exec (.pwr x v t o g) s = .next u ∧
      u.heldRels = s.heldRels ++ [{ oid := s.nextId, pt := s.pt, party := .strand s.key, idx := i, v := s.rs v, stamp := stamp
                                    gates := s.relGate (.strand s.key) true (s.scope s.key g.toNat) ++ gatesFor s.me.gates 2 }] ∧
      u.ops = s.ops ++ [op] ∧ op.oid = s.nextId ∧ op.cls = some .stc ∧ RegsKept s.me (u.strand s.key) ∧
      (u.strand s.key).pc = s.iss.next ∧ (u.strand s.key).stc = s.me.stc + 1 ∧ StrandsKeptBut s u s.key ∧ MemKept s u ∧
      u = { s with strands := u.strands, regions := u.regions, ops := u.ops, heldRels := u.heldRels, nextId := u.nextId
                   iss := { s.iss with res := .done } })

/-- Pennant words on other tiles. On a pennant of another tile a word issues one operation with one part at that tile's
pennant file: PWR in STC, the samples and PADD in LDC. To no tile it issues an operation without parts, whose samples return
what R180 states; so does a sample or a PADD, and a member of a bunting, that meets a dead router on its path and is refused
there (R350); a PWR lands over it, as R368 has it (log 49). To another panel it is sent under a tag. PMC writes every member
of a valid bunting that names a tile, and traps rights where it is not valid. A full counter holds the word back. No register,
pennant or byte of memory changes at issue. So it goes once the word issues: a full counter holds it back before any trap of
its own (log 25). -/
def Obligations.RemotePennantWords : Prop :=
  ∀ (s : State) (x : BitVec 1) (e f v : BitVec 5) (t b : BitVec 6) (o : BitVec 2) (g : BitVec 5),
    let stamp : BitVec 32 := s.me.pidx.setWidth 32
    let G (cls : Nat) : List Gate := s.relGate (.strand s.key) (o == 2 || o == 3) (s.scope s.key g.toNat) ++ gatesFor s.me.gates cls
    let R (i : Instr) (c : Cls) (fin : Ending) (cls : Nat) (act : Nat → Act) (res : Word × Word) (lands : Bool := false) : Prop :=
      (∀ q k, s.penTarget x t o lands = .ok (.tile q k) → (s.full c = true → exec i s = .next s.block) ∧
        (s.full c = false → ∃ u, exec i s = .next u ∧ Issues s u (some c) fin [(.pens q, act k, G cls)])) ∧
      (s.penTarget x t o lands = .ok .absent → (s.full c = true → exec i s = .next s.block) ∧
        (s.full c = false → ∃ u op, exec i s = .next u ∧ Issues s u (some c) fin [] ∧ u.ops = s.ops ++ [op] ∧ op.res = res.1 ∧ op.res2 = res.2)) ∧
      (∀ chip cp die n k, s.penTarget x t o lands = .ok (.cross chip cp die n k) → (s.freeTag = none → exec i s = .next s.block) ∧
        (s.freeTag ≠ none → ∃ u, exec i s = .next u ∧ Sends s u chip []))
    let ones : Word := BitVec.allOnes 64
    R (.pwr x v t o g) .stc .none 2 (fun k => .penWrite k (s.rs v) stamp) (0, 0) true ∧
    R (.prd x e f t o g) .ldc (.words e f) 1 (fun k => .penSample k 0 0) (0, ones) ∧
    R (.psame x e f t o g) .ldc (.word e) 1 (fun k => .penSample k 1 ((s.rs f).setWidth 32)) (ones, 0) ∧
    R (.pstamp x e t o g) .ldc (.word e) 1 (fun k => .penSample k 2 0) (ones, 0) ∧
    R (.padd x e f t o g) .ldc (.word e) 3 (fun k => .penAdd k (s.rs f) stamp) (0, 0) ∧
    (s.bunting s.me.rcbp.toNat b.toNat = none → ∃ u, exec (.pmc b v o g) s = .next u ∧ Traps s u 5 s.iss.pos (BitVec.ofNat 64 b.toNat)) ∧
    (∀ ms, s.bunting s.me.rcbp.toNat b.toNat = some ms → s.full .stc = true → exec (.pmc b v o g) s = .next s.block) ∧
    (∀ ms, s.bunting s.me.rcbp.toNat b.toNat = some ms → s.full .stc = false → ∃ u, exec (.pmc b v o g) s = .next u ∧
      Issues s u (some .stc) .none (ms.filterMap (fun m => match s.physTile (m / 2 ^ 14 % 128) (m / 64 % 256) with
        | none => none
        | some q => if s.refusedPath s.pt q = true then none
            else some (Home.pens q, Act.penWrite (m % 64) (s.rs v) stamp, G 2))))

/-- TQRY and EVACK. TQRY writes the topology word, the word of a die or all ones as its selector asks, and changes nothing
else. EVACK by the tile's runtime clears the pending bit that it names and moves on; an event of that kind and index raised
earlier in the same cycle stands as if raised after it: the bit stays set and a word that was merged has its own deposit. Of a
page fault of a slot with parked accesses: where its bit 8 asks for a replay and the slot's strand, of the region's tree, is
Held or Parked, the accesses go back to their queue in front of all others, to be walked afresh, the record is empty and a
Parked strand is Held; else the fault is raised again at once with the address of the first parked access. -/
def Obligations.TileQueries : Prop :=
  ∀ (s : State) (d a : BitVec 5),
    let sel := (s.rs a).toNat
    let kind := sel / 32 % 8
    let i := sel % 32
    let k := s.pt * 16 + i
    let parked := s.parkedOps (.strand k)
    let x := s.strand k
    let T := s.tile s.pt
    let c := s.cycle s.pt
    let index (w : Nat) : Nat := if kind = 1 then w / 2 ^ 52 % 16 else if kind = 6 then w / 2 ^ 40 % 32 else 0
    let named (r : Word × Bool) : Prop := r.1.toNat / 2 ^ 56 % 256 = kind ∧ index r.1.toNat = if kind = 1 ∨ kind = 6 then i else 0
    let U : Tile := { T with qpClear := if kind = 2 then some c else T.qpClear }
    let acked (t : Tile) : Prop :=
      ((T.raisedAt = some c → ∀ r, r ∈ T.raised → ¬named r) → t = { U with
        pfp := if kind = 1 then T.pfp &&& ~~~(BitVec.ofNat 16 (2 ^ i)) else T.pfp
        qp := if kind = 2 then false else T.qp, dp := if kind = 3 then false else T.dp
        ap := if kind = 4 then false else T.ap, tp := if kind = 5 then false else T.tp
        evp := if kind = 6 then T.evp &&& ~~~(BitVec.ofNat 32 (2 ^ i)) else T.evp }) ∧
      (∀ l w m z, T.raisedAt = some c → T.raised = l ++ (w, m) :: z → named (w, m) → (∀ r, r ∈ l → ¬named r) →
        (m = false → t = U) ∧
        (m = true → t = { U with events := T.events ++ [w], raised := T.raised.map (fun r => if r = (w, true) then (w, false) else r) }))
    let replays : Prop := sel / 2 ^ 8 % 2 = 1 ∧ (x.st = .parked ∨ x.st = .held) ∧ s.within x.rcbp.toNat s.me.rcbp.toNat = true
    (∃ t, exec (.tqry d a) s = .next t ∧ WritesReg s t d (if sel % 256 = 0 then s.topo s.pt else if sel % 256 = 1 then s.dieWord (sel / 256 % 128)
      else BitVec.allOnes 64) s.iss.next) ∧
    (s.me.en = true → (kind ≠ 1 ∨ 16 ≤ i ∨ parked = []) → ∃ t, exec (.evack a) s = .next t ∧
      t.strand s.key = { s.me with pc := s.iss.next } ∧ StrandsKeptBut s t s.key ∧ MemKept s t ∧
      (∀ p, p ≠ s.pt → t.tile p = s.tile p) ∧ acked (t.tile s.pt) ∧
      t = { s with strands := t.strands, tiles := t.tiles, iss := { s.iss with res := .done } }) ∧
    (s.me.en = true → kind = 1 → i < 16 → parked ≠ [] → k ≠ s.key →
      (replays → ∃ t, exec (.evack a) s = .next t ∧ t.strand s.key = { s.me with pc := s.iss.next } ∧
        t.strand k = { x with st := .held } ∧ (∀ j, j ≠ s.key → j ≠ k → t.strand j = s.strand j) ∧ MemKept s t ∧
        t.posts = (parked.map Op.parked).flatten.map (fun q => { q with fresh := q.home == .virt }) ++ s.posts ∧
        t.parkedOps (.strand k) = [] ∧ t.ops.map Op.oid = s.ops.map Op.oid ∧ acked (t.tile s.pt) ∧
        (∀ p, p ≠ s.pt → t.tile p = s.tile p) ∧
        t = { s with strands := t.strands, tiles := t.tiles, ops := t.ops, posts := t.posts, iss := { s.iss with res := .done } }) ∧
      (¬replays → ∃ t y, exec (.evack a) s = .next t ∧ t.strand s.key = { s.me with pc := s.iss.next } ∧ StrandsKeptBut s t s.key ∧ MemKept s t ∧
        acked y ∧ t.tile s.pt = faultRaised y c i (eventWord 1 i 0 (s.firstParked (.strand k))) ∧ (∀ p, p ≠ s.pt → t.tile p = s.tile p) ∧
        t = { s with strands := t.strands, tiles := t.tiles, iss := { s.iss with res := .done } }))

/-- EVICT and RESUME. A privileged EVICT of a strand of the issuer's region tree that runs, is idle, held or parked takes it
out of its state into the lowest empty cache entry, with its context as the entry's, and is counted in CPC until the entry is
held; a full CPC holds the word back, and so does a gate of an acquire or a FENCE on its class, since it takes effect at issue
(log 90); a target in another state, the issuer itself, a foreign one or a full cache give codes 1 to 4. RESUME of a held
entry puts its context back into its slot and empties the entry, with the slot in sD: Held in the hold that HREC records, at
the position of its word, else Idle before its boundary where it was idle (log 10 for a context of CTXLD), else Running; its
counters count what it has outstanding, its parked accesses and what waits behind them, and the parked ones are replayed in
front of the queue. Codes 1, 3, 5 and 6 say why not, in an order that log 58 chooses. Memory is unchanged. So it goes once the
word issues: a full counter holds it back before any trap of its own (log 25). -/
def Obligations.EvictAndResume : Prop :=
  ∀ (s : State) (d a : BitVec 5),
    let key := s.pt * 16 + (s.rs a).toNat % 16
    let x := s.strand key
    let live := x.st = .running ∨ x.st = .idle ∨ x.st = .held ∨ x.st = .parked
    let n := (s.rs a).toNat % 32
    let c := s.entry s.pt n
    let refuse (code : Nat) : Prop := ∃ t o, exec (.evict d a) s = .next t ∧ Issues s t (some .cpc) (.word d) [] ∧ t.ops = s.ops ++ [o] ∧
      o.res = BitVec.ofNat 64 code
    let W (v : Nat) : Prop := ∃ t, exec (.resume d a) s = .next t ∧ WritesReg s t d (BitVec.ofNat 64 v) s.iss.next
    let gated : Bool := (gatesFor s.me.gates 4).any (fun g => s.gateClosed g (.grid s.pt))
    (s.me.p = true → s.full .cpc = true ∨ gated = true → exec (.evict d a) s = .next s.block) ∧
    (s.me.p = true → s.full .cpc = false → gated = false →
      (¬live → refuse 1) ∧ (live → key = s.key → refuse 2) ∧ (live → key ≠ s.key → s.within x.rcbp.toNat s.me.rcbp.toNat = false → refuse 3) ∧
      (live → key ≠ s.key → s.within x.rcbp.toNat s.me.rcbp.toNat = true → lowestEntry s s.pt = none → refuse 4) ∧
      (∀ e, live → key ≠ s.key → s.within x.rcbp.toNat s.me.rcbp.toNat = true → lowestEntry s s.pt = some e → ∃ t o, exec (.evict d a) s = .next t ∧
        t.strand key = { x with st := .evicted, was := x.st, hrec := holdRecord x.hold, holdPos := holdPosition x.hold, pc := savedPc x, hold := .none } ∧
        (t.entry s.pt e).st = .loading ∧ (t.entry s.pt e).strand = t.strand key ∧ RegsKept s.me (t.strand s.key) ∧
        (t.strand s.key).pc = s.iss.next ∧ (t.strand s.key).cpc = s.me.cpc + 1 ∧ (∀ k, k ≠ s.key → k ≠ key → t.strand k = s.strand k) ∧
        MemKept s t ∧ t.ops = s.ops ++ [o] ∧ o.fin = .evict d e ∧ o.res = BitVec.ofNat 64 (e * 256))) ∧
    (s.me.p = true →
      ((c.st = .empty ∨ c.st = .loading) → W 1) ∧
      ((c.st = .held ∨ c.st = .bad) → s.within c.strand.rcbp.toNat s.me.rcbp.toNat = false → W 3) ∧
      ((c.st = .held ∨ c.st = .bad) → s.within c.strand.rcbp.toNat s.me.rcbp.toNat = true → s.resumeSlot s.pt c = none → W 5) ∧
      (∀ q, c.st = .bad → s.within c.strand.rcbp.toNat s.me.rcbp.toNat = true → s.resumeSlot s.pt c = some q → ∃ t, exec (.resume d a) s = .next t ∧
        WritesReg (s.setEntry s.pt n {}) t d 6 s.iss.next) ∧
      (∀ q, c.st = .held → s.within c.strand.rcbp.toNat s.me.rcbp.toNat = true → s.resumeSlot s.pt c = some q → s.pt * 16 + q ≠ s.key →
        ∃ t, exec (.resume d a) s = .next t ∧ t.entry s.pt n = {} ∧ RegsKept s.me { t.strand s.key with s := s.me.s } ∧
        (∀ r, (t.strand s.key).reg r = if r = 0 then 0 else if r = d then BitVec.ofNat 64 (q * 256) else s.me.reg r) ∧ MemKept s t ∧
        (∀ k, k ≠ s.key → k ≠ s.pt * 16 + q → t.strand k = s.strand k) ∧
        (let y := t.strand (s.pt * 16 + q)
         let rec' := c.strand.hrec.toNat / 2 ^ 61
         let from' := s.parkedOps (.cached (s.pt * 32 + n))
         let waiting (k : Cls) : Nat := (s.ops.filter (fun o => o.party == .cached (s.pt * 32 + n) && o.cls == some k &&
           !(o.cross && o.parked.isEmpty))).length
         y = { c.strand with st := y.st, hold := y.hold, hrec := 0, ldc := waiting .ldc, stc := waiting .stc, cpc := waiting .cpc, toc := waiting .toc } ∧
         (rec' = 5 → y.st = .held ∧ y.hold = .wait (c.strand.hrec.setWidth 24) c.strand.holdPos true) ∧
         (rec' = 6 → y.st = .held ∧ y.hold = .fence [{ needs := (from'.map Op.parked).flatten.map (fun p => Need.part p.pid), scope := .system, own := false }]
            c.strand.holdPos true) ∧
         (rec' ≠ 5 → rec' ≠ 6 → y.hold = .none ∧ (if (c.strand.was = .idle ∨ (c.strand.was = .unarmed ∧ c.strand.per ≠ 0)) ∧
            (s.cycle s.pt : Int) < boundary c.strand c.strand.pidx.toNat then y.st = .idle else y.st = .running)) ∧
         t.posts.map (fun p => (p.pid, p.home, p.act)) = (from'.map Op.parked).flatten.map (fun p => (p.pid, p.home, p.act)) ++
           s.posts.map (fun p => (p.pid, p.home, p.act)))))

/-- CTXSV and CTXLD. A privileged CTXSV of a held entry with no access parked or waiting for one stores the entry's image at
the pointer, and a privileged CTXLD into an empty entry, which becomes loading, reads an image of the size that its VLIM
gives; both are engine commands counted in CPC. Another state of the entry, or for CTXSV a context of another region tree,
traps privilege with sA in XVAL, a failed check of the 1,024 bytes and then of the whole image traps, a full counter holds the
word back. No register and no byte of memory changes at issue. So it goes once the word issues: a full counter holds it back
before any trap of its own (log 25). Logs 12 and 86 choose which VLIM sizes the read of an image, log 95 the XVAL of a foreign
context. -/
def Obligations.ContextImagesIssue : Prop :=
  ∀ (s : State) (a b : BitVec 5),
    let e := (s.rs a).toNat % 32
    let P := s.rs b
    let o : Int := (P.toNat % 2 ^ 53 : Nat)
    let A (n : Nat) (r : Right) : Access := { p := P, o := o, pieces := [(o, n)], right := r }
    let size := 1024 + 64 * (s.entry s.pt e).strand.vlim.toNat
    let u := s.setEntry s.pt e { st := .loading }
    let G (v : State) := v.relGate (.strand s.key) true (v.scope s.key 3) ++ v.gatesEngine s.me.gates (.grid s.pt)
    let savable := (s.entry s.pt e).st = .held ∧ (∀ o, o ∈ s.ops → o.party ≠ .cached (s.pt * 32 + e)) ∧
      s.within (s.entry s.pt e).strand.rcbp.toNat s.me.rcbp.toNat = true
    (s.me.p = true → ¬savable → ∃ t, exec (.ctxsv a b) s = .next t ∧ Traps s t 3 s.iss.pos (s.rs a)) ∧
    (s.me.p = true → savable → (∀ c v, s.check (A size .write) = .error (c, v) → ∃ t, exec (.ctxsv a b) s = .next t ∧ Traps s t c s.iss.pos v) ∧
      (∀ l, s.check (A size .write) = .ok l → (s.full .cpc = true → exec (.ctxsv a b) s = .next s.block) ∧
        (s.full .cpc = false → ∃ t, exec (.ctxsv a b) s = .next t ∧ Issues s t (some .cpc) (.ctxsv e)
          ((lines s.pt l [(o, size)]).map (fun x => (x.1, Act.write (cellsOf (s.imageOf s.pt e) x.2), G s)))))) ∧
    (s.me.p = true → (s.entry s.pt e).st ≠ .empty → ∃ t, exec (.ctxld a b) s = .next t ∧ Traps s t 3 s.iss.pos (s.rs a)) ∧
    (s.me.p = true → (s.entry s.pt e).st = .empty →
      (∀ c v, s.check (A 1024 .read) = .error (c, v) → ∃ t, exec (.ctxld a b) s = .next t ∧ Traps s t c s.iss.pos v) ∧
      (∀ l c v, s.check (A 1024 .read) = .ok l → s.check (A (1024 + 64 * s.imageVlim l o) .read) = .error (c, v) →
        ∃ t, exec (.ctxld a b) s = .next t ∧ Traps s t c s.iss.pos v) ∧
      (∀ l m, s.check (A 1024 .read) = .ok l → s.check (A (1024 + 64 * s.imageVlim l o) .read) = .ok m →
        (s.full .cpc = true → exec (.ctxld a b) s = .next s.block) ∧
        (s.full .cpc = false → ∃ t, exec (.ctxld a b) s = .next t ∧ Issues u t (some .cpc) (.ctxld e)
          ((lines s.pt m [(o, 1024 + 64 * s.imageVlim l o)]).map (fun x => (x.1, Act.read x.2, G u))))))

/-- GBIND, GLD, GLDV, GST, GSTEP and GQRY. GBIND checks the 128-byte header and the whole descriptor at its pointer and reads
it as one operation of LDC. GLD and GLDV make the checks of R274 in order and trap with their causes; interior cells are read
at their storage places with status code 0; ghost cells whose faces all have a slot that holds the step are read from those
slots, which the operation pins, the status then holds code 1 and the tag of the slot that serves the first ghost cell, and
the load gates what follows as an acquire at region scope; where a face has none the load traps stale or expired, or with .chk
issues without reading and returns the status. GST writes an interior cell, traps segment limit at a ghost and segment rights
where the cell stands on protected bytes of the tile (log 82). GSTEP issues one command of CPC. GQRY writes what each of its
selectors asks. Full counters hold a word back. No register, slot or byte of memory changes at issue. So it goes once the word
issues: a full counter holds it back before any trap of its own (log 25). -/
def Obligations.GridWords : Prop :=
  ∀ (s : State) (d c r : BitVec 5) (v : BitVec 7) (g : BitVec 3) (k : BitVec 1),
    let seg := s.src.seg g
    let e := s.gridEntry s.pt (gridNo seg)
    let D := e.desc
    let w := s.rs c
    let step := s.rs r
    let chk := if k = 1 then some r else none
    let G (cls : Nat) := gatesFor s.me.gates cls
    let bound (right : Bool) : Prop := dKind seg = 4 ∧ dG seg = true ∧ right = true ∧ e.id ≠ 0
    let shaped : Prop := w.getLsbD 63 = false ∧ ∀ a, a < 3 → D.rank ≤ a → coordAxis w a = 0
    let cell (j : Nat) : List Int := [coordAxis w 0 + j, coordAxis w 1, coordAxis w 2]
    let T (i : Instr) (cause : BitVec 6) (x : Word) : Prop := ∃ t, exec i s = .next t ∧ Traps s t cause s.iss.pos x
    let missing (n f : Nat) : Prop := ∃ j, j < n ∧ ghostFace D e.part (cell j) = some f ∧ servingSlot e f step.toNat = none
    let late (n : Nat) : Prop := ∃ f, missing n f ∧ newestTag e f ≠ 0xFFFFFFFF ∧ step.toNat < (newestTag e f).toNat
    let inside (n : Nat) : Prop := ∀ j, j < n → cellOutside D e.part (cell j) = false
    let place (j : Nat) : Nat := match ghostFace D e.part (cell j) with
      | none => interiorIndex D e.part (cell j)
      | some f => ghostIndex D e.part f ((servingSlot e f step.toNat).getD 0) (cell j)
    let L (i : Instr) (n : Nat) (fin : Word → Bool → Ending) : Prop :=
      (¬bound (dR seg) → T i 5 w) ∧ (bound (dR seg) → ¬shaped → T i 4 w) ∧
      (bound (dR seg) → shaped → ¬inside n → T i 4 w) ∧
      (bound (dR seg) → shaped → inside n → (∀ j, j < n → ghostFace D e.part (cell j) = none) →
        (s.full .ldc = true → exec i s = .next s.block) ∧
        (s.full .ldc = false → ∃ t, exec i s = .next t ∧ Issues s t (some .ldc) (fin 0xFFFFFFFF00000000 true)
          ((s.gridLines e ((List.range n).map place)).1.map (fun x => (x.1, Act.read x.2, G 1))))) ∧
      (bound (dR seg) → shaped → inside n → (∃ j, j < n ∧ ghostFace D e.part (cell j) ≠ none) →
        (4294967287 < step.toNat → T i 4 step) ∧
        (step.toNat ≤ 4294967287 → (∀ f, ¬missing n f) → (s.full .ldc = true → exec i s = .next s.block) ∧
          (s.full .ldc = false → ∃ t st o A, exec i s = .next t ∧ Issues s t (some .ldc) (fin st true)
              ((s.gridLines e ((List.range n).map place)).1.map (fun x => (x.1, Act.read x.2, G 1))) ∧ st.toNat % 2 ^ 32 = 1 ∧
            (∀ j f q, j < n → ghostFace D e.part (cell j) = some f → (∀ i, i < j → ghostFace D e.part (cell i) = none) →
              servingSlot e f step.toNat = some q → st.toNat / 2 ^ 32 = ((e.slots[2 * f + q]?).getD {}).tag.toNat) ∧
            t.ops = s.ops ++ [o] ∧ (∀ j f q, j < n → ghostFace D e.part (cell j) = some f → servingSlot e f step.toNat = some q →
              (s.pt, gridNo seg, 2 * f + q) ∈ o.pin) ∧
            (t.strand s.key).gates = s.me.gates ++ [A] ∧ A.gate.scope = s.scope s.key 3 ∧ A.gate.own = true ∧ A.r = true ∧ A.w = true)) ∧
        (step.toNat ≤ 4294967287 → D.rank ≤ 3 → ∀ f code, missing n f → (∀ h, missing n h → f ≤ h) → (late n → code = 3) →
          (¬late n → code = 2) →
          (k = 0 → T i (if code = 2 then 7 else 8) (gridStatus (newestTag e f) code)) ∧
          (k = 1 → (s.full .ldc = true → exec i s = .next s.block) ∧ (s.full .ldc = false →
            ∃ t, exec i s = .next t ∧ Issues s t (some .ldc) (fin (gridStatus (newestTag e f) code) false) []))))
    L (.gld d c r g k) 1 (fun st ok => .cell d D.fmt chk st ok) ∧ L (.gldv v c r g k) (64 / elemSize D.fmt) (fun st ok => .cells v chk st ok) ∧
    (¬bound (dW seg) → T (.gst d c g) 5 w) ∧ (bound (dW seg) → ¬shaped → T (.gst d c g) 4 w) ∧
    (bound (dW seg) → shaped → (cellOutside D e.part (cell 0) = true ∨ ghostFace D e.part (cell 0) ≠ none) → T (.gst d c g) 4 w) ∧
    (bound (dW seg) → shaped → cellOutside D e.part (cell 0) = false → ghostFace D e.part (cell 0) = none →
      s.cellProtected s.pt e (interiorIndex D e.part (cell 0)) = true → T (.gst d c g) 5 w) ∧
    (bound (dW seg) → shaped → cellOutside D e.part (cell 0) = false → ghostFace D e.part (cell 0) = none →
      s.cellProtected s.pt e (interiorIndex D e.part (cell 0)) = false →
      (s.full .stc = true → exec (.gst d c g) s = .next s.block) ∧
      (s.full .stc = false → ∃ t, exec (.gst d c g) s = .next t ∧ Issues s t (some .stc) .none
        ((s.gridLines e [interiorIndex D e.part (cell 0)]).1.map (fun x =>
          (x.1, Act.write (cellsOf (toBytes (elemSize D.fmt) (s.rs d).toNat) x.2), G 2))))) ∧
    (¬bound (dW seg) → T (.gstep g r) 5 step) ∧ (bound (dW seg) → 4294967287 < step.toNat → T (.gstep g r) 4 step) ∧
    (bound (dW seg) → step.toNat ≤ 4294967287 → (s.full .cpc = true → exec (.gstep g r) s = .next s.block) ∧
      (s.full .cpc = false → ∃ t, exec (.gstep g r) s = .next t ∧ Issues s t (some .cpc) (.gstep (gridNo seg) step.toNat) [])) ∧
    (¬bound true → T (.gqry d g r) 5 step) ∧
    (bound true → ∃ t x, exec (.gqry d g r) s = .next t ∧ WritesReg s t d x s.iss.next ∧ (let sel := step.toNat % 256
      (sel = 0 → x.toNat = e.pstep.toNat) ∧ (sel = 4 → x.toNat = e.mstep.toNat) ∧
      (sel = 1 → x = BitVec.ofNat 64 (gridExt D e.part 0 + gridExt D e.part 1 * 2 ^ 21 + gridExt D e.part 2 * 2 ^ 42)) ∧
      (sel = 2 → x.toNat = gridOrigin D e.part 1 % 2 ^ 24 * 2 ^ 24 + gridOrigin D e.part 0 % 2 ^ 24) ∧
      (sel = 3 → x = BitVec.ofNat 64 (gridNo seg * 2 ^ 39 + D.fmt * 2 ^ 34 + D.rank * 2 ^ 32 + D.d * 2 ^ 28 + D.w * 2 ^ 24 +
        gridOrigin D e.part 2 % 2 ^ 24)) ∧
      (∀ q, q < 4 * D.rank → sel = 16 + q → x = slotWord ((e.slots[q]?).getD {})) ∧
      ((4 < sel ∧ sel < 16) ∨ 16 + 4 * D.rank ≤ sel → x = BitVec.allOnes 64))) ∧
    (let P := s.rs d
     let A (n : Nat) : Access := { p := P, o := (ptrOff P : Nat), pieces := [((ptrOff P : Nat), n)], right := .read }
     (∀ x y, s.check (A 128) = .error (x, y) → T (.gbind g d) x y) ∧
     (∀ l, s.check (A 128) = .ok l → let n := gridBytes (gridHeader (s.peek l (ptrOff P) 128))
      (∀ x y, s.check (A n) = .error (x, y) → T (.gbind g d) x y) ∧
      (∀ m, s.check (A n) = .ok m → (s.full .ldc = true → exec (.gbind g d) s = .next s.block) ∧
        (s.full .ldc = false → ∃ t fin, exec (.gbind g d) s = .next t ∧ Issues s t (some .ldc) fin
            ((lines s.pt m [((ptrOff P : Nat), n)]).map (fun x => (x.1, Act.read x.2, G 4))) ∧
          (∀ q b, m = .scratch q b → fin = .bind g false 0 (scratchKey q (b + ptrOff P))) ∧
          (∀ root b, m = .flat root b → fin = .bind g true root (b + ptrOff P))))))

/-- TLD, TST, TLDV, TSTV and TMAP. A tensor access needs a SHARD descriptor with the tensor right and the right of the access,
else it traps segment rights; it is translated through the plot cache of the tile: with an entry missing the strand is not
ready and names the entry that it waits for, a bad coordinate traps segment limit, a miss traps plot miss with its code, and
copies on this panel are read or written at the place of the element. A load reads one copy; a store writes every copy of a
tensor without blocks. A single copy on another panel is sent by TLD and TST where the descriptor allows it; other copies
elsewhere trap segment rights. A TST without the right W traps segment rights before its plot is looked at, as step 1 of R304
has it and against the row of R371 (log 87). TMAP reads nothing and returns where the element lies. No register and no byte of
memory changes at issue. So it goes once the word issues: a full counter holds it back before any trap of its own (log 25). -/
def Obligations.TensorWords : Prop :=
  ∀ (s : State) (d c : BitVec 5) (v : BitVec 7) (g : BitVec 3),
    let seg := s.src.seg g
    let hx := dKindField seg % 2 ^ 16
    let w := s.rs c
    let sc := coordSC w.toNat
    let axis := coordA w.toNat
    let gen := s.genOf hx
    let rcb := s.me.rcbp.toNat
    let hv := match s.plotEntry s.pt rcb hx with | some img => (headerOf img).halves sc | none => 2
    let R (n : Nat) (store : Bool) := s.translate s.pt rcb s.plotCount hx w.toNat { a := axis, n := n } store
    let held (right : Bool) : Prop := dKind seg = 5 ∧ dT seg = true ∧ right = true
    let T (i : Instr) (cause : BitVec 6) (x : Word) : Prop := ∃ t, exec i s = .next t ∧ Traps s t cause s.iss.pos x
    let here (us : List CopyUse) : Prop := ∀ u, u ∈ us → shardChip u.sh = s.chip.toNat
    let X (i : Instr) (right : Bool) (n : Nat) (store : Bool) (fin : CopyUse → Ending) (parts : List CopyUse → List (Home × Act)) : Prop :=
      let k : Cls := if store then .stc else .ldc
      (¬held right → T i 5 w) ∧
      (held right → (∀ x, R n store = .missing x → exec i s = .next (s.wantPlot x)) ∧ (R n store = .limit → T i 4 w) ∧
        (∀ code h, R n store = .miss code h → T i 9 (BitVec.ofNat 64 (code + h * 2 ^ 16 + gen * 2 ^ 32))) ∧
        (∀ u us, R n store = .ok (u :: us) → here (u :: us) → (s.full k = true → exec i s = .next s.block) ∧
          (s.full k = false → ∃ t, exec i s = .next t ∧ Issues s t (some k) (fin u)
            ((parts (u :: us)).map (fun x => (x.1, x.2, gatesFor s.me.gates (if store then 2 else 1)))))))
    let one (_ : CopyUse) : Run := { a := axis, n := 1 }
    let run (u : CopyUse) : Run := { a := axis, n := 128 / u.h.halves sc }
    let fmt (u : CopyUse) := if sc then 10 else u.h.fmt
    let rd (q : CopyUse → Run) (us : List CopyUse) := match us with | u :: _ => s.readParts u sc w.toNat (q u) | [] => []
    let elsewhere (i : Instr) (n : Nat) (store cross : Bool) : Prop := ∀ u us, R n store = .ok (u :: us) → ¬here (u :: us) →
      (cross = false ∨ us ≠ [] ∨ dCpe seg = false → T i 5 w) ∧
      (cross = true → us = [] → dCpe seg = true → (s.freeTag = none → exec i s = .next s.block) ∧
        (s.freeTag ≠ none → ∃ t, exec i s = .next t ∧ Sends s t (shardChip u.sh) []))
    X (.tld d c g) (dR seg) 1 false (fun u => .elem d (fmt u) (((u.places sc w.toNat (one u)).head?).getD (0, false)).2) (rd one) ∧
    X (.tst d c g) (dW seg) 1 true (fun _ => .none) (fun us => (us.map (fun u => s.writeParts u sc w.toNat (one u) [(s.rs d).toNat])).flatten) ∧
    X (.tldv v c g) (dR seg) (128 / hv) false (fun u => .run v (fmt u)
      (if u.h.halves sc = 1 then (u.places sc w.toNat (run u)).map Prod.snd else [])) (rd run) ∧
    X (.tstv v c g) (dW seg) (128 / hv) true (fun _ => .none) (fun us => match us with
      | [] => []
      | x :: _ => (us.map (fun u => s.writeParts u sc w.toNat (run x) ((List.range (run x).n).map (fun j =>
          lane (4 * x.h.halves sc) j (s.vs v).toNat)))).flatten) ∧
    (held (dR seg) → elsewhere (.tld d c g) 1 false true ∧ elsewhere (.tldv v c g) (128 / hv) false false) ∧
    (held (dW seg) → elsewhere (.tst d c g) 1 true true ∧ elsewhere (.tstv v c g) (128 / hv) true false) ∧
    (¬held true → T (.tmap d c g) 5 w) ∧
    (held true → (∀ x, chainFrom (s.plotEntry s.pt rcb) s.plotCount none 4 hx = .missing x → exec (.tmap d c g) s = .next (s.wantPlot x)) ∧
      (chainFrom (s.plotEntry s.pt rcb) s.plotCount none 4 hx = .bad → T (.tmap d c g) 9 (BitVec.ofNat 64 (4 + hx * 2 ^ 16 + gen * 2 ^ 32)))) ∧
    (∀ hs, held true → chainFrom (s.plotEntry s.pt rcb) s.plotCount none 4 hx = .ok hs →
      (R 1 false = .limit → T (.tmap d c g) 4 w) ∧
      (∀ x, R 1 false = .missing x → exec (.tmap d c g) s = .next (s.wantPlot x)) ∧
      ((∃ u us, R 1 false = .ok (u :: us)) ∨ (∃ code h, R 1 false = .miss code h) → s.full .ldc = true →
        exec (.tmap d c g) s = .next s.block) ∧
      (∀ u us, R 1 false = .ok (u :: us) → s.full .ldc = false → ∃ t o, exec (.tmap d c g) s = .next t ∧
        Issues s t (some .ldc) (.word d) [] ∧ t.ops = s.ops ++ [o] ∧
        o.res = BitVec.ofNat 64 ((if shardChip u.sh = s.chip.toNat then 0 else 2 ^ 62) + shardDie u.sh * 2 ^ 55 +
          u.offset sc w.toNat axis 0 * 2 ^ 19 + u.pos * 2 ^ 16 + gen)) ∧
      (∀ code h, R 1 false = .miss code h → s.full .ldc = false → ∃ t o, exec (.tmap d c g) s = .next t ∧
        Issues s t (some .ldc) (.word d) [] ∧ t.ops = s.ops ++ [o] ∧ o.res = BitVec.ofNat 64 (2 ^ 63 + code * 2 ^ 16 + gen)))

/-- SCOPEW, BUNTW, PLOTW, RTSET and RTCLR. SCOPEW, BUNTW and PLOTW are privileged. SCOPEW of an entry below 6 traps privilege;
another entry is written with kind 0 where its kind is none of 0, 7 and 8. BUNTW and PLOTW read their image at the pointer and
post one write that waits for those reads; PLOTW traps segment limit for an entry beyond the table. RTSET and RTCLR change an
entry of the tile's router. Each issues one operation of STC or CPC; full counters hold it back. No register, table or byte of
memory changes at issue. So it goes once the word issues: a full counter holds it back before any trap of its own (log 25). -/
def Obligations.TableWords : Prop :=
  ∀ (s : State) (d a b : BitVec 5),
    let A := s.rs a
    let P := s.rs b
    let o : Int := (P.toNat % 2 ^ 53 : Nat)
    let rcb := s.me.rcbp.toNat
    let r := s.region rcb
    let G := gatesFor s.me.gates 4
    let T (i : Instr) (cause : BitVec 6) (x : Word) : Prop := ∃ t, exec i s = .next t ∧ Traps s t cause s.iss.pos x
    let image (n : Nat) : Access := { p := P, o := o, pieces := [(o, n)], right := .read }
    let W (i : Instr) (n : Nat) (fin : Ending) (home : Home) (act : Act) : Prop :=
      (∀ c x, s.check (image n) = .error (c, x) → T i c x) ∧
      (∀ l, s.check (image n) = .ok l → (s.full .stc = true → exec i s = .next s.block) ∧
        (s.full .stc = false → ∃ t, exec i s = .next t ∧ Issues s t (some .stc) fin
          ((lines s.pt l [(o, n)]).map (fun x => (x.1, Act.read x.2, G)) ++ [(home, act,
            { needs := (List.range (lines s.pt l [(o, n)]).length).map (fun k => Need.part (s.nextId + 1 + k))
              scope := .system, own := false } :: G)])))
    (s.me.p = false → T (.scopew a b) 3 0 ∧ T (.buntw a b) 3 0 ∧ T (.plotw a b) 3 0) ∧
    (s.me.p = true → A.toNat % 32 < 6 → T (.scopew a b) 3 A) ∧
    (s.me.p = true → 6 ≤ A.toNat % 32 → (s.full .stc = true → exec (.scopew a b) s = .next s.block) ∧
      (s.full .stc = false → ∃ t w, exec (.scopew a b) s = .next t ∧ Issues s t (some .stc) .none
          [(s.tableHome (r.scopeBase + 8 * (A.toNat % 32)) 8, .scopew rcb (A.toNat % 32) w, G)] ∧
        (P.toNat / 2 ^ 60 = 0 ∨ P.toNat / 2 ^ 60 = 7 ∨ P.toNat / 2 ^ 60 = 8 → w = P) ∧
        (¬(P.toNat / 2 ^ 60 = 0 ∨ P.toNat / 2 ^ 60 = 7 ∨ P.toNat / 2 ^ 60 = 8) → w = 0))) ∧
    (s.me.p = true → W (.buntw a b) 1024 .none (Home.tables ((s.physDie (bitsOf 36 7 r.buntBase)).getD (s.pt / 144)))
      (.buntw rcb (A.toNat % 64))) ∧
    (s.me.p = true → r.plotCount ≤ A.toNat % 2 ^ 16 → T (.plotw a b) 4 A) ∧
    (s.me.p = true → A.toNat % 2 ^ 16 < r.plotCount → W (.plotw a b) 64 (.plotw (A.toNat % 2 ^ 16))
      (match s.panelLines (r.plotBase / 64 * 64 + 64 * (A.toNat % 2 ^ 16)) 64 with | y :: _ => y.1 | [] => .tables (s.pt / 144))
      (.plotw rcb (A.toNat % 2 ^ 16))) ∧
    (s.full .cpc = true → exec (.rtset d a b) s = .next s.block ∧ exec (.rtclr a) s = .next s.block) ∧
    (s.full .cpc = false → (∃ t, exec (.rtset d a b) s = .next t ∧
        Issues s t (some .cpc) (.word d) [(.router s.pt, .rtset (A.toNat % 16) P rcb, G)]) ∧
      (∃ t, exec (.rtclr a) s = .next t ∧ Issues s t (some .cpc) .none [(.router s.pt, .rtclr (A.toNat % 16) rcb, G)]))

/-- SEND, SPAWN, TAKE and TDONE. SEND writes the 64 bytes of a v register, as one part, to a scratchpad on a path: to the own
tile always, by the default path, or by a route of the router; a path that does not arrive gives its code and writes nothing;
where it publishes, its completion word waits as a release at region scope. SPAWN reads a record of 32 bytes and then appends
it, as a release at region scope; a record on no tile or behind a dead router reads as 0 at once (R247, R350). TAKE asks the
die's queue and then writes the record, and gates what follows as an acquire at region scope. TDONE returns a token to the die
that it names, and to none where its way out of the die is refused (log 84). All are commands of CPC; failed checks trap, a
full counter holds back. No register, queue or byte of memory changes at issue. So it goes once the word issues: a full
counter holds it back before any trap of its own (log 25). -/
def Obligations.QueueWords : Prop :=
  ∀ (s : State) (d a : BitVec 5) (v : BitVec 7) (r : BitVec 1) (q : BitVec 4) (c : BitVec 6) (e : BitVec 1),
    let P := s.rs a
    let o : Int := (P.toNat % 2 ^ 53 : Nat)
    let G := gatesFor s.me.gates 4
    let rel := s.relGate (.strand s.key) true (s.scope s.key 3) ++ G
    let A (n : Nat) (right : Right) : Access :=
      { p := P, o := o, pieces := [(o, n)], right := right, flatOk := false, condOk := o % (n : Int) == 0 }
    let X (i : Instr) (acc : Access) (run : Land → Prop) : Prop :=
      (∀ c x, s.check acc = .error (c, x) → ∃ t, exec i s = .next t ∧ Traps s t c s.iss.pos x) ∧
      (∀ l, s.check acc = .ok l → (s.full .cpc = true → exec i s = .next s.block) ∧ (s.full .cpc = false → run l))
    let seg := s.src.seg (ptrSeg P)
    let dest : Option Nat := if dKind seg = 3 then s.physTile (dHomeDie seg) (dHomeTile seg) else some s.pt
    let how : Sending := if r = 1 then s.sendRoute q.toNat dest
      else if dest = some s.pt then { hops := 0, dieHops := 0, code := 0 } else s.sendDefault (dHomeDie seg) (dHomeTile seg)
    X (.send a v r q c e) (A 64 .write) (fun _ => ∃ t x, exec (.send a v r q c e) s = .next t ∧
      Issues s t (some .cpc) (.send how.hops how.dieHops how.code) (if how.code ≠ 0 then [] else match dest with
        | some p => (let ls := lines s.pt (.scratch p (dBase seg)) [(o, 64)]
            (ls.take 1).map (fun x => (x.1, Act.write (cellsOf (toBytes 64 (s.vs v).toNat) (ls.flatMap Prod.snd)), G)))
        | none => []) ∧ t.ops = s.ops ++ [x] ∧ (x.pub = if e = 1 then some c.toNat else none) ∧
      (x.gates = if e = 1 then s.relGate (.strand s.key) true (s.scope s.key 3) else [])) ∧
    X (.spawn d a) (A 32 .read) (fun l => let ls := lines s.pt l [(o, 32)]
      (ls ≠ [] → ∃ t x, exec (.spawn d a) s = .next t ∧
        Issues s t (some .cpc) (.word d) (ls.map (fun x => (x.1, Act.read x.2, rel))) ∧ t.ops = s.ops ++ [x] ∧
        ∃ y, x.later = [(.absent, .spawn y)] ∧ y.region = s.me.rcbp.toNat ∧ y.stolen = false) ∧
      (ls = [] → s.iss.slot < 16 → ∃ t x, exec (.spawn d a) s = .next t ∧ t.ops = s.ops ++ [x] ∧ x.later = [] ∧ x.res = 2 ∧
        (let z := recordOf (List.replicate 32 0) s.me.rcbp.toNat
         Issues s t (some .cpc) (.word d) (match s.queueDie s.pt z with
           | some q => if s.exitRefused s.pt q then [] else [(.sched q, .spawn z, rel)]
           | none => [])))) ∧
    X (.take d a) (A 32 .write) (fun l => ∃ t x g, exec (.take d a) s = .next t ∧
      Issues s t (some .cpc) (.take d) [(.sched (s.pt / 144), .take s.me.rcbp.toNat, G)] ∧ t.ops = s.ops ++ [x] ∧
      x.later = (lines s.pt l [(o, 32)]).map (fun x => (x.1, Act.writeBuf x.2)) ∧
      (t.strand s.key).gates = s.me.gates ++ [g] ∧ g.gate.needs = [.op s.nextId] ∧ g.gate.scope = s.scope s.key 3 ∧ g.r = true ∧ g.w = true ∧
      g.e = true) ∧
    (s.full .cpc = true → exec (.tdone a) s = .next s.block) ∧
    (s.full .cpc = false → ∃ t, exec (.tdone a) s = .next t ∧ Issues s t (some .cpc) .none
      (match s.physDie (P.toNat / 2 ^ 24 % 128) with
        | some x => if s.exitRefused s.pt x then [] else [(.sched x, .tdone s.me.rcbp.toNat (P.setWidth 32), rel)]
        | none => []))

/-- Integer lanes. VADD, VSUB, VMUL, VMULH in both signs, VMAD, VAND, VOR, VXOR, VSHL, VSHR, VSHA, VMIN and VMAX in both signs
complete in every state: each lane that the m bit leaves unmasked takes its result modulo 2^n, the other lanes keep what the
register held, and nothing else changes but tile operations that fall due at the write. -/
def Obligations.VectorIntegers : Prop :=
  ∀ (s : State) (d a b : BitVec 7) (w : BitVec 2) (m : BitVec 1),
    let n := 8 * 2 ^ w.toNat
    let x (i : Nat) : Nat := lane n i (s.vs a).toNat
    let y (i : Nat) : Nat := lane n i (s.vs b).toNat
    let z (i : Nat) : Nat := lane n i (s.vs d).toNat
    let sg (k : Nat) : Int := if k < 2 ^ (n - 1) then k else (k : Int) - (2 ^ n : Nat)
    let cut (k : Int) : Nat := (k % (2 ^ n : Nat)).toNat
    let R (i : Instr) (f : Nat → Nat) : Prop := ∃ t, exec i s = .next t ∧
      WritesLanes s t d n (fun i => if m = 0 ∨ (s.src.mask 1).getLsbD i = true then some (f i) else none) 0
    R (.vadd d a b w m) (fun i => (x i + y i) % 2 ^ n) ∧ R (.vsub d a b w m) (fun i => cut ((x i : Int) - y i)) ∧
    R (.vmul d a b w m) (fun i => x i * y i % 2 ^ n) ∧ R (.vmulhUnsigned d a b w m) (fun i => x i * y i / 2 ^ n) ∧
    R (.vmulhSigned d a b w m) (fun i => cut (sg (x i) * sg (y i) / (2 ^ n : Nat))) ∧
    R (.vmad d a b w m) (fun i => (x i * y i + z i) % 2 ^ n) ∧ R (.vand d a b w m) (fun i => x i &&& y i) ∧
    R (.vor d a b w m) (fun i => x i ||| y i) ∧ R (.vxor d a b w m) (fun i => x i ^^^ y i) ∧
    R (.vshl d a b w m) (fun i => x i * 2 ^ (y i % n) % 2 ^ n) ∧ R (.vshr d a b w m) (fun i => x i / 2 ^ (y i % n)) ∧
    R (.vsha d a b w m) (fun i => cut (sg (x i) / (2 ^ (y i % n) : Nat))) ∧
    R (.vminSigned d a b w m) (fun i => if sg (x i) ≤ sg (y i) then x i else y i) ∧
    R (.vmaxSigned d a b w m) (fun i => if sg (x i) ≤ sg (y i) then y i else x i) ∧
    R (.vminUnsigned d a b w m) (fun i => if x i ≤ y i then x i else y i) ∧
    R (.vmaxUnsigned d a b w m) (fun i => if x i ≤ y i then y i else x i)

/-- Moves between lanes. VMOV, VABS, VIOTA, VPERM, VROT, VBCAST, VINS, VSEL, VCOMPRESS, VPACK and VUNPACK complete in every
state with the lanes that R146, R147, R154, R156 and R157 give; masked lanes, and the lanes that VINS and VSEL do not name,
keep what the register held; nothing else changes but tile operations that fall due at the write. -/
def Obligations.VectorMoves : Prop :=
  ∀ (s : State) (d a b : BitVec 7) (w : BitVec 2) (m : BitVec 1) (k : BitVec 6) (q : BitVec 3) (r : BitVec 5) (e : BitVec 1),
    let n := 8 * 2 ^ w.toNat
    let x (i : Nat) : Nat := lane n i (s.vs a).toNat
    let y (i : Nat) : Nat := lane n i (s.vs b).toNat
    let l := 512 / n
    let on (i : Nat) : Bool := m == 0 || (s.src.mask 1).getLsbD i
    let sg (p k : Nat) : Int := if k < 2 ^ (p - 1) then k else (k : Int) - (2 ^ p : Nat)
    let cut (p : Nat) (k : Int) : Nat := (k % (2 ^ p : Nat)).toNat
    let V (i : Instr) (p : Nat) (f : Nat → Option Nat) : Prop := ∃ t, exec i s = .next t ∧ WritesLanes s t d p f 0
    let R (i : Instr) (f : Nat → Nat) : Prop := V i n (fun i => if on i then some (f i) else none)
    let top : Int := (2 ^ (n / 2 - 1) : Nat)
    let clamp (v : Int) : Nat := if v < -top then cut (n / 2) (-top) else if top ≤ v then cut (n / 2) (top - 1) else cut (n / 2) v
    let both (i : Nat) : Nat := if i < l then x i else y (i - l)
    let half (i : Nat) : Nat := lane (n / 2) (l * e.toNat + i) (s.vs a).toNat
    V (.vmov d a m) 8 (fun i => if on i then some (lane 8 i (s.vs a).toNat) else none) ∧
    R (.vabs d a w m) (fun i => (sg n (x i)).natAbs) ∧ R (.viota d w m) (fun i => i) ∧
    R (.vperm d a b w m) (fun i => if y i < l then x (y i) else 0) ∧ R (.vrot d a k w m) (fun i => x ((i + k.toNat) % l)) ∧
    R (.vbcast d r w m) (fun _ => (s.rs r).toNat) ∧
    V (.vins d r k w) n (fun i => if i = k.toNat then some (s.rs r).toNat else none) ∧
    V (.vsel d a q w) n (fun i => if (s.src.mask q).getLsbD i = true then some (x i) else none) ∧
    V (.vcompress d a q w) n (fun i => some ((((List.range l).filter (fun j => (s.src.mask q).getLsbD j)).map x).getD i 0)) ∧
    V (.vpack d a b w 0) (n / 2) (fun i => some (both i % 2 ^ (n / 2))) ∧ V (.vpack d a b w 1) (n / 2) (fun i => some (clamp (sg n (both i)))) ∧
    V (.vunpack d a e w 0) n (fun i => some (half i)) ∧ V (.vunpack d a e w 1) n (fun i => some (cut n (sg (n / 2) (half i))))

/-- Reductions, VEXT and the mask words. VRED writes the sum modulo 2^n, the least or greatest lane, or the bitwise result of
the unmasked lanes, with the value of R158 where there is none, extended by its sign bit X; VEXT writes lane N alike. VCMP
writes a one for each lane whose condition holds and zeros above; KAND, KOR, KXOR and KNOT write their result and KPOP the
number of ones. They complete in every state and change nothing else. -/
def Obligations.ReductionsAndMasks : Prop :=
  ∀ (s : State) (d : BitVec 5) (k p q : BitVec 3) (a b : BitVec 7) (w : BitVec 2) (m e : BitVec 1) (i : BitVec 6),
    let n := 8 * 2 ^ w.toNat
    let x (i : Nat) : Nat := lane n i (s.vs a).toNat
    let y (i : Nat) : Nat := lane n i (s.vs b).toNat
    let l := 512 / n
    let act := (List.range l).filter (fun i => m == 0 || (s.src.mask 1).getLsbD i)
    let sg (k : Nat) : Int := if k < 2 ^ (n - 1) then k else (k : Int) - (2 ^ n : Nat)
    let ext (k : Nat) : Word := if e = 1 then BitVec.ofInt 64 (sg k) else BitVec.ofNat 64 k
    let red (o : BitVec 3) (is : Nat → Prop) : Prop := ∃ t r, exec (.vred d a o e w m) s = .next t ∧ WritesReg s t d (ext r) s.iss.next ∧ is r
    let ends (o : BitVec 3) (le : Int → Int → Prop) (v : Nat → Int) (none : Nat) : Prop := red o (fun r =>
      (∀ i, i ∈ act → le (v r) (v (x i))) ∧ (act ≠ [] → ∃ i, i ∈ act ∧ r = x i) ∧ (act = [] → r = none))
    let u (k : Nat) : Int := k
    red 0 (fun r => r = (act.map x).sum % 2 ^ n) ∧ red 3 (fun r => r = (act.map x).foldl (· &&& ·) (2 ^ n - 1)) ∧
    red 4 (fun r => r = (act.map x).foldl (· ||| ·) 0) ∧ red 5 (fun r => r = (act.map x).foldl (· ^^^ ·) 0) ∧
    (e = 0 → ends 1 (· ≤ ·) u (2 ^ n - 1) ∧ ends 2 (fun r v => v ≤ r) u 0) ∧
    (e = 1 → ends 1 (· ≤ ·) sg (2 ^ (n - 1) - 1) ∧ ends 2 (fun r v => v ≤ r) sg (2 ^ (n - 1))) ∧
    (∃ t, exec (.vext d a i w e) s = .next t ∧ WritesReg s t d (ext (x i.toNat)) s.iss.next) ∧
    (let C (c : BitVec 3) (f : Nat → Prop) : Prop := ∃ t v, exec (.vcmp k a b c w) s = .next t ∧ WritesMask s t k v ∧
        ∀ i, i < 64 → (v.getLsbD i = true ↔ i < l ∧ f i)
     C 0 (fun i => x i = y i) ∧ C 1 (fun i => x i ≠ y i) ∧ C 2 (fun i => sg (x i) < sg (y i)) ∧ C 3 (fun i => sg (y i) ≤ sg (x i)) ∧
     C 4 (fun i => x i < y i) ∧ C 5 (fun i => y i ≤ x i)) ∧
    (∃ t, exec (.kand k p q) s = .next t ∧ WritesMask s t k (s.src.mask p &&& s.src.mask q)) ∧
    (∃ t, exec (.kor k p q) s = .next t ∧ WritesMask s t k (s.src.mask p ||| s.src.mask q)) ∧
    (∃ t, exec (.kxor k p q) s = .next t ∧ WritesMask s t k (s.src.mask p ^^^ s.src.mask q)) ∧
    (∃ t, exec (.knot k p) s = .next t ∧ WritesMask s t k (~~~s.src.mask p)) ∧
    (∃ t, exec (.kpop p d) s = .next t ∧
      WritesReg s t d (BitVec.ofNat 64 ((List.range 64).countP (fun i => (s.src.mask p).getLsbD i))) s.iss.next)

/-- Float lanes. VFADD, VFSUB, VFMUL, VFMA, VFMS, VFNMA, VFDIV, VFMIN, VFMAX, VFSGN, VFSQRT, VFRCP, VFRSQ and VFCLASS complete
in every state: each unmasked lane takes the result of its format in FCSR's rounding mode, masked lanes keep their value and
raise nothing, and the flags of the unmasked lanes are raised together into FCSR. VFCMP writes a mask and VFRED a register
with their flags. VFRED goes through the tree of R158: the pairs of a level in order, a lane that is off passed over. Nothing
else changes but tile operations that fall due at a vector write. The values and flags of sums, products, quotients and roots
are those of FloatValues. Those of the others are stated here for every pattern: minimum and maximum with NaN and infinite
operands (R135), the class (R136), the six comparisons with NaN and infinite operands (R137), and the reciprocals (R150),
which keep 12, 11 or 8 bits of the exact value to nearest even and then round it to the format. -/
def Obligations.VectorFloats : Prop :=
  (∀ (s : State) (d a b : BitVec 7) (w : BitVec 2) (m : BitVec 1) (k c o : BitVec 3) (r : BitVec 5),
    let t := laneFmt w
    let n := t.bits
    let l := 512 / n
    let M := s.src.fcsr.toNat / 2 ^ 8 % 8
    let x (i : Nat) : Nat := lane n i (s.vs a).toNat
    let y (i : Nat) : Nat := lane n i (s.vs b).toNat
    let z (i : Nat) : Nat := lane n i (s.vs d).toNat
    let on (i : Nat) : Bool := m == 0 || (s.src.mask 1).getLsbD i
    let R (i : Instr) (f : Nat → Nat × Flags) : Prop := ∃ u, exec i s = .next u ∧ WritesLanes s u d n
      (fun i => if on i then some (f i).1 else none) ((List.range l).foldl (fun fl i => if on i then fl ||| (f i).2 else fl) 0)
    R (.vfadd d a b w m) (fun i => t.addPat M false (x i) (y i)) ∧ R (.vfsub d a b w m) (fun i => t.addPat M true (x i) (y i)) ∧
    R (.vfmul d a b w m) (fun i => t.mulPat M (x i) (y i)) ∧ R (.vfma d a b w m) (fun i => t.fmaPat M false false (x i) (y i) (z i)) ∧
    R (.vfms d a b w m) (fun i => t.fmaPat M false true (x i) (y i) (z i)) ∧
    R (.vfnma d a b w m) (fun i => t.fmaPat M true false (x i) (y i) (z i)) ∧ R (.vfdiv d a b w m) (fun i => t.divPat M (x i) (y i)) ∧
    R (.vfmin d a b w m) (fun i => t.minMaxPat false (x i) (y i)) ∧ R (.vfmax d a b w m) (fun i => t.minMaxPat true (x i) (y i)) ∧
    R (.vfsgn d a b w m) (fun i => (x i % 2 ^ (n - 1) + (if 2 ^ (n - 1) ≤ y i then 2 ^ (n - 1) else 0), 0)) ∧
    R (.vfsqrt d a w m) (fun i => t.sqrtPat M (x i)) ∧ R (.vfrcp d a w m) (fun i => t.recipPat false (x i)) ∧
    R (.vfrsq d a w m) (fun i => t.recipPat true (x i)) ∧ R (.vfclass d a w m) (fun i => (t.classPat (x i), 0)) ∧
    (let q (i : Nat) := t.cmpPat c.toNat (x i) (y i)
     ∃ u v, exec (.vfcmp k a b c w) s = .next u ∧ Performed s u v ∧
      v = { s.me with k := v.k, fcsr := s.me.fcsr ||| ((List.range l).foldl (fun fl i => fl ||| (q i).2) 0).setWidth 64, pc := s.iss.next } ∧
      (∀ j, j ≠ k → v.mask j = s.me.mask j) ∧ (k ≠ 0 → ∀ i, i < 64 → ((v.mask k).getLsbD i = true ↔ i < l ∧ (q i).1 = true))) ∧
    (let r0 := (reduceTree (fredOp t M o.toNat) 6 ((List.range l).map (fun i => if on i then some (x i, (0 : Flags)) else none))).getD
       (fredEmpty t o.toNat, 0)
     ∃ u, exec (.vfred r a o w m) s = .next u ∧ WritesFlagged s u r (BitVec.ofNat 64 r0.1) r0.2) ∧
    (o.toNat ≤ 2 → ∃ (u : State) (X : Nat → Nat → Option (Nat × Flags)),
      (∀ i, i < l → X 0 i = if on i then some (x i, 0) else none) ∧
      (∀ j i, X (j + 1) i = match X j (2 * i), X j (2 * i + 1) with
        | some p, some q =>
          let v := if o = 0 then t.addPat M false p.1 q.1 else t.minMaxPat (decide (o = 2)) p.1 q.1
          some (v.1, p.2 ||| q.2 ||| v.2)
        | some p, none => some p
        | none, q => q) ∧
      (let v := (X (if n = 64 then 3 else if n = 32 then 4 else 5) 0).getD
        (if o = 0 then 0 else (2 ^ t.e - 1) * 2 ^ t.f + (if o = 2 then 2 ^ (t.e + t.f) else 0), 0)
       exec (.vfred r a o w m) s = .next u ∧ WritesFlagged s u r (BitVec.ofNat 64 v.1) v.2))) ∧
  (∀ (w : BitVec 2) (a b : Nat),
    let t := laneFmt w
    let A := t.decode a
    let B := t.decode b
    let sig : Prop := SigPat t a ∨ SigPat t b
    let low (k : Nat) : Nat := k % 2 ^ t.bits
    let minus (k : Nat) : Prop := 2 ^ (t.e + t.f) ≤ low k
    -- R135
    (∀ hi : Bool, let r := t.minMaxPat hi a b
      (NanPat t a → NanPat t b → PicksNan t [a, b] r.1) ∧ (NanPat t a → ¬NanPat t b → r.1 = low b) ∧ (¬NanPat t a → NanPat t b → r.1 = low a) ∧
      (NanPat t a ∨ NanPat t b → (sig → r.2 = flagNV) ∧ (¬sig → r.2 = 0)) ∧
      (∀ x y, IsExt A x → IsExt B y → r.2 = 0 ∧ (r.1 = low a ∨ r.1 = low b) ∧ (x < y → r.1 = low (if hi then b else a)) ∧
        (y < x → r.1 = low (if hi then a else b)) ∧
        (x = y → (hi = false → minus a ∨ minus b → minus r.1) ∧ (hi = true → ¬minus a ∨ ¬minus b → ¬minus r.1)))) ∧
    -- R136
    t.classPat a = 2 ^ classBit t a ∧
    -- R137
    (∀ k, k < 6 → let q := t.cmpPat k a b
      (NanPat t a ∨ NanPat t b → (q.1 = true ↔ k = 1 ∨ k = 4) ∧ (k = 2 ∨ k = 3 → q.2 = flagNV) ∧
        (k ≠ 2 → k ≠ 3 → (sig → q.2 = flagNV) ∧ (¬sig → q.2 = 0))) ∧
      (∀ x y, IsExt A x → IsExt B y → q.2 = 0 ∧ (q.1 = true ↔
        match k with | 0 => x = y | 1 => x ≠ y | 2 => x < y | 3 => x ≤ y | 4 => False | _ => True))) ∧
    -- R150
    (∀ rsq : Bool, let r := t.recipPat rsq a
      let kept : ℤ := if t.f = 10 then 11 else if t.f = 7 then 8 else 12
      (NanPat t a → PicksNan t [a] r.1 ∧ (SigPat t a → r.2 = flagNV) ∧ (¬SigPat t a → r.2 = 0)) ∧
      (∀ x, IsExt A x → (rsq = true → x < 0 → r = ((2 ^ t.e - 1) * 2 ^ t.f + 2 ^ (t.f - 1), flagNV)) ∧
        (x = 0 → t.decode r.1 = .inf A.neg ∧ r.2 = flagDZ) ∧ (x = ⊤ → ExactZero t false r) ∧ (x = ⊥ → rsq = false → ExactZero t true r)) ∧
      (∀ x, IsReal A x → x ≠ 0 → (rsq = true → 0 < x) → ∃ (z : ℝ) (fl : Flags),
        (∀ (y : ℝ) (e : ℤ), y = (if rsq then 1 / Real.sqrt x else 1 / |x|) → (2 : ℝ) ^ e ≤ y → y < (2 : ℝ) ^ (e + 1) →
          Nearest 0 false ((2 : ℝ) ^ (e - kept + 1)) y z) ∧
        Rounded t 0 false A.neg z (r.1, fl) ∧ (t.decode r.1 = .inf A.neg → r.2 = flagOF) ∧ (t.decode r.1 ≠ .inf A.neg → r.2 = 0))))

/-- VCVT, VCVTI, VCVTF and VSCALE. VCVT converts the low 16 elements (8 with F64) between F32 and a format, VCVTI floats to
integers and VCVTF integers to floats, as many as both lane widths hold; the other elements of the destination are 0; VSCALE
multiplies each lane by its power of two of q. They round in the mode of their rm field, FCSR's for 7, complete in every
state, raise the flags of their elements together and change nothing else but tile operations that fall due at the write. That
.sat is ignored on a conversion from a narrower format to F32 is log 53. The values and flags of the arithmetic are those of
FloatValues. -/
def Obligations.Conversions : Prop :=
  ∀ (s : State) (d a : BitVec 7) (f w : BitVec 2) (x : BitVec 4) (t r q : BitVec 3) (e : BitVec 1),
    let M := if r = 7 then s.src.fcsr.toNat / 2 ^ 8 % 8 else r.toNat
    let E (i : Instr) (count n n' : Nat) (f : Nat → Nat × Flags) : Prop := ∃ u, exec i s = .next u ∧ WritesLanes s u d n'
      (fun i => some (if i < count then (f (lane n i (s.vs a).toNat)).1 else 0))
      ((List.range count).foldl (fun fl i => fl ||| (f (lane n i (s.vs a).toNat)).2) 0)
    let xf := x.toNat
    let xb := if xf = 0 then 64 else if xf = 1 then 32 else if xf = 2 ∨ xf = 3 then 16 else if xf = 8 then 4 else 8
    let xc := if xf = 0 then 8 else 16
    let n := (laneFmt f).bits
    let ib := 8 * 2 ^ (t.toNat % 4)
    let sg : Bool := decide (t.toNat < 4)
    E (.vcvt d a 0 x r e) xc xb 32 (fun v => (ffmt 1).convert (ffmt xf) M (decide (e = 1 ∧ xf ≤ 1)) v) ∧
    E (.vcvt d a 1 x r e) xc 32 xb (fun v => (ffmt xf).convert (ffmt 1) M (decide (e = 1)) v) ∧
    E (.vcvti d a f t r e) (min (512 / n) (512 / ib)) n ib (fun v => (laneFmt f).toInt ib sg M (decide (e = 1)) v) ∧
    E (.vcvtf d a f t r e) (min (512 / n) (512 / ib)) ib n (fun v => (laneFmt f).ofInteger M (decide (e = 1))
      (if sg = true ∧ 2 ^ (ib - 1) ≤ v then (v : Int) - (2 ^ ib : Nat) else v)) ∧
    (let z := (laneFmt w).bits
     let g (i : Nat) := (laneFmt w).scalePat M (decide (e = 1)) (lane 8 i (s.src.scale q).toNat) (lane z i (s.vs a).toNat)
     ∃ u, exec (.vscale d a q w r e) s = .next u ∧ WritesLanes s u d z (fun i => some (g i).1) ((List.range (512 / z)).foldl (fun fl i => fl ||| (g i).2) 0))

/-- Scalar float words. FADD, FSUB, FMUL, FMA, FDIV, FSQRT, FMIN, FMAX, FCMP and FCVT complete in every state: sD takes the
result of the format, zero-extended, in the rounding mode of the word or FCSR's for 7, and its flags are raised into FCSR;
FCLASS writes its class and raises nothing. Nothing else changes. The values and flags of the arithmetic are those of
FloatValues, and of FMIN, FMAX, FCMP and FCLASS on every pattern those of VectorFloats. -/
def Obligations.ScalarFloats : Prop :=
  ∀ (s : State) (d a b : BitVec 5) (f : BitVec 2) (r c t u : BitVec 3) (e : BitVec 1),
    let F := laneFmt f
    let M := if r = 7 then s.src.fcsr.toNat / 2 ^ 8 % 8 else r.toNat
    let x := (s.rs a).toNat
    let y := (s.rs b).toNat
    let R (i : Instr) (v : Nat × Flags) : Prop := ∃ w, exec i s = .next w ∧ WritesFlagged s w d (BitVec.ofNat 64 v.1) v.2
    R (.fadd d a b f r) (F.addPat M false x y) ∧ R (.fsub d a b f r) (F.addPat M true x y) ∧ R (.fmul d a b f r) (F.mulPat M x y) ∧
    R (.fma d a b f r) (F.fmaPat M false false x y (s.rs d).toNat) ∧ R (.fdiv d a b f r) (F.divPat M x y) ∧
    R (.fsqrt d a f r) (F.sqrtPat M x) ∧ R (.fmin d a b f) (F.minMaxPat false x y) ∧ R (.fmax d a b f) (F.minMaxPat true x y) ∧
    (∃ w, exec (.fclass d a f) s = .next w ∧ WritesReg s w d (BitVec.ofNat 64 (F.classPat x)) s.iss.next) ∧
    R (.fcmp d a b f c) (if (F.cmpPat c.toNat x y).1 then 1 else 0, (F.cmpPat c.toNat x y).2) ∧
    (let width (k : Nat) := if k < 6 then 64 else 32
     let sgn (k : Nat) : Bool := k == 4 || k == 6
     (t.toNat < 4 → u.toNat < 4 → R (.fcvt d a t u r e) ((ffmt t.toNat).convert (ffmt u.toNat) M
        (decide (e = 1 ∧ ¬(t.toNat < u.toNat ∧ ¬(t = 2 ∧ u = 3)))) x)) ∧
     (t.toNat < 4 → 4 ≤ u.toNat → R (.fcvt d a t u r e) ((ffmt t.toNat).ofInteger M (decide (e = 1))
        (if sgn u.toNat then (BitVec.ofNat (width u.toNat) x).toInt else ((x % 2 ^ width u.toNat : Nat) : Int)))) ∧
     (4 ≤ t.toNat → ∃ w v, exec (.fcvt d a t u r e) s = .next w ∧
        WritesFlagged s w d v ((ffmt u.toNat).toInt (width t.toNat) (sgn t.toNat) M (decide (e = 1)) x).2 ∧
        (let k := ((ffmt u.toNat).toInt (width t.toNat) (sgn t.toNat) M (decide (e = 1)) x).1 % 2 ^ width t.toNat
         if sgn t.toNat then v.toInt = (BitVec.ofNat (width t.toNat) k).toInt else v.toNat = k)))

/-- MODE, MQRY and the tile operations. MODE traps mode hazard with code 1 while TOC is not 0, 2 for a block out of place and
3 for one beyond VLIM, else writes MODEW and nothing else. MQRY writes KC, TOC, edge and MODEW. MOP and MOPN, MZERO, MTRN and
MSCALE trap with codes 4, 5 and 6 in their order, wait while TOC is full, and else put one tile operation with its operands,
scales, masks k6 and k7 and rounding mode as read at issue at the end of the strand's queue, with TOC one higher and the gates
that a FENCE or an acquire lays on class E (log 90); MOP adds its products to KC, saturating, MZERO clears it. No vector
register, flag or byte of memory changes at issue. So it goes once the word issues: a full counter holds it back before any
trap of its own (log 25). -/
def Obligations.MatrixWords : Prop :=
  ∀ (s : State) (a b v : BitVec 7) (c q : BitVec 3) (f : BitVec 4) (d : BitVec 5) (r : BitVec 3),
    let x := s.me
    let n := if f.toNat = 0 then 8 else if f.toNat = 1 then 16 else 64
    let T (i : Instr) (code : Word) : Prop := ∃ t, exec i s = .next t ∧ Traps s t 10 s.iss.pos code
    let M : Bool := x.modew.getLsbD 16
    let mf := x.modew.toNat / 2 ^ 12 % 16
    let vb := x.modew.toNat % 128
    let kc := x.modew.toNat / 2 ^ 32
    let cls (k : Nat) := if k < 2 then k else 2
    let size := if mf = 0 then 8 else if mf = 1 then 16 else 64
    let edge := if mf = 0 then 8 else if mf = 1 then 16 else 32
    let block (k : BitVec 7) : Prop := M = true ∧ vb ≤ k.toNat ∧ k.toNat < vb + size
    let M0 := s.src.fcsr.toNat / 2 ^ 8 % 8
    let Enters (i : Instr) (kind : TileKind) (rm : Nat) (mw : Word) : Prop := ∃ t o, exec i s = .next t ∧
      t.tileOps = s.tileOps ++ [o] ∧ o.key = s.key ∧ o.kind = kind ∧ o.k6 = s.src.mask 6 ∧ o.k7 = s.src.mask 7 ∧ o.rm = BitVec.ofNat 3 rm ∧
      o.gates = s.gatesEngine s.me.gates (.grid s.pt) ∧
      t.strand s.key = { x with modew := mw, toc := x.toc + 1, pc := s.iss.next } ∧ StrandsKeptBut s t s.key ∧ MemKept s t ∧
      t = { s with strands := t.strands, tileOps := t.tileOps, nextId := s.nextId + 1, iss := { s.iss with res := .done } }
    let word (kc : Nat) : Word := BitVec.ofNat 64 (kc * 2 ^ 32 + 2 ^ 16 + mf * 2 ^ 12 + vb)
    (x.toc ≠ 0 → T (.modeM f v) 1 ∧ T .modeV 1) ∧
    (x.toc = 0 → (v.toNat % n ≠ 0 → T (.modeM f v) 2) ∧ (v.toNat % n = 0 → x.vlim.toNat < v.toNat + n → T (.modeM f v) 3) ∧
      (v.toNat % n = 0 → v.toNat + n ≤ x.vlim.toNat → ∃ t, exec (.modeM f v) s = .next t ∧
        Performed s t { x with modew := BitVec.ofNat 64 (2 ^ 16 + f.toNat * 2 ^ 12 + v.toNat), pc := s.iss.next }) ∧
      (∃ t, exec .modeV s = .next t ∧ Performed s t { x with modew := 0, pc := s.iss.next })) ∧
    (∃ t, exec (.mqry d) s = .next t ∧ WritesReg s t d (BitVec.ofNat 64 (kc * 2 ^ 32 + x.toc * 2 ^ 26 + (if M then edge else 0) * 2 ^ 20 +
      x.modew.toNat % 2 ^ 17)) s.iss.next) ∧
    (M = false → T (.mop a b c q f) 4 ∧ T (.mopn a b c q f) 4 ∧ T .mzero 4 ∧ T .mtrn 4 ∧ T (.mscale d r) 4) ∧
    (M = true → (s.full .toc = true → exec .mzero s = .next s.block ∧ exec .mtrn s = .next s.block ∧ exec (.mscale d r) s = .next s.block) ∧
      (s.full .toc = false → Enters .mzero .zero 0 (word 0) ∧ Enters .mtrn .trn 0 x.modew ∧
        Enters (.mscale d r) (.scale (s.rs d)) (if r = 7 then M0 else r.toNat) x.modew) ∧
      (∀ neg i, (neg = false ∧ i = Instr.mop a b c q f) ∨ (neg = true ∧ i = Instr.mopn a b c q f) →
        (cls f.toNat ≠ cls mf → T i 5) ∧ (cls f.toNat = cls mf → (block a ∨ block b) → T i 6) ∧
        (cls f.toNat = cls mf → ¬(block a ∨ block b) → s.full .toc = true → exec i s = .next s.block) ∧
        (cls f.toNat = cls mf → ¬(block a ∨ block b) → s.full .toc = false → Enters i
          (.mop neg f (s.vs a) (s.vs b) (s.src.scale c) (s.src.scale q) (BitVec.ofNat 32 kc)) M0
          (word (min (kc + (if f.toNat < 4 then 1 else if f.toNat < 8 then 2 else 4)) 0xFFFFFFFF)))))

/-- MDRAIN. MDRAIN traps mode hazard with code 4 in vector mode and code 7 where its registers pass VLIM or meet the block;
the memory form checks its pointer as a store of the whole image and then the merge pointer as an AFMAX, and traps segment
rights for another panel last. Else, with TOC not full, its tile operation enters the strand's queue with FCSR's rounding mode
and TOC rises by one; the memory form posts the stores of the image and the merge as parts behind the tile operation, and a
merge of the register form waits in its operation. No vector register, flag or byte of memory changes at issue. So it goes
once the word issues: a full counter holds it back before any trap of its own (log 25). -/
def Obligations.DrainsEnter : Prop :=
  ∀ (s : State) (d m : BitVec 5) (g : BitVec 1) (f : BitVec 4) (v : BitVec 7),
    let x := s.me
    let M : Bool := x.modew.getLsbD 16
    let mf := x.modew.toNat / 2 ^ 12 % 16
    let vb := x.modew.toNat % 128
    let size := if mf = 0 then 8 else if mf = 1 then 16 else 64
    let cells := (if mf = 0 then 8 else if mf = 1 then 16 else 32) ^ 2
    let halves := if f = 0 then 16 else if f = 1 then 8 else if f = 2 ∨ f = 3 then 4 else if f = 8 then 1 else 2
    let bytes := cells * halves / 2
    let regs := (bytes + 63) / 64
    let D := s.rs d
    let P := s.rs m
    let off (q : Word) : Int := (q.toNat % 2 ^ 53 : Nat)
    let z := if mf = 0 then 8 else 4
    let image : Access := { p := D, o := off D, pieces := [(off D, bytes)], right := .write }
    let merge : Access := { p := P, o := off P, pieces := [(off P, z)], right := .atomic, condOk := off P % (z : Int) == 0 }
    let T (i : Instr) (c : BitVec 6) (xv : Word) : Prop := ∃ t, exec i s = .next t ∧ Traps s t c s.iss.pos xv
    let Tile (t : State) (kind : TileKind) : Prop := ∃ o, t.tileOps = s.tileOps ++ [o] ∧ o.toid = s.nextId ∧ o.key = s.key ∧ o.kind = kind ∧
      o.rm = BitVec.ofNat 3 (s.src.fcsr.toNat / 2 ^ 8 % 8) ∧ o.gates = s.gatesEngine s.me.gates (.grid s.pt)
    let Frame (t : State) : Prop := RegsKept x { t.strand s.key with toc := x.toc } ∧ (t.strand s.key).pc = s.iss.next ∧
      (t.strand s.key).toc = x.toc + 1 ∧ StrandsKeptBut s t s.key ∧ MemKept s t ∧
      t = { s with strands := t.strands, regions := t.regions, tileOps := t.tileOps, ops := t.ops, posts := t.posts, nextId := t.nextId
                   iss := { s.iss with res := .done } }
    let amax (l : Land) : List (Home × Act) := match lines s.pt l [(off P, z)] with
      | [] => []
      | (h, y) :: r => [(h, Act.amax (y ++ r.flatMap Prod.snd) (if mf = 0 then 2 else 0))]
    let mem := Instr.mdrain d m g f
    let reg := Instr.mdrainReg m g f v
    (M = false → T mem 10 4 ∧ T reg 10 4) ∧
    (M = true → (x.vlim.toNat < v.toNat + regs ∨ (v.toNat < vb + size ∧ vb < v.toNat + regs) → T reg 10 7) ∧
      (v.toNat + regs ≤ x.vlim.toNat → ¬(v.toNat < vb + size ∧ vb < v.toNat + regs) →
        (g = 0 → (s.full .toc = true → exec reg s = .next s.block) ∧
          (s.full .toc = false → ∃ t, exec reg s = .next t ∧ Tile t (.drainReg f v none) ∧ t.ops = s.ops ∧ t.posts = s.posts ∧ Frame t)) ∧
        (g = 1 → (∀ c xv, s.checkLate merge = .error (c, xv) → T reg c xv) ∧
          (s.checkLate merge = .ok none → T reg 5 (addrXval P (off P))) ∧
          (∀ l, s.checkLate merge = .ok (some l) → s.full .toc = true → exec reg s = .next s.block) ∧
          (∀ l, s.checkLate merge = .ok (some l) → s.full .toc = false → amax l ≠ [] → ∃ t o, exec reg s = .next t ∧
            Tile t (.drainReg f v (some (s.nextId + 1))) ∧ t.ops = s.ops ++ [o] ∧ o.oid = s.nextId + 1 ∧ o.cls = some .toc ∧ o.fin = .drain ∧
            o.later = amax l ∧ t.posts = s.posts ∧ Frame t) ∧
          (∀ l, s.checkLate merge = .ok (some l) → s.full .toc = false → amax l = [] → ∃ t, exec reg s = .next t ∧
            Tile t (.drainReg f v none) ∧ t.ops = s.ops ∧ t.posts = s.posts ∧ Frame t))) ∧
      (∀ c xv, s.checkLate image = .error (c, xv) → T mem c xv) ∧
      (∀ dl, s.checkLate image = .ok dl →
        (g = 0 → (dl = none → T mem 5 (addrXval D (off D)))) ∧
        (g = 1 → (∀ c xv, s.checkLate merge = .error (c, xv) → T mem c xv) ∧
          (∀ ml, s.checkLate merge = .ok ml → (dl = none → T mem 5 (addrXval D (off D))) ∧
            (dl ≠ none → ml = none → T mem 5 (addrXval P (off P))))) ∧
        (∀ l parts, dl = some l → (g = 0 ∧ parts = [] ∨ g = 1 ∧ ∃ k, s.checkLate merge = .ok (some k) ∧ parts = amax k) →
          (s.full .toc = true → exec mem s = .next s.block) ∧
          (s.full .toc = false → ∃ t o q, exec mem s = .next t ∧ Tile t (.drainMem f (s.nextId + 1)) ∧ t.ops = s.ops ++ [o] ∧
            o.oid = s.nextId + 1 ∧ o.cls = some .toc ∧ o.fin = .drain ∧ t.posts = s.posts ++ q ∧
            q.map (fun p => (p.home, p.act)) = (lines s.pt l [(off D, bytes)]).map (fun y => (y.1, Act.writeBuf y.2)) ++ parts ∧
            (∀ p ∈ q, p.oid = s.nextId + 1 ∧ { needs := [.tile s.nextId], scope := .system, own := false } ∈ p.gates) ∧ Frame t))))

/-- Starts, wakes and releases of strands. An idle strand becomes Running at its boundary; a Held one goes on when its counts
meet the limits of its WAIT, becomes Halted when a HALT finds them 0, and goes on from a FENCE when no earlier access is open;
a strand that then has an uncorrectable load traps uncorrectable data with its address in place of going on. The cycle of a
release is remembered: the strand issues from the next one on; the flags that a WAIT or HALT covers are no longer late (log
106). An armed strand starts at the region's start cycle, which becomes the C0 of every armed strand of the region on the
tile, and runs at its first boundary; the first start makes the region running in STATUS. Before its condition each leaves the
state as it is (log 67). Memory never changes but for STATUS, nor do other strands but for that C0. -/
def Obligations.StrandEvents : Prop :=
  ∀ (s : State) (pt slot : Nat),
    let key := pt * 16 + slot
    let x := s.strand key
    let c : Int := (s.cycle pt : Nat)
    let Sets (i : Instr) (y : Strand) : Prop := ∃ t, exec i s = .next t ∧ t.strand key = y ∧ StrandsKeptBut s t key ∧ MemKept s t ∧
      t = { s with strands := t.strands }
    let Waits (i : Instr) : Prop := exec i s = .next s
    let Ends (i : Instr) (pos : Word) (st : RunState) (y : Strand) : Prop := slot < 16 →
      (x.badLoads = [] → Sets i { y with st := st, hold := .none, freed := some (s.cycle pt) }) ∧
      (∀ a r, x.badLoads = a :: r → ∃ t, exec i s = .next t ∧
        t = (s.setStrand key { x with st := .running, hold := .none, freed := some (s.cycle pt), badLoads := [] }).trapAt key pos 13 pos a)
    (x.st = .idle → boundary x x.pidx.toNat ≤ c → Sets (.boundaryWake pt slot) { x with st := .running }) ∧
    (¬(x.st = .idle ∧ boundary x x.pidx.toNat ≤ c) → Waits (.boundaryWake pt slot)) ∧
    (∀ l pos p, x.st = .held → x.hold = .wait l pos p → (x.meets l = true → Ends (.waitRelease pt slot) pos .running
        (passed x (s.unapplied key) (l.extractLsb' 18 6) (l.extractLsb' 12 6) (l.extractLsb' 0 6))) ∧
      (x.meets l = false → Waits (.waitRelease pt slot))) ∧
    (∀ pos, x.st = .held → x.hold = .halt pos → (x.meets 0 = true → Ends (.haltComplete pt slot) pos .halted (passed x (s.unapplied key) 0 0 0)) ∧
      (x.meets 0 = false → Waits (.haltComplete pt slot))) ∧
    (∀ gs pos p, x.st = .held → x.hold = .fence gs pos p →
      ((∀ g, g ∈ gs → s.gateWaits g = false) → Sets (.fenceRelease pt slot) { x with st := .running, hold := .none, freed := some (s.cycle pt) }) ∧
      ((∃ g, g ∈ gs ∧ s.gateWaits g = true) → Waits (.fenceRelease pt slot))) ∧
    (x.st ≠ .held → Waits (.waitRelease pt slot) ∧ Waits (.haltComplete pt slot) ∧ Waits (.fenceRelease pt slot)) ∧
    (x.st ≠ .armed → Waits (.strandStart pt slot)) ∧
    (∀ r, x.st = .armed → slot < 16 → s.region? x.rcbp.toNat = some r →
      (x.started = true → (boundary x 0 ≤ c → Sets (.strandStart pt slot) { x with st := .running }) ∧
        (c < boundary x 0 → Waits (.strandStart pt slot))) ∧
      (x.started = false → s.startDue pt r = false → Waits (.strandStart pt slot)) ∧
      (x.started = false → s.startDue pt r = true → ∃ t, exec (.strandStart pt slot) s = .next t ∧
        t.strand key = { x with started := true, c0 := c, st := if x.pph = 0 then .running else .armed } ∧
        (∀ i, i < 16 → i ≠ slot → (let z := s.strand (pt * 16 + i)
          t.strand (pt * 16 + i) = if z.st = .armed ∧ z.started = false ∧ z.rcbp = x.rcbp then { z with started := true, c0 := c } else z)) ∧
        (∀ k, k / 16 ≠ pt → t.strand k = s.strand k) ∧
        (r.st ≠ .admitted → MemKept s t ∧ t.regions = s.regions) ∧
        (r.st = .admitted → ((t.region? x.rcbp.toNat).map Region.st) = some .running ∧
          ∀ k, s.panelKey r.rcb = some k → memNat t.mem k 8 = 2 ∧ MemKeptBut s t k 8)))

/-- Admission, end, quiescence and pre-emption of regions. Admission of an RCB that is not in use, with an image as the
assembler gives it and a launch record that names it, makes the checks in order: the ranges of the fields (8), the tile set
(1), strands (2) and priority (3) within the parent's, the periods (4), the runtime (5), room (6), a reserved start that is
still ahead (7), text that may be executed (8). It writes STATUS refused with the cause of the first that fails, or admits the
region, with the argument of the record and the start time that R48 gives, and arms strands in slots that were free, leaving
every other strand as it was. A running region whose strands are all halted, with none of its contexts saved away and no
strand lost with a tile, ends with cause 16: its strands become unarmed and STATUS says so. A quiet region raises its event on
each tile that has none pending, with the lowest slot that it holds there. A strand of a region of lower priority is evicted
into the lowest empty entry. The supervisor answers a report of an error: it takes the region down with cause 17, or rolls a
mirrored region back to its newest copies with strands armed afresh; its first answer fixes the policy of the fault domain,
and under a policy of rollback an end comes only where no rollback can be made. Where the condition does not hold the state
stays as it is (log 67). The order of the checks is log 88's and 97's, what a rollback drops log 18's, the causes of an orphan
parent and of text without X, the window test and the start on reference time log 48's, the image and the launch record log
70's, the choice of a policy log 105's. -/
def Obligations.RegionEvents : Prop :=
  ∀ (s : State) (rcb : Nat) (img : Image) (pt slot : Nat),
    let Waits (i : Instr) : Prop := exec i s = .next s
    let r := s.region rcb
    let key := pt * 16 + slot
    let x := s.strand key
    let free : Prop := ∀ q, s.region? rcb = some q → q.st = .refused ∨ q.st = .ended
    let armedAnew (t : State) (k : Nat) : Prop := (t.strand k).st = .armed ∧ (t.strand k).rcbp = BitVec.ofNat 64 rcb
    let status (t : State) (v : Nat) : Prop := ∀ k, s.panelKey rcb = some k → memNat t.mem k 8 = v
    let ended (i : Instr) (cause : Nat) : Prop := ∃ t, exec i s = .next t ∧ (t.region? rcb).map (fun q => (q.st, q.cause)) = some (.ended, cause) ∧
      status t (4 + cause * 256) ∧ (∀ q, q ∈ t.reports → q.1 ≠ rcb) ∧
      SMap.get t.domains r.domain 0 = (if cause = 17 ∧ s.domainPolicy r.domain = 0 then 1 else s.domainPolicy r.domain) ∧
      ((∀ q, q ∈ s.regions → q.parent = rcb → q.parent ≠ 0 → regionLive q = false) →
        (∀ k, k ∈ s.regionKeys r → t.strand k = {}) ∧ (∀ k, k ∉ s.regionKeys r → t.strand k = s.strand k) ∧
        (∀ k, s.panelKey rcb = some k → MemKeptBut s t k 8) ∧ ∀ p, p ∈ t.pieces → p.rcb ≠ rcb)
    let holds (p i : Nat) : Prop := (s.strand (p * 16 + i)).st ≠ .unarmed ∧ (s.strand (p * 16 + i)).rcbp = BitVec.ofNat 64 rcb
    let listed : Prop := ∀ c, c ∈ img.cadences → 1 ≤ c.strands ∧ c.strands ≤ 16 ∧ c.vregs % 8 = 0 ∧ 8 ≤ c.vregs ∧ c.vregs ≤ 128 ∧
      c.period < 2 ^ 24 ∧ (c.period = 0 → c.phase = 0)
    ((s.bootPhase ≠ 7 ∨ ¬free ∨ rcb % 128 ≠ 0 ∨ 2 ^ 43 ≤ rcb ∨ ¬listed ∨ (img.launch ≠ 0 ∧ (img.launch % 64 ≠ 0 ∨
      ∀ k, s.panelKey img.launch = some k → memNat s.mem (k + 8) 8 ≠ rcb))) → Waits (.regionAdmission rcb img)) ∧
    (∀ k arg, s.bootPhase = 7 → free → rcb % 128 = 0 → rcb < 2 ^ 43 → listed → s.panelKey rcb = some k → s.launchArg img.launch rcb = some arg →
      (img.launch = 0 → arg = 0) ∧
      (∀ l, img.launch ≠ 0 → s.panelKey img.launch = some l → arg = BitVec.ofNat 64 (memNat s.mem (l + 16) 8)) ∧
      (let e := { s.effective rcb k img with arg := arg }
       let set := s.nat (k + 24) 8
       let above : Option Region := if e.parent = 0 then none else s.region? e.parent
       let text := s.loaderSeg e e.textIdx
       let tiles := ((s.setOf set).elim [] s.tilesOf).filterMap (fun lt => s.physTile (lt / 144) (lt % 144))
       let f := { e with set := (s.setOf set).getD .empty, tiles := tiles, textLen := dLimit text, dataLen := dLimit (s.loaderSeg e e.dataIdx) }
       let refused (z : Nat) : Prop := ∃ t, exec (.regionAdmission rcb img) s = .next t ∧
         (t.region? rcb).map (fun q => (q.st, q.cause)) = some (.refused, z) ∧ status t (3 + z * 256) ∧ MemKeptBut s t k 8 ∧
         t = { s with mem := t.mem, regions := t.regions }
       let range : Prop := 1 ≤ e.strands ∧ e.strands ≤ 16 ∧ e.prio ≤ 7 ∧ e.quanta ≤ 440 ∧ e.descCount ≤ 65536
       let badSet : Prop := s.setOf set = none ∨ (e.parent ≠ 0 ∧ ∀ p, above = some p → regionLive p = false) ∨ ∃ z, s.setOf set = some z ∧
         ((∃ q n, q ∈ s.dmap ∧ q.2.2 = 1 ∧ n < 144 ∧ z.has (q.1 * 144 + n) = true) ∨
          ∃ p lt, above = some p ∧ lt / 144 < 128 ∧ lt % 144 < s.tOf (lt / 144) ∧ z.has lt = true ∧ p.set.has lt = false)
       let badPeriod : Prop := e.permax < e.permin ∨ (∃ z ∈ img.cadences, z.period ≠ 0 ∧
         (z.period < e.permin ∨ e.permax < z.period ∨ z.period ≤ z.phase)) ∨ (e.permin ≠ 0 ∧ ∃ z ∈ img.cadences, z.period = 0)
       let badRuntime : Prop :=
         (e.runtime ≠ 0xFFFFFFFF ∧ (img.cadences.filter (fun z => z.entry == e.runtime)).map Cadence.strands ≠ [1]) ∨
         (e.runtime = 0xFFFFFFFF ∧ ∃ p ∈ tiles, let y := s.strand (p * 16 + 15)
           y.en = false ∨ y.st = .unarmed ∨ e.parent = 0 ∨ s.within e.parent y.rcbp.toNat = false)
       let noRoom : Prop := 262144 < f.textLen ∨ e.strands < (img.cadences.map Cadence.strands).sum ∨ s.placeAll f tiles = none
       let late : Prop := e.reserved = true ∧ ∃ p ∈ tiles, e.start ≤ s.rtc p
       (¬range → refused 8) ∧ (range → (badSet → refused 1) ∧ (¬badSet →
         ((∃ p, above = some p ∧ p.strands < e.strands) → refused 2) ∧ ((∀ p, above = some p → e.strands ≤ p.strands) →
         ((∃ p, above = some p ∧ p.prio < e.prio) → refused 3) ∧ ((∀ p, above = some p → e.prio ≤ p.prio) →
         (badPeriod → refused 4) ∧ (¬badPeriod → (badRuntime → refused 5) ∧ (¬badRuntime → (noRoom → refused 6) ∧ (¬noRoom →
         (late → refused 7) ∧ (¬late → (dX text = false → refused 8) ∧ (dX text = true →
          (s.windowsOk f = false → Waits (.regionAdmission rcb img)) ∧ (s.windowsOk f = true →
        ∃ t, exec (.regionAdmission rcb img) s = .next t ∧
          (t.region? rcb).map (fun p => (p.st, p.tiles, p.arg, p.start)) = some (.admitted, tiles, arg, e.start) ∧
          (t.region? rcb).map Region.startAt = some (if e.reserved then e.start else (s.refNs + 2999) / 1000 * 1000) ∧
          status t 1 ∧ ∀ k, t.strand k = s.strand k ∨ ((s.strand k).st = .unarmed ∧ armedAnew t k))))))))))))) ∧
    (s.region? rcb = some r → r.st = .running → (∀ k, k ∈ s.regionKeys r → (s.strand k).st = .halted) → s.regionEntries r = [] → r.away = [] →
      r.lost = false → s.inFlight rcb = false → ended (.regionEnd rcb) 16) ∧
    (((∃ k, k ∈ s.regionKeys r ∧ (s.strand k).st ≠ .halted) ∨ r.away ≠ [] ∨ r.lost = true) → s.region? rcb = some r → Waits (.regionEnd rcb)) ∧
    (s.region? rcb = some r → r.quieted = false → r.st = .running → r.kq ≠ 0 →
      (∀ k, k ∈ s.regionKeys r → quietEnough r.kq (s.strand k) = true) → s.regionEntries r = [] → r.away = [] → r.lost = false → s.inFlight rcb = false →
      ∃ t, exec (.quiescenceEvent rcb) s = .next t ∧ (t.region? rcb).map Region.quieted = some true ∧
        (∀ p, p ∈ r.tiles → (t.tile p).qp = true ∧ ((s.tile p).qp = false → (t.tile p).qpOwner = rcb ∧
          (r.tiles.Nodup → ∃ i, (t.tile p).events = (s.tile p).events ++ [eventWord 2 i 0 rcb] ∧
            ((∃ k, k < 16 ∧ holds p k) → i < 16 ∧ holds p i ∧ ∀ j, j < i → ¬holds p j)))) ∧
        (∀ p, p ∉ r.tiles → t.tile p = s.tile p) ∧ t = { s with tiles := t.tiles, regions := t.regions }) ∧
    (s.region? rcb = some r → r.quieted = false → (r.kq = 0 ∨ r.away ≠ [] ∨ r.lost = true) → Waits (.quiescenceEvent rcb)) ∧
    (∀ q e, s.region? rcb = some r → s.region? x.rcbp.toNat = some q → lowestEntry s pt = some e → slot < 16 → q.prio < r.prio → r.st ≠ .ended →
      (x.st = .running ∨ x.st = .idle ∨ x.st = .held ∨ x.st = .parked) → ∃ t, exec (.priorityPreemption pt slot rcb) s = .next t ∧
        t.strand key = { x with st := .evicted, was := x.st, hrec := holdRecord x.hold, holdPos := holdPosition x.hold, pc := savedPc x, hold := .none } ∧
        (t.entry pt e).st = .loading ∧ (t.entry pt e).strand = t.strand key ∧ (t.entry pt e).slot = slot ∧ StrandsKeptBut s t key ∧ MemKept s t) ∧
    (∀ q, s.region? rcb = some r → s.region? x.rcbp.toNat = some q → r.prio ≤ q.prio → Waits (.priorityPreemption pt slot rcb)) ∧
    (s.told rcb = true → s.region? rcb = some r → regionLive r = true → (s.domainPolicy r.domain ≠ 2 ∨ s.rollback? rcb = none) →
      ended (.faultDomainTakedown rcb) 17) ∧
    (s.domainPolicy r.domain = 2 → s.rollback? rcb ≠ none → Waits (.faultDomainTakedown rcb)) ∧
    (∀ dom n l, s.agenda = .faultPolicy dom n :: l → (n = 1 ∨ n = 2 → step s = .next { s with agenda := l, domains := SMap.put s.domains dom n }) ∧
      (n ≠ 1 → n ≠ 2 → step s = .next { s with agenda := l })) ∧
    ((∀ q, q ∈ s.reports → q.1 ≠ rcb) → Waits (.faultDomainTakedown rcb) ∧ Waits (.regionRollback rcb)) ∧
    ((s.domainPolicy r.domain = 1 ∨ s.rollback? rcb = none) → Waits (.regionRollback rcb)) ∧
    (((∀ q, q ∈ s.reports → q.1 ≠ rcb) ∨ regionLive r = false ∨ (∃ g, g ∈ s.regionGrids rcb ∧ g.2.desc.mirror = false)) → s.rollback? rcb = none) ∧
    (s.told rcb = true → s.region? rcb = some r → regionLive r = true → (∀ g, g ∈ s.regionGrids rcb → g.2.desc.mirror = true) →
      s.rollback? rcb ≠ none → s.domainPolicy r.domain ≠ 1 →
      ∃ t, exec (.regionRollback rcb) s = .next t ∧ (∀ k, k ∈ s.regionKeys r → t.strand k = {} ∨ armedAnew t k) ∧
        (∀ k, k ∉ s.regionKeys r → t.strand k = s.strand k ∨ armedAnew t k) ∧ (∀ p, p ∈ t.pieces → p.rcb ≠ rcb) ∧
        (t.region? rcb).map (fun q => (q.st, q.tiles, q.away, q.lost)) =
          some (r.st, (s.tilesOf r.set).filterMap (fun lt => s.physTile (lt / 144) (lt % 144)), [], false) ∧
        SMap.get t.domains r.domain 0 = (if s.domainPolicy r.domain = 0 then 2 else s.domainPolicy r.domain) ∧
        (s.regionGrids rcb = [] → ∀ q, q ∈ t.reports → q.1 ≠ rcb) ∧
        (∀ p g, s.regionGrids rcb = [(p, g)] → (g.desc.parts[g.part]?).bind (fun y => s.physTile y.die y.n) = none → (rcb, 0) ∈ t.reports) ∧
        (∀ p g y m cs e, s.regionGrids rcb = [(p, g)] → g.desc.parts[g.part]? = some y → s.physTile y.die y.n = some p →
          s.gridFree p = some e → (s.mirror? g.desc rcb g.part).bind Mirror.newest = some (m, cs) →
          (∀ q, q ∈ t.reports → q.1 ≠ rcb) ∧
          ∃ e', (t.gridEntry p e').id = g.id ∧ (t.gridEntry p e').pstep = m ∧ (t.gridEntry p e').mstep = m ∧
            ∀ z, z ∈ (t.gridEntry p e').slots → z.state = 0))

/-- Departure, carriage and performance of parts. A part departs from its queue when its home is known, no earlier part of its
party waits for the same home, its gates are open there and the log has room; a command's parts leave once all are bound, and
with a part through a page go those of its access there, under the same leaf; what goes to another panel waits for a port that
is up (log 92) and leaves with the bytes read so far; the walk of a PFX is no part that departs. It is carried behind the
parts ahead of it in its channel, over links that are up, across dies in VC0 only under a grant. Its home performs it when it
is its turn: a read fills the buffer of its operation; a write puts its bytes, of its own, of the buffer or of four bits, and
a write of REQ that raises HV or FL is noted; an atomic, and the merge of an amax, replaces its word, in one page or two, by
the result of R259, an atomic returning the old one; a sample returns the pennant as it stands; a remote pennant write joins
the deposits; the read of a SPAWN posts its append, which its queue numbers or refuses; a TAKE hands out the oldest of the
free records of highest priority and posts its writes, or answers why not; TDONE takes its token off; a router takes or
refuses a route, in the order of arrival; SCOPEW, BUNTW and PLOTW write their entry, and a PLOTW leaves the copies of the
tiles to be dropped (log 107). All other bytes of memory stay. Before that each event leaves the state as it is. A write that
the log notes has its statement in TranslationEvents. The read of a grid descriptor makes the place of its first byte the ID,
and where its header was not mapped at its GBIND posts the rest. Logs 46, 61, 65, 67, 68, 83, 84, 89 and 92 choose when a
write of REQ is a request, that the walk of a PFX is no part, what a queued part is bound for, which parts go ahead of others
under the grants, what links and ports hold back, that an atomic is one part, and that a refused SPAWN answers 2. -/
def Obligations.PartEvents : Prop :=
  ∀ (s : State) (pid : Nat) (p : Part),
    let Waits (i : Instr) : Prop := exec i s = .next s
    let drop (l : List Part) := l.filter (fun q => q.pid != pid)
    let held (t : State) : Prop := ∀ q, t.tile q =
      { s.tile q with agentOp := (t.tile q).agentOp, hvNew := (t.tile q).hvNew, flNew := (t.tile q).flNew }
    let rest (t : State) : Prop := t = { s with mem := t.mem, ops := t.ops, tiles := t.tiles, arrived := drop s.arrived } ∧ held t
    let alone : Prop := ∀ q, q ∈ ({ s with arrived := drop s.arrived } : State).allParts → q.oid ≠ p.oid
    (s.postOf? pid = none → Waits (.partDepart pid)) ∧
    (s.postOf? pid = some p → s.bound? p = none → Waits (.partDepart pid)) ∧
    (∀ q, s.postOf? pid = some p → s.bound? p = some q →
      ((s.headOf p q.home = false ∨ s.gatesOpen p q.home = false ∨ s.logShort q = true ∨
        (isEngine p.party = true ∧ s.commandBound p.oid = false) ∨ (∃ y, p.party = .walker y) ∨
        (q.home = .cross ∧ s.outsideOpen (p.src / 144) = false)) → Waits (.partDepart pid)) ∧
      (s.headOf p q.home = true → s.gatesOpen p q.home = true → s.logShort q = false → (∀ y, p.party ≠ .walker y) →
        (q.home ≠ .cross → isEngine p.party = false → ∃ t, exec (.partDepart pid) s = .next t ∧
          t.chan = s.chan ++ [q] ∧ t = { s with posts := t.posts, chan := t.chan } ∧ (p.home ≠ .virt → t.posts = drop s.posts) ∧
          (∀ e, p.home = .virt → s.cachedLeaf p.src p.root (actKey p.act) = some e → t.posts = (drop s.posts).map (fun y =>
            if y.oid = p.oid ∧ y.home = .virt ∧ y.fresh = false ∧ (∀ a, a ∈ actPages y.act → leafCovers e y.root a = true) ∧
              (y.write = true → e.w = true) then s.bindTo [e] y else y))) ∧
        (q.home ≠ .cross → isEngine p.party = true → s.commandBound p.oid = true → ∃ t, exec (.partDepart pid) s = .next t ∧
          t.chan = s.chan ++ [q] ∧ t.posts = (s.posts.map (fun y => if y.oid = p.oid then (s.bound? y).getD y else y)).filter (fun y => y.pid != pid) ∧
          t = { s with posts := t.posts, chan := t.chan }) ∧
        (∀ m o, (isEngine p.party = true → s.commandBound p.oid = true) → p.home = .cross → s.outsideOpen (p.src / 144) = true →
            p.act = .message m → s.op? p.oid = some o →
          ∃ t, exec (.partDepart pid) s = .next t ∧ t.outbox = s.outbox ++ [m ++ o.buf.map BitVec.toNat] ∧
            t = { s with posts := t.posts, outbox := t.outbox } ∧ (isEngine p.party = false → t.posts = drop s.posts)))) ∧
    (s.chan.find? (fun q => q.pid == pid) = some p → (aheadIn s.chan p = true → Waits (.partCarry pid)) ∧
      (∀ d, homeDie p.home = some d → s.cutOff (p.src / 144) d = true → Waits (.partCarry pid)) ∧
      (aheadIn s.chan p = false → (∀ d, homeDie p.home = some d → s.cutOff (p.src / 144) d = false) →
        (needsGrant p = none → exec (.partCarry pid) s = .next { s with chan := drop s.chan, arrived := s.arrived ++ [p] }) ∧
        (∀ d n, needsGrant p = some d → SMap.get (s.die (p.src / 144)).grants d 0 = n → (n = 0 → Waits (.partCarry pid)) ∧
          (n ≠ 0 → ∃ t, exec (.partCarry pid) s = .next t ∧ t.arrived = s.arrived ++ [p] ∧ t.chan = drop s.chan ∧
            SMap.get (t.die (p.src / 144)).grants d 0 = n - 1 ∧ t = { s with chan := t.chan, arrived := t.arrived, dies := t.dies })))) ∧
    (s.arrived.find? (fun q => q.pid == pid) = some p →
      ((s.chosen p = false ∨ s.logShort p = true) → Waits (.partPerform pid)) ∧
      (∀ x l m, p.home = .router x → s.arrived = l ++ p :: m → (∀ q ∈ l, q.pid ≠ pid) → (∃ q ∈ l, q.home = .router x) → Waits (.partPerform pid)) ∧
      (s.chosen p = true → s.logNeeds p = [] → ∀ o, s.op? p.oid = some o → o.later = [] → (∀ g f r k, o.fin ≠ .bind g f r k) →
        (∀ gs, p.act = .read gs → ∃ t y, exec (.partPerform pid) s = .next t ∧ t.op? p.oid = some y ∧
          y = { o with buf := gs.foldl (fun b g => overlay b g.buf (memBytes s.mem g.key g.len)) o.buf, units := y.units } ∧
          MemKept s t ∧ rest t) ∧
        (∀ cs, p.act = .write cs → ∃ t, exec (.partPerform pid) s = .next t ∧ t.ops = s.ops ∧ rest t ∧
          (∀ a, (∀ v, (a, v) ∉ cs) → memGet t.mem a = memGet s.mem a) ∧
          ((cs.map Prod.fst).Nodup → ∀ c, c ∈ cs → memGet t.mem c.1 = c.2) ∧
          (∀ q k v r, cs = (k, v) :: r →
            let rises (b : Nat) : Bool := decide (k = 2 ^ 43 + 2 ^ 20 * q + Config.logREQ) && bitOf b (memNat t.mem k 8) && !bitOf b (memNat s.mem k 8)
            (t.tile q).hvNew = ((s.tile q).hvNew || rises 0) ∧ (t.tile q).flNew = ((s.tile q).flNew || rises 1))) ∧
        (∀ gs, p.act = .writeBuf gs → ∃ t, exec (.partPerform pid) s = .next t ∧ t.ops = s.ops ∧ rest t ∧
          (∀ a, (∀ g, g ∈ gs → a < g.key ∨ g.key + g.len ≤ a) → memGet t.mem a = memGet s.mem a) ∧
          (∀ g i, gs = [g] → i < g.len → memGet t.mem (g.key + i) = o.buf.getD (g.buf + i) 0)) ∧
        (∀ ns, p.act = .nibbles ns → ∃ t, exec (.partPerform pid) s = .next t ∧ t.ops = s.ops ∧ rest t ∧
          (∀ a, (∀ n, n ∈ ns → n.1 ≠ a) → memGet t.mem a = memGet s.mem a) ∧
          (∀ a hi v, ns = [(a, hi, v)] → (memGet t.mem a).toNat = (let b := (memGet s.mem a).toNat
            if hi then 16 * v.toNat + b % 16 else b / 16 * 16 + v.toNat))) ∧
        (∀ gs major ty v e, (p.act = .atomic gs major ty v e ∨ (p.act = .amax gs ty ∧ major = 0x2B ∧
            v.toNat = o.res.toNat % 2 ^ (8 * (if ty < 2 then 4 else 8)))) →
          let n := if ty < 2 then 4 else 8
          let runs (m : List Host.Cell) : Nat := ofBytes (gs.flatMap (fun g => memBytes m g.key g.len))
          let old := runs s.mem
          let sg (z : Nat) : Int := if z < 2 ^ (8 * n - 1) then z else (z : Int) - (2 ^ (8 * n) : Nat)
          let less (y z : Nat) : Prop := if ty % 2 = 0 then sg y < sg z else y < z
          let mag (z : Nat) : Nat := z % 2 ^ (8 * n - 1)
          let nan (z : Nat) : Prop := (if n = 4 then 0x7F800000 else 0x7FF0000000000000) < mag z
          let fless (y z : Nat) : Prop := let ny := 2 ^ (8 * n - 1) ≤ y
            let nz := 2 ^ (8 * n - 1) ≤ z
            if nz then ny ∧ mag z < mag y else ny ∨ mag y < mag z
          v.toNat < 2 ^ (8 * n) → e.toNat < 2 ^ (8 * n) → gs.flatMap (fun g => (List.range g.len).map (fun i => g.buf + i)) = List.range n →
            (gs.flatMap (fun g => (List.range g.len).map (fun i => g.key + i))).Nodup → ∃ t, exec (.partPerform pid) s = .next t ∧ rest t ∧
            (∀ a, (∀ g, g ∈ gs → a < g.key ∨ g.key + g.len ≤ a) → memGet t.mem a = memGet s.mem a) ∧
            (p.act = .atomic gs major ty v e → t.op? p.oid = some { o with res := BitVec.ofNat 64 old }) ∧ (p.act = .amax gs ty → t.ops = s.ops) ∧
            (let new := runs t.mem
             (major = 0x28 → new = (old + v.toNat) % 2 ^ (8 * n)) ∧ (major = 0x29 → (less v.toNat old → new = v.toNat) ∧ (¬less v.toNat old → new = old)) ∧
              (major = 0x2A → (less old v.toNat → new = v.toNat) ∧ (¬less old v.toNat → new = old)) ∧
              (major = 0x2B → (nan old → new = old) ∧ (¬nan old → nan v.toNat → new = (if n = 4 then 0x7FC00000 else 0x7FF8000000000000)) ∧
                (¬nan old → ¬nan v.toNat → (fless old v.toNat → new = v.toNat) ∧ (¬fless old v.toNat → new = old))) ∧
              (major = 0x2C → new = old &&& v.toNat) ∧ (major = 0x2D → new = old ||| v.toNat) ∧ (major = 0x2E → new = old ^^^ v.toNat) ∧
              (major = 0x2F → new = v.toNat) ∧ (major = 0x30 → (old = e.toNat → new = v.toNat) ∧ (old ≠ e.toNat → new = old)))) ∧
        (∀ q idx kind expect, p.home = .pens q → p.act = .penSample idx kind expect → ∃ t y, exec (.partPerform pid) s = .next t ∧
          t.op? p.oid = some y ∧ y = { o with res := y.res, res2 := y.res2 } ∧ MemKept s t ∧ rest t ∧
          (let z := s.pen q idx
           (kind = 0 → y.res = z.value ∧ y.res2 = z.hoist.setWidth 64) ∧ (kind = 1 → y.res = (z.hoist - expect).setWidth 64) ∧
            (kind = 2 → y.res = z.hoist ++ z.stamp))) ∧
        (∀ q idx v st, p.home = .pens q → (p.act = .penWrite idx v st ∨ p.act = .penAdd idx v st) → exec (.partPerform pid) s = .next { s with
          arrived := drop s.arrived
          deposits := s.deposits ++ [{ pt := q, idx := idx, act := if p.act = .penAdd idx v st then .add v st else .set v st,
                                       pid := some p.pid, oid := some p.oid }] }) ∧
        (∀ d r, p.home = .sched d → p.act = .spawn r →
          let q := (s.die d).sched
          ∃ t y, exec (.partPerform pid) s = .next t ∧ t.op? p.oid = some y ∧ y = { o with res := y.res } ∧ t.mem = s.mem ∧
            t = { s with ops := t.ops, dies := t.dies, arrived := drop s.arrived } ∧
            (∀ l, s.logDie d = some l → (s.dmapOf l).2 = 0 → (∃ pt, pt ∈ (s.region r.region).tiles ∧ pt / 144 = d) →
              (q.ready.length < 4096 → y.res = BitVec.ofNat 64 (q.seq * 256) ∧ (t.die d).sched = { q with
                ready := q.ready ++ [{ r with seq := q.seq, token := BitVec.ofNat 32 (l * 2 ^ 24 + q.seq) }], seq := (q.seq + 1) % 2 ^ 24 }) ∧
              (4096 ≤ q.ready.length → y.res = 1 ∧ t.dies = s.dies)) ∧
            ((s.logDie d = none ∨ (∃ l, s.logDie d = some l ∧ (s.dmapOf l).2 ≠ 0) ∨ (∀ pt, pt ∈ (s.region r.region).tiles → pt / 144 ≠ d)) →
              y.res = 2 ∧ t.dies = s.dies)) ∧
        (∀ d rcb tok, p.home = .sched d → p.act = .tdone rcb tok → ∃ t, exec (.partPerform pid) s = .next t ∧
          t = { s with dies := t.dies, arrived := drop s.arrived } ∧
          (t.die d).sched = { (s.die d).sched with out := (s.die d).sched.out.erase (rcb, tok) } ∧ ∀ z, z ≠ d → t.die z = s.die z) ∧
        (∀ q i w rcb, p.home = .router q → p.act = .rtset i w rcb →
          let e := SMap.get (s.tile q).routes i {}
          let c := s.routeCheck q w
          let other := e.v = true ∧ e.owner ≠ rcb
          ∃ t y, exec (.partPerform pid) s = .next t ∧ t.op? p.oid = some y ∧ y = { o with res := y.res } ∧
            t = { s with ops := t.ops, tiles := t.tiles, arrived := drop s.arrived } ∧
            (other → y.res = 1 ∧ t.tiles = s.tiles) ∧ (¬other → y.res = routeStatus c ∧ (c.code ≠ 0 → t.tiles = s.tiles) ∧
              (c.code = 0 → SMap.get (t.tile q).routes i {} = { word := w, v := true, owner := rcb }))) ∧
        (∀ q i rcb, p.home = .router q → p.act = .rtclr i rcb →
          let e := SMap.get (s.tile q).routes i {}
          ∃ t, exec (.partPerform pid) s = .next t ∧ t = { s with tiles := t.tiles, arrived := drop s.arrived } ∧
            SMap.get (t.tile q).routes i {} = if e.v = true ∧ e.owner = rcb then { e with v := false } else e) ∧
        (∀ c h rcb e w, p.home = .channel c h → p.act = .scopew rcb e w → ∃ t, exec (.partPerform pid) s = .next t ∧ t.ops = s.ops ∧
          t = { s with mem := t.mem, regions := t.regions, arrived := drop s.arrived } ∧
          (s.panelKey ((s.region rcb).scopeBase + 8 * e) = none → t.mem = s.mem) ∧
          (∀ k, s.panelKey ((s.region rcb).scopeBase + 8 * e) = some k → MemKeptBut s t k 8 ∧ memNat t.mem k 8 = w.toNat) ∧
          (∀ r, s.region? rcb = some r → ∃ x, t.region? rcb = some { r with scopes := r.scopes.set (e - 6) x } ∧ x.word = w)) ∧
        (∀ c h rcb slot, p.home = .channel c h → p.act = .buntw rcb slot → ∃ t, exec (.partPerform pid) s = .next t ∧ t.ops = s.ops ∧
          t = { s with mem := t.mem, arrived := drop s.arrived } ∧
          (s.panelKey ((s.region rcb).buntBase + 1024 * slot) = none → t.mem = s.mem) ∧
          (∀ k, s.panelKey ((s.region rcb).buntBase + 1024 * slot) = some k → o.buf.length = 1024 → MemKeptBut s t k 1024 ∧
            memNat t.mem k 8 = ofBytes (o.buf.take 8) % 2 ^ 63 + (if s.buntingOk rcb o.buf = true then 2 ^ 63 else 0) ∧
            memBytes t.mem (k + 8) 1016 = o.buf.drop 8)) ∧
        (∀ c h rcb x, p.home = .channel c h → p.act = .plotw rcb x → ∃ t, exec (.partPerform pid) s = .next t ∧
          t.op? p.oid = some { o with res := BitVec.ofNat 64 s.nextId } ∧
          t = { s with mem := t.mem, ops := t.ops, tiles := t.tiles, nextId := s.nextId + 1, arrived := drop s.arrived } ∧
          (s.panelKey (s.plotAddr rcb x) = none → t.mem = s.mem) ∧
          (∀ k, s.panelKey (s.plotAddr rcb x) = some k → MemKeptBut s t k o.buf.length ∧ memBytes t.mem k o.buf.length = o.buf) ∧
          (∀ q, t.tile q = { s.tile q with plots := (s.tile q).plots.map (fun y =>
            if s.plotAddr y.rcb y.x = s.plotAddr rcb x then { y with old := true } else y) }))) ∧
      (s.chosen p = true → s.logNeeds p = [] → ∀ o gs g f r k, s.op? p.oid = some o → p.act = .read gs → o.fin = .bind g f r k → o.later = [] →
        let b : Op := { o with buf := gs.foldl (fun b g => overlay b g.buf (memBytes s.mem g.key g.len)) o.buf
                               res := match gs.find? (fun g => g.buf == 0) with | some g => BitVec.ofNat 64 (g.key + 1) | none => o.res }
        ((¬alone ∨ bindRest b b.buf f r k = []) → ∃ t y, exec (.partPerform pid) s = .next t ∧ t.op? p.oid = some y ∧
          y = { b with units := y.units } ∧ MemKept s t ∧ rest t) ∧
        (alone → bindRest b b.buf f r k ≠ [] → ∃ t y, exec (.partPerform pid) s = .next t ∧ t.op? p.oid = some y ∧
          y = { b with buf := b.buf ++ zeros (gridBytes (gridHeader b.buf) - b.buf.length), units := y.units } ∧ MemKept s t ∧
          t.posts.map (fun z => (z.home, z.act)) = s.posts.map (fun z => (z.home, z.act)) ++ bindRest b b.buf f r k)) ∧
      (s.chosen p = true → s.logNeeds p = [] → alone → ∀ o, s.op? p.oid = some o →
        (∀ gs e h b k, p.act = .read gs → o.fin = .word e → o.later = [(h, .spawn b)] → o.party = .strand k →
          let buf := gs.foldl (fun b g => overlay b g.buf (memBytes s.mem g.key g.len)) o.buf
          let r := recordOf buf b.region
          let die := s.queueDie (k / 16) r
          ∃ t y, exec (.partPerform pid) s = .next t ∧ t.op? p.oid = some y ∧
            y = { o with buf := buf, units := y.units, later := [], engine := die.map Home.sched, res := 2 } ∧ MemKept s t ∧
            ((die = none ∨ (∃ d, die = some d ∧ s.exitRefused (k / 16) d = true)) → t.posts = s.posts) ∧
            (∀ d, die = some d → s.exitRefused (k / 16) d = false → ∃ z, t.posts = s.posts ++ [z] ∧ z.oid = p.oid ∧ z.src = k / 16 ∧
              z.home = .sched d ∧ z.act = .spawn r ∧ z.gates = o.gates)) ∧
        (∀ d rcb e, p.home = .sched d → p.act = .take rcb → o.fin = .take e →
          let q := (s.die d).sched
          let before (a b : Nat) : Prop := 0 < (b + 2 ^ 24 - a) % 2 ^ 24 ∧ (b + 2 ^ 24 - a) % 2 ^ 24 < 2 ^ 23
          let bar (r : Record) : Prop := r.ctl.getLsbD 10 = true
          let free (r : Record) : Prop := r.stolen = true ∨
            ((∀ z, z ∈ q.ready → z.region = r.region → z.stolen = false → bar z → ¬before z.seq r.seq) ∧
             (bar r → (∀ z, z ∈ q.ready → z.region = r.region → z.stolen = false → ¬before z.seq r.seq) ∧
               ∀ z, z ∈ q.out → z.1 = r.region → ¬before (z.2.toNat % 2 ^ 24) r.seq))
          let prio (r : Record) : Nat := r.ctl.toNat / 256 % 4
          let tells (code : Nat) : Prop := ∃ t, exec (.partPerform pid) s = .next t ∧ MemKept s t ∧ t.posts = s.posts ∧
            t.op? p.oid = some { o with res := BitVec.ofNat 64 code, later := [] } ∧ (t.die d).sched = { q with empties := (t.die d).sched.empties } ∧
            (t.die d).sched.empties = if code = 3 then q.empties else SMap.put q.empties rcb s.refNs
          ((∀ r, r ∈ q.ready → r.region ≠ rcb) → tells 1) ∧
          ((∃ r, r ∈ q.ready ∧ r.region = rcb) → (∀ r, r ∈ q.ready → r.region = rcb → ¬free r) → tells 2) ∧
          (∀ l m r, q.ready = l ++ r :: m → r.region = rcb → free r → (∀ z, z ∈ l → z.region = rcb → free z → prio z < prio r) →
            (∀ z, z ∈ m → z.region = rcb → free z → prio z ≤ prio r) →
            (r.stolen = false → 4096 ≤ q.out.length → tells 3) ∧
            (r.stolen = true ∨ q.out.length < 4096 → ∃ t, exec (.partPerform pid) s = .next t ∧ MemKept s t ∧
              t.op? p.oid = some { o with res := BitVec.ofNat 64 (prio r * 256), buf := recordBytes r, later := [] } ∧
              (t.die d).sched = { q with ready := l ++ m, out := q.out ++ (if r.stolen then [] else [(rcb, r.token)]) } ∧
              t.posts.map (fun z => (z.home, z.act)) = s.posts.map (fun z => (z.home, z.act)) ++ o.later)))))

/-- Completion of operations. An operation whose parts are all performed leaves, its counter falls by one and its destination
is written: registers, a vector register, a q register, FCSR's flags, or a segment register, which takes the loaded descriptor
where it obeys R286 and else 0; a converting load writes its converted elements; a grid or tensor element or run takes its
format's form; a GBIND finds or takes an entry of the grid table, or gives the empty descriptor; a TAKE that hands over a
record resets the quiet count, an empty one of a free-running strand may raise it (log 75); flags stay late (log 106). A drain
to memory and a PLOTW write no register; a PLOTW waits until no old entry is cached and the accesses through one are
performed. A request of another panel gets its answer. A load of a unit that comes back uncorrectable writes nothing: its
address joins the strand's list, the fault domain hears cause 13, the die counts it, and the unit is tested. A copy, fill or
message with C set gives its completion word to the deposit port, else it leaves at once, and waits for the gates of its
deposit; a message also writes MLAT, one of a tile in a cycle. A GSTEP whose turn has come publishes its step under the grants
that its walks need: PSTEP takes it, and each receiver on the panel gets a piece with the resolved cells. An eviction, once
the strand's operations are done but those parked, leaves its context held with the parked ones and its slot unarmed unless
the slot is kept, and answers the EVICT that asked; a saved entry becomes empty and the region keeps the context's quiet count
(log 102); a loaded image becomes a held context with it where its ranges are in order, else a bad one, and reads the rest of
its registers first where it has not. Before its condition each leaves the state as it is (log 67). Logs 21, 34, 54, 86 and
103 choose how an entry is found and what its ID is, what converting loads do, how much of an image is read, and when walks
take their grants. -/
def Obligations.Completions : Prop :=
  ∀ (s : State) (oid pt slot key : Nat) (o : Op),
    let Waits (i : Instr) : Prop := exec i s = .next s
    let x := s.strand key
    let left (t : State) : Prop := ∀ q, q ∈ t.ops → q.oid ≠ oid
    let counts (t : State) : Prop := ∀ c, (t.strand key).count c = x.count c - (if o.cls = some c then 1 else 0)
    let done := Instr.operationComplete oid none
    let C (fin : Ending) (P : State → Prop) : Prop := s.op? oid = some o → s.mayComplete o = true → o.party = .strand key → o.fin = fin →
      ∃ t, exec done s = .next t ∧ left t ∧ counts t ∧ StrandsKeptBut s t key ∧ MemKept s t ∧ P t
    let regs (t : State) (f : BitVec 5 → Word) : Prop := (∀ r, (t.strand key).reg r = f r) ∧ t.vregs = s.vregs
    let into (d : BitVec 5) (v : Word) (t : State) : Prop := regs t (fun r => if r = 0 then 0 else if r = d then v else x.reg r)
    let n := ofBytes o.buf
    let p := opTile o
    let vothers (v : BitVec 7) (t : State) : Prop := ∀ e, e ≠ key / 16 * 2048 + x.vbase.toNat + v.toNat → SMap.get t.vregs e 0 = SMap.get s.vregs e 0
    let signed (w k : Nat) : Word := BitVec.ofInt 64 (if k % 2 ^ w < 2 ^ (w - 1) then (k % 2 ^ w : Nat) else ((k % 2 ^ w : Nat) : Int) - (2 ^ w : Nat))
    let elem (fmt : Nat) (hi : Bool) : Word := if fmt = 9 then BitVec.ofNat 64 (if hi then n / 16 % 16 else n % 16)
      else if fmt = 7 ∨ fmt = 8 then BitVec.ofNat 64 (n % 64)
      else if 16 ≤ fmt ∧ fmt ≤ 19 then signed (4 * halves fmt) n else BitVec.ofNat 64 (n % 2 ^ (4 * halves fmt))
    (s.op? oid = none → Waits done ∧ Waits (.copyComplete oid) ∧ Waits (.sendComplete oid) ∧ Waits (.gstepProcess oid) ∧
      Waits (.ctxsvComplete oid) ∧ Waits (.ctxldComplete oid)) ∧
    (s.op? oid = some o → s.mayComplete o = false → Waits done) ∧
    C .none (fun t => regs t x.reg) ∧ (∀ d, C (.word d) (into d o.res)) ∧
    (∀ d e, C (.words d e) (fun t => regs t (fun r => if r = 0 then 0 else if r = e then o.res2 else if r = d then o.res else x.reg r))) ∧
    (∀ d k, C (.bytes d k false) (into d (BitVec.ofNat 64 (n % 2 ^ (8 * k))))) ∧
    (∀ d k, C (.bytes d k true) (into d (BitVec.ofInt 64 (if n % 2 ^ (8 * k) < 2 ^ (8 * k - 1) then (n % 2 ^ (8 * k) : Nat)
      else ((n % 2 ^ (8 * k) : Nat) : Int) - (2 ^ (8 * k) : Nat))))) ∧
    (∀ v, C (.vec v) (fun t => t.vget key v.toNat = BitVec.ofNat 512 n ∧ (∀ r, (t.strand key).reg r = x.reg r) ∧
      vothers v t)) ∧
    (∀ v src dst rm sat, C (.conv v src dst rm sat) (fun t =>
      let w := 4 * halves dst
      let val (i : Nat) : Nat × Flags := let k := lane (4 * halves src) i n
        if src = dst then (if src = 7 ∨ src = 8 then k % 64 else k, 0)
        else (fmt5 dst).convert (fmt5 src) rm.toNat (sat && !widens (fmt5 dst) (fmt5 src)) k
      (∀ i, i < 128 / halves dst → lane w i (t.vget key v.toNat).toNat = (val i).1 % 2 ^ w) ∧ vothers v t ∧
      (let fl : Flags := (List.range (128 / halves dst)).foldl (fun a i => a ||| (val i).2) 0
       t.strand key = { t.strand key with fcsr := x.fcsr ||| fl.setWidth 64, lateLd := x.lateLd ||| fl }) ∧
      (∀ r, (t.strand key).reg r = x.reg r))) ∧
    (∀ d fmt chk st ok, C (.cell d fmt chk st ok) (fun t => regs t (fun r =>
      if r = 0 then 0 else if chk = some r then st else if ok = true ∧ r = d then elem fmt false else x.reg r))) ∧
    (∀ v chk st ok, C (.cells v chk st ok) (fun t => (∀ r, (t.strand key).reg r = if r = 0 then 0 else if chk = some r then st else x.reg r) ∧
      vothers v t ∧ t.vget key v.toNat = if ok then BitVec.ofNat 512 n else s.vget key v.toNat)) ∧
    (∀ d fmt hi, C (.elem d fmt hi) (into d (elem fmt hi))) ∧
    (∀ v fmt nib, C (.run v fmt nib) (fun t => (∀ r, (t.strand key).reg r = x.reg r) ∧ vothers v t ∧
      (nib = [] → t.vget key v.toNat = BitVec.ofNat 512 (ofBytes (if fmt = 7 ∨ fmt = 8 then o.buf.map (fun b => b &&& 0x3F) else o.buf))) ∧
      (∀ i hi b, nib[i]? = some hi → o.buf[i]? = some b → i < 128 →
        lane 4 i (t.vget key v.toNat).toNat = if hi then b.toNat / 16 else b.toNat % 16))) ∧
    (∀ d, C (.take d) (fun t => into d o.res t ∧ (let y := t.strand key
      let code := o.res.toNat % 256
      (code = 0 → y.quiet = 0 ∧ y.busy = true ∧ y.busyTake = true) ∧ (code ≠ 0 → y.busy = x.busy) ∧ (code ≠ 0 → x.per ≠ 0 → y.quiet = x.quiet) ∧
      (code ≠ 0 → x.per = 0 → y.busyTake = false ∧ y.quiet = if x.busyTake = false ∧ (code = 1 ∨ code = 2) then x.quiet + 1 else x.quiet)))) ∧
    (∀ g flat root k, C (.bind g flat root k) (fun t => regs t x.reg ∧ (∀ j, j ≠ g → (t.strand key).seg j = x.seg j) ∧
      (let q := key / 16
       let id := o.res.toNat
       let D := gridDesc o.buf
       let found := s.gridFind q o.rcb id D
       (s.gridValid q (s.region o.rcb).root D = false ∨ id = 0 ∨ (found = none ∧ s.gridFree q = none) →
         (t.strand key).seg g = descriptor kindGrid 0 s.chip.toNat 0 0 0 0 0 ∧ ∀ e, t.gridEntry q e = s.gridEntry q e) ∧
       (∀ e, s.gridValid q (s.region o.rcb).root D = true → id ≠ 0 → (found = some e ∨ (found = none ∧ s.gridFree q = some e)) →
         t.gridEntry q e = { (if found = some e then s.gridEntry q e else freshGrid id o.rcb (s.minePart q D) D) with
           id := id, place := if flat then some (root, k) else none, bound := true } ∧
         (t.strand key).seg g = t.gridSegment q e ∧ ∀ j, j ≠ e → t.gridEntry q j = s.gridEntry q j)))) ∧
    C .drain (fun t => regs t x.reg) ∧ (∀ k, C (.plotw k) (fun t => regs t x.reg)) ∧
    (o.fin = .drain → s.mayComplete o = (s.opIdle o && !s.feeds o.oid)) ∧
    (∀ k, o.fin = .plotw k → (s.mayComplete o = true ↔ s.opIdle o = true ∧
      (∀ z y, z ∈ s.tiles → y ∈ z.2.plots → y.old = true → s.plotAddr y.rcb y.x ≠ s.plotAddr o.rcb k) ∧
      ∀ q, q ∈ s.ops → ((q.oid < o.res.toNat ∧ ∃ y, y ∈ q.uses ∧ s.plotAddr q.rcb y = s.plotAddr o.rcb k) ∨
        (∃ y, y ∈ q.oldUses ∧ s.plotAddr q.rcb y = s.plotAddr o.rcb k)) → ∀ z, z ∈ s.allParts → z.oid ≠ q.oid)) ∧
    (∀ kind k sx who, s.op? oid = some o → s.mayComplete o = true → o.party = .outside who → o.fin = .answer kind k sx →
      ∃ t, exec done s = .next t ∧ left t ∧ t.strands = s.strands ∧ MemKept s t ∧ t.answers = s.answers ++
        [(if o.addr = 0 then none else some (o.addr.toNat - 1), if kind = 1 then [3, (if sx then signed (8 * k) n else BitVec.ofNat 64 (n % 2 ^ (8 * k))).toNat, 0]
         else if kind = 2 then [3, o.buf.length, 0] ++ o.buf.map BitVec.toNat else [3, o.res.toNat, 0])]) ∧
    (∀ f, C (.flags f) (fun t => regs t x.reg ∧ (t.strand key).fcsr = x.fcsr ||| f.setWidth 64 ∧ (t.strand key).lateSt = x.lateSt ||| f)) ∧
    (∀ q, C (.scales q) (fun t => regs t x.reg ∧ ∀ k, (t.strand key).scale k = if k = q then BitVec.ofNat 256 n else x.scale k)) ∧
    (∀ g, C (.seg g) (fun t => regs t x.reg ∧ ∀ k, (t.strand key).seg k = if k = g then
      (if s.segOk o.rcb (BitVec.ofNat 256 n) = true then BitVec.ofNat 256 n else 0) else x.seg k)) ∧
    (∀ q, s.op? oid = some o → s.mayComplete o = true → o.party = .strand key →
      (isLoadEnd o.fin = true → q ∈ o.units → ∃ t, exec (.operationComplete oid (some q)) s = .next t ∧ left t ∧ counts t ∧
        StrandsKeptBut s t key ∧ MemKept s t ∧ regs t x.reg ∧ (t.strand key).badLoads = x.badLoads ++ [o.addr] ∧
        t.outbox = s.outbox ++ [[0, o.rcb, 13]] ∧ t.reports = s.reports ++ [(o.rcb, 13)] ∧ q.2 ∈ (t.die q.1).tests ∧
        ((t.die q.1).errs[4]).toNat = min (2 ^ 32 - 1) (((s.die q.1).errs[4]).toNat + 1)) ∧
      (isLoadEnd o.fin = false ∨ q ∉ o.units → Waits (.operationComplete oid (some q)))) ∧
    (∀ i v, (i = Instr.copyComplete oid ∧ o.fin = .copy ∧ v = o.count) ∨ (∃ h dh code, i = Instr.sendComplete oid ∧ o.fin = .send h dh code ∧
        v = BitVec.ofNat 64 (min (s.cycle p - o.issued) 0xFFFFFFFF * 2 ^ 32 + min h 255 * 2 ^ 16 + dh % 256 * 2 ^ 8 + code)) →
      let busy : Prop := i = Instr.sendComplete oid ∧ (s.tile p).sendAt = some (s.cycle p)
      s.op? oid = some o → (s.opIdle o = false ∨ o.pubPid ≠ none ∨ (∃ g, g ∈ o.gates ∧ s.gateWaits g = true) ∨ busy → Waits i) ∧
      (s.opIdle o = true → o.pubPid = none → (∀ g, g ∈ o.gates → s.gateWaits g = false) → ¬busy →
        (o.pub = none → o.party = .strand key → ∃ t, exec i s = .next t ∧ left t ∧ counts t ∧
          StrandsKeptBut s t key ∧ MemKept s t ∧ regs t x.reg ∧ t.deposits = s.deposits) ∧
        (∀ cp, o.pub = some cp → ∃ t, exec i s = .next t ∧ t.strands = s.strands ∧ MemKept s t ∧
          t.deposits = s.deposits ++ [{ pt := p, idx := cp, act := .set v o.stamp, pid := none, oid := some oid }] ∧
          (t.op? oid).map Op.pubPid = some (some 0)))) ∧
    (∀ h dh code, s.op? oid = some o → o.fin = .send h dh code → s.opIdle o = true → o.pubPid = none → (∀ g, g ∈ o.gates → s.gateWaits g = false) →
      (s.tile p).sendAt ≠ some (s.cycle p) → ∃ t, exec (.sendComplete oid) s = .next t ∧ (t.tile p).sendAt = some (s.cycle p) ∧
        (t.tile p).mlat = BitVec.ofNat 64 (min (s.cycle p - o.issued) 0xFFFFFFFF * 2 ^ 32 + dh % 256 * 2 ^ 8 + min h 255)) ∧
    (∀ e step t0 vs, s.op? oid = some o → o.fin = .gstep e step → s.opIdle o = true → o.parked = [] →
      (∀ g, g ∈ o.gates → s.gateClosed g (engineHome p) = false) → (∀ q, q ∈ s.ops.takeWhile (fun q => q.oid != oid) → gstepOf q ≠ some (p, e)) →
      (let G := s.gridEntry p e
       let D := G.desc
       let dests := if step % D.d = 0 then receivers D G.part else []
       let copy := D.mirror && G.buddy.isSome && step % D.m == 0
       let val (k : Nat) : Word := match s.cellKey p G k false with
         | some (_, a) => BitVec.ofNat 64 (memNat s.mem a (elemSize D.fmt))
         | none => 0
       (D.mirror = true → step % D.m = 0 → ∀ j, j ∈ s.jobs → j.pt = p → j.entry = e → j.step.toNat + D.m ≠ step) →
       (∀ y z, y ∈ dests → D.parts[y.1]? = some z → z.chip ≠ s.chip.toNat → s.outsideOpen (p / 144) = true) →
       Granted s (p / 144) (s.stepWalks o) →
       s.getCells p G ((if copy then List.range (interiorCount D G.part) else []) ++
         (dests.map (fun y => (y, pieceCells D y.1 y.2 G.part))).flatMap (fun y => y.2.map (fun c => c.2.1))) =
           .ok (t0, vs) → ∃ t q, exec (.gstepProcess oid) s = .next t ∧ left t ∧ (t.gridEntry p e).pstep = BitVec.ofNat 32 step ∧
         UsesGrants s t (p / 144) (s.stepWalks o) ∧ (t.gridEntry p e).slots = G.slots ∧ t.pieces = s.pieces ++ q ∧ MemKept t0 t ∧
         (∀ y, y ∈ q → y.grid = G.id ∧ y.rcb = G.rcb ∧ y.src = p / 144 ∧ (y.all = false → y.step = BitVec.ofNat 32 step)) ∧
         (∀ Q F y w, (Q, F) ∈ dests → D.parts[Q]? = some y → y.chip = s.chip.toNat → s.physTile y.die y.n = some w →
           (w = p ∨ s.refusedPath p w = false) → ∃ z, z ∈ q ∧ z.pt = w ∧ z.part = Q ∧ z.face = F ∧ z.ring = false ∧ z.all = false ∧
             z.cells = (pieceCells D Q F G.part).map (fun c => (c.1, if c.2.2 then negCell D.fmt (val c.2.1) else val c.2.1))) ∧
         (copy = true → ∃ j, t.jobs = s.jobs ++ [j] ∧ j.pt = p ∧ j.entry = e ∧ j.step = BitVec.ofNat 32 step ∧
           j.cells = (List.range (interiorCount D G.part)).map val) ∧ (copy = false → t.jobs = s.jobs))) ∧
    (∀ e step, s.op? oid = some o → o.fin = .gstep e step → (s.stepReady o e step = false ∨ ¬Granted s (p / 144) (s.stepWalks o) → Waits (.gstepProcess oid)) ∧
      (s.stepReady o e step = true ↔ s.opIdle o = true ∧ o.parked = [] ∧ (∀ g, g ∈ o.gates → s.gateClosed g (engineHome p) = false) ∧
        (∀ q, q ∈ s.ops.takeWhile (fun q => q.oid != oid) → gstepOf q ≠ some (p, e)) ∧ (let D := (s.gridEntry p e).desc
          (D.mirror = true → step % D.m = 0 → ∀ j, j ∈ s.jobs → j.pt = p → j.entry = e → j.step.toNat + D.m ≠ step) ∧
          (∀ y z, step % D.d = 0 → y ∈ receivers D (s.gridEntry p e).part → D.parts[y.1]? = some z → z.chip ≠ s.chip.toNat →
            s.outsideOpen (p / 144) = true)))) ∧
    (∀ e, s.savingEntry pt slot = some e → slot < 16 → (let k := pt * 16 + slot
      let c := s.entry pt e
      let moved (t : State) : Prop := (t.entry pt e).st = .held ∧ (t.entry pt e).strand = s.strand k ∧ (t.entry pt e).slot = c.slot ∧
        t.strand k = (if c.kept then s.strand k else {}) ∧ MemKept s t ∧ (t.tile pt).evp.getLsbD e = true ∧
        ∀ y, y ∈ s.ops → y.party = .strand k → y.parked ≠ [] → some y.oid ≠ c.oid → ∃ z, z ∈ t.ops ∧ z.oid = y.oid ∧ z.party = .cached (pt * 32 + e) ∧
          ∀ w, w ∈ y.parked → ∃ v, v ∈ z.parked ∧ v.pid = w.pid ∧ v.act = w.act
      (s.drained k = false → Waits (.evictComplete pt slot)) ∧
      (s.drained k = true → c.oid = none → ∃ t, exec (.evictComplete pt slot) s = .next t ∧ moved t ∧ StrandsKeptBut s t k) ∧
      (∀ q y d e' k', s.drained k = true → c.oid = some q → s.op? q = some y → y.fin = .evict d e' → y.party = .strand k' → k' ≠ k →
        ∃ t, exec (.evictComplete pt slot) s = .next t ∧ moved t ∧ (∀ z, z ∈ t.ops → z.oid ≠ q) ∧
          (∀ z, z ≠ k → z ≠ k' → t.strand z = s.strand z) ∧
          ∀ r, (t.strand k').reg r = if r = 0 then 0 else if r = d then y.res else (s.strand k').reg r))) ∧
    (s.savingEntry pt slot = none → Waits (.evictComplete pt slot)) ∧
    (∀ e, s.op? oid = some o → o.fin = .ctxsv e → (s.opIdle o = false → Waits (.ctxsvComplete oid)) ∧
      (s.opIdle o = true → (let y := (s.entry p e).strand
        let rcb := y.rcbp.toNat
        ∃ t, exec (.ctxsvComplete oid) s = .next t ∧ t.entry p e = {} ∧ left t ∧ MemKept s t ∧
          (t.region? rcb).map Region.away = (s.region? rcb).map (fun r => r.away ++
            [{ id := y.cadIdx.toNat * 16 + y.cadNum.toNat, quiet := y.quiet, busy := y.busy, busyTake := y.busyTake, home := (s.entry p e).home }])))) ∧
    (∀ e, s.op? oid = some o → o.fin = .ctxld e → (s.opIdle { o with later := [] } = false → Waits (.ctxldComplete oid)) ∧
      (s.opIdle { o with later := [] } = true → (let f (a : Nat) := ofBytes ((o.buf.drop a).take 8)
        let y := s.strandOfImage p o.buf
        let rcb := y.rcbp.toNat
        let size := 1024 + 64 * f 320
        let slot := f 376 % 16
        let id := y.cadIdx.toNat * 16 + y.cadNum.toNat
        let away := (s.region rcb).away
        let own := away.find? (fun a => a.id == id && a.home == p)
        let a := (own.or (away.find? (fun a => a.id == id))).or away.head?
        let more : Prop := rangeOk (f 312) (f 320) = true ∧ o.buf.length < size ∧ size ≤ o.count.toNat ∧ o.later ≠ []
        let good : Prop := rangeOk (f 312) (f 320) = true ∧ size ≤ o.buf.length ∧ s.rangeFree (some rcb) p (f 312) (f 320) = true ∧
          f 280 < 2 ^ 24 ∧ f 288 < 2 ^ 24 ∧ hrecOk (f 976) = true ∧ periodOk (s.region rcb) (f 280) (f 288) = true
        (more → ∃ t q, exec (.ctxldComplete oid) s = .next t ∧ MemKept s t ∧ t.strands = s.strands ∧ t.tiles = s.tiles ∧
          t.op? oid = some { o with buf := o.buf ++ zeros (size - o.buf.length), later := [] } ∧ t.posts = s.posts ++ q ∧
          ∀ z, z ∈ q → z.oid = oid ∧ ∃ gs, z.act = .read gs ∧ ∀ g, g ∈ gs → g.buf + g.len ≤ size) ∧
        (¬more → ¬good → ∃ t, exec (.ctxldComplete oid) s = .next t ∧ (t.entry p e).st = .bad ∧ left t ∧ t.vregs = s.vregs ∧ t.regions = s.regions) ∧
        (¬more → good → ∃ t, exec (.ctxldComplete oid) s = .next t ∧ left t ∧
          t.entry p e = { st := .held, strand := { y with quiet := a.elim 0 Away.quiet, busy := a.any Away.busy, busyTake := a.any Away.busyTake }
                          slot := slot, kept := (s.region rcb).reserved && s.keptFor p slot y && own.isSome, home := a.elim p Away.home } ∧
          (t.region? rcb).map Region.away = (s.region? rcb).map (fun r => a.elim r.away r.away.erase) ∧
          ∀ i, i < f 320 → SMap.get t.vregs (p * 2048 + f 312 + i) 0 = BitVec.ofNat 512 (ofBytes ((o.buf.drop (1024 + 64 * i)).take 64))))))

/-- Writes of pennants. A local write lands when its cycle has come and a deposit in a cycle without one: value and stamp are
replaced (or the operand added to the value), the hoist count rises by one modulo 2^32, and a PADD returns the value before;
PCLR clears all three; the local samples of that cycle still see what stood before. A held-back release enters the local
writes once a cycle has ended with its gates open. No other pennant and no byte of memory changes, and before its condition
each leaves the state as it is (log 67). -/
def Obligations.PennantEvents : Prop :=
  ∀ (s : State) (pt oid : Nat),
    let Waits (i : Instr) : Prop := exec i s = .next s
    let lands (t : State) (idx : Nat) (a : PenAct) : Prop :=
      let p := s.pen pt idx
      let q := t.pen pt idx
      (∀ v st, a = .set v st → q.value = v ∧ q.stamp = st ∧ q.hoist = p.hoist + 1) ∧
      (∀ v st, a = .add v st → q.value = p.value + v ∧ q.stamp = st ∧ q.hoist = p.hoist + 1) ∧
      (a = .clear → q.value = 0 ∧ q.stamp = 0 ∧ q.hoist = 0) ∧
      (∀ e, e ≠ pt * 64 + idx → SMap.get t.pens e {} = SMap.get s.pens e {}) ∧ MemKept s t ∧ ∀ i, t.penSeen pt i = s.penSeen pt i
    (s.localDue pt = none → Waits (.localWriteApply pt)) ∧
    (∀ l, s.localDue pt = some l → ∃ t, exec (.localWriteApply pt) s = .next t ∧ lands t l.idx l.act ∧
      t.locals = s.locals.filter (fun q => q.pid != l.pid) ∧ (l.e = none → l.oid = none → t.strands = s.strands) ∧
      (l.oid ≠ none → l.e = none → t.strand l.key = { s.strand l.key with relAt := some (s.cycle pt) } ∧ StrandsKeptBut s t l.key) ∧
      (∀ e, l.e = some e → (∀ r, (t.strand l.key).reg r = if r = 0 then 0 else if r = e then (s.pen pt l.idx).value else (s.strand l.key).reg r) ∧
        StrandsKeptBut s t l.key)) ∧
    (∀ d, s.deposits.find? (fun d => d.pt == pt) = some d →
      (((s.localDue pt).isSome = true ∨ (s.tile pt).lastDeposit = some (s.cycle pt)) → Waits (.deposit pt)) ∧
      (s.localDue pt = none → (s.tile pt).lastDeposit ≠ some (s.cycle pt) → ∃ t, exec (.deposit pt) s = .next t ∧ lands t d.idx d.act ∧
        t.deposits = s.deposits.erase d ∧ t.strands = s.strands ∧ (t.tile pt).lastDeposit = some (s.cycle pt) ∧
        (∀ v st q o, d.act = .add v st → d.oid = some q → s.op? q = some o → (t.op? q).map Op.res = some (s.pen pt d.idx).value) ∧
        (d.answer = false → t.answers = s.answers) ∧ t.outbox = s.outbox ∧ (d.answer = true →
          t.answers = s.answers ++ [(some (pt / 144), [3, (s.pen pt d.idx).value.toNat, ((s.pen pt d.idx).hoist + 1).toNat])]))) ∧
    (s.deposits.find? (fun d => d.pt == pt) = none → Waits (.deposit pt)) ∧ (s.heldRels.find? (fun r => r.oid == oid) = none → Waits (.pwrRelEntry oid)) ∧
    (∀ r, s.heldRels.find? (fun r => r.oid == oid) = some r → (r.openAt = none ∨ (∀ k, r.party ≠ .strand k) → Waits (.pwrRelEntry oid)) ∧
      (∀ key, r.openAt ≠ none → r.party = .strand key → exec (.pwrRelEntry oid) s = .next { s with
        heldRels := s.heldRels.filter (fun q => q.oid != oid), nextId := s.nextId + 1
        locals := s.locals ++ [{ pid := s.nextId, pt := r.pt, due := s.cycle r.pt + 2, idx := r.idx, act := .set r.v r.stamp, key := key
                                 e := none, oid := some oid }] }))

/-- Tile operations on the accumulator grid. The oldest tile operation of a strand, once no gate of an acquire or a FENCE
keeps it back or its strand is being evicted (log 90), applies to the whole grid: MZERO clears every cell, MTRN exchanges rows
and columns, MSCALE and MOP replace the cells inside the row and column masks by the rounded product, or by the rounded sum
with their products, and keep the others; their flags are raised and TOC falls by one. A drain to memory fixes the converted
cells in row-major order as the bytes of its stores, and its merge value; a drain to registers writes them there and posts its
merge, where it has one. No register outside the block or the destination, no other strand and no byte of memory changes. -/
def Obligations.TileApplies : Prop :=
  ∀ (s : State) (pt slot : Nat) (o : TileOp) (r : List TileOp),
    let key := pt * 16 + slot
    let x := s.strand key
    let mf := modeMf x.modew
    let vb := modeVb x.modew
    let n := if mf = 0 then 64 else 32
    let E := if mf = 0 then 8 else if mf = 1 then 16 else 32
    let size := if mf = 0 then 8 else if mf = 1 then 16 else 64
    let F := if mf = 0 then f64 else f32
    let reg (i j : Nat) : Nat := if mf < 2 then i else 2 * i + j / 16
    let lan (j : Nat) : Nat := if mf < 2 then j else j % 16
    let cell (u : State) (i j : Nat) : Nat := lane n (lan j) (SMap.get u.vregs (key / 16 * 2048 + x.vbase.toNat + (vb + reg i j)) 0).toNat
    let on (i j : Nat) : Bool := o.k6.getLsbD i && o.k7.getLsbD j
    let flags (f : Nat → Nat → Flags) : Flags := (List.range (E * E)).foldl (fun a k => a ||| f (k / E) (k % E)) 0
    let raised (toc : Nat) (fl : Flags) : Strand := { x with toc := toc, fcsr := x.fcsr ||| fl.setWidth 64, lateTo := (fl :: x.lateTo).take 63 }
    let frame (t : State) (toc : Nat) (fl : Flags) : Prop := t.strand key = raised toc fl ∧ StrandsKeptBut s t key ∧
      MemKept s t ∧ t.tileOps = s.tileOps.filter (fun q => q.toid != o.toid) ∧
      t = { s with strands := t.strands, vregs := t.vregs, ops := t.ops, tileOps := t.tileOps }
    let outside (t : State) (lo m : Nat) : Prop := ∀ e, (e < key / 16 * 2048 + x.vbase.toNat + lo ∨ key / 16 * 2048 + x.vbase.toNat + lo + m ≤ e) →
      SMap.get t.vregs e 0 = SMap.get s.vregs e 0
    let free : Prop := x.st = .evicted ∨ ∀ g, g ∈ o.gates → s.gateClosed g (.grid (key / 16)) = false
    let A (kind : TileKind) (f : Nat → Nat → Nat × Flags) : Prop := s.tileOpsOf key = o :: r → free → o.kind = kind → ∃ t,
      exec (.tileOpApply pt slot) s = .next t ∧ (∀ i j, i < E → j < E → cell t i j = (f i j).1 % 2 ^ n) ∧
      frame t (x.toc - 1) (flags (fun i j => (f i j).2)) ∧ outside t vb size ∧ t.ops = s.ops
    let keep (i j : Nat) (v : Nat × Flags) : Nat × Flags := if on i j then v else (cell s i j, 0)
    (s.tileOpsOf key = [] → exec (.tileOpApply pt slot) s = .next s ∧ exec (.mdrainApply pt slot) s = .next s) ∧
    A .zero (fun _ _ => (0, 0)) ∧ A .trn (fun i j => (cell s j i, 0)) ∧
    (∀ v, A (.scale v) (fun i j => keep i j (F.mulPat o.rm.toNat (cell s i j) v.toNat))) ∧
    (∀ neg m a b qa qb kc, A (.mop neg m a b qa qb kc) (fun i j =>
      let k := if m.toNat < 4 then 1 else if m.toNat < 8 then 2 else 4
      let lt := (s.logTile (key / 16)).getD 0
      keep i j (mopCell m.toNat neg o.rm.toNat (fun t => madeNan mf (lt / 144) (lt % 144) (key % 16) (kc.toNat + t))
        { c := F.decode (cell s i j)
          ab := (List.range k).map (fun t => (mopElem m.toNat a (k * i + t), mopElem m.toNat b (k * j + t)))
          exp := if 4 ≤ m.toNat then (lane 8 i qa.toNat : Int) + lane 8 j qb.toNat - 254 else 0
          nanScale := decide (4 ≤ m.toNat) && (lane 8 i qa.toNat == 255 || lane 8 j qb.toNat == 255) }))) ∧
    (s.tileOpsOf key = o :: r → ¬free → exec (.tileOpApply pt slot) s = .next s ∧ exec (.mdrainApply pt slot) s = .next s) ∧
    (s.tileOpsOf key = o :: r → (isDrain o.kind = true → exec (.tileOpApply pt slot) s = .next s) ∧
      (isDrain o.kind = false → exec (.mdrainApply pt slot) s = .next s)) ∧
    (∀ (df : BitVec 4) oid, let hb := if df = 0 then 64 else if df = 1 then 32 else if df = 2 ∨ df = 3 then 16 else if df = 8 then 4 else 8
      let v (i j : Nat) := (ffmt df.toNat).convert F o.rm.toNat false (cell s i j)
      let nan (i j : Nat) : Bool := (F.decode (cell s i j % 2 ^ (n - 1))).isNan
      let most (y : Word) : Prop := ((∃ i j, i < E ∧ j < E ∧ nan i j = true) → y = if mf = 0 then 0x7FF8000000000000 else 0x7FC00000) ∧
        ((∀ i j, i < E → j < E → nan i j = false) → (∀ i j, i < E → j < E → cell s i j % 2 ^ (n - 1) ≤ y.toNat) ∧
          ∃ i j, i < E ∧ j < E ∧ y.toNat = cell s i j % 2 ^ (n - 1))
      let into (t : State) (vd : BitVec 7) : Prop := (∀ i j, i < E → j < E → lane hb ((E * i + j) % (512 / hb))
          (SMap.get t.vregs (key / 16 * 2048 + x.vbase.toNat + (vd.toNat + (E * i + j) / (512 / hb))) 0).toNat = (v i j).1 % 2 ^ hb) ∧
        outside t vd.toNat ((E * E * hb / 8 + 63) / 64)
      (s.tileOpsOf key = o :: r → free → o.kind = .drainMem df oid → ∀ q, s.op? oid = some q → ∃ t y, exec (.mdrainApply pt slot) s = .next t ∧
        t.op? oid = some y ∧ y = { q with buf := y.buf, res := y.res } ∧ y.buf.length = E * E * hb / 8 ∧
        (∀ i j, i < E → j < E → lane hb (E * i + j) (ofBytes y.buf) = (v i j).1 % 2 ^ hb) ∧
        most y.res ∧
        frame t x.toc (flags (fun i j => (v i j).2)) ∧ t.vregs = s.vregs) ∧
      (∀ vd, s.tileOpsOf key = o :: r → free → (o.kind = .drainReg df vd none ∨ (o.kind = .drainReg df vd (some oid) ∧ s.op? oid = none)) → ∃ t, exec (.mdrainApply pt slot) s = .next t ∧
        into t vd ∧ frame t (if o.kind = .drainReg df vd none then x.toc - 1 else x.toc) (flags (fun i j => (v i j).2))) ∧
      (∀ vd q, s.tileOpsOf key = o :: r → free → o.kind = .drainReg df vd (some oid) → s.op? oid = some q → ∃ t y, exec (.mdrainApply pt slot) s = .next t ∧
        into t vd ∧ t.op? oid = some { q with res := y, later := [] } ∧ most y ∧ StrandsKeptBut s t key ∧ MemKept s t ∧
        t.posts.map (fun p => (p.home, p.act, p.gates)) = s.posts.map (fun p => (p.home, p.act, p.gates)) ++ q.later.map (fun z => (z.1, z.2, q.gates)) ∧
        t.strand key = raised x.toc (flags (fun i j => (v i j).2)) ∧ t.tileOps = s.tileOps.filter (fun q => q.toid != o.toid)))

/-- Pieces and mirror copies. A piece lands in slot step / d mod 2 of its face: a slot that is invalid, never written or older
starts anew with its tag and one arrival, a slot pending for the same tag gains one, and it is valid once every contributor
has arrived; an older piece is dropped. A pinned slot holds the piece back, as do earlier pieces of its die for its tile and,
between dies, the want of a grant, for it or for the walks of its writes, or a link that is down. Only cells of the piece, and
at a start the fixed cells of the face, are written. A piece that finds no entry takes a free one for the descriptor at its
ID, waits where none is free or the descriptor is not mapped (log 21) and is dropped where it is not valid. A piece for a ring
lands in its ring slot in the same way; a piece from another panel goes by the descriptor of the tile's entry, else by that at
its ID, and has no ring where the grid is not mirrored. A mirror copy of an entry completes in order, and on another die under
a grant: the copy takes the step and its cells, and MSTEP the step. Logs 14, 21, 35, 82, 83, 85 and 103 choose where mirrors
stand, how an entry is found, in which order and under which grants pieces land, and what they leave unwritten. Before its
condition each event leaves the state as it is (log 67). -/
def Obligations.GridEvents : Prop :=
  ∀ (s : State) (id : Nat),
    (s.pieces.find? (fun p => p.id == id) = none → exec (.gridPieceDeposit id) s = .next s) ∧
    (∀ p, s.pieces.find? (fun p => p.id == id) = some p →
      let Waits : Prop := exec (.gridPieceDeposit id) s = .next s
      let ahead : Prop := ∃ q, q ∈ s.pieces.takeWhile (fun q => q.id != id) ∧ q.src = p.src ∧ q.pt = p.pt ∧ q.ring = p.ring ∧
        (q.part = p.part ∨ p.ring = false) ∧ ((q.grid = p.grid ∧ q.desc = p.desc ∧ q.rcb = p.rcb) ∨ s.entryless q = false)
      let grant (d : Nat) : Nat := SMap.get (s.die p.src).grants d 0
      let stopped : Prop := ∃ d, s.pieceDie p = some d ∧ (grant d = 0 ∨ s.cutOff p.src d = true)
      let gone (t : State) : Prop := t.pieces = s.pieces.filter (fun q => q.id != id) ∧ (s.pieceDie p = none → s.pieceWalks p = [] → t.dies = s.dies) ∧
        (p.ring = false → UsesGrants s t (p.pt / 144) (s.pieceWalks p)) ∧
        (∀ d, s.pieceDie p = some d → SMap.get (t.die p.src).grants d 0 = grant d - 1)
      let dropped : Prop := ∃ t, exec (.gridPieceDeposit id) s = .next t ∧ gone t ∧ t = { s with pieces := t.pieces, dies := t.dies }
      let start (x : Slot) : Prop := x.state = 0 ∨ x.state = 3 ∨ x.tag.toNat < p.step.toNat
      let add (x : Slot) : Prop := ¬start x ∧ x.state = 1 ∧ x.tag = p.step
      let landed (x : Slot) (n : BitVec 4) : Slot := { x with tag := p.step, arrived := n, state := if n = x.contrib then 2 else 1 }
      (ahead ∨ s.pieceDesc p = none ∨ stopped ∨ ¬Granted s (p.pt / 144) (s.pieceWalks p) → Waits) ∧
      (¬ahead → ¬stopped → Granted s (p.pt / 144) (s.pieceWalks p) → p.ring = false → ∀ d e, s.pieceDesc p = some d →
        s.gridFor p.pt p.rcb p.grid d = some e →
        let g := s.gridEntry p.pt e
        let D := g.desc
        let j := p.step.toNat / D.d % 2
        let x := (g.slots[2 * p.face + j]?).getD {}
        let lands (fixed : List (Nat × Word)) (n : BitVec 4) : Prop := ∀ y, D.parts[g.part]? = some y → y.virt = false → p.all = false →
          ∃ t, exec (.gridPieceDeposit id) s = .next t ∧ gone t ∧
            (t.gridEntry p.pt e).slots = g.slots.set (2 * p.face + j) (landed x n) ∧
            (∀ a, (∀ c, c ∈ fixed ++ p.cells →
                let k := scratchKey p.pt (y.storage + elemSize D.fmt * (bufferStart D g.part p.face j + c.1))
                a < k ∨ k + elemSize D.fmt ≤ a) → memGet t.mem a = memGet s.mem a) ∧
            (∀ c, fixed ++ p.cells = [c] → s.cellProtected p.pt g (bufferStart D g.part p.face j + c.1) = false →
              memNat t.mem (scratchKey p.pt (y.storage + elemSize D.fmt * (bufferStart D g.part p.face j + c.1))) (elemSize D.fmt) =
                c.2.toNat % 2 ^ (8 * elemSize D.fmt)) ∧ t.strands = s.strands
        (start x → x.state = 2 → s.pinned p.pt e (2 * p.face + j) = true → Waits) ∧
        (start x → ¬(x.state = 2 ∧ s.pinned p.pt e (2 * p.face + j) = true) → lands (fixedCells D g.part p.face) 1) ∧
        (add x → lands [] (x.arrived + 1)) ∧ (¬start x → ¬add x → dropped)) ∧
      (¬ahead → ¬stopped → Granted s (p.pt / 144) (s.pieceWalks p) → p.ring = false → ∀ d, s.pieceDesc p = some d →
        s.gridFor p.pt p.rcb p.grid d = none → (s.descAt p.grid p.place = none → Waits) ∧ ∀ D, s.descAt p.grid p.place = some D →
        let ok := s.gridValid p.pt (s.region p.rcb).root D
        (ok = false → dropped) ∧ (ok = true → s.gridFind p.pt p.rcb p.grid D = none → s.gridFree p.pt = none → Waits) ∧
        (∀ e y, ok = true → s.gridFind p.pt p.rcb p.grid D = none → s.gridFree p.pt = some e → D.parts[s.minePart p.pt D]? = some y → y.virt = false →
          ∃ t, exec (.gridPieceDeposit id) s = .next t ∧ gone t ∧ (let z := t.gridEntry p.pt e
            z = { freshGrid p.grid p.rcb (s.minePart p.pt D) D with slots := z.slots, place := p.place } ∧
            ∀ x, (freshGrid p.grid p.rcb (s.minePart p.pt D) D).slots[2 * p.face + p.step.toNat / D.d % 2]? = some x → p.all = false →
              z.slots[2 * p.face + p.step.toNat / D.d % 2]? = some (landed x 1)))) ∧
      (¬ahead → ¬stopped → p.ring = true → p.all = false → ∀ d, s.pieceDesc p = some d → (d.mirror = false → dropped) ∧ (d.mirror = true →
        ∃ t, exec (.gridPieceDeposit id) s = .next t ∧ gone t ∧
        t = { s with pieces := t.pieces, dies := t.dies, mirrors := t.mirrors } ∧
        (s.buddyOf d p.rcb p.part p.grid = none → t.mirrors = s.mirrors) ∧
        (∀ b, s.buddyOf d p.rcb p.part p.grid = some b →
          let i := p.step.toNat / d.d % (2 * d.m / d.d + 2)
          let old := (s.mirror? d p.rcb p.part).bind (fun m => m.slotOf p.face i)
          let x := (old.map RingSlot.slot).getD { contrib := BitVec.ofNat 4 (contributors d p.part p.face).length }
          ∃ y, (t.mirror? d p.rcb p.part).bind (fun m => m.slotOf p.face i) = some y ∧
            (start x → y.slot = landed x 1 ∧ y.cells = mergeCells (fixedCells d p.part p.face) p.cells) ∧
            (add x → y.slot = landed x (x.arrived + 1) ∧ ∀ o, old = some o → y.cells = mergeCells o.cells p.cells) ∧
            (¬start x → ¬add x → y.slot = x))))) ∧
    (s.jobs.find? (fun j => j.id == id) = none → exec (.mirrorCopy id) s = .next s) ∧
    (∀ j, s.jobs.find? (fun j => j.id == id) = some j →
      let g := s.gridEntry j.pt j.entry
      let i := j.step.toNat / g.desc.m % 2
      let first : Prop := ∀ q, q ∈ s.jobs.takeWhile (fun q => q.id != id) → q.pt ≠ j.pt ∨ q.entry ≠ j.entry
      let far : List Nat := ((g.buddy.bind s.physDie).filter (fun d => d != j.pt / 144)).toList
      (¬first ∨ ¬Granted s (j.pt / 144) far → exec (.mirrorCopy id) s = .next s) ∧
      (first → Granted s (j.pt / 144) far → ∃ t, exec (.mirrorCopy id) s = .next t ∧ UsesGrants s t (j.pt / 144) far ∧ t.jobs = s.jobs.filter (fun q => q.id != id) ∧
        t.gridEntry j.pt j.entry = { g with mstep := j.step } ∧ MemKept s t ∧ t.strands = s.strands ∧
        (s.buddyOf g.desc g.rcb g.part g.id = none → t.mirrors = s.mirrors) ∧
        (∀ b, s.buddyOf g.desc g.rcb g.part g.id = some b → ∃ m, t.mirror? g.desc g.rcb g.part = some m ∧
          (∀ old, s.mirror? g.desc g.rcb g.part = some old →
            m = { old with tags := old.tags.set i j.step, done := old.done.set i true, cells := old.cells.set i j.cells }) ∧
          (s.mirror? g.desc g.rcb g.part = none → m.id = g.id ∧ m.buddy = b ∧ m.tags[i]? = some j.step ∧ m.done[i]? = some true ∧
            m.cells[i]? = some j.cells))))

/-- Walks, caches, the dirty-page log and events. An access that meets a cached leaf needs no walk, but a write through one
without W faults; a replayed access is walked afresh. A walk takes a grant for each read of another die's table, and waits
without (log 103). One that ends in a leaf sets its A bit, changes no other byte, puts the leaf into the tile's cache and
serves every part of its access in that page; a word in two pages takes two walks. A part that faults, with its access's parts
that wait in the same page, or a command with all its parts, goes into the replay record of its operation with the address
that faulted, and a strand Held for it is Parked with its upcall. The walk of a PFX ends with its translation or without. An
access whose home is not known yet waits for its walk. Cached leaves and plot entries may be dropped, and a fill of a region
that is admitted or runs brings the table's bytes, 0 where the position is vacant, into a plot cache of at most 32. A log of
one entry that is merged, under a grant for another die's leaf, sets D of its leaf, clears the entry and lets RD reach WR. A
request in REQ is seen once (log 46), the flush empties every translation cache, and its completion raises HSEQ by one and
clears those of its bits of REQ that no newer request has set. An event word that is raised goes to the deposit port of p63
with stamp 0. A write that one leaf must log waits while the log is full, else it appends its entry, moves WR on and marks the
copy of the leaf. Before its condition each leaves the state as it is (log 67). -/
def Obligations.TranslationEvents : Prop :=
  ∀ (s : State) (pt i pid rcb x : Nat) (p : Part),
    let Waits (i : Instr) : Prop := exec i s = .next s
    let T := s.tile pt
    let onlyTile (t : State) (q : Nat) : Prop := (∀ k, k ≠ q → t.tile k = s.tile k) ∧ t = { s with tiles := t.tiles }
    let req := memNat s.mem (scratchKey pt Config.logREQ) 8
    let live (r : Region) : Prop := r.st = .admitted ∨ r.st = .running
    let far : Prop := ∃ d, s.physDie (s.plotAddr rcb x / 2 ^ 36 % 2 ^ 7) = some d ∧ s.cutOff (pt / 144) d = true
    (s.postOf? pid = none → Waits (.pageWalk pid)) ∧
    (s.postOf? pid = some p →
      let walker : Prop := ∃ y, p.party = .walker y
      let rest := s.posts.filter (fun q => q.pid != pid)
      let todo := (actPages p.act).filter (fun a => p.fresh || (s.cachedLeaf p.src p.root a).isNone)
      let wd := todo.flatMap (s.walkDies (p.src / 144) p.root)
      let denied (a : Nat) : Prop := p.write = true ∧ ∃ e, s.cachedLeaf p.src p.root a = some e ∧ e.w = false
      let near (v : State) (q : Machine.Part) : Prop := q.root = p.root ∧
        (∀ e, v.cachedLeaf p.src p.root (actKey p.act) = some e → leafCovers e q.root (actKey q.act) = true) ∧
        (v.cachedLeaf p.src p.root (actKey p.act) = none → actKey p.act / 2 ^ 16 = actKey q.act / 2 ^ 16)
      let parks (v : State) (a : Nat) (l : List Nat) : Prop := ∀ o, s.op? p.oid = some o →
        (∀ q, o.party = .copy q → ∃ t, exec (.pageWalk pid) s = .next t ∧ UsesGrants s t (p.src / 144) l ∧ t = { v with dies := t.dies }) ∧
        ((∀ q, o.party ≠ .copy q) → ∃ t ps, exec (.pageWalk pid) s = .next t ∧
          (∀ q, q ∈ ps ↔ q ∈ s.posts ∧ q.oid = p.oid ∧ (isEngine p.party = true ∨ q.pid = p.pid ∨ (q.home = .virt ∧ near v q))) ∧
          t.posts = s.posts.filter (fun q => !ps.any (fun x => x.pid == q.pid)) ∧
          (t.op? p.oid).map (fun y => (y.parked, y.faultVa)) = some (o.parked ++ ps, if o.parked.isEmpty then a else o.faultVa) ∧
          MemKept v t ∧ UsesGrants s t (p.src / 144) l ∧ ((∀ k, o.party ≠ .strand k) → t.strands = s.strands ∧ t.tiles = v.tiles) ∧
          (∀ k, o.party = .strand k → StrandsKeptBut s t k ∧ ((t.strand k = s.strand k ∧ t.tiles = v.tiles) ∨ ((s.strand k).st = .held ∧
            t.strand k = { s.strand k with st := .parked } ∧ (∀ q, q ≠ k / 16 → t.tile q = v.tile q) ∧ t.tile (k / 16) =
              faultRaised (v.tile (k / 16)) (s.cycle (k / 16)) (k % 16) (eventWord 1 (k % 16) 0 (t.firstParked (.strand k)))))))
      (p.home ≠ .virt → Waits (.pageWalk pid)) ∧
      (p.home = .virt → todo = [] → (walker → exec (.pageWalk pid) s = .next { s with posts := rest }) ∧
        (¬walker → ((∀ a ∈ actPages p.act, ¬denied a) → Waits (.pageWalk pid)) ∧
          (∀ a l r, actPages p.act = l ++ a :: r → (∀ b ∈ l, ¬denied b) → denied a → parks s a []))) ∧
      (p.home = .virt → todo ≠ [] → ¬Granted s (p.src / 144) wd → Waits (.pageWalk pid)) ∧
      (∀ a e, p.home = .virt → actPages p.act = [a] → todo = [a] → Granted s (p.src / 144) wd → s.walk p.root a p.write = some e →
        ∃ t, exec (.pageWalk pid) s = .next t ∧ UsesGrants s t (p.src / 144) wd ∧
        (t.tile p.src).leaves.head? = some e ∧ (∀ k, k ≠ p.src → t.tile k = s.tile k) ∧ t.strands = s.strands ∧ t.ops = s.ops ∧
        (walker → t.posts = rest) ∧ (¬walker → ∃ f : Machine.Part → Bool, t.posts = s.posts.map (fun q => if f q then { q with fresh := false } else q) ∧
          ∀ q, f q = true ↔ q.oid = p.oid ∧ (q.pid = p.pid ∨ near t q)) ∧
        ∀ d, s.physDie e.ldie = some d → MemKeptBut s t (dieKey d e.off) 8 ∧ (memNat t.mem (dieKey d e.off) 8 =
          (if memNat s.mem (dieKey d e.off) 8 / 4 % 2 = 1 then memNat s.mem (dieKey d e.off) 8 else memNat s.mem (dieKey d e.off) 8 + 4))) ∧
      (∀ a l, p.home = .virt → todo = a :: l → Granted s (p.src / 144) wd → s.walk p.root a p.write = none → (¬walker → parks s a wd) ∧
        (walker → ∃ t, exec (.pageWalk pid) s = .next t ∧ UsesGrants s t (p.src / 144) wd ∧ t = { s with dies := t.dies, posts := rest })) ∧
      (∀ a b e v, p.home = .virt → todo = [a, b] → Granted s (p.src / 144) wd → ¬walker → s.walkInto p.src p.root a p.write = some (v, e) →
        (v.walk p.root b p.write = none → parks v b wd) ∧
        (∀ g, v.walk p.root b p.write = some g → ∃ t, exec (.pageWalk pid) s = .next t ∧ UsesGrants s t (p.src / 144) wd ∧
          (t.tile p.src).leaves.head? = some g ∧ t.strands = s.strands ∧ t.ops = s.ops ∧
          ∃ f : Machine.Part → Bool, t.posts = s.posts.map (fun q => if f q then { q with fresh := false } else q) ∧
            ∀ q, f q = true ↔ q.oid = p.oid ∧ (q.pid = p.pid ∨ near t q)))) ∧
    (∃ t, exec (.translationDrop pt i) s = .next t ∧ t.tile pt = { T with leaves := T.leaves.eraseIdx i } ∧ onlyTile t pt) ∧
    (∃ t, exec (.plotCacheDrop pt i) s = .next t ∧ t.tile pt = { T with plots := T.plots.eraseIdx i } ∧ onlyTile t pt) ∧
    (∀ r, s.region? rcb = some r → live r → x < r.plotCount → x ≠ 0xFFFF → ¬far →
      ∃ t v, exec (.plotCacheFill pt rcb x) s = .next t ∧ t.plotEntry pt rcb x = some v ∧
        (s.panelKey (r.plotBase / 64 * 64 + 64 * x) = none → v = 0) ∧
        (∀ k, s.panelKey (r.plotBase / 64 * 64 + 64 * x) = some k → v = BitVec.ofNat 512 (memNat s.mem k 64)) ∧
        (t.tile pt).plots.length ≤ 32 ∧ onlyTile t pt) ∧
    (∀ r, s.region? rcb = some r → (¬live r ∨ r.plotCount ≤ x ∨ x = 0xFFFF ∨ far) → Waits (.plotCacheFill pt rcb x)) ∧
    ((s.logWR pt + 2 ^ 64 - s.logRDv pt) % 2 ^ 64 < 256 → s.harvesting pt = false → Waits (.logMerge pt)) ∧
    (let rd := s.logRDv pt
     let k := scratchKey pt (Config.logEntry + 8 * (rd % 512))
     let e := memNat s.mem k 8
     let ld := ((s.physDie (e / 2 ^ 56 % 128)).filter (fun d => bitOf 63 e && d != pt / 144)).toList
     s.harvesting pt = true → s.logWR pt = (rd + 1) % 2 ^ 64 → (¬Granted s (pt / 144) ld → Waits (.logMerge pt)) ∧
     (Granted s (pt / 144) ld → ∃ t, exec (.logMerge pt) s = .next t ∧ UsesGrants s t (pt / 144) ld ∧ t = { s with mem := t.mem, dies := t.dies } ∧
      (∀ d, s.physDie (e / 2 ^ 56 % 128) = some d → d < 128 → t.logRDv pt = s.logWR pt ∧ t.logWR pt = s.logWR pt ∧ memNat t.mem k 8 = 0 ∧
        (let a := dieKey d (e / 8 % 2 ^ 33 * 8)
         let l := memNat s.mem a 8
         memNat t.mem a 8 = if e / 2 ^ 63 % 2 = 1 ∧ l % 4 = 3 ∧ l / 8 % 2 = 0 then l + 8 else l)))) ∧
    (T.hvNew = true → ∃ t q, exec (.harvest pt) s = .next t ∧ t.logReqs = s.logReqs ++ [q] ∧ q.pt = pt ∧ q.hv = true ∧ q.fl = T.flNew ∧
      (∀ m, m ∈ q.merges ↔ m.1 ∈ s.allTiles ∧ m.2 = s.logWR m.1 ∧ s.logRDv m.1 ≠ s.logWR m.1) ∧
      t.tile pt = { T with hvNew := false, flNew := false } ∧ (∀ k, k ≠ pt → t.tile k = s.tile k) ∧ t = { s with tiles := t.tiles, logReqs := t.logReqs }) ∧
    (T.hvNew = false → Waits (.harvest pt)) ∧
    ((T.flNew = true ∨ ∃ q, q ∈ s.logReqs ∧ q.pt = pt ∧ q.flushes ≠ []) → ∃ t, exec (.flush pt) s = .next t ∧ (∀ q, (t.tile q).leaves = []) ∧
      (∀ q, q ∈ t.logReqs → q.pt = pt → q.flushes = []) ∧ (t.tile pt).flNew = false ∧ t = { s with tiles := t.tiles, logReqs := t.logReqs } ∧
      ∀ q, t.tile q = { s.tile q with leaves := [], hvNew := (t.tile q).hvNew, flNew := (t.tile q).flNew }) ∧
    (T.flNew = false → (∀ q, q ∈ s.logReqs → q.pt = pt → q.flushes = []) → Waits (.flush pt)) ∧
    (s.logReqs.find? (fun q => q.pt == pt && s.reqDone q) = none → Waits (.requestComplete pt)) ∧
    (∀ q, s.logReqs.find? (fun q => q.pt == pt && s.reqDone q) = some q → ∃ t, exec (.requestComplete pt) s = .next t ∧
      t.logReqs = s.logReqs.erase q ∧ memNat t.mem (scratchKey pt Config.logHSEQ) 8 = (memNat s.mem (scratchKey pt Config.logHSEQ) 8 + 1) % 2 ^ 64 ∧
      (∀ j, j < 64 → bitOf j (memNat t.mem (scratchKey pt Config.logREQ) 8) =
        (bitOf j req && !(decide (j = 0) && q.hv && !T.hvNew && !(s.logReqs.erase q).any (fun y => y.pt == pt && y.hv)) &&
          !(decide (j = 1) && q.fl && !T.flNew && !(s.logReqs.erase q).any (fun y => y.pt == pt && y.fl)))) ∧ t = { s with mem := t.mem, logReqs := t.logReqs }) ∧
    (T.events = [] → Waits (.eventDeposit pt)) ∧
    (∀ w r, T.events = w :: r → ∃ t, exec (.eventDeposit pt) s = .next t ∧ t.tile pt = { T with events := r } ∧
      t.deposits = s.deposits ++ [{ pt := pt, idx := 63, act := .set w 0, pid := none, oid := none }] ∧
      (∀ k, k ≠ pt → t.tile k = s.tile k) ∧ t = { s with tiles := t.tiles, deposits := t.deposits }) ∧
    (s.arrived.find? (fun q => q.pid == pid) = some p → s.chosen p = true → ∀ w va, s.logNeeds p = [(w, va)] →
      (512 ≤ s.logUsed p.src → Waits (.partPerform pid)) ∧
      (∀ cs, s.logUsed p.src < 512 → p.act = .write cs → w < 2 ^ 64 → (∀ c, c ∈ cs → c.1 < 2 ^ 43) → (cs.map Prod.fst).Nodup →
        ∃ t, exec (.partPerform pid) s = .next t ∧ t.logWR p.src = (s.logWR p.src + 1) % 2 ^ 64 ∧
          memNat t.mem (scratchKey p.src (Config.logEntry + 8 * (s.logWR p.src % 512))) 8 = w ∧ (∀ c, c ∈ cs → memGet t.mem c.1 = c.2) ∧
          (t.tile p.src).leaves = (s.tile p.src).leaves.map (fun l =>
            if logWord l = w ∧ l.va = va ∧ l.root = p.root then { l with logged := true } else l)))

/-- Other panels, hosts and pacing. A reply whose tag is free or of an older generation is only counted in LATEDROP; another
frees its tag and deposits its value, or all ones where it was refused, on the request's pennant, or brings the bytes that a
copy then writes. A request not answered within TMO gives up its tag's generation and its operation and raises the timeout
event. A load, store, copy, atomic or E2M1 store from outside becomes one operation of parts at the homes of its bytes, in no
order with others, is answered where its target does not exist, and is refused outside the home's range, on protected bytes or
where a walk of its pages faults; it aims at pennants through the deposit port, once the tile's service agent is not amid an
operation. Pieces of a grid from another panel join those under way, each with one for the ring. Hosts write die memory
outside the DCC's blocks and launch pennants of edge dies. The die whose turn it is gets grants for no more parts than wait.
Before the panel runs, and while no port that is up reaches the target, nothing from outside changes anything; a reply needs a
way from a port, and an answer waits for a way to one from the die that gives it (log 92). Logs 16, 44, 67 and 71 choose that
an outside write sets no D, which pennants a host writes and with what stamp, that an event before its condition changes
nothing, and what a message from outside carries. -/
def Obligations.PanelEvents : Prop :=
  ∀ (s : State) (pt tag gen : Nat) (refused : Bool) (value : Word) (count : BitVec 32) (bs : List Byte) (die tile off idx n src dst : Nat)
      (sx : Bool) (st : BitVec 32),
    let Waits (i : Instr) : Prop := exec i s = .next s
    let g := SMap.get (s.tile pt).tags tag {}
    let reply := Instr.crossPanelReply pt tag gen refused value count bs
    let onlyTile (t : State) : Prop := ∀ k, k ≠ pt → t.tile k = s.tile k
    let T := s.tile pt
    let tells (i : Instr) (d : Option Nat) (m : List Nat) : Prop := exec i s = .next { s with answers := s.answers ++ [(d, m)] }
    let arrives (i : Instr) (u : State) (by' : Option Nat) (fin : Ending) (res : Word) (buf : List Byte) (acts : List (Home × Act)) : Prop :=
      let op : Op := { oid := s.nextId, party := .outside s.nextId, rcb := 0, cls := none, fin := fin, res := res, buf := buf, addr := (by'.map (fun d => BitVec.ofNat 64 (d + 1))).getD 0 }
      ∃ t ps, exec i s = .next t ∧ t.ops = u.ops ++ [op] ∧
        t.arrived = u.arrived ++ ps ∧ ps.map (fun p => (p.home, p.act)) = acts ∧
        (∀ p, p ∈ ps → p.oid = s.nextId ∧ p.party = .outside s.nextId ∧ p.lane = 2 ∧ p.gates = []) ∧
        t = { u with ops := t.ops, arrived := t.arrived, nextId := t.nextId }
    let reads (l : List (Home × List Seg)) : List (Home × Act) := l.map (fun x => (x.1, .read x.2))
    let writes (l : List (Home × List Seg)) : List (Home × Act) := l.map (fun x => (x.1, .write (cellsOf bs x.2)))
    let none' := 2 ^ 64 - 1
    let own := s.physDie die
    let back : Prop := s.insideOpen (pt / 144) = true
    let opened : Prop := s.gateways ≠ [] ∧ ∀ d, own = some d → s.insideOpen d = true
    (¬back → Waits reply) ∧
    (back → g.req = none ∨ g.gen.toNat ≠ gen → ∃ t, exec reply s = .next t ∧ onlyTile t ∧ t = { s with tiles := t.tiles } ∧
      t.tile pt = { T with latedrop := (t.tile pt).latedrop, lateAt := s.cycle pt, lateNow := (if T.lateAt = s.cycle pt then T.lateNow else 0) + 1 } ∧
      (t.tile pt).latedrop.toNat = min 0xFFFFFFFF (T.latedrop.toNat + 1)) ∧
    (∀ q, back → g.req = some q → g.gen.toNat = gen → q.oid.bind s.op? = none → ∃ t v, exec reply s = .next t ∧ onlyTile t ∧
      SMap.get (t.tile pt).tags tag {} = { g with req := none } ∧ (refused = true → v = BitVec.allOnes 64) ∧
      (refused = false → (q.kind = 1 → v = 0) ∧ (q.kind = 3 → v = BitVec.ofNat 64 q.n) ∧ (q.kind = 4 → v = count.setWidth 64) ∧
        (q.kind = 0 → q.sx = false → v = BitVec.ofNat 64 (value.toNat % 2 ^ (8 * q.n))) ∧ (q.kind = 7 ∨ q.kind = 8 → v = value)) ∧
      ∃ c, t.deposits = s.deposits ++ [{ pt := pt, idx := q.cp, act := .set v c, pid := none, oid := none }] ∧
        (refused = true ∨ q.kind ≤ 4 ∨ q.kind = 7 → c = q.stamp) ∧ t = { s with tiles := t.tiles, deposits := t.deposits }) ∧
    (∀ q o x, back → g.req = some q → g.gen.toNat = gen → q.oid = some o → s.op? o = some x →
      (refused = true → ∃ t, exec reply s = .next t ∧ onlyTile t ∧ SMap.get (t.tile pt).tags tag {} = { g with req := none } ∧
        t.ops = s.ops.filter (fun y => y.oid != o) ∧ MemKept s t ∧
        t.deposits = s.deposits ++ [{ pt := pt, idx := q.cp, act := .set (BitVec.allOnes 64) q.stamp, pid := none, oid := none }]) ∧
      (refused = false → ∃ t y, exec reply s = .next t ∧ SMap.get (t.tile pt).tags tag {} = { g with req := none } ∧
        t.op? o = some { x with buf := bs.take q.n ++ List.replicate (q.n - bs.length) 0, later := [], awaits := false } ∧
        t.posts = s.posts ++ y ∧ y.map (fun p => (p.home, p.act)) = x.later ∧ (∀ p, p ∈ y → p.oid = x.oid ∧ p.gates = x.gates) ∧ MemKept s t)) ∧
    (g.req = none → Waits (.requestTimeout pt tag)) ∧
    (∀ q, g.req = some q → (s.refNs < q.issued + s.tmo → Waits (.requestTimeout pt tag)) ∧
      (q.issued + s.tmo ≤ s.refNs → ∃ t, exec (.requestTimeout pt tag) s = .next t ∧
        SMap.get (t.tile pt).tags tag {} = { gen := g.gen + 1, req := none } ∧ (t.tile pt).tp = true ∧ onlyTile t ∧ MemKept s t ∧
        (t.tile pt).events = T.events ++ (if T.tp then [] else [eventWord 5 q.slot 0 q.cp]) ∧
        (∀ o, q.oid = some o → ∀ y, y ∈ t.ops → y.oid ≠ o))) ∧
    (s.bootPhase ≠ 7 → (∀ a o, Waits (.remoteRequest a o)) ∧ ∀ a, Waits (.hostWrite a bs)) ∧
    (¬opened → (∀ o, Waits (.remoteRequest (.scratch die tile off) o) ∧ Waits (.remoteRequest (.pennant die tile idx) o) ∧
      Waits (.remoteRequest (.dieMem die off) o)) ∧ Waits (.hostWrite (.dieMem die off) bs) ∧ Waits (.hostWrite (.pennant die tile idx) bs)) ∧
    (s.bootPhase = 7 → opened → s.physTile die tile = none → tells (.remoteRequest (.scratch die tile off) (.load n sx)) own [3, 0, 0] ∧
      tells (.remoteRequest (.scratch die tile off) (.store bs)) own [3, 0, 0] ∧ tells (.remoteRequest (.pennant die tile idx) (.penWrite value st)) own [3, 0, 0] ∧
      Waits (.hostWrite (.pennant die tile idx) bs)) ∧
    (s.bootPhase = 7 → opened → ∀ q, s.physTile die tile = some q →
      (let R (o : RemoteOp) := Instr.remoteRequest (.scratch die tile off) o
       let at' (n : Nat) : List (Home × List Seg) := (byLine (cutRuns 64 [(off, n)] 0)).map (fun x =>
         (Home.agent q, x.2.map (fun g => { g with key := scratchKey q g.key })))
       let fits (n : Nat) (st : Bool) : Prop := off + n ≤ 2 ^ 20 ∧ s.protectedBytes q off n st = false
       (off + n ≤ 2 ^ 20 → arrives (R (.load n sx)) s own (.answer 1 n sx) 0 (List.replicate n 0) (reads (at' n)) ∧
         arrives (R (.copyOut n)) s own (.answer 2 n false) 0 (List.replicate n 0) (reads (at' n))) ∧
       (2 ^ 20 < off + n → tells (R (.load n sx)) own [3, none', 0] ∧ tells (R (.copyOut n)) own [3, none', 0]) ∧
       (fits bs.length true → arrives (R (.store bs)) s own (.answer 3 0 false) 0 [] (writes (at' bs.length))) ∧
       (¬fits bs.length true → tells (R (.store bs)) own [3, none', 0]) ∧
       (fits bs.length false → arrives (R (.copyIn bs)) s own (.answer 3 0 false) (BitVec.ofNat 64 bs.length) [] (writes (at' bs.length))) ∧
       (¬fits bs.length false → tells (R (.copyIn bs)) own [3, none', 0]) ∧
       (∀ hi v, (fits 1 false → arrives (R (.nibble hi v)) s own (.answer 3 0 false) 0 [] [(.agent q, .nibbles [(scratchKey q off, hi, v)])]) ∧
         (¬fits 1 false → tells (R (.nibble hi v)) own [3, none', 0])) ∧
       (∀ major ty v e, let k := if ty < 2 then 4 else 8
         (fits k false → arrives (R (.atomic major ty v e)) s own (.answer 3 0 false) 0 []
            [(.agent q, .atomic ((at' k).flatMap Prod.snd) major ty v e)]) ∧
         (¬fits k false → tells (R (.atomic major ty v e)) own [3, none', 0])) ∧
       (∀ grid place rcb part face step cells, ∃ t p, exec (R (.piece grid place rcb part face step cells)) s = .next t ∧
           t.pieces = s.pieces ++ [p, { p with id := s.nextId + 1, ring := true }] ∧ p.id = s.nextId ∧ p.src = 128 + die ∧ p.pt = q ∧ p.part = part ∧
           p.grid = grid ∧ p.rcb = rcb ∧ p.place = place ∧ p.face = face ∧ p.step = BitVec.ofNat 32 step ∧ p.cells = cells ∧ p.ring = false ∧ p.all = false ∧
           t = { s with pieces := t.pieces, nextId := t.nextId }) ∧
       (let P (o : RemoteOp) := Instr.remoteRequest (.pennant die tile idx) o
        let port (a : PenAct) : State := { s with deposits := s.deposits ++
          [{ pt := q, idx := idx, act := a, pid := none, oid := none, answer := true }] }
        (∀ o, (s.agentAmid q).isSome = true → Waits (P o)) ∧
        (s.agentAmid q = none → 64 ≤ idx → tells (P (.penWrite value st)) own [3, none', 0]) ∧
        (s.agentAmid q = none → idx < 64 → exec (P (.penWrite value st)) s = .next (port (.set value st)) ∧
          exec (P (.penAdd value st)) s = .next (port (.add value st)) ∧
          (let z := s.pen q idx
           tells (P (.penSample 0 value)) (some (q / 144)) [3, z.value.toNat, z.hoist.toNat] ∧
           tells (P (.penSample 1 value)) (some (q / 144)) [3, (z.hoist - value.setWidth 32).toNat, z.hoist.toNat] ∧
           tells (P (.penSample 2 value)) (some (q / 144)) [3, (z.hoist ++ z.stamp).toNat, z.hoist.toNat]))) ∧
       (tile = 0 → idx < 16 → (die < 8 ∨ 120 ≤ die) → bs.length = 8 → exec (.hostWrite (.pennant die tile idx) bs) s =
         .next { s with deposits := s.deposits ++ [{ pt := q, idx := idx, act := .set (BitVec.ofNat 64 (ofBytes bs)) 0, pid := none, oid := none }] }) ∧
       (tile ≠ 0 ∨ 16 ≤ idx ∨ (8 ≤ die ∧ die < 120) → Waits (.hostWrite (.pennant die tile idx) bs)))) ∧
    (s.bootPhase = 7 → ∀ root va, let R (o : RemoteOp) := Instr.remoteRequest (.virt root va) o
      let top := s.physDie (root / 2 ^ 36 % 2 ^ 7)
      (∀ o, s.targetOpen (.virt root va) (remoteSize o) = false → Waits (R o)) ∧
      (∀ u l, s.targetOpen (.virt root va) n = true → va + n ≤ 2 ^ 48 → s.walkRuns root false (byLine (cutRuns 256 [(va, n)] 0)) = some (u, l) →
        arrives (R (.load n sx)) u top (.answer 1 n sx) 0 (List.replicate n 0) (reads l)) ∧
      (∀ u l, s.targetOpen (.virt root va) bs.length = true → va + bs.length ≤ 2 ^ 48 → s.walkRuns root true (byLine (cutRuns 256 [(va, bs.length)] 0)) = some (u, l) →
        arrives (R (.store bs)) u top (.answer 3 0 false) 0 [] (writes l)) ∧
      (s.targetOpen (.virt root va) n = true → 2 ^ 48 < va + n ∨ s.walkRuns root false (byLine (cutRuns 256 [(va, n)] 0)) = none → tells (R (.load n sx)) top [3, none', 0]) ∧
      (s.targetOpen (.virt root va) bs.length = true → 2 ^ 48 < va + bs.length ∨ s.walkRuns root true (byLine (cutRuns 256 [(va, bs.length)] 0)) = none → tells (R (.store bs)) top [3, none', 0])) ∧
    (s.bootPhase = 7 → s.physDie die = none → Waits (.hostWrite (.dieMem die off) bs)) ∧
    (s.bootPhase = 7 → opened → ∀ d, s.physDie die = some d →
      (off + bs.length ≤ 2 ^ 36 → guarded off bs.length = false → arrives (.hostWrite (.dieMem die off) bs) s none .none 0 []
        (writes ((byLine (cutRuns 256 [(off, bs.length)] 0)).map (fun x =>
          (Home.channel d (s.channelOf d (256 * x.1)), x.2.map (fun g => { g with key := dieKey d g.key })))))) ∧
      (2 ^ 36 < off + bs.length ∨ guarded off bs.length = true → Waits (.hostWrite (.dieMem die off) bs))) ∧
    (∀ m r, s.agenda = .answer m :: r → let u : State := { s with agenda := r }
      let way (d : Option Nat) : Prop := (d = none ∧ s.gateways ≠ []) ∨ ∃ e, d = some e ∧ s.outsideOpen e = true
      (s.answers[m]? = none → step s = .next u) ∧ (∀ d l, s.answers[m]? = some (d, l) → (¬way d → step s = .next u) ∧
        (way d → step s = .next { u with answers := s.answers.eraseIdx m, outbox := s.outbox ++ [l] }))) ∧
    (let m := min n (s.announced src dst)
     let f : Nat := match (s.die dst).granted with
       | some d => d + 1
       | none => 0
     (m = 0 ∨ s.grantTurn dst ≠ some src → Waits (.pacingGrant src dst n)) ∧
     (s.grantTurn dst = some src → src < 128 ∧ 0 < s.announced src dst ∧
       ∀ k, k < 128 → 0 < s.announced k dst → ((src : Int) - f) % 128 ≤ ((k : Int) - f) % 128) ∧
     (m ≠ 0 → s.grantTurn dst = some src → ∃ t, exec (.pacingGrant src dst n) s = .next t ∧
       SMap.get (t.die src).grants dst 0 = SMap.get (s.die src).grants dst 0 + m ∧ (t.die dst).granted = some src ∧
       (∀ d, d ≠ src → d ≠ dst → t.die d = s.die d) ∧ t = { s with dies := t.dies }))

/-- Drift, throttles, the turn count, draw and the status block. After boot has trimmed it a drift bound of at most 500 is
stored, and each rise from 400 or below to above makes an alarm due, which is raised and counted. The thermal demand is 1 at
105 °C, falls by one in 10 µs at the threshold or when the inlet is above 45 °C, rises by one in 100 µs at 5 °C below. A droop
detector that fires is counted and raises the droop event on each active tile of its power region; within 100 ns the droop
demand there falls to 8 or to the tile's E when lower (log 22: when, and that a lower demand stays); the demands rise by one a
microsecond when clear. The budget demand falls while draw exceeds usable quanta and rises while it is below them less CSL. At
a frame's start E falls to the smallest demand that the frame before ended with, or rises by one below CSL. DRAW is stored,
and a refresh writes the status block with SEQ two higher. Every other tile, die and power region stays, and every byte of
memory but the block. Before its condition each event leaves the state as it is (log 67). Logs 26 and 38 choose when a frame
starts and which rise is measured, log 99 from when an interval runs. -/
def Obligations.PowerEvents : Prop :=
  ∀ (s : State) (pt d row die rise : Nat) (temp : BitVec 16) (r : List Turn),
    let Waits (i : Instr) : Prop := exec i s = .next s
    let now := s.refNs
    let T := s.tile pt
    let X := s.die die
    let P := X.power
    let R := s.row row
    let c := s.cycle pt
    let onlyTile (t : State) (y : Tile) : Prop := t.tile pt = y ∧ (∀ k, k ≠ pt → t.tile k = s.tile k) ∧ t = { s with tiles := t.tiles }
    let onlyDie (t : State) (y : Die) : Prop := t.die die = y ∧ (∀ k, k ≠ die → t.die k = s.die k) ∧ t = { s with dies := t.dies }
    ((s.bootPhase < 4 ∨ 500 < d) → Waits (.driftChange pt d)) ∧
    (4 ≤ s.bootPhase → d ≤ 500 → ∃ t, exec (.driftChange pt d) s = .next t ∧
      onlyTile t { T with drift := BitVec.ofNat 10 d, alarmDue := T.alarmDue + (if T.drift.toNat ≤ 400 ∧ 400 < d then 1 else 0) }) ∧
    (T.alarmDue = 0 → Waits (.driftAlarm pt)) ∧
    (T.alarmDue ≠ 0 → ∃ t, exec (.driftAlarm pt) s = .next t ∧ 
      t.tile pt = { raisedTile T c T.ap (eventWord 4 0 0 T.drift.toNat) with alarmDue := T.alarmDue - 1, ap := true } ∧ (∀ k, k ≠ pt → t.tile k = s.tile k) ∧
      (let x := (s.die (pt / 144)).errs[10]
       (t.die (pt / 144)).errs[10] = if x = 0xFFFFFFFF then x else x + 1) ∧ t = { s with tiles := t.tiles, dies := t.dies }) ∧
    (∃ t e, exec (.thermalThrottle pt temp) s = .next t ∧
      onlyTile t { T with temp := temp, thermal := e, thermalAt := if e = T.thermal then T.thermalAt else now } ∧
      (let hot : Prop := (16 * s.threshold : Nat) ≤ temp.toInt ∨ 45 < s.inlet
       (1680 ≤ temp.toInt → e = 1) ∧
       (temp.toInt < 1680 → hot → e = if T.thermalAt + 10000 ≤ now then max 1 (T.thermal - 1) else T.thermal) ∧
       (temp.toInt < 1680 → ¬hot → temp.toInt + 80 ≤ (16 * s.threshold : Nat) →
         e = if T.thermalAt + 100000 ≤ now then min 16 (T.thermal + 1) else T.thermal) ∧
       (temp.toInt < 1680 → ¬hot → (16 * s.threshold : Nat) < temp.toInt + 80 → e = T.thermal))) ∧
    (16 ≤ row → Waits (.droopDetect row)) ∧
    (row < 16 → ∃ t, exec (.droopDetect row) s = .next t ∧
      t.row row = { R with count := min 65535 (R.count + 1), clearAt := now, fallBy := some (R.fallBy.getD (now + 100)) } ∧
      (∀ k, k ≠ row → t.row k = s.row k) ∧
      (∀ q, q ∉ s.rowTiles row → t.tile q = s.tile q) ∧
      (∀ q, q ∈ s.rowTiles row → t.tile q = { raisedTile (s.tile q) (s.cycle q) (s.tile q).dp (eventWord 3 0 0 row) with dp := true }) ∧
      t = { s with tiles := t.tiles, rows := t.rows }) ∧
    (s.agenda = .droopFall row :: r → (R.fallBy = none → step s = .next { s with agenda := r }) ∧ (R.fallBy ≠ none → ∃ t, step s = .next t ∧
      t.row row = { R with fallBy := none } ∧ (∀ k, k ≠ row → t.row k = s.row k) ∧ (∀ q, q ∉ s.rowTiles row → t.tile q = s.tile q) ∧
      (∀ q, q ∈ s.rowTiles row → let Q := s.tile q
        t.tile q = { Q with droop := min Q.droop (min 8 Q.turns) }) ∧ t = { s with agenda := r, tiles := t.tiles, rows := t.rows })) ∧
    (let due : Prop := R.fallBy = none ∧ (∃ q, q ∈ s.rowTiles row ∧ (s.tile q).droop < 16) ∧ R.clearAt + 1000 ≤ now
     (due → ∃ t, exec (.droopRecovery row) s = .next t ∧
       t.row row = { R with clearAt := now } ∧ (∀ k, k ≠ row → t.row k = s.row k) ∧ (∀ q, q ∉ s.rowTiles row → t.tile q = s.tile q) ∧
       (∀ q, q ∈ s.rowTiles row → t.tile q = { s.tile q with droop := min 16 ((s.tile q).droop + 1) }) ∧ t = { s with tiles := t.tiles, rows := t.rows }) ∧
     (¬due → Waits (.droopRecovery row))) ∧
    (let usable := P.held - P.set
     let fall : Prop := usable < P.draw ∧ 1 < X.budget
     let climb : Prop := P.draw + (s.row (die / 8)).csl < usable ∧ X.budget < 16
     ((now < X.budgetAt + 1000 ∨ (¬fall ∧ ¬climb)) → Waits (.budgetThrottle die)) ∧
     (X.budgetAt + 1000 ≤ now → fall → ∃ t, exec (.budgetThrottle die) s = .next t ∧ onlyDie t { X with budget := X.budget - 1, budgetAt := now }) ∧
     (X.budgetAt + 1000 ≤ now → climb → ∃ t, exec (.budgetThrottle die) s = .next t ∧ onlyDie t { X with budget := X.budget + 1, budgetAt := now })) ∧
    (let start : Prop := c % 16 = 0 ∧ T.turnsAt ≠ some (c / 16)
     let climb : Prop := T.turns < T.seen ∧ rise < (s.row (pt / 144 / 8)).csl
     ((¬start ∨ (T.turns ≤ T.seen ∧ ¬climb)) → Waits (.turnsChange pt rise)) ∧
     (start → T.seen < T.turns → ∃ t, exec (.turnsChange pt rise) s = .next t ∧ onlyTile t { T with turns := T.seen, turnsAt := some (c / 16) }) ∧
     (start → climb → ∃ t, exec (.turnsChange pt rise) s = .next t ∧ onlyTile t { T with turns := T.turns + 1, turnsAt := some (c / 16) })) ∧
    (1023 < d → Waits (.drawRefresh die d)) ∧
    (d ≤ 1023 → ∃ t, exec (.drawRefresh die d) s = .next t ∧ onlyDie t { X with power := { P with draw := d } }) ∧
    (P.out.length = 4 → P.lent.length = 4 → P.owed.length = 4 → ∃ t, exec (.statusBlockRefresh die) s = .next t ∧
      t.die die = { X with statSeq := X.statSeq + 2 } ∧ (∀ k, k ≠ die → t.die k = s.die k) ∧ t = { s with mem := t.mem, dies := t.dies } ∧
      (let b := dieKey die Config.statusBlockOff
       let at2 (o : Nat) : Nat := memNat t.mem (b + o) 2
       MemKeptBut s t b 108 ∧ memNat t.mem b 8 = (X.statSeq + 2).toNat ∧ memNat t.mem (b + 8) 8 = now % 2 ^ 64 ∧
       at2 16 = P.held % 2 ^ 16 ∧ at2 18 = (P.held - P.set) % 2 ^ 16 ∧ at2 20 = P.draw % 2 ^ 16 ∧
       (∀ k, k < 4 → at2 (22 + 2 * k) = P.out.getD k 0 % 2 ^ 16 ∧ at2 (30 + 2 * k) = P.lent.getD k 0 % 2 ^ 16 ∧
         at2 (38 + 2 * k) = P.owed.getD k 0 % 2 ^ 16) ∧
       at2 46 = (s.row (die / 8)).csl % 2 ^ 16 ∧ at2 48 = (s.row (die / 8)).count % 2 ^ 16 ∧
       ∀ i : Fin 11, memNat t.mem (b + 64 + 4 * i.val) 4 = X.errs[i].toNat))

/-- Transfers of quanta and steals of tasks. A send of quanta that passes the check of its kind leaves HELD and, for a
repayment of recalled quanta, SET, and stands in OUT; a receipt that would take HELD above 440 goes back, another joins HELD;
the acknowledgement settles LENT and OWED, a return gives HELD back once it fits in 440; a recall sets quanta aside, never
more than HELD; a failed sideband settles what was received, returns the rest, or keeps what does not fit, and carries nothing
until it is restored. A steal round asks the existing neighbours in the order north, east, south, west; a die that holds two
records that can be stolen gives the youngest at its lowest priority, whose token it keeps, or refuses where its table has no
room for it (log 78); the thief appends it once its queue has room (log 78), and its sequence counter rises by one; a steal
waits at a link that is down (log 83). Else each event leaves the state as it is (log 67). No event moves memory or strands.
Log 39 chooses that what does not fit stays on the sideband, that SET stays within HELD, and that OUT and LENT of a side stay
within 440. -/
def Obligations.QuantaAndSteals : Prop :=
  ∀ (s : State) (die : Nat) (dir : Dir) (q kind id rcb : Nat),
    let Waits (i : Instr) : Prop := exec i s = .next s
    let now := s.refNs
    let X := s.die die
    let P := X.power
    let n := dirNo dir
    let back := dirNo (backDir dir)
    let plus (l : List Nat) (i k : Nat) : List Nat := modNth l i (fun x => x + k)
    let less (l : List Nat) (i k : Nat) : List Nat := modNth l i (fun x => x - k)
    let setPower (x : Die) (p : Power) : Die := { x with power := p }
    let repaid := q + s.repaying die dir ≤ P.owed.getD n 0
    let may : Prop := die < 128 ∧ dieAt die dir ≠ none ∧ X.sideDown.getD n false = false ∧ 0 < q ∧ q + P.out.getD n 0 ≤ 440 ∧
      ((kind = 0 ∧ q + P.draw ≤ P.held - P.set ∧ q + P.out.getD n 0 + P.lent.getD n 0 ≤ 440) ∨ (kind = 1 ∧ q + P.draw ≤ P.held - P.set ∧ repaid) ∨ (kind = 2 ∧ q ≤ P.set ∧ q ≤ P.held ∧ repaid))
    let others (t : State) (ks : List Nat) : Prop := ∀ k, k ∉ ks → t.die k = s.die k
    let drop (l : List Transfer) := l.filter (fun x => x.id != id)
    (¬may → Waits (.quantaSend die dir q kind)) ∧
    (may → ∃ t, exec (.quantaSend die dir q kind) s = .next t ∧ t.die die = setPower X { P with held := P.held - q, out := plus P.out n q, set := if kind = 2 then P.set - q else P.set } ∧
      others t [die] ∧ t = { s with dies := t.dies, nextId := s.nextId + 1, transfers := s.transfers ++ [{ id := s.nextId, src := die, dir := dir, q := q, kind := kind, stage := 0 }] }) ∧
    (s.transfer? id 0 = none → Waits (.quantaReceipt id)) ∧ (s.transfer? id 1 = none → Waits (.quantaAck id)) ∧
    (s.transfer? id 2 = none → Waits (.quantaReturn id)) ∧
    (∀ x b, dieAt x.src x.dir = some b →
      (let B := s.die b
       let L := s.die x.src
       let o := dirNo x.dir
       let i := dirNo (backDir x.dir)
       let stage (k : Nat) := s.transfers.map (fun y => if y.id == id then { y with stage := k } else y)
       (s.transfer? id 0 = some x → 440 < B.power.held + x.q → exec (.quantaReceipt id) s = .next { s with transfers := stage 2 }) ∧
       (s.transfer? id 0 = some x → B.power.held + x.q ≤ 440 → ∃ t, exec (.quantaReceipt id) s = .next t ∧
         t.die b = setPower B { B.power with held := B.power.held + x.q } ∧ others t [b] ∧ t = { s with dies := t.dies, transfers := stage 1 }) ∧
       (s.transfer? id 1 = some x → x.id = id → ∃ t, exec (.quantaAck id) s = .next t ∧ others t [b, x.src] ∧
         t = { s with dies := t.dies, transfers := drop s.transfers } ∧
         (x.kind = 0 → t.die x.src = setPower L { L.power with out := less L.power.out o x.q, lent := plus L.power.lent o x.q } ∧
           t.die b = setPower B { B.power with owed := plus B.power.owed i x.q }) ∧
         (x.kind ≠ 0 → t.die x.src = setPower L { L.power with out := less L.power.out o x.q, owed := less L.power.owed o x.q, recalled := if x.kind = 2 then less L.power.recalled o x.q else L.power.recalled } ∧
           t.die b = setPower B { B.power with lent := less B.power.lent i x.q })) ∧
       (s.transfer? id 2 = some x → x.id = id → 440 < L.power.held + x.q → exec (.quantaReturn id) s = .next { s with transfers := stage 2 }) ∧
       (s.transfer? id 2 = some x → x.id = id → L.power.held + x.q ≤ 440 → ∃ t, exec (.quantaReturn id) s = .next t ∧ others t [x.src] ∧
         t = { s with dies := t.dies, transfers := drop s.transfers } ∧
         t.die x.src = setPower L { L.power with held := L.power.held + x.q, out := less L.power.out o x.q, set := if x.kind = 2 then L.power.set + x.q else L.power.set }))) ∧
    (dieAt die dir = none → Waits (.quantaRecall die dir q) ∧ Waits (.sidebandFailure die dir)) ∧
    (∀ b, dieAt die dir = some b → let B := s.die b
      ((P.lent.getD n 0 < q + B.power.recalled.getD back 0 ∨ B.power.held < B.power.set + q ∨ 128 ≤ die) → Waits (.quantaRecall die dir q)) ∧
      (q + B.power.recalled.getD back 0 ≤ P.lent.getD n 0 → B.power.set + q ≤ B.power.held → die < 128 → ∃ t, exec (.quantaRecall die dir q) s = .next t ∧ others t [b] ∧
        t.die b = setPower B { B.power with set := B.power.set + q, recalled := plus B.power.recalled back q } ∧ t = { s with dies := t.dies }) ∧
      (∃ t, exec (.sidebandRestore die dir) s = .next t ∧ others t [die, b] ∧ t = { s with dies := t.dies } ∧
        t.die die = { X with sideDown := X.sideDown.set n false } ∧ t.die b = { B with sideDown := B.sideDown.set back false }) ∧
      (∃ t, exec (.sidebandFailure die dir) s = .next t ∧ others t [die, b] ∧ t = { s with dies := t.dies, transfers := t.transfers } ∧
        (t.die die).sideDown = X.sideDown.set n true ∧ (t.die b).sideDown = B.sideDown.set back true ∧
        ((s.transfers.map Transfer.id).Nodup → ∀ x, x ∈ t.transfers → (x ∈ s.transfers ∧ x ∉ s.onSide die dir) ∨
          (x.stage = 2 ∧ ∃ y, y ∈ s.onSide die dir ∧ x = { y with stage := 2 })) ∧
        (∀ x, s.onSide die dir = [x] → (let h := (s.die x.src).power.held
          (t.die x.src).power.held = h + (if x.stage = 1 ∨ 440 < h + x.q then 0 else x.q))) ∧
        (s.onSide die dir = [] → t.transfers = s.transfers ∧ (t.die die).power = P ∧ (t.die b).power = B.power))) ∧
    (let Q := X.sched
     let wanted : Prop := (∀ r, r ∈ Q.ready → r.region = rcb → Q.eligible r = false) ∧ (∃ e, e ∈ Q.empties ∧ e.1 = rcb ∧ now ≤ e.2 + 1000) ∧
       ∀ e, e ∈ Q.rounds → e.1 = rcb → e.2 + 1000 ≤ now
     ((¬wanted ∨ s.logDie die = none) → Waits (.stealRound die rcb)) ∧
     (∀ l, wanted → s.logDie die = some l → ∃ t N, exec (.stealRound die rcb) s = .next t ∧ N = (s.logNeighbours l).filterMap s.physDie ∧
       t.die die = { X with sched := { Q with rounds := SMap.put Q.rounds rcb now } } ∧ others t [die] ∧
       t = { s with dies := t.dies, steals := t.steals, nextId := t.nextId } ∧
       (s.dmap = [] → 8 ≤ l → l < 120 → 0 < l % 8 → l % 8 < 7 → N = [l - 8, l + 1, l + 8, l - 1]) ∧ (N = [] → t.steals = s.steals) ∧
       ∀ a r, N = a :: r → t.steals = s.steals ++ [{ id := s.nextId, rcb := rcb, thief := die, asked := a, left := r, stage := 0, task := none }])) ∧
    (s.steals.find? (fun x => x.id == id && x.stage == 0) = none → Waits (.stealGrant id)) ∧
    (∀ x, s.steals.find? (fun x => x.id == id && x.stage == 0) = some x → (s.steals.map Steal.id).Nodup →
      (s.cutOff x.thief x.asked = true → Waits (.stealGrant id)) ∧ (s.cutOff x.thief x.asked = false →
       let Q := (s.die x.asked).sched
       let es := Q.stealable x.rcb
       ((es.length < 2 ∨ (4096 ≤ Q.out.length ∧ ∀ y, y ∈ es → y.stolen = false)) → ∃ t, exec (.stealGrant id) s = .next t ∧ t = { s with steals := t.steals } ∧
         (x.left = [] → ∀ y, y ∈ t.steals → y.id ≠ id) ∧ (∀ a r, x.left = a :: r → { x with asked := a, left := r } ∈ t.steals)) ∧
       (2 ≤ es.length → (Q.out.length < 4096 ∨ ∀ y, y ∈ es → y.stolen = true) → ∃ t r, exec (.stealGrant id) s = .next t ∧
         t = { s with dies := t.dies, steals := t.steals } ∧ others t [x.asked] ∧ r ∈ es ∧ (∀ y, y ∈ es → ctlPrio r.ctl ≤ ctlPrio y.ctl) ∧
         (es.filter (fun y => ctlPrio y.ctl == ctlPrio r.ctl)).getLast? = some r ∧ ctlAny r.ctl = true ∧ ctlBar r.ctl = false ∧
         (t.die x.asked).sched.ready = Q.ready.erase r ∧ { x with stage := 1, task := some { r with stolen := true } } ∈ t.steals ∧
         (t.die x.asked).sched.out = if r.stolen then Q.out else Q.out ++ [(x.rcb, r.token)]))) ∧
    (s.steals.find? (fun x => x.id == id && x.stage == 1) = none → Waits (.stealReceipt id)) ∧
    (∀ x r, s.steals.find? (fun x => x.id == id && x.stage == 1) = some x → (s.steals.map Steal.id).Nodup → x.task = some r →
      (s.cutOff x.asked x.thief = true → Waits (.stealReceipt id)) ∧ (s.cutOff x.asked x.thief = false →
       let Y := s.die x.thief
       (4096 ≤ Y.sched.ready.length → Waits (.stealReceipt id)) ∧
       (Y.sched.ready.length < 4096 → ∃ t, exec (.stealReceipt id) s = .next t ∧ others t [x.thief] ∧
         t.die x.thief = { Y with sched := { Y.sched with ready := Y.sched.ready ++ [r], seq := (Y.sched.seq + 1) % 2 ^ 24 } } ∧ (∀ y, y ∈ t.steals → y.id ≠ id) ∧
         t = { s with dies := t.dies, steals := t.steals })))

/-- Corrected errors, self-tests, sparing and the DCC. A corrected error of a unit that the die has, and a flit whose tag
fails on a link that the panel has, are counted and start a self-test of that bank, lane or unit. A self-test that passes is
counted as transient; one that fails is counted and takes the first rung of the ladder with a spare: a further lane, a copy to
a channel group's spare, a tile removed with PTS 1 or 2 where T stays at 136 or more, or the die grafted onto the lowest spare
position, which DMAP shows, or its position vacated where none is spare; a router that dies later turns PTS 1 into 2 and the
routes over it go; firmware's policy may take the graft in place of a spare, the end of the regions in place of a graft or of
every rung, or no rung at all (log 88). The fault domains of the regions on a removed tile hear of it, and these regions have
lost strands. The end of a copy puts the spare into use and turns the parts that wait for the channel to it. A turn table that
keeps dimension order and has no closed path is taken, with SEQ two higher and the die's map block written; another is
refused. A restarted DCC loses nothing (log 23). Logs 17, 36 and 37 choose what becomes of the strands of a lost tile, which
spare a graft takes, and that errors of an oscillator or a whole die raise no count. Else each event leaves the state as it is
(log 67). -/
def Obligations.RepairEvents : Prop :=
  ∀ (s : State) (die g k i ch : Nat) (u : FaultUnit) (dir : Dir) (pass dead : Bool) (tts : List Nat),
    let Waits (i : Instr) : Prop := exec i s = .next s
    let now := s.refNs
    let X := s.die die
    let more (x : BitVec 32) : BitVec 32 := if x = 0xFFFFFFFF then x else x + 1
    let others (t : State) : Prop := ∀ k, k ≠ die → t.die k = s.die k
    let counts (t : State) (cs : List Nat) : Prop := ∀ j : Fin 11, (t.die die).errs[j] = if j.val ∈ cs then more X.errs[j] else X.errs[j]
    let kindOf (u : FaultUnit) : List Nat := match u with
      | .tileSram _ b => if b < 18 then [0] else []
      | .linkLane _ _ => [1]
      | .channel _ => [2]
      | .tileRouter _ => [3]
      | .oscillator _ => []
      | .wholeDie => []
    let Counted (i : Instr) (u : FaultUnit) : Prop := ∃ t, exec i s = .next t ∧ counts t (kindOf u) ∧ others t ∧ t = { s with dies := t.dies } ∧
      t.die die = { X with errs := (t.die die).errs, tests := if X.tests.contains u then X.tests else X.tests ++ [u] }
    let Result (u : FaultUnit) := Instr.selfTestResult die u pass dead
    let runs (u : FaultUnit) : Prop := u ∈ X.tests ∧ X.failed = false
    let left (u : FaultUnit) := X.tests.filter (fun v => v != u)
    let group := ch / 20
    let fp := (X.chspare.toList[group]?).getD 31
    let spared (v : Vector (BitVec 8) 8) (k : Nat) (b : BitVec 8) : Prop := ∀ j : Fin 8, v[j] = if j.val = k then b else X.chspare[j]
    let grafted (t : State) : Prop := ∀ l, s.logDie die = some l → (t.die die).failed = true ∧
      ((s.dmapOf l).2 = 1 → t.dmapOf l = (die, 2) ∧ ∀ k, k ≠ l → t.dmapOf k = s.dmapOf k) ∧
      ((s.dmapOf l).2 ≠ 1 → (s.policy = 2 ∨ ∀ k, k < 128 → (s.dmapOf k).2 ≠ 1) → t.dmapOf l = (die, 2) ∧ ∀ k, k ≠ l → t.dmapOf k = s.dmapOf k) ∧
      ((s.dmapOf l).2 ≠ 1 → s.policy ≠ 2 → ∀ m, m < 128 → (s.dmapOf m).2 = 1 → (∀ k, k < m → (s.dmapOf k).2 ≠ 1) →
        t.dmapOf l = ((s.dmapOf m).1, 0) ∧ t.dmapOf m = (die, 2) ∧ ∀ k, k ≠ l → k ≠ m → t.dmapOf k = s.dmapOf k)
    let usual : Prop := s.policy ≠ 1 ∧ s.policy ≠ 3 ∧ s.policy ≠ 4
    let onlyTested (t : State) (u : FaultUnit) : Prop := counts t [6] ∧ others t ∧ t = { s with dies := t.dies } ∧
      t.die die = { X with errs := (t.die die).errs, tests := left u }
    let removed (t : State) (pts : Nat) : Prop := t.pts die i = pts ∧ (∀ j, j ≠ i → t.pts die j = s.pts die j) ∧ others t ∧
      (∀ k, k < 16 → t.strand ((die * 144 + i) * 16 + k) = {}) ∧ (∀ k, k / 16 ≠ die * 144 + i → t.strand k = s.strand k) ∧
      (∀ r, r ∈ t.regions → die * 144 + i ∉ r.tiles) ∧
      (∀ r, r ∈ s.regions → regionLive r = true → die * 144 + i ∈ r.tiles → (r.rcb, 0) ∈ t.reports ∧
        ∃ q, t.region? r.rcb = some q ∧ q.lost = true) ∧ (t.die die).mapSeq = X.mapSeq + 2 ∧ MemKeptBut s t (dieKey die Config.mapBlockOff) 720
    let exists' (u : FaultUnit) : Prop := die < 128 ∧ (match u with
      | .tileSram i b => i < 144 ∧ b ≤ 18
      | .linkLane d _ => ∃ x, dirNo x = d ∧ dieAt die x ≠ none
      | .channel c => c < 160
      | .tileRouter i => i < 144
      | .oscillator i => i < 144
      | .wholeDie => True)
    (exists' u → Counted (.correctedError die u) u) ∧ (¬exists' u → Waits (.correctedError die u)) ∧
    (die < 128 → dieAt die dir ≠ none → Counted (.flitTagFailure die ⟨dir, k⟩) (.linkLane (dirNo dir) k)) ∧
    (dieAt die dir = none → Waits (.flitTagFailure die ⟨dir, k⟩)) ∧
    (¬runs u → Waits (Result u)) ∧
    (runs u → pass = true → ∃ t, exec (Result u) s = .next t ∧ counts t [5] ∧ others t ∧ t = { s with dies := t.dies } ∧
      t.die die = { X with errs := (t.die die).errs, tests := left u }) ∧
    (runs u → pass = false → (s.policy = 1 → ∃ t, exec (Result u) s = .next t ∧ grafted t) ∧
      (s.policy = 3 → ∃ t, exec (Result u) s = .next t ∧ onlyTested t u) ∧
      (s.policy = 4 → ∃ t, exec (Result u) s = .next t ∧ counts t [6] ∧ (t.die die).tests = left u ∧
        ∀ r, r ∈ s.regions → regionLive r = true → (s.regions.map Region.rcb).Nodup →
          (∃ p, p ∈ r.tiles ∧ ((unitTile u = none ∧ p / 144 = die) ∨ ∃ j, unitTile u = some j ∧ p = die * 144 + j)) →
          ∃ q, t.region? r.rcb = some q ∧ q.st = .ended ∧ (r.parent = 0 → q.cause = 17))) ∧
    (runs (.linkLane g k) → pass = false → usual → ∃ t, exec (Result (.linkLane g k)) s = .next t ∧ counts t (if X.lanes.getD g 0 < 4 then [6, 8] else [6]) ∧
      others t ∧ t = { s with dies := t.dies } ∧ t.die die = { X with errs := (t.die die).errs, tests := left (.linkLane g k), lanes := X.lanes.set g (X.lanes.getD g 0 + 1) }) ∧
    (runs (.channel ch) → pass = false → usual → ch < 160 → ∃ t, exec (Result (.channel ch)) s = .next t ∧
      (fp = 31 → (∀ c, c ∈ X.copies → c.1 ≠ group) → counts t [6] ∧ others t ∧ t = { s with dies := t.dies } ∧
        (ch % 20 ≠ 19 → t.die die = { X with errs := (t.die die).errs, tests := left (.channel ch), copies := X.copies ++ [(group, ch % 20)] }) ∧
        (ch % 20 = 19 → spared (t.die die).chspare group 19 ∧ t.die die = { X with errs := (t.die die).errs, tests := left (.channel ch), chspare := (t.die die).chspare })) ∧
      ((fp ≠ 31 ∨ ∃ c, c ∈ X.copies ∧ c.1 = group) → grafted t)) ∧
    (pass = false → usual → i < 144 → s.pts die i = 0 →
      (137 ≤ s.active die → (runs (.tileSram i k) → ∃ t, exec (Result (.tileSram i k)) s = .next t ∧ removed t (if dead then 2 else 1) ∧ counts t [6, 9]) ∧
        (runs (.oscillator i) → ∃ t, exec (Result (.oscillator i)) s = .next t ∧ removed t (if dead then 2 else 1) ∧ counts t [6, 9]) ∧
        (runs (.tileRouter i) → ∃ t, exec (Result (.tileRouter i)) s = .next t ∧ removed t 2 ∧ counts t [6, 9])) ∧
      (s.active die < 137 → ∀ u, u = .tileSram i k ∨ u = .oscillator i ∨ u = .tileRouter i → runs u → ∃ t, exec (Result u) s = .next t ∧ grafted t)) ∧
    (pass = false → usual → i < 144 → ∀ u, u = .tileSram i k ∨ u = .oscillator i ∨ u = .tileRouter i → runs u →
      (let gone : Prop := dead = true ∨ u = .tileRouter i
       (s.pts die i = 1 → gone → ∃ t, exec (Result u) s = .next t ∧ counts t [6] ∧ others t ∧ t.pts die i = 2 ∧ (∀ j, j ≠ i → t.pts die j = s.pts die j) ∧
         t.strands = s.strands ∧ (t.die die).mapSeq = X.mapSeq + 2 ∧ MemKeptBut s t (dieKey die Config.mapBlockOff) 720 ∧
         ∀ q j, q / 144 = die → (let R := SMap.get (s.tile q).routes j {}
           R.v = true → routePasses q R.word.toNat i = true → SMap.get (t.tile q).routes j {} = { R with v := false })) ∧
       ((s.pts die i = 1 ∧ ¬gone) ∨ 2 ≤ s.pts die i → ∃ t, exec (Result u) s = .next t ∧ onlyTested t u))) ∧
    (pass = false → usual → runs .wholeDie → ∃ t, exec (Result .wholeDie) s = .next t ∧ grafted t) ∧
    (X.copies.find? (fun c => c.1 == g) = none → Waits (.spareCopyEnd die g)) ∧
    (∀ c, X.copies.find? (fun c => c.1 == g) = some c → ∃ t, exec (.spareCopyEnd die g) s = .next t ∧ counts t [7] ∧ others t ∧
      spared (t.die die).chspare g (BitVec.ofNat 8 c.2) ∧ (t.die die).copies = X.copies.filter (fun d => d.1 != g) ∧
      (∀ p, p ∈ t.chan ∨ p ∈ t.posts ∨ p ∈ t.arrived → 20 * g + c.2 ≠ 20 * g + 19 → p.home ≠ .channel die (20 * g + c.2)) ∧
      t.chan.map Part.pid = s.chan.map Part.pid ∧ t = { s with dies := t.dies, posts := t.posts, chan := t.chan, arrived := t.arrived }) ∧
    ((turnsOk tts = false ∨ tts.length ≠ 144 ∨ ∃ x, x ∈ tts ∧ x % 16 ≠ 15) → Waits (.turnTableChange die tts)) ∧
    (turnsOk tts = true → ∃ t, exec (.turnTableChange die tts) s = .next t ∧ (∀ k, k < 144 → t.tt die k = BitVec.ofNat 8 (tts.getD k 0)) ∧
      others t ∧ (t.die die).mapSeq = X.mapSeq + 2 ∧ MemKeptBut s t (dieKey die Config.mapBlockOff) 720 ∧
      t = { s with mem := t.mem, dies := t.dies }) ∧
    Waits (.dccRestart die)

/-- Panel reset, boot, trust and the inlet. Panel reset clears every register, strand, region and byte of memory and keeps
flash, the fuses of each die, the inlet and the state of the ports (log 24). Power regions energise one after another, 1 ms
apart, and the sixteenth ends phase 1. A die whose check of the flash image passes, against the version in its own fuses, is
marked, and when all have, phase 2 is done and the attestation key is derived; a failed check enters recovery, which takes an
image that passes on port 0 of an edge die, or on the management port when all 64 ports are down, and restarts at phase 1 (log
76). Phase 3 takes no FP but 0 to 19 and 31 and fails a die of fewer than 136 active tiles; phase 4 takes no drift above 200;
a pair of link ends authenticates once and holds its keys, one that fails stays down and its die counts as failing (log 40),
and the last ends phase 5; phase 6 takes a map of active and spare positions, grafts those of failed dies, raises the fuses to
the image's version and holds the panel where fewer than 126 dies passed. An edge die answers GET_MEASUREMENTS with four
digests, signed. Firmware sets the thermal threshold at or below 95 °C. An inlet at 55 °C removes power, which restarts the
panel (log 94). Firmware's policies are 0 to 4 (log 88). Digests, keys and signatures are free values (log 43). Else each
event leaves the state as it is (log 67). -/
def Obligations.BootEvents : Prop :=
  ∀ (s : State) (die key temp n : Nat) (img : FwImage) (dir : Dir) (ok mgmt : Bool) (r : List Turn),
    let Waits (i : Instr) : Prop := exec i s = .next s
    let X := s.die die
    let others (t : State) : Prop := ∀ k, k ≠ die → t.die k = s.die k
    let passes (i : FwImage) : Prop := i.sigOk = true ∧ X.fuse ≤ i.version
    let edge : Prop := die < 8 ∨ (120 ≤ die ∧ die < 128)
    let path : Prop := if mgmt then ∀ k, k < 64 → k ∈ s.portsDown else 4 * (if die < 8 then die else die - 112) ∉ s.portsDown
    let Restarts (t : State) (flash : FwImage) (inlet : Nat) : Prop := t.mem = [] ∧ t.strands = [] ∧ t.vregs = [] ∧ t.pens = [] ∧ t.tiles = [] ∧
      t.rows = [] ∧ t.regions = [] ∧ t.ops = [] ∧ t.posts = [] ∧ t.chan = [] ∧ t.arrived = [] ∧ t.dmap = [] ∧ t.ticks = 0 ∧ t.reports = [] ∧
      t.bootPhase = 0 ∧ t.energised = 0 ∧ t.attest = none ∧ t.recovery = false ∧ t.flash = flash ∧ t.inlet = inlet ∧ t.portsDown = s.portsDown ∧ t.domains = [] ∧
      ((s.dies.map Prod.fst).Nodup → ∀ d, t.die d = { fuse := (s.die d).fuse })
    let k := dirNo dir
    let joined (x : Die) (i out back : Nat) : Die := { x with linkTried := x.linkTried.set i true, linkUp := x.linkUp.set i ok, linkKey := if ok then x.linkKey.set i out else x.linkKey, baseKey := if ok then x.baseKey.set i back else x.baseKey }
    let u : State := { s with agenda := r }
    (∃ t, exec .panelReset s = .next t ∧ Restarts t s.flash s.inlet) ∧
    ((s.bootPhase ≠ 0 ∨ s.recovery = true ∨ 55 ≤ s.inlet ∨ (s.energised ≠ 0 ∧ s.refNs < s.energisedAt + 1000000)) → Waits .powerRegionEnergise) ∧
    (s.bootPhase = 0 → s.recovery = false → s.inlet < 55 → (s.energised = 0 ∨ s.energisedAt + 1000000 ≤ s.refNs) → exec .powerRegionEnergise s =
      .next { s with energised := s.energised + 1, energisedAt := s.refNs, bootPhase := if s.energised < 15 then 0 else 1 }) ∧
    ((s.bootPhase ≠ 1 ∨ s.recovery = true ∨ 128 ≤ die) → Waits (.imageCheck die)) ∧
    (s.bootPhase = 1 → s.recovery = false → die < 128 →
      (¬passes s.flash → exec (.imageCheck die) s = .next { s with recovery := true }) ∧
      (passes s.flash → ∃ t, exec (.imageCheck die) s = .next t ∧ t.die die = { X with digestOk := true } ∧ others t ∧
        t = { s with dies := t.dies, bootPhase := t.bootPhase, attest := t.attest } ∧
        ((∀ d, d < 128 → d ≠ die → (s.die d).digestOk = true) → t.bootPhase = 2 ∧ t.attest = some (Config.attestKey Config.fusedSecret)) ∧
        ((∃ d, d < 128 ∧ d ≠ die ∧ (s.die d).digestOk = false) → t.bootPhase = 1 ∧ t.attest = s.attest))) ∧
    ((s.recovery = false ∨ ¬edge ∨ ¬path ∨ ¬passes img) → Waits (.recoveryImage ⟨die, img, mgmt⟩)) ∧
    (s.recovery = true → edge → path → passes img → ∃ t, exec (.recoveryImage ⟨die, img, mgmt⟩) s = .next t ∧ Restarts t img s.inlet) ∧
    (∀ bad grade pts fp, s.agenda = .selfTest bad grade pts fp :: r → let fits : Prop := ∀ e, e ∈ fp → e.2.2 ≤ 19 ∨ e.2.2 = 31
      (s.bootPhase ≠ 2 ∨ ¬fits → step s = .next u) ∧
      (s.bootPhase = 2 → fits → ∃ t, step s = .next t ∧ t.bootPhase = 3 ∧
        (∀ d g k, fp = [(d, g, k)] → ∀ j : Fin 8, (t.die d).chspare[j] = if j.val = g then BitVec.ofNat 8 k else (s.die d).chspare[j]) ∧
        (∀ d, d < 128 → (d ∈ bad ∨ t.active d < 136) → (t.die d).failed = true) ∧
        (t.gradeB = false → grade ≠ 1 ∧ ∀ d, d < 128 → t.active d = 144))) ∧
    (∀ l, s.agenda = .trim l :: r → ((s.bootPhase ≠ 3 ∨ ∃ e, e ∈ l ∧ 200 < e.2) → step s = .next u) ∧
      (s.bootPhase = 3 → (∀ e, e ∈ l → e.2 ≤ 200) → ∃ t, step s = .next t ∧ t.bootPhase = 4 ∧ ∀ p, (t.tile p).drift.toNat ≤ 200 ∨ (t.tile p).drift = (s.tile p).drift)) ∧
    ((s.bootPhase ≠ 4 ∨ 128 ≤ die ∨ X.linkTried.getD k false = true ∨ dieAt die dir = none) → Waits (.linkAuthentication die dir ok key)) ∧
    (∀ b, s.bootPhase = 4 → die < 128 → X.linkTried.getD k false = false → dieAt die dir = some b →
      ∃ t, exec (.linkAuthentication die dir ok key) s = .next t ∧ t = { s with dies := t.dies, bootPhase := t.bootPhase } ∧
        (dir = .n ∨ dir = .s → t.die die = { joined X k (key % 2 ^ 256) 0 with failed := X.failed || !ok } ∧
          t.die b = joined (s.die b) (dirNo (backDir dir)) (key / 2 ^ 256) 0 ∧ ∀ j, j ≠ die → j ≠ b → t.die j = s.die j) ∧
        (dir = .e ∨ dir = .w → t.die die = { joined X k (key % 2 ^ 256) (key / 2 ^ 256) with failed := X.failed || !ok } ∧ others t) ∧
        ((∀ d x, d < 128 → dieAt d x ≠ none → (t.die d).linkTried.getD (dirNo x) false = true) → t.bootPhase = 5) ∧
        ((∃ d x, d < 128 ∧ dieAt d x ≠ none ∧ (t.die d).linkTried.getD (dirNo x) false = false) → t.bootPhase = 4)) ∧
    (∀ chip dmap csl tmo th, s.agenda = .configure chip dmap csl tmo th :: r →
      (let m : State := { u with dmap := dmap.foldl (fun m (e : Nat × (Nat × Nat)) => SMap.put m e.1 e.2) s.dmap }
       let bad (p : Nat × Nat) : Bool := (s.die p.1).failed
       let fine : Prop := s.bootPhase = 5 ∧ (∀ l, l < 128 → (m.dmapOf l).2 < 2 ∧ (m.dmapOf l).1 < 128) ∧
         (∀ k l, k < 128 → l < 128 → (m.dmapOf k).1 = (m.dmapOf l).1 → k = l) ∧ (∀ e, e ∈ csl → 1 ≤ e.2 ∧ e.2 ≤ 1023) ∧ 10000 ≤ tmo ∧ tmo ≤ 1000000000 ∧ th ≤ 95
       (¬fine → step s = .next u) ∧
       (fine → ∃ t, step s = .next t ∧ t.chip = BitVec.ofNat 22 chip ∧ t.tmo = tmo ∧ t.threshold = th ∧
         (∀ l, l < 128 → (t.dmapOf l).2 ≠ 2 → bad (t.dmapOf l) = false) ∧ ((∀ l, l < 128 → bad (m.dmapOf l) = false) → t.dmap = m.dmap) ∧
         (∀ l, l < 128 → bad (m.dmapOf l) = true → (∀ k, k < 128 → k ≠ l → bad (m.dmapOf k) = false) →
           ((m.dmapOf l).2 = 1 ∨ (∀ j, j < 128 → (m.dmapOf j).2 ≠ 1) → t.dmapOf l = ((m.dmapOf l).1, 2) ∧ ∀ k, k ≠ l → t.dmapOf k = m.dmapOf k) ∧
           (∀ j, (m.dmapOf l).2 = 0 → j < 128 → (m.dmapOf j).2 = 1 → (∀ k, k < j → (m.dmapOf k).2 ≠ 1) →
             t.dmapOf l = ((m.dmapOf j).1, 0) ∧ t.dmapOf j = ((m.dmapOf l).1, 2) ∧ ∀ k, k ≠ l → k ≠ j → t.dmapOf k = m.dmapOf k)) ∧
         (∀ d, d < 128 → (t.die d).fuse = max (s.die d).fuse s.flash.version ∧ (t.die d).failed = (s.die d).failed) ∧
         t.bootPhase = if ((List.range 128).filter (fun d => !(s.die d).failed)).length < 126 then 6 else 7))) ∧
    (s.agenda = .threshold n :: r → (95 < n → step s = .next u) ∧ (n ≤ 95 → step s = .next { u with threshold := n })) ∧
    (s.agenda = .policy n :: r → (4 < n → step s = .next u) ∧ (n ≤ 4 → step s = .next { u with policy := n })) ∧
    (∀ down, s.agenda = .port n down :: r → step s =
      .next { u with portsDown := s.portsDown.filter (fun j => j != n) ++ (if down && decide (n < 64) then [n] else []) }) ∧
    ((¬edge ∨ s.attest = none) → Waits (.getMeasurements die)) ∧
    (∀ a, edge → s.attest = some a → ∃ m, exec (.getMeasurements die) s = .next { s with answers := s.answers ++ [(some die, 4 :: die :: (m ++ [Config.sign a m]))] } ∧
      m.length = 4 ∧ m[0]? = some (Config.shake256 [Config.bootRom]) ∧ m[1]? = some (Config.shake256 [s.flash.digest, s.flash.version])) ∧
    (temp < 55 → exec (.inletOvertemp temp) s = .next { s with inlet := temp }) ∧
    (55 ≤ temp → ∃ t, exec (.inletOvertemp temp) s = .next t ∧ Restarts t s.flash temp)

/-- Encode and decode agree. For every instruction with a word and well-formed fields, lone or not, decoding its encoding
gives it back with every operand, its bit 30 says whether it is lone (always, where R86 asks for it), and its bit 31 its
class; an event has no word. And every word that decodes, with its bit 30 set where R86 asks for it, is the encoding of the
well-formed instruction it decodes to, so that every other word is refused (R92). -/
def Obligations.EncodeDecodeRoundTrip : Prop :=
  (∀ (l : Bool) (i : Instr), wellFormed i = true →
    (isWord i = true → decodeWord (encode l i) = some i ∧ wordLone (encode l i) = (l || mustBeLone i) ∧
      wordIsA (encode l i) = decide (2 ^ 31 ≤ encodeFields i)) ∧
    (isWord i = false → encodeFields i = 0 ∧ ∀ w, decodeWord w ≠ some i)) ∧
  (∀ (w : IWord) (i : Instr), decodeWord w = some i → wellFormed i = true ∧ isWord i = true ∧
    ((mustBeLone i = true → wordLone w = true) → encode (wordLone w) i = w))

/-- Every step keeps memory canonical. Whatever the state and the turn, a step that goes on from a memory in canonical form
leaves one: addresses strictly rising and no byte listed that an unlisted address reads as, so that equal memories are equal
data. -/
def Obligations.StepKeepsMemoryCanonical : Prop :=
  ∀ s t : State, Inv s → step s = .next t → Inv t

/-- What panel reset leaves. The invariants hold at reset, every byte of memory reads 0 but the turn tables of the map blocks,
which read 0x5F, every strand is unarmed with its registers at the reset values of their tables, every tile has 16 turns and
empty tables, every die holds 360 quanta, and nothing is in flight; the values that no rule gives are the model's (log 1 to 4)
and are not claimed here. -/
def Obligations.ResetState : Prop :=
  ∀ s : State, s = State.reset →
    Inv s ∧ CountsInRange s ∧ TurnsInRange s ∧ QuantaInRange s ∧
    (∀ a, memGet s.mem a =
      if a < 2 ^ 43 ∧ Config.mapBlockOff + 576 ≤ a % 2 ^ 36 ∧ a % 2 ^ 36 < Config.mapBlockOff + 720 then 0x5F else 0) ∧
    (∀ k, let x := s.strand k
      x.st = .unarmed ∧ (∀ r, x.reg r = 0) ∧ (∀ r, x.mask r = if r = 0 then BitVec.allOnes 64 else 0) ∧ (∀ i : Fin 8, x.q[i] = 0) ∧
      x.fcsr = 0 ∧ x.modew = 0 ∧ x.per = 0 ∧ x.pph = 0 ∧ x.pidx = 0 ∧ x.ovr = 0 ∧ x.xpc = 0 ∧ x.xcause = 0 ∧ x.xval = 0 ∧ x.xbase = 0 ∧
      x.en = false ∧ x.priv = 0 ∧ (∀ c, x.count c = 0) ∧ x.hrec = 0) ∧
    (∀ k v, s.vget k v = 0) ∧ (∀ pt i, s.pen pt i = { hoist := 0, stamp := 0, value := 0 }) ∧
    (∀ pt, let x := s.tile pt
      x.turns = 16 ∧ x.mlat = 0 ∧ x.latedrop = 0 ∧ x.evp = 0 ∧ x.pfp = 0 ∧ x.qp = false ∧ x.dp = false ∧ x.ap = false ∧ x.tp = false ∧
      (∀ e, (s.entry pt e).st = .empty) ∧ (∀ e, let y := s.gridEntry pt e
        y.id = 0 ∧ y.pstep = 0xFFFFFFFF ∧ y.mstep = 0xFFFFFFFF ∧ y.slots.length = 12 ∧ ∀ z, z ∈ y.slots → z.state = 0) ∧ (∀ i, (SMap.get x.routes i {}).v = false) ∧
      ∀ i, (SMap.get x.tags i {}).req = none) ∧
    (∀ d, let x := s.die d
      x.power.held = 360 ∧ x.power.out = [0, 0, 0, 0] ∧ x.power.lent = [0, 0, 0, 0] ∧ x.power.owed = [0, 0, 0, 0] ∧ x.power.set = 0 ∧
      x.power.draw = 0 ∧ (∀ i : Fin 11, x.errs[i] = 0) ∧ (∀ i : Fin 8, x.chspare[i] = 31) ∧ x.sched.ready = [] ∧ x.sched.out = [] ∧ x.sched.seq = 0) ∧
    (∀ r, (s.row r).csl = 40) ∧ s.tmo = 2000000 ∧ s.ticks = 0 ∧ s.bootPhase = 0 ∧ s.energised = 0 ∧ s.regions = [] ∧ s.ops = [] ∧ s.answers = [] ∧
    s.posts = [] ∧ s.chan = [] ∧ s.arrived = [] ∧ s.transfers = []

/-- A step runs the decoded words. When the agenda names the strand whose turn it is, the step takes the bundle at its
position from its text window. A lone word that decodes runs by exec at that state, in either place of the bundle; a pair
whose words decode and go on runs word 0 and then word 1, both reading the strand as the bundle found it; a lone word that
does not decode traps illegal encoding. A word whose counter is full holds the strand back, whatever else it would do (log
25), and a restored position that is odd traps before (log 27) and is not meant here. Then the strand and the tile remember
the issue. A word that blocks, or a strand whose turn it is not, leaves the state as it is but for the agenda. -/
def Obligations.StepRunsTheDecodedWord : Prop :=
  ∀ (s : State) (r : List Turn) (pt slot lag : Nat) (fetch : Bool) (i j : Instr),
    s.agenda = .issue pt slot lag none [] fetch :: r →
    let u : State := { s with agenda := r }
    let key := pt * 16 + slot
    let x := u.strand key
    let p := x.pc.toNat
    let R := u.region x.rcbp.toNat
    let b : BitVec 64 := BitVec.ofNat 64 (memNat u.mem (scratchKey (key / 16) (R.image.textOff + p / 8 * 8)) 8)
    let w0 : IWord := b.extractLsb' 0 32
    let w1 : IWord := b.extractLsb' 32 32
    let at' (w : IWord) (next : Nat) (pair : Bool) : State := { u with iss :=
      { pt := pt, slot := slot, pos := x.pc, base := word (p / 8 * 8), next := word next, bundle := b, word := w, lag := lag, bad := none, fetch := fetch
        paired := pair } }
    let ends (t : State) : State := if t.iss.res = .blocked then u else u.endIssue pt slot t
    let reads (w : IWord) (k : Instr) : Prop := decodeWord w = some k ∧ (mustBeLone k = true → wordLone w = true) ∧
      ∀ n, n ∈ vNames k → n < x.vlim.toNat
    let goes : Prop := u.turnOpen pt = true ∧ u.nextSlot pt = some slot
    let runs (m : State) (k : Instr) : Prop := (m.counterFull k = true → step s = .next u) ∧
      (goes → m.counterFull k = false → ∀ t, exec k m = .next t → step s = .next (ends t))
    (¬goes → step s = .next u) ∧
    (p < R.textLen → x.oddPc = false →
      (p % 8 = 0 → wordLone w0 = true → wordLone w1 = true →
        (reads w0 i → runs (at' w0 (p + 4) false) i) ∧
        (goes → decodeWord w0 = none → step s = .next (ends ((at' w0 (p + 4) false).trap 1 (w0.setWidth 64))))) ∧
      (p % 8 = 4 → wordLone w0 = true → wordLone w1 = true → reads w1 i → runs (at' w1 (p + 4) false) i) ∧
      (p % 8 = 0 → wordLone w0 = false → wordLone w1 = false → wordIsA w0 = false → wordIsA w1 = true → reads w0 i → reads w1 j →
        (∀ d, d ∈ dests x i → d ∉ dests x j) → (∀ a b c d, i ≠ .wait a b c d) →
        let m := at' w0 (p + 8) true
        (m.counterFull i = true ∨ m.counterFull j = true → step s = .next u) ∧
        (goes → m.counterFull i = false → m.counterFull j = false → ∀ t v k, exec i m = .next t → t.iss.res = .done → exec j m = .next v → v.iss.res = .done →
          exec j { t with iss := { m.iss with old := some x, next := t.me.pc } } = .next k → step s = .next (ends k))))

/-- Words of the listings decode to their instructions. The words that the encoding tables of the two listings write out
decode to the instructions they stand for, and the word of all zeros and a MISC word with a reserved subfunction to none. -/
def Obligations.DecodeWords : Prop :=
  decodeWord 0x48380000 = some (.addi 7 0 0) ∧
  decodeWord 0x56000000 = some (.nop) ∧
  decodeWord 0x18203000 = some (.ld 4 0 3 0 0) ∧
  decodeWord 0x9CC00001 = some (.kor 6 0 0) ∧
  decodeWord 0x58583028 = some (.ld 11 0 3 0 40) ∧
  decodeWord 0x7203FFFF = some (.wait 0 63 63 63) ∧
  decodeWord 0x79044180 = some (.prd 0 1 2 3 0 0) ∧
  decodeWord 0x41188E1B = some (.seq 3 2 7) ∧
  decodeWord 0x52180007 = some (.bnz 3 7) ∧
  decodeWord 0x48388000 = some (.addi 7 2 0) ∧
  decodeWord 0xB6000000 = some (.mzero) ∧
  decodeWord 0xF2810414 = some (.mop 64 65 0 1 4) ∧
  decodeWord 0x72FFFFC0 = some (.wait 63 63 63 0) ∧
  decodeWord 0xF452E200 = some (.mdrain 10 11 1 1) ∧
  decodeWord 0x78044820 = some (.pwr 0 1 4 2 1) ∧
  decodeWord 0x56040000 = some (.pend) ∧
  decodeWord 0x54FFFFF8 = some (.jmp (-8)) ∧
  decodeWord 0x57090009 = some (.gbind 1 4) ∧
  decodeWord 0x7EE90050 = some (.gst 29 4 1) ∧
  decodeWord 0x5709C00A = some (.gstep 1 7) ∧
  decodeWord 0x7F014518 = some (.gldv 0 20 10 1 1) ∧
  decodeWord 0xD2120560 = some (.vsel 9 1 2 3) ∧
  decodeWord 0x5397FFCC = some (.loop 18 (-52)) ∧
  decodeWord 0x00000000 = none ∧ decodeWord 0x56180000 = none
end

