-- ==== Sys2Proof/Laws/Memory.lean ====
section
/-!
SUPPORT. Laws of memory as a list of cells (R243, R343): a read gives the last byte written at its address, a write changes
no other address, and every write keeps the canonical form.
-/
namespace Sys2Proof.Machine

theorem memGet_drop_self (m : List Host.Cell) (k : Nat) : memGet (memDrop m k) k = memDefault k := by
  induction m with
  | nil => rfl
  | cons c r ih =>
    obtain ⟨j, b⟩ := c
    by_cases h : j = k <;> simp [memDrop, memGet, h, ih]

theorem memGet_drop_other (m : List Host.Cell) {k j : Nat} (h : j ≠ k) : memGet (memDrop m k) j = memGet m j := by
  induction m with
  | nil => rfl
  | cons c r ih =>
    obtain ⟨i, b⟩ := c
    by_cases hi : i = k
    · simp [memDrop, memGet, hi, ih, Ne.symm h]
    · simp [memDrop, memGet, hi, ih]

theorem memGet_insert_self (m : List Host.Cell) (k : Nat) (b : Byte) : memGet (memInsert m k b) k = b := by
  induction m with
  | nil => simp [memInsert, memGet]
  | cons c r ih =>
    obtain ⟨j, x⟩ := c
    by_cases h : j < k
    · simp [memInsert, memGet, h, ih, Nat.ne_of_lt h]
    · simp [memInsert, memGet, h]

theorem memGet_insert_other (m : List Host.Cell) {k j : Nat} (b : Byte) (h : j ≠ k) : memGet (memInsert m k b) j = memGet m j := by
  induction m with
  | nil => simp [memInsert, memGet, Ne.symm h]
  | cons c r ih =>
    obtain ⟨i, x⟩ := c
    by_cases hi : i < k
    · simp [memInsert, memGet, hi, ih]
    · simp [memInsert, memGet, hi, Ne.symm h]

/-- A read after a write to the same address gives the byte written. -/
@[simp] theorem memGet_put_self (m : List Host.Cell) (k : Nat) (b : Byte) : memGet (memPut m k b) k = b := by
  by_cases h : b = memDefault k
  · simp [memPut, h, memGet_drop_self]
  · simp [memPut, h, memGet_insert_self]

/-- A write leaves every other address alone. -/
theorem memGet_put_other (m : List Host.Cell) {k j : Nat} (b : Byte) (h : j ≠ k) : memGet (memPut m k b) j = memGet m j := by
  by_cases hb : b = memDefault k
  · simp [memPut, hb, memGet_drop_other m h]
  · simp [memPut, hb, memGet_insert_other _ b h, memGet_drop_other m h]

theorem memGet_putBytes_below (bs : List Byte) : ∀ (m : List Host.Cell) (k : Nat) {j : Nat}, j < k →
    memGet (memPutBytes m k bs) j = memGet m j := by
  induction bs with
  | nil => intros; rfl
  | cons b r ih =>
    intro m k j h
    rw [memPutBytes, ih _ _ (by omega), memGet_put_other _ _ (by omega)]

theorem memGet_putBytes_above (bs : List Byte) : ∀ (m : List Host.Cell) (k : Nat) {j : Nat}, k + bs.length ≤ j →
    memGet (memPutBytes m k bs) j = memGet m j := by
  induction bs with
  | nil => intros; rfl
  | cons b r ih =>
    intro m k j h
    simp only [List.length_cons] at h
    rw [memPutBytes, ih _ _ (by omega), memGet_put_other _ _ (by omega)]

/-- Bytes written from an address up are read back in order. -/
theorem memBytes_putBytes (bs : List Byte) : ∀ (m : List Host.Cell) (k : Nat), memBytes (memPutBytes m k bs) k bs.length = bs := by
  induction bs with
  | nil => intros; rfl
  | cons b r ih =>
    intro m k
    simp only [memPutBytes, List.length_cons, memBytes, ih]
    rw [memGet_putBytes_below r _ _ (by omega), memGet_put_self]

theorem memGet_putCells_other (cs : List Host.Cell) : ∀ (m : List Host.Cell) {j : Nat}, (∀ c ∈ cs, c.1 ≠ j) →
    memGet (memPutCells m cs) j = memGet m j := by
  induction cs with
  | nil => intros; rfl
  | cons c r ih =>
    intro m j h
    rw [memPutCells, ih _ (fun x hx => h x (List.mem_cons_of_mem _ hx)), memGet_put_other _ _ (Ne.symm (h c List.mem_cons_self))]

/-! ## The canonical form -/

theorem memAbove_iff (k : Nat) (m : List Host.Cell) : memAbove k m = true ↔ ∀ c ∈ m, k < c.1 := by simp [memAbove]

theorem wf_cons (k : Nat) (b : Byte) (r : List Host.Cell) :
    Memory.wf ((k, b) :: r) = true ↔ b ≠ memDefault k ∧ memAbove k r = true ∧ Memory.wf r = true := by
  simp [Memory.wf, and_assoc]

theorem mem_drop {m : List Host.Cell} {k : Nat} {c : Host.Cell} (h : c ∈ memDrop m k) : c ∈ m ∧ c.1 ≠ k := by
  induction m with
  | nil => simp [memDrop] at h
  | cons x r ih =>
    obtain ⟨j, b⟩ := x
    by_cases hj : j = k
    · simp only [memDrop, hj, if_true] at h
      exact ⟨List.mem_cons_of_mem _ (ih h).1, (ih h).2⟩
    · simp only [memDrop, hj, if_false, List.mem_cons] at h
      rcases h with rfl | h
      · exact ⟨List.mem_cons_self, hj⟩
      · exact ⟨List.mem_cons_of_mem _ (ih h).1, (ih h).2⟩

theorem wf_drop {m : List Host.Cell} (k : Nat) (h : Memory.wf m = true) : Memory.wf (memDrop m k) = true := by
  induction m with
  | nil => exact h
  | cons x r ih =>
    obtain ⟨j, b⟩ := x
    obtain ⟨hb, ha, hr⟩ := (wf_cons j b r).1 h
    by_cases hj : j = k
    · simpa [memDrop, hj] using ih hr
    · simp only [memDrop, hj, if_false]
      exact (wf_cons _ _ _).2 ⟨hb, (memAbove_iff _ _).2 (fun c hc => (memAbove_iff _ _).1 ha c (mem_drop hc).1), ih hr⟩

theorem mem_insert {m : List Host.Cell} {k : Nat} {b : Byte} {c : Host.Cell} (h : c ∈ memInsert m k b) : c = (k, b) ∨ c ∈ m := by
  induction m with
  | nil => simpa [memInsert] using h
  | cons x r ih =>
    obtain ⟨j, y⟩ := x
    by_cases hj : j < k
    · simp only [memInsert, hj, if_true, List.mem_cons] at h
      rcases h with rfl | h
      · exact .inr List.mem_cons_self
      · exact (ih h).imp id (List.mem_cons_of_mem _)
    · simpa [memInsert, hj] using h

theorem wf_insert {m : List Host.Cell} {k : Nat} {b : Byte} (hb : b ≠ memDefault k) (hk : ∀ c ∈ m, c.1 ≠ k)
    (h : Memory.wf m = true) : Memory.wf (memInsert m k b) = true := by
  induction m with
  | nil => simp [memInsert, Memory.wf, hb, memAbove]
  | cons x r ih =>
    obtain ⟨j, y⟩ := x
    obtain ⟨hy, ha, hr⟩ := (wf_cons j y r).1 h
    by_cases hj : j < k
    · simp only [memInsert, hj, if_true]
      refine (wf_cons _ _ _).2 ⟨hy, (memAbove_iff _ _).2 (fun c hc => ?_), ih (fun c hc => hk c (List.mem_cons_of_mem _ hc)) hr⟩
      rcases mem_insert hc with rfl | hc
      · exact hj
      · exact (memAbove_iff _ _).1 ha c hc
    · have hkj : k < j := by
        have := hk (j, y) List.mem_cons_self
        simp only at this
        omega
      simp only [memInsert, hj, if_false]
      refine (wf_cons _ _ _).2 ⟨hb, (memAbove_iff _ _).2 (fun c hc => ?_), h⟩
      rcases List.mem_cons.1 hc with rfl | hc
      · exact hkj
      · exact Nat.lt_trans hkj ((memAbove_iff _ _).1 ha c hc)

/-- One byte written keeps the canonical form. -/
theorem wf_put {m : List Host.Cell} (k : Nat) (b : Byte) (h : Memory.wf m = true) : Memory.wf (memPut m k b) = true := by
  by_cases hb : b = memDefault k
  · simpa [memPut, hb] using wf_drop k h
  · simpa [memPut, hb] using wf_insert hb (fun c hc => (mem_drop hc).2) (wf_drop k h)

theorem wf_putBytes (bs : List Byte) : ∀ {m : List Host.Cell} (k : Nat), Memory.wf m = true → Memory.wf (memPutBytes m k bs) = true := by
  induction bs with
  | nil => intro m k h; exact h
  | cons b r ih => intro m k h; exact ih _ (wf_put k b h)

theorem wf_putCells (cs : List Host.Cell) : ∀ {m : List Host.Cell}, Memory.wf m = true → Memory.wf (memPutCells m cs) = true := by
  induction cs with
  | nil => intro m h; exact h
  | cons c r ih => intro m h; exact ih (wf_put c.1 c.2 h)

/-! ## Bytes and numbers -/

@[simp] theorem toBytes_length (n x : Nat) : (toBytes n x).length = n := by
  induction n generalizing x with
  | zero => rfl
  | succ n ih => simp [toBytes, ih]
@[simp] theorem memBytes_length (m : List Host.Cell) (k n : Nat) : (memBytes m k n).length = n := by
  induction n generalizing k with
  | zero => rfl
  | succ n ih => simp [memBytes, ih]
/-- The number that the bytes of a number hold. -/
theorem ofBytes_toBytes (n x : Nat) : ofBytes (toBytes n x) = x % 256 ^ n := by
  induction n generalizing x with
  | zero => simp [toBytes, ofBytes, Nat.mod_one]
  | succ n ih =>
    simp only [toBytes, ofBytes, ih, BitVec.toNat_ofNat, Nat.reducePow]
    rw [Nat.pow_succ, Nat.mul_comm (256 ^ n), Nat.mod_mul]
/-- Bytes that read alike are alike. -/
theorem memBytes_congr {m m' : List Host.Cell} {k n : Nat} (h : ∀ a, k ≤ a → a < k + n → memGet m' a = memGet m a) :
    memBytes m' k n = memBytes m k n := by
  induction n generalizing k with
  | zero => rfl
  | succ n ih =>
    simp only [memBytes]
    rw [h k (Nat.le_refl k) (by omega), ih (fun a h1 h2 => h a (by omega) (by omega))]
/-- A byte of a stored run. -/
theorem memGet_putBytes_inside (bs : List Byte) : ∀ (m : List Host.Cell) (k i : Nat) (h : i < bs.length),
    memGet (memPutBytes m k bs) (k + i) = bs[i] := by
  induction bs with
  | nil => intro m k i h; simp at h
  | cons b r ih =>
    intro m k i h
    cases i with
    | zero =>
      simp only [memPutBytes, Nat.add_zero, List.getElem_cons_zero]
      rw [memGet_putBytes_below r _ _ (Nat.lt_succ_self k), memGet_put_self]
    | succ i =>
      simp only [memPutBytes, List.getElem_cons_succ]
      rw [show k + (i + 1) = k + 1 + i by omega]
      exact ih _ _ _ (by simpa using h)
/-- Part of a stored run. -/
theorem memBytes_putBytes_part (bs : List Byte) (m : List Host.Cell) (k i n : Nat) (h : i + n ≤ bs.length) :
    memBytes (memPutBytes m k bs) (k + i) n = (bs.drop i).take n := by
  induction n generalizing i with
  | zero => simp [memBytes]
  | succ n ih =>
    have hi : i < bs.length := by omega
    simp only [memBytes]
    rw [memGet_putBytes_inside bs m k i hi, Nat.add_assoc, ih (i + 1) (by omega), List.drop_eq_getElem_cons hi, List.take_succ_cons]
/-- A number read where it was stored. -/
theorem memNat_putBytes_self (m : List Host.Cell) (k n x : Nat) : memNat (memPutBytes m k (toBytes n x)) k n = x % 256 ^ n := by
  have h := memBytes_putBytes (toBytes n x) m k
  rw [toBytes_length] at h
  rw [memNat, h, ofBytes_toBytes]
/-- A number read outside a stored run. -/
theorem memNat_putBytes_other (m : List Host.Cell) (bs : List Byte) {k j n : Nat} (h : j + n ≤ k ∨ k + bs.length ≤ j) :
    memNat (memPutBytes m k bs) j n = memNat m j n := by
  unfold memNat
  rw [memBytes_congr]
  intro a h1 h2
  cases h with
  | inl h => exact memGet_putBytes_below bs m k (by omega)
  | inr h => exact memGet_putBytes_above bs m k (by omega)

/-! ## Maps by number -/

@[simp] theorem SMap.get_put_self {α : Type} (m : SMap α) (k : Nat) (v d : α) : SMap.get (SMap.put m k v) k d = v := by
  induction m with
  | nil => simp [SMap.put, SMap.get]
  | cons c r ih =>
    obtain ⟨j, x⟩ := c
    by_cases h : j < k
    · simp [SMap.put, SMap.get, h, ih, Nat.ne_of_lt h]
    · by_cases hj : j = k <;> simp [SMap.put, SMap.get, h, hj]

theorem SMap.get_put_other {α : Type} (m : SMap α) {k j : Nat} (v d : α) (h : j ≠ k) :
    SMap.get (SMap.put m k v) j d = SMap.get m j d := by
  induction m with
  | nil => simp [SMap.put, SMap.get, Ne.symm h]
  | cons c r ih =>
    obtain ⟨i, x⟩ := c
    by_cases hi : i < k
    · simp [SMap.put, SMap.get, hi, ih]
    · by_cases hk : i = k <;> simp [SMap.put, SMap.get, hi, hk, Ne.symm h]

end Sys2Proof.Machine
end

