-- ==== Sys2Proof/Laws/State.lean ====
section
/-!
SUPPORT. One lemma per field for each named update of State, and reads after updates of strands, tiles and registers.
-/
namespace Sys2Proof.Machine

@[simp] theorem State.setStrand_mem (s : State) (k : Nat) (x : Strand) : (s.setStrand k x).mem = s.mem := rfl
@[simp] theorem State.setStrand_vregs (s : State) (k : Nat) (x : Strand) : (s.setStrand k x).vregs = s.vregs := rfl
@[simp] theorem State.setStrand_pens (s : State) (k : Nat) (x : Strand) : (s.setStrand k x).pens = s.pens := rfl
@[simp] theorem State.setStrand_tiles (s : State) (k : Nat) (x : Strand) : (s.setStrand k x).tiles = s.tiles := rfl
@[simp] theorem State.setStrand_dies (s : State) (k : Nat) (x : Strand) : (s.setStrand k x).dies = s.dies := rfl
@[simp] theorem State.setStrand_rows (s : State) (k : Nat) (x : Strand) : (s.setStrand k x).rows = s.rows := rfl
@[simp] theorem State.setStrand_regions (s : State) (k : Nat) (x : Strand) : (s.setStrand k x).regions = s.regions := rfl
@[simp] theorem State.setStrand_ops (s : State) (k : Nat) (x : Strand) : (s.setStrand k x).ops = s.ops := rfl
@[simp] theorem State.setStrand_posts (s : State) (k : Nat) (x : Strand) : (s.setStrand k x).posts = s.posts := rfl
@[simp] theorem State.setStrand_ticks (s : State) (k : Nat) (x : Strand) : (s.setStrand k x).ticks = s.ticks := rfl
@[simp] theorem State.setStrand_nextId (s : State) (k : Nat) (x : Strand) : (s.setStrand k x).nextId = s.nextId := rfl
@[simp] theorem State.setStrand_iss (s : State) (k : Nat) (x : Strand) : (s.setStrand k x).iss = s.iss := rfl
@[simp] theorem State.setStrand_agenda (s : State) (k : Nat) (x : Strand) : (s.setStrand k x).agenda = s.agenda := rfl
@[simp] theorem State.setStrand_answers (s : State) (k : Nat) (x : Strand) : (s.setStrand k x).answers = s.answers := rfl
@[simp] theorem State.setStrand_outbox (s : State) (k : Nat) (x : Strand) : (s.setStrand k x).outbox = s.outbox := rfl
@[simp] theorem State.setStrand_reports (s : State) (k : Nat) (x : Strand) : (s.setStrand k x).reports = s.reports := rfl
@[simp] theorem State.setStrand_policy (s : State) (k : Nat) (x : Strand) : (s.setStrand k x).policy = s.policy := rfl
@[simp] theorem State.setStrand_domains (s : State) (k : Nat) (x : Strand) : (s.setStrand k x).domains = s.domains := rfl
@[simp] theorem State.setStrand_portsDown (s : State) (k : Nat) (x : Strand) : (s.setStrand k x).portsDown = s.portsDown := rfl
@[simp] theorem State.setStrand_attest (s : State) (k : Nat) (x : Strand) : (s.setStrand k x).attest = s.attest := rfl
@[simp] theorem State.setStrand_energisedAt (s : State) (k : Nat) (x : Strand) : (s.setStrand k x).energisedAt = s.energisedAt := rfl

@[simp] theorem State.modStrand_mem (s : State) (k : Nat) (f : Strand → Strand) : (s.modStrand k f).mem = s.mem := rfl
@[simp] theorem State.modStrand_vregs (s : State) (k : Nat) (f : Strand → Strand) : (s.modStrand k f).vregs = s.vregs := rfl
@[simp] theorem State.modStrand_pens (s : State) (k : Nat) (f : Strand → Strand) : (s.modStrand k f).pens = s.pens := rfl
@[simp] theorem State.modStrand_tiles (s : State) (k : Nat) (f : Strand → Strand) : (s.modStrand k f).tiles = s.tiles := rfl
@[simp] theorem State.modStrand_dies (s : State) (k : Nat) (f : Strand → Strand) : (s.modStrand k f).dies = s.dies := rfl
@[simp] theorem State.modStrand_rows (s : State) (k : Nat) (f : Strand → Strand) : (s.modStrand k f).rows = s.rows := rfl
@[simp] theorem State.modStrand_regions (s : State) (k : Nat) (f : Strand → Strand) : (s.modStrand k f).regions = s.regions := rfl
@[simp] theorem State.modStrand_ops (s : State) (k : Nat) (f : Strand → Strand) : (s.modStrand k f).ops = s.ops := rfl
@[simp] theorem State.modStrand_posts (s : State) (k : Nat) (f : Strand → Strand) : (s.modStrand k f).posts = s.posts := rfl
@[simp] theorem State.modStrand_ticks (s : State) (k : Nat) (f : Strand → Strand) : (s.modStrand k f).ticks = s.ticks := rfl
@[simp] theorem State.modStrand_nextId (s : State) (k : Nat) (f : Strand → Strand) : (s.modStrand k f).nextId = s.nextId := rfl
@[simp] theorem State.modStrand_iss (s : State) (k : Nat) (f : Strand → Strand) : (s.modStrand k f).iss = s.iss := rfl
@[simp] theorem State.modStrand_agenda (s : State) (k : Nat) (f : Strand → Strand) : (s.modStrand k f).agenda = s.agenda := rfl
@[simp] theorem State.modStrand_answers (s : State) (k : Nat) (f : Strand → Strand) : (s.modStrand k f).answers = s.answers := rfl
@[simp] theorem State.modStrand_outbox (s : State) (k : Nat) (f : Strand → Strand) : (s.modStrand k f).outbox = s.outbox := rfl
@[simp] theorem State.modStrand_reports (s : State) (k : Nat) (f : Strand → Strand) : (s.modStrand k f).reports = s.reports := rfl
@[simp] theorem State.modStrand_policy (s : State) (k : Nat) (f : Strand → Strand) : (s.modStrand k f).policy = s.policy := rfl
@[simp] theorem State.modStrand_domains (s : State) (k : Nat) (f : Strand → Strand) : (s.modStrand k f).domains = s.domains := rfl
@[simp] theorem State.modStrand_portsDown (s : State) (k : Nat) (f : Strand → Strand) : (s.modStrand k f).portsDown = s.portsDown := rfl
@[simp] theorem State.modStrand_attest (s : State) (k : Nat) (f : Strand → Strand) : (s.modStrand k f).attest = s.attest := rfl
@[simp] theorem State.modStrand_energisedAt (s : State) (k : Nat) (f : Strand → Strand) : (s.modStrand k f).energisedAt = s.energisedAt := rfl

@[simp] theorem State.setTile_mem (s : State) (p : Nat) (x : Tile) : (s.setTile p x).mem = s.mem := rfl
@[simp] theorem State.setTile_strands (s : State) (p : Nat) (x : Tile) : (s.setTile p x).strands = s.strands := rfl
@[simp] theorem State.setTile_vregs (s : State) (p : Nat) (x : Tile) : (s.setTile p x).vregs = s.vregs := rfl
@[simp] theorem State.setTile_pens (s : State) (p : Nat) (x : Tile) : (s.setTile p x).pens = s.pens := rfl
@[simp] theorem State.setTile_dies (s : State) (p : Nat) (x : Tile) : (s.setTile p x).dies = s.dies := rfl
@[simp] theorem State.setTile_rows (s : State) (p : Nat) (x : Tile) : (s.setTile p x).rows = s.rows := rfl
@[simp] theorem State.setTile_regions (s : State) (p : Nat) (x : Tile) : (s.setTile p x).regions = s.regions := rfl
@[simp] theorem State.setTile_ops (s : State) (p : Nat) (x : Tile) : (s.setTile p x).ops = s.ops := rfl
@[simp] theorem State.setTile_posts (s : State) (p : Nat) (x : Tile) : (s.setTile p x).posts = s.posts := rfl
@[simp] theorem State.setTile_ticks (s : State) (p : Nat) (x : Tile) : (s.setTile p x).ticks = s.ticks := rfl
@[simp] theorem State.setTile_nextId (s : State) (p : Nat) (x : Tile) : (s.setTile p x).nextId = s.nextId := rfl
@[simp] theorem State.setTile_iss (s : State) (p : Nat) (x : Tile) : (s.setTile p x).iss = s.iss := rfl
@[simp] theorem State.setTile_agenda (s : State) (p : Nat) (x : Tile) : (s.setTile p x).agenda = s.agenda := rfl
@[simp] theorem State.setTile_answers (s : State) (p : Nat) (x : Tile) : (s.setTile p x).answers = s.answers := rfl
@[simp] theorem State.setTile_outbox (s : State) (p : Nat) (x : Tile) : (s.setTile p x).outbox = s.outbox := rfl
@[simp] theorem State.setTile_reports (s : State) (p : Nat) (x : Tile) : (s.setTile p x).reports = s.reports := rfl
@[simp] theorem State.setTile_policy (s : State) (p : Nat) (x : Tile) : (s.setTile p x).policy = s.policy := rfl
@[simp] theorem State.setTile_domains (s : State) (p : Nat) (x : Tile) : (s.setTile p x).domains = s.domains := rfl
@[simp] theorem State.setTile_portsDown (s : State) (p : Nat) (x : Tile) : (s.setTile p x).portsDown = s.portsDown := rfl
@[simp] theorem State.setTile_attest (s : State) (p : Nat) (x : Tile) : (s.setTile p x).attest = s.attest := rfl
@[simp] theorem State.setTile_energisedAt (s : State) (p : Nat) (x : Tile) : (s.setTile p x).energisedAt = s.energisedAt := rfl

@[simp] theorem State.modTile_mem (s : State) (p : Nat) (f : Tile → Tile) : (s.modTile p f).mem = s.mem := rfl
@[simp] theorem State.modTile_strands (s : State) (p : Nat) (f : Tile → Tile) : (s.modTile p f).strands = s.strands := rfl
@[simp] theorem State.modTile_vregs (s : State) (p : Nat) (f : Tile → Tile) : (s.modTile p f).vregs = s.vregs := rfl
@[simp] theorem State.modTile_pens (s : State) (p : Nat) (f : Tile → Tile) : (s.modTile p f).pens = s.pens := rfl
@[simp] theorem State.modTile_dies (s : State) (p : Nat) (f : Tile → Tile) : (s.modTile p f).dies = s.dies := rfl
@[simp] theorem State.modTile_rows (s : State) (p : Nat) (f : Tile → Tile) : (s.modTile p f).rows = s.rows := rfl
@[simp] theorem State.modTile_regions (s : State) (p : Nat) (f : Tile → Tile) : (s.modTile p f).regions = s.regions := rfl
@[simp] theorem State.modTile_ops (s : State) (p : Nat) (f : Tile → Tile) : (s.modTile p f).ops = s.ops := rfl
@[simp] theorem State.modTile_posts (s : State) (p : Nat) (f : Tile → Tile) : (s.modTile p f).posts = s.posts := rfl
@[simp] theorem State.modTile_ticks (s : State) (p : Nat) (f : Tile → Tile) : (s.modTile p f).ticks = s.ticks := rfl
@[simp] theorem State.modTile_nextId (s : State) (p : Nat) (f : Tile → Tile) : (s.modTile p f).nextId = s.nextId := rfl
@[simp] theorem State.modTile_iss (s : State) (p : Nat) (f : Tile → Tile) : (s.modTile p f).iss = s.iss := rfl
@[simp] theorem State.modTile_agenda (s : State) (p : Nat) (f : Tile → Tile) : (s.modTile p f).agenda = s.agenda := rfl
@[simp] theorem State.modTile_answers (s : State) (p : Nat) (f : Tile → Tile) : (s.modTile p f).answers = s.answers := rfl
@[simp] theorem State.modTile_outbox (s : State) (p : Nat) (f : Tile → Tile) : (s.modTile p f).outbox = s.outbox := rfl
@[simp] theorem State.modTile_reports (s : State) (p : Nat) (f : Tile → Tile) : (s.modTile p f).reports = s.reports := rfl
@[simp] theorem State.modTile_policy (s : State) (p : Nat) (f : Tile → Tile) : (s.modTile p f).policy = s.policy := rfl
@[simp] theorem State.modTile_domains (s : State) (p : Nat) (f : Tile → Tile) : (s.modTile p f).domains = s.domains := rfl
@[simp] theorem State.modTile_portsDown (s : State) (p : Nat) (f : Tile → Tile) : (s.modTile p f).portsDown = s.portsDown := rfl
@[simp] theorem State.modTile_attest (s : State) (p : Nat) (f : Tile → Tile) : (s.modTile p f).attest = s.attest := rfl
@[simp] theorem State.modTile_energisedAt (s : State) (p : Nat) (f : Tile → Tile) : (s.modTile p f).energisedAt = s.energisedAt := rfl

@[simp] theorem State.modDie_mem (s : State) (d : Nat) (f : Die → Die) : (s.modDie d f).mem = s.mem := rfl
@[simp] theorem State.modDie_strands (s : State) (d : Nat) (f : Die → Die) : (s.modDie d f).strands = s.strands := rfl
@[simp] theorem State.modDie_vregs (s : State) (d : Nat) (f : Die → Die) : (s.modDie d f).vregs = s.vregs := rfl
@[simp] theorem State.modDie_pens (s : State) (d : Nat) (f : Die → Die) : (s.modDie d f).pens = s.pens := rfl
@[simp] theorem State.modDie_tiles (s : State) (d : Nat) (f : Die → Die) : (s.modDie d f).tiles = s.tiles := rfl
@[simp] theorem State.modDie_rows (s : State) (d : Nat) (f : Die → Die) : (s.modDie d f).rows = s.rows := rfl
@[simp] theorem State.modDie_regions (s : State) (d : Nat) (f : Die → Die) : (s.modDie d f).regions = s.regions := rfl
@[simp] theorem State.modDie_ops (s : State) (d : Nat) (f : Die → Die) : (s.modDie d f).ops = s.ops := rfl
@[simp] theorem State.modDie_posts (s : State) (d : Nat) (f : Die → Die) : (s.modDie d f).posts = s.posts := rfl
@[simp] theorem State.modDie_ticks (s : State) (d : Nat) (f : Die → Die) : (s.modDie d f).ticks = s.ticks := rfl
@[simp] theorem State.modDie_nextId (s : State) (d : Nat) (f : Die → Die) : (s.modDie d f).nextId = s.nextId := rfl
@[simp] theorem State.modDie_iss (s : State) (d : Nat) (f : Die → Die) : (s.modDie d f).iss = s.iss := rfl
@[simp] theorem State.modDie_agenda (s : State) (d : Nat) (f : Die → Die) : (s.modDie d f).agenda = s.agenda := rfl
@[simp] theorem State.modDie_answers (s : State) (d : Nat) (f : Die → Die) : (s.modDie d f).answers = s.answers := rfl
@[simp] theorem State.modDie_outbox (s : State) (d : Nat) (f : Die → Die) : (s.modDie d f).outbox = s.outbox := rfl
@[simp] theorem State.modDie_reports (s : State) (d : Nat) (f : Die → Die) : (s.modDie d f).reports = s.reports := rfl
@[simp] theorem State.modDie_policy (s : State) (d : Nat) (f : Die → Die) : (s.modDie d f).policy = s.policy := rfl
@[simp] theorem State.modDie_domains (s : State) (d : Nat) (f : Die → Die) : (s.modDie d f).domains = s.domains := rfl
@[simp] theorem State.modDie_portsDown (s : State) (d : Nat) (f : Die → Die) : (s.modDie d f).portsDown = s.portsDown := rfl
@[simp] theorem State.modDie_attest (s : State) (d : Nat) (f : Die → Die) : (s.modDie d f).attest = s.attest := rfl
@[simp] theorem State.modDie_energisedAt (s : State) (d : Nat) (f : Die → Die) : (s.modDie d f).energisedAt = s.energisedAt := rfl

@[simp] theorem State.modRow_mem (s : State) (r : Nat) (f : PowerRegion → PowerRegion) : (s.modRow r f).mem = s.mem := rfl
@[simp] theorem State.modRow_strands (s : State) (r : Nat) (f : PowerRegion → PowerRegion) : (s.modRow r f).strands = s.strands := rfl
@[simp] theorem State.modRow_vregs (s : State) (r : Nat) (f : PowerRegion → PowerRegion) : (s.modRow r f).vregs = s.vregs := rfl
@[simp] theorem State.modRow_pens (s : State) (r : Nat) (f : PowerRegion → PowerRegion) : (s.modRow r f).pens = s.pens := rfl
@[simp] theorem State.modRow_tiles (s : State) (r : Nat) (f : PowerRegion → PowerRegion) : (s.modRow r f).tiles = s.tiles := rfl
@[simp] theorem State.modRow_dies (s : State) (r : Nat) (f : PowerRegion → PowerRegion) : (s.modRow r f).dies = s.dies := rfl
@[simp] theorem State.modRow_regions (s : State) (r : Nat) (f : PowerRegion → PowerRegion) : (s.modRow r f).regions = s.regions := rfl
@[simp] theorem State.modRow_ops (s : State) (r : Nat) (f : PowerRegion → PowerRegion) : (s.modRow r f).ops = s.ops := rfl
@[simp] theorem State.modRow_posts (s : State) (r : Nat) (f : PowerRegion → PowerRegion) : (s.modRow r f).posts = s.posts := rfl
@[simp] theorem State.modRow_ticks (s : State) (r : Nat) (f : PowerRegion → PowerRegion) : (s.modRow r f).ticks = s.ticks := rfl
@[simp] theorem State.modRow_nextId (s : State) (r : Nat) (f : PowerRegion → PowerRegion) : (s.modRow r f).nextId = s.nextId := rfl
@[simp] theorem State.modRow_iss (s : State) (r : Nat) (f : PowerRegion → PowerRegion) : (s.modRow r f).iss = s.iss := rfl
@[simp] theorem State.modRow_agenda (s : State) (r : Nat) (f : PowerRegion → PowerRegion) : (s.modRow r f).agenda = s.agenda := rfl
@[simp] theorem State.modRow_answers (s : State) (r : Nat) (f : PowerRegion → PowerRegion) : (s.modRow r f).answers = s.answers := rfl
@[simp] theorem State.modRow_outbox (s : State) (r : Nat) (f : PowerRegion → PowerRegion) : (s.modRow r f).outbox = s.outbox := rfl
@[simp] theorem State.modRow_reports (s : State) (r : Nat) (f : PowerRegion → PowerRegion) : (s.modRow r f).reports = s.reports := rfl
@[simp] theorem State.modRow_policy (s : State) (r : Nat) (f : PowerRegion → PowerRegion) : (s.modRow r f).policy = s.policy := rfl
@[simp] theorem State.modRow_domains (s : State) (r : Nat) (f : PowerRegion → PowerRegion) : (s.modRow r f).domains = s.domains := rfl
@[simp] theorem State.modRow_portsDown (s : State) (r : Nat) (f : PowerRegion → PowerRegion) : (s.modRow r f).portsDown = s.portsDown := rfl
@[simp] theorem State.modRow_attest (s : State) (r : Nat) (f : PowerRegion → PowerRegion) : (s.modRow r f).attest = s.attest := rfl
@[simp] theorem State.modRow_energisedAt (s : State) (r : Nat) (f : PowerRegion → PowerRegion) : (s.modRow r f).energisedAt = s.energisedAt := rfl

@[simp] theorem State.setPen_mem (s : State) (p i : Nat) (x : Pennant) : (s.setPen p i x).mem = s.mem := rfl
@[simp] theorem State.setPen_strands (s : State) (p i : Nat) (x : Pennant) : (s.setPen p i x).strands = s.strands := rfl
@[simp] theorem State.setPen_vregs (s : State) (p i : Nat) (x : Pennant) : (s.setPen p i x).vregs = s.vregs := rfl
@[simp] theorem State.setPen_tiles (s : State) (p i : Nat) (x : Pennant) : (s.setPen p i x).tiles = s.tiles := rfl
@[simp] theorem State.setPen_dies (s : State) (p i : Nat) (x : Pennant) : (s.setPen p i x).dies = s.dies := rfl
@[simp] theorem State.setPen_rows (s : State) (p i : Nat) (x : Pennant) : (s.setPen p i x).rows = s.rows := rfl
@[simp] theorem State.setPen_regions (s : State) (p i : Nat) (x : Pennant) : (s.setPen p i x).regions = s.regions := rfl
@[simp] theorem State.setPen_ops (s : State) (p i : Nat) (x : Pennant) : (s.setPen p i x).ops = s.ops := rfl
@[simp] theorem State.setPen_posts (s : State) (p i : Nat) (x : Pennant) : (s.setPen p i x).posts = s.posts := rfl
@[simp] theorem State.setPen_ticks (s : State) (p i : Nat) (x : Pennant) : (s.setPen p i x).ticks = s.ticks := rfl
@[simp] theorem State.setPen_nextId (s : State) (p i : Nat) (x : Pennant) : (s.setPen p i x).nextId = s.nextId := rfl
@[simp] theorem State.setPen_iss (s : State) (p i : Nat) (x : Pennant) : (s.setPen p i x).iss = s.iss := rfl
@[simp] theorem State.setPen_agenda (s : State) (p i : Nat) (x : Pennant) : (s.setPen p i x).agenda = s.agenda := rfl
@[simp] theorem State.setPen_answers (s : State) (p i : Nat) (x : Pennant) : (s.setPen p i x).answers = s.answers := rfl
@[simp] theorem State.setPen_outbox (s : State) (p i : Nat) (x : Pennant) : (s.setPen p i x).outbox = s.outbox := rfl
@[simp] theorem State.setPen_reports (s : State) (p i : Nat) (x : Pennant) : (s.setPen p i x).reports = s.reports := rfl
@[simp] theorem State.setPen_policy (s : State) (p i : Nat) (x : Pennant) : (s.setPen p i x).policy = s.policy := rfl
@[simp] theorem State.setPen_domains (s : State) (p i : Nat) (x : Pennant) : (s.setPen p i x).domains = s.domains := rfl
@[simp] theorem State.setPen_portsDown (s : State) (p i : Nat) (x : Pennant) : (s.setPen p i x).portsDown = s.portsDown := rfl
@[simp] theorem State.setPen_attest (s : State) (p i : Nat) (x : Pennant) : (s.setPen p i x).attest = s.attest := rfl
@[simp] theorem State.setPen_energisedAt (s : State) (p i : Nat) (x : Pennant) : (s.setPen p i x).energisedAt = s.energisedAt := rfl

@[simp] theorem State.setEntry_mem (s : State) (p e : Nat) (x : CacheEntry) : (s.setEntry p e x).mem = s.mem := rfl
@[simp] theorem State.setEntry_strands (s : State) (p e : Nat) (x : CacheEntry) : (s.setEntry p e x).strands = s.strands := rfl
@[simp] theorem State.setEntry_vregs (s : State) (p e : Nat) (x : CacheEntry) : (s.setEntry p e x).vregs = s.vregs := rfl
@[simp] theorem State.setEntry_pens (s : State) (p e : Nat) (x : CacheEntry) : (s.setEntry p e x).pens = s.pens := rfl
@[simp] theorem State.setEntry_dies (s : State) (p e : Nat) (x : CacheEntry) : (s.setEntry p e x).dies = s.dies := rfl
@[simp] theorem State.setEntry_rows (s : State) (p e : Nat) (x : CacheEntry) : (s.setEntry p e x).rows = s.rows := rfl
@[simp] theorem State.setEntry_regions (s : State) (p e : Nat) (x : CacheEntry) : (s.setEntry p e x).regions = s.regions := rfl
@[simp] theorem State.setEntry_ops (s : State) (p e : Nat) (x : CacheEntry) : (s.setEntry p e x).ops = s.ops := rfl
@[simp] theorem State.setEntry_posts (s : State) (p e : Nat) (x : CacheEntry) : (s.setEntry p e x).posts = s.posts := rfl
@[simp] theorem State.setEntry_ticks (s : State) (p e : Nat) (x : CacheEntry) : (s.setEntry p e x).ticks = s.ticks := rfl
@[simp] theorem State.setEntry_nextId (s : State) (p e : Nat) (x : CacheEntry) : (s.setEntry p e x).nextId = s.nextId := rfl
@[simp] theorem State.setEntry_iss (s : State) (p e : Nat) (x : CacheEntry) : (s.setEntry p e x).iss = s.iss := rfl
@[simp] theorem State.setEntry_agenda (s : State) (p e : Nat) (x : CacheEntry) : (s.setEntry p e x).agenda = s.agenda := rfl
@[simp] theorem State.setEntry_answers (s : State) (p e : Nat) (x : CacheEntry) : (s.setEntry p e x).answers = s.answers := rfl
@[simp] theorem State.setEntry_outbox (s : State) (p e : Nat) (x : CacheEntry) : (s.setEntry p e x).outbox = s.outbox := rfl
@[simp] theorem State.setEntry_reports (s : State) (p e : Nat) (x : CacheEntry) : (s.setEntry p e x).reports = s.reports := rfl
@[simp] theorem State.setEntry_policy (s : State) (p e : Nat) (x : CacheEntry) : (s.setEntry p e x).policy = s.policy := rfl
@[simp] theorem State.setEntry_domains (s : State) (p e : Nat) (x : CacheEntry) : (s.setEntry p e x).domains = s.domains := rfl
@[simp] theorem State.setEntry_portsDown (s : State) (p e : Nat) (x : CacheEntry) : (s.setEntry p e x).portsDown = s.portsDown := rfl
@[simp] theorem State.setEntry_attest (s : State) (p e : Nat) (x : CacheEntry) : (s.setEntry p e x).attest = s.attest := rfl
@[simp] theorem State.setEntry_energisedAt (s : State) (p e : Nat) (x : CacheEntry) : (s.setEntry p e x).energisedAt = s.energisedAt := rfl

@[simp] theorem State.modRegion_mem (s : State) (r : Nat) (f : Region → Region) : (s.modRegion r f).mem = s.mem := rfl
@[simp] theorem State.modRegion_strands (s : State) (r : Nat) (f : Region → Region) : (s.modRegion r f).strands = s.strands := rfl
@[simp] theorem State.modRegion_vregs (s : State) (r : Nat) (f : Region → Region) : (s.modRegion r f).vregs = s.vregs := rfl
@[simp] theorem State.modRegion_pens (s : State) (r : Nat) (f : Region → Region) : (s.modRegion r f).pens = s.pens := rfl
@[simp] theorem State.modRegion_tiles (s : State) (r : Nat) (f : Region → Region) : (s.modRegion r f).tiles = s.tiles := rfl
@[simp] theorem State.modRegion_dies (s : State) (r : Nat) (f : Region → Region) : (s.modRegion r f).dies = s.dies := rfl
@[simp] theorem State.modRegion_rows (s : State) (r : Nat) (f : Region → Region) : (s.modRegion r f).rows = s.rows := rfl
@[simp] theorem State.modRegion_ops (s : State) (r : Nat) (f : Region → Region) : (s.modRegion r f).ops = s.ops := rfl
@[simp] theorem State.modRegion_posts (s : State) (r : Nat) (f : Region → Region) : (s.modRegion r f).posts = s.posts := rfl
@[simp] theorem State.modRegion_ticks (s : State) (r : Nat) (f : Region → Region) : (s.modRegion r f).ticks = s.ticks := rfl
@[simp] theorem State.modRegion_nextId (s : State) (r : Nat) (f : Region → Region) : (s.modRegion r f).nextId = s.nextId := rfl
@[simp] theorem State.modRegion_iss (s : State) (r : Nat) (f : Region → Region) : (s.modRegion r f).iss = s.iss := rfl
@[simp] theorem State.modRegion_agenda (s : State) (r : Nat) (f : Region → Region) : (s.modRegion r f).agenda = s.agenda := rfl
@[simp] theorem State.modRegion_answers (s : State) (r : Nat) (f : Region → Region) : (s.modRegion r f).answers = s.answers := rfl
@[simp] theorem State.modRegion_outbox (s : State) (r : Nat) (f : Region → Region) : (s.modRegion r f).outbox = s.outbox := rfl
@[simp] theorem State.modRegion_reports (s : State) (r : Nat) (f : Region → Region) : (s.modRegion r f).reports = s.reports := rfl
@[simp] theorem State.modRegion_policy (s : State) (r : Nat) (f : Region → Region) : (s.modRegion r f).policy = s.policy := rfl
@[simp] theorem State.modRegion_domains (s : State) (r : Nat) (f : Region → Region) : (s.modRegion r f).domains = s.domains := rfl
@[simp] theorem State.modRegion_portsDown (s : State) (r : Nat) (f : Region → Region) : (s.modRegion r f).portsDown = s.portsDown := rfl
@[simp] theorem State.modRegion_attest (s : State) (r : Nat) (f : Region → Region) : (s.modRegion r f).attest = s.attest := rfl
@[simp] theorem State.modRegion_energisedAt (s : State) (r : Nat) (f : Region → Region) : (s.modRegion r f).energisedAt = s.energisedAt := rfl

@[simp] theorem State.setBytes_strands (s : State) (k : Nat) (bs : List Byte) : (s.setBytes k bs).strands = s.strands := rfl
@[simp] theorem State.setBytes_vregs (s : State) (k : Nat) (bs : List Byte) : (s.setBytes k bs).vregs = s.vregs := rfl
@[simp] theorem State.setBytes_pens (s : State) (k : Nat) (bs : List Byte) : (s.setBytes k bs).pens = s.pens := rfl
@[simp] theorem State.setBytes_tiles (s : State) (k : Nat) (bs : List Byte) : (s.setBytes k bs).tiles = s.tiles := rfl
@[simp] theorem State.setBytes_dies (s : State) (k : Nat) (bs : List Byte) : (s.setBytes k bs).dies = s.dies := rfl
@[simp] theorem State.setBytes_rows (s : State) (k : Nat) (bs : List Byte) : (s.setBytes k bs).rows = s.rows := rfl
@[simp] theorem State.setBytes_regions (s : State) (k : Nat) (bs : List Byte) : (s.setBytes k bs).regions = s.regions := rfl
@[simp] theorem State.setBytes_ops (s : State) (k : Nat) (bs : List Byte) : (s.setBytes k bs).ops = s.ops := rfl
@[simp] theorem State.setBytes_posts (s : State) (k : Nat) (bs : List Byte) : (s.setBytes k bs).posts = s.posts := rfl
@[simp] theorem State.setBytes_ticks (s : State) (k : Nat) (bs : List Byte) : (s.setBytes k bs).ticks = s.ticks := rfl
@[simp] theorem State.setBytes_nextId (s : State) (k : Nat) (bs : List Byte) : (s.setBytes k bs).nextId = s.nextId := rfl
@[simp] theorem State.setBytes_iss (s : State) (k : Nat) (bs : List Byte) : (s.setBytes k bs).iss = s.iss := rfl
@[simp] theorem State.setBytes_agenda (s : State) (k : Nat) (bs : List Byte) : (s.setBytes k bs).agenda = s.agenda := rfl
@[simp] theorem State.setBytes_answers (s : State) (k : Nat) (bs : List Byte) : (s.setBytes k bs).answers = s.answers := rfl
@[simp] theorem State.setBytes_outbox (s : State) (k : Nat) (bs : List Byte) : (s.setBytes k bs).outbox = s.outbox := rfl
@[simp] theorem State.setBytes_reports (s : State) (k : Nat) (bs : List Byte) : (s.setBytes k bs).reports = s.reports := rfl
@[simp] theorem State.setBytes_policy (s : State) (k : Nat) (bs : List Byte) : (s.setBytes k bs).policy = s.policy := rfl
@[simp] theorem State.setBytes_domains (s : State) (k : Nat) (bs : List Byte) : (s.setBytes k bs).domains = s.domains := rfl
@[simp] theorem State.setBytes_portsDown (s : State) (k : Nat) (bs : List Byte) : (s.setBytes k bs).portsDown = s.portsDown := rfl
@[simp] theorem State.setBytes_attest (s : State) (k : Nat) (bs : List Byte) : (s.setBytes k bs).attest = s.attest := rfl
@[simp] theorem State.setBytes_energisedAt (s : State) (k : Nat) (bs : List Byte) : (s.setBytes k bs).energisedAt = s.energisedAt := rfl

@[simp] theorem State.fresh_mem (s : State) : (State.fresh s).mem = s.mem := rfl
@[simp] theorem State.fresh_strands (s : State) : (State.fresh s).strands = s.strands := rfl
@[simp] theorem State.fresh_vregs (s : State) : (State.fresh s).vregs = s.vregs := rfl
@[simp] theorem State.fresh_pens (s : State) : (State.fresh s).pens = s.pens := rfl
@[simp] theorem State.fresh_tiles (s : State) : (State.fresh s).tiles = s.tiles := rfl
@[simp] theorem State.fresh_dies (s : State) : (State.fresh s).dies = s.dies := rfl
@[simp] theorem State.fresh_rows (s : State) : (State.fresh s).rows = s.rows := rfl
@[simp] theorem State.fresh_regions (s : State) : (State.fresh s).regions = s.regions := rfl
@[simp] theorem State.fresh_ops (s : State) : (State.fresh s).ops = s.ops := rfl
@[simp] theorem State.fresh_posts (s : State) : (State.fresh s).posts = s.posts := rfl
@[simp] theorem State.fresh_ticks (s : State) : (State.fresh s).ticks = s.ticks := rfl
@[simp] theorem State.fresh_iss (s : State) : (State.fresh s).iss = s.iss := rfl
@[simp] theorem State.fresh_agenda (s : State) : (State.fresh s).agenda = s.agenda := rfl
@[simp] theorem State.fresh_answers (s : State) : (State.fresh s).answers = s.answers := rfl
@[simp] theorem State.fresh_outbox (s : State) : (State.fresh s).outbox = s.outbox := rfl
@[simp] theorem State.fresh_reports (s : State) : (State.fresh s).reports = s.reports := rfl
@[simp] theorem State.fresh_policy (s : State) : (State.fresh s).policy = s.policy := rfl
@[simp] theorem State.fresh_domains (s : State) : (State.fresh s).domains = s.domains := rfl
@[simp] theorem State.fresh_portsDown (s : State) : (State.fresh s).portsDown = s.portsDown := rfl
@[simp] theorem State.fresh_attest (s : State) : (State.fresh s).attest = s.attest := rfl
@[simp] theorem State.fresh_energisedAt (s : State) : (State.fresh s).energisedAt = s.energisedAt := rfl

@[simp] theorem State.setMe_mem (s : State) (x : Strand) : (s.setMe x).mem = s.mem := rfl
@[simp] theorem State.setMe_vregs (s : State) (x : Strand) : (s.setMe x).vregs = s.vregs := rfl
@[simp] theorem State.setMe_pens (s : State) (x : Strand) : (s.setMe x).pens = s.pens := rfl
@[simp] theorem State.setMe_tiles (s : State) (x : Strand) : (s.setMe x).tiles = s.tiles := rfl
@[simp] theorem State.setMe_dies (s : State) (x : Strand) : (s.setMe x).dies = s.dies := rfl
@[simp] theorem State.setMe_rows (s : State) (x : Strand) : (s.setMe x).rows = s.rows := rfl
@[simp] theorem State.setMe_regions (s : State) (x : Strand) : (s.setMe x).regions = s.regions := rfl
@[simp] theorem State.setMe_ops (s : State) (x : Strand) : (s.setMe x).ops = s.ops := rfl
@[simp] theorem State.setMe_posts (s : State) (x : Strand) : (s.setMe x).posts = s.posts := rfl
@[simp] theorem State.setMe_ticks (s : State) (x : Strand) : (s.setMe x).ticks = s.ticks := rfl
@[simp] theorem State.setMe_nextId (s : State) (x : Strand) : (s.setMe x).nextId = s.nextId := rfl
@[simp] theorem State.setMe_iss (s : State) (x : Strand) : (s.setMe x).iss = s.iss := rfl
@[simp] theorem State.setMe_agenda (s : State) (x : Strand) : (s.setMe x).agenda = s.agenda := rfl
@[simp] theorem State.setMe_answers (s : State) (x : Strand) : (s.setMe x).answers = s.answers := rfl
@[simp] theorem State.setMe_outbox (s : State) (x : Strand) : (s.setMe x).outbox = s.outbox := rfl
@[simp] theorem State.setMe_reports (s : State) (x : Strand) : (s.setMe x).reports = s.reports := rfl
@[simp] theorem State.setMe_policy (s : State) (x : Strand) : (s.setMe x).policy = s.policy := rfl
@[simp] theorem State.setMe_domains (s : State) (x : Strand) : (s.setMe x).domains = s.domains := rfl
@[simp] theorem State.setMe_portsDown (s : State) (x : Strand) : (s.setMe x).portsDown = s.portsDown := rfl
@[simp] theorem State.setMe_attest (s : State) (x : Strand) : (s.setMe x).attest = s.attest := rfl
@[simp] theorem State.setMe_energisedAt (s : State) (x : Strand) : (s.setMe x).energisedAt = s.energisedAt := rfl

@[simp] theorem State.setS_mem (s : State) (n : BitVec 5) (v : Word) : (s.setS n v).mem = s.mem := rfl
@[simp] theorem State.setS_vregs (s : State) (n : BitVec 5) (v : Word) : (s.setS n v).vregs = s.vregs := rfl
@[simp] theorem State.setS_pens (s : State) (n : BitVec 5) (v : Word) : (s.setS n v).pens = s.pens := rfl
@[simp] theorem State.setS_tiles (s : State) (n : BitVec 5) (v : Word) : (s.setS n v).tiles = s.tiles := rfl
@[simp] theorem State.setS_dies (s : State) (n : BitVec 5) (v : Word) : (s.setS n v).dies = s.dies := rfl
@[simp] theorem State.setS_rows (s : State) (n : BitVec 5) (v : Word) : (s.setS n v).rows = s.rows := rfl
@[simp] theorem State.setS_regions (s : State) (n : BitVec 5) (v : Word) : (s.setS n v).regions = s.regions := rfl
@[simp] theorem State.setS_ops (s : State) (n : BitVec 5) (v : Word) : (s.setS n v).ops = s.ops := rfl
@[simp] theorem State.setS_posts (s : State) (n : BitVec 5) (v : Word) : (s.setS n v).posts = s.posts := rfl
@[simp] theorem State.setS_ticks (s : State) (n : BitVec 5) (v : Word) : (s.setS n v).ticks = s.ticks := rfl
@[simp] theorem State.setS_nextId (s : State) (n : BitVec 5) (v : Word) : (s.setS n v).nextId = s.nextId := rfl
@[simp] theorem State.setS_iss (s : State) (n : BitVec 5) (v : Word) : (s.setS n v).iss = s.iss := rfl
@[simp] theorem State.setS_agenda (s : State) (n : BitVec 5) (v : Word) : (s.setS n v).agenda = s.agenda := rfl
@[simp] theorem State.setS_answers (s : State) (n : BitVec 5) (v : Word) : (s.setS n v).answers = s.answers := rfl
@[simp] theorem State.setS_outbox (s : State) (n : BitVec 5) (v : Word) : (s.setS n v).outbox = s.outbox := rfl
@[simp] theorem State.setS_reports (s : State) (n : BitVec 5) (v : Word) : (s.setS n v).reports = s.reports := rfl
@[simp] theorem State.setS_policy (s : State) (n : BitVec 5) (v : Word) : (s.setS n v).policy = s.policy := rfl
@[simp] theorem State.setS_domains (s : State) (n : BitVec 5) (v : Word) : (s.setS n v).domains = s.domains := rfl
@[simp] theorem State.setS_portsDown (s : State) (n : BitVec 5) (v : Word) : (s.setS n v).portsDown = s.portsDown := rfl
@[simp] theorem State.setS_attest (s : State) (n : BitVec 5) (v : Word) : (s.setS n v).attest = s.attest := rfl
@[simp] theorem State.setS_energisedAt (s : State) (n : BitVec 5) (v : Word) : (s.setS n v).energisedAt = s.energisedAt := rfl

@[simp] theorem State.vset_mem (s : State) (k v : Nat) (x : VReg) : (s.vset k v x).mem = s.mem := rfl
@[simp] theorem State.vset_strands (s : State) (k v : Nat) (x : VReg) : (s.vset k v x).strands = s.strands := rfl
@[simp] theorem State.vset_pens (s : State) (k v : Nat) (x : VReg) : (s.vset k v x).pens = s.pens := rfl
@[simp] theorem State.vset_tiles (s : State) (k v : Nat) (x : VReg) : (s.vset k v x).tiles = s.tiles := rfl
@[simp] theorem State.vset_dies (s : State) (k v : Nat) (x : VReg) : (s.vset k v x).dies = s.dies := rfl
@[simp] theorem State.vset_rows (s : State) (k v : Nat) (x : VReg) : (s.vset k v x).rows = s.rows := rfl
@[simp] theorem State.vset_regions (s : State) (k v : Nat) (x : VReg) : (s.vset k v x).regions = s.regions := rfl
@[simp] theorem State.vset_ops (s : State) (k v : Nat) (x : VReg) : (s.vset k v x).ops = s.ops := rfl
@[simp] theorem State.vset_posts (s : State) (k v : Nat) (x : VReg) : (s.vset k v x).posts = s.posts := rfl
@[simp] theorem State.vset_ticks (s : State) (k v : Nat) (x : VReg) : (s.vset k v x).ticks = s.ticks := rfl
@[simp] theorem State.vset_nextId (s : State) (k v : Nat) (x : VReg) : (s.vset k v x).nextId = s.nextId := rfl
@[simp] theorem State.vset_iss (s : State) (k v : Nat) (x : VReg) : (s.vset k v x).iss = s.iss := rfl
@[simp] theorem State.vset_agenda (s : State) (k v : Nat) (x : VReg) : (s.vset k v x).agenda = s.agenda := rfl
@[simp] theorem State.vset_answers (s : State) (k v : Nat) (x : VReg) : (s.vset k v x).answers = s.answers := rfl
@[simp] theorem State.vset_outbox (s : State) (k v : Nat) (x : VReg) : (s.vset k v x).outbox = s.outbox := rfl
@[simp] theorem State.vset_reports (s : State) (k v : Nat) (x : VReg) : (s.vset k v x).reports = s.reports := rfl
@[simp] theorem State.vset_policy (s : State) (k v : Nat) (x : VReg) : (s.vset k v x).policy = s.policy := rfl
@[simp] theorem State.vset_domains (s : State) (k v : Nat) (x : VReg) : (s.vset k v x).domains = s.domains := rfl
@[simp] theorem State.vset_portsDown (s : State) (k v : Nat) (x : VReg) : (s.vset k v x).portsDown = s.portsDown := rfl
@[simp] theorem State.vset_attest (s : State) (k v : Nat) (x : VReg) : (s.vset k v x).attest = s.attest := rfl
@[simp] theorem State.vset_energisedAt (s : State) (k v : Nat) (x : VReg) : (s.vset k v x).energisedAt = s.energisedAt := rfl

@[simp] theorem State.done_mem (s : State) : (s.done).mem = s.mem := rfl
@[simp] theorem State.done_vregs (s : State) : (s.done).vregs = s.vregs := rfl
@[simp] theorem State.done_pens (s : State) : (s.done).pens = s.pens := rfl
@[simp] theorem State.done_tiles (s : State) : (s.done).tiles = s.tiles := rfl
@[simp] theorem State.done_dies (s : State) : (s.done).dies = s.dies := rfl
@[simp] theorem State.done_rows (s : State) : (s.done).rows = s.rows := rfl
@[simp] theorem State.done_regions (s : State) : (s.done).regions = s.regions := rfl
@[simp] theorem State.done_ops (s : State) : (s.done).ops = s.ops := rfl
@[simp] theorem State.done_posts (s : State) : (s.done).posts = s.posts := rfl
@[simp] theorem State.done_ticks (s : State) : (s.done).ticks = s.ticks := rfl
@[simp] theorem State.done_nextId (s : State) : (s.done).nextId = s.nextId := rfl
@[simp] theorem State.done_agenda (s : State) : (s.done).agenda = s.agenda := rfl
@[simp] theorem State.done_answers (s : State) : (s.done).answers = s.answers := rfl
@[simp] theorem State.done_outbox (s : State) : (s.done).outbox = s.outbox := rfl
@[simp] theorem State.done_reports (s : State) : (s.done).reports = s.reports := rfl
@[simp] theorem State.done_policy (s : State) : (s.done).policy = s.policy := rfl
@[simp] theorem State.done_domains (s : State) : (s.done).domains = s.domains := rfl
@[simp] theorem State.done_portsDown (s : State) : (s.done).portsDown = s.portsDown := rfl
@[simp] theorem State.done_attest (s : State) : (s.done).attest = s.attest := rfl
@[simp] theorem State.done_energisedAt (s : State) : (s.done).energisedAt = s.energisedAt := rfl

@[simp] theorem State.goto_mem (s : State) (a : Word) : (s.goto a).mem = s.mem := rfl
@[simp] theorem State.goto_vregs (s : State) (a : Word) : (s.goto a).vregs = s.vregs := rfl
@[simp] theorem State.goto_pens (s : State) (a : Word) : (s.goto a).pens = s.pens := rfl
@[simp] theorem State.goto_tiles (s : State) (a : Word) : (s.goto a).tiles = s.tiles := rfl
@[simp] theorem State.goto_dies (s : State) (a : Word) : (s.goto a).dies = s.dies := rfl
@[simp] theorem State.goto_rows (s : State) (a : Word) : (s.goto a).rows = s.rows := rfl
@[simp] theorem State.goto_regions (s : State) (a : Word) : (s.goto a).regions = s.regions := rfl
@[simp] theorem State.goto_ops (s : State) (a : Word) : (s.goto a).ops = s.ops := rfl
@[simp] theorem State.goto_posts (s : State) (a : Word) : (s.goto a).posts = s.posts := rfl
@[simp] theorem State.goto_ticks (s : State) (a : Word) : (s.goto a).ticks = s.ticks := rfl
@[simp] theorem State.goto_nextId (s : State) (a : Word) : (s.goto a).nextId = s.nextId := rfl
@[simp] theorem State.goto_agenda (s : State) (a : Word) : (s.goto a).agenda = s.agenda := rfl
@[simp] theorem State.goto_answers (s : State) (a : Word) : (s.goto a).answers = s.answers := rfl
@[simp] theorem State.goto_outbox (s : State) (a : Word) : (s.goto a).outbox = s.outbox := rfl
@[simp] theorem State.goto_reports (s : State) (a : Word) : (s.goto a).reports = s.reports := rfl
@[simp] theorem State.goto_policy (s : State) (a : Word) : (s.goto a).policy = s.policy := rfl
@[simp] theorem State.goto_domains (s : State) (a : Word) : (s.goto a).domains = s.domains := rfl
@[simp] theorem State.goto_portsDown (s : State) (a : Word) : (s.goto a).portsDown = s.portsDown := rfl
@[simp] theorem State.goto_attest (s : State) (a : Word) : (s.goto a).attest = s.attest := rfl
@[simp] theorem State.goto_energisedAt (s : State) (a : Word) : (s.goto a).energisedAt = s.energisedAt := rfl

@[simp] theorem State.block_mem (s : State) : (s.block).mem = s.mem := rfl
@[simp] theorem State.block_strands (s : State) : (s.block).strands = s.strands := rfl
@[simp] theorem State.block_vregs (s : State) : (s.block).vregs = s.vregs := rfl
@[simp] theorem State.block_pens (s : State) : (s.block).pens = s.pens := rfl
@[simp] theorem State.block_tiles (s : State) : (s.block).tiles = s.tiles := rfl
@[simp] theorem State.block_dies (s : State) : (s.block).dies = s.dies := rfl
@[simp] theorem State.block_rows (s : State) : (s.block).rows = s.rows := rfl
@[simp] theorem State.block_regions (s : State) : (s.block).regions = s.regions := rfl
@[simp] theorem State.block_ops (s : State) : (s.block).ops = s.ops := rfl
@[simp] theorem State.block_posts (s : State) : (s.block).posts = s.posts := rfl
@[simp] theorem State.block_ticks (s : State) : (s.block).ticks = s.ticks := rfl
@[simp] theorem State.block_nextId (s : State) : (s.block).nextId = s.nextId := rfl
@[simp] theorem State.block_agenda (s : State) : (s.block).agenda = s.agenda := rfl
@[simp] theorem State.block_answers (s : State) : (s.block).answers = s.answers := rfl
@[simp] theorem State.block_outbox (s : State) : (s.block).outbox = s.outbox := rfl
@[simp] theorem State.block_reports (s : State) : (s.block).reports = s.reports := rfl
@[simp] theorem State.block_policy (s : State) : (s.block).policy = s.policy := rfl
@[simp] theorem State.block_domains (s : State) : (s.block).domains = s.domains := rfl
@[simp] theorem State.block_portsDown (s : State) : (s.block).portsDown = s.portsDown := rfl
@[simp] theorem State.block_attest (s : State) : (s.block).attest = s.attest := rfl
@[simp] theorem State.block_energisedAt (s : State) : (s.block).energisedAt = s.energisedAt := rfl

@[simp] theorem State.tellDomain_mem (s : State) (r w : Nat) : (s.tellDomain r w).mem = s.mem := rfl
@[simp] theorem State.tellDomain_strands (s : State) (r w : Nat) : (s.tellDomain r w).strands = s.strands := rfl
@[simp] theorem State.tellDomain_vregs (s : State) (r w : Nat) : (s.tellDomain r w).vregs = s.vregs := rfl
@[simp] theorem State.tellDomain_pens (s : State) (r w : Nat) : (s.tellDomain r w).pens = s.pens := rfl
@[simp] theorem State.tellDomain_tiles (s : State) (r w : Nat) : (s.tellDomain r w).tiles = s.tiles := rfl
@[simp] theorem State.tellDomain_dies (s : State) (r w : Nat) : (s.tellDomain r w).dies = s.dies := rfl
@[simp] theorem State.tellDomain_rows (s : State) (r w : Nat) : (s.tellDomain r w).rows = s.rows := rfl
@[simp] theorem State.tellDomain_regions (s : State) (r w : Nat) : (s.tellDomain r w).regions = s.regions := rfl
@[simp] theorem State.tellDomain_ops (s : State) (r w : Nat) : (s.tellDomain r w).ops = s.ops := rfl
@[simp] theorem State.tellDomain_posts (s : State) (r w : Nat) : (s.tellDomain r w).posts = s.posts := rfl
@[simp] theorem State.tellDomain_ticks (s : State) (r w : Nat) : (s.tellDomain r w).ticks = s.ticks := rfl
@[simp] theorem State.tellDomain_nextId (s : State) (r w : Nat) : (s.tellDomain r w).nextId = s.nextId := rfl
@[simp] theorem State.tellDomain_iss (s : State) (r w : Nat) : (s.tellDomain r w).iss = s.iss := rfl
@[simp] theorem State.tellDomain_agenda (s : State) (r w : Nat) : (s.tellDomain r w).agenda = s.agenda := rfl

/-! ## Reads after updates -/

@[simp] theorem State.strand_setStrand (s : State) (k : Nat) (x : Strand) : (s.setStrand k x).strand k = x := by
  simp [State.strand, State.setStrand]
theorem State.strand_setStrand_other (s : State) {k j : Nat} (x : Strand) (h : j ≠ k) : (s.setStrand k x).strand j = s.strand j := by
  simp [State.strand, State.setStrand, SMap.get_put_other _ _ _ h]
@[simp] theorem State.strand_modStrand (s : State) (k : Nat) (f : Strand → Strand) : (s.modStrand k f).strand k = f (s.strand k) := by
  simp [State.modStrand]
theorem State.strand_modStrand_other (s : State) {k j : Nat} (f : Strand → Strand) (h : j ≠ k) :
    (s.modStrand k f).strand j = s.strand j := s.strand_setStrand_other _ h
@[simp] theorem State.tile_setTile (s : State) (p : Nat) (x : Tile) : (s.setTile p x).tile p = x := by
  simp [State.tile, State.setTile]
theorem State.tile_setTile_other (s : State) {p q : Nat} (x : Tile) (h : q ≠ p) : (s.setTile p x).tile q = s.tile q := by
  simp [State.tile, State.setTile, SMap.get_put_other _ _ _ h]
@[simp] theorem State.tile_modTile (s : State) (p : Nat) (f : Tile → Tile) : (s.modTile p f).tile p = f (s.tile p) := by
  simp [State.modTile]
@[simp] theorem State.die_modDie (s : State) (d : Nat) (f : Die → Die) : (s.modDie d f).die d = f (s.die d) := by
  simp [State.modDie, State.setDie, State.die]
@[simp] theorem State.row_modRow (s : State) (r : Nat) (f : PowerRegion → PowerRegion) : (s.modRow r f).row r = f (s.row r) := by
  simp [State.modRow, State.row]
@[simp] theorem State.pen_setPen (s : State) (p i : Nat) (x : Pennant) : (s.setPen p i x).pen p i = x := by
  simp [State.pen, State.setPen]
@[simp] theorem State.entry_setEntry (s : State) (p e : Nat) (x : CacheEntry) : (s.setEntry p e x).entry p e = x := by
  simp [State.entry, State.setEntry]
theorem State.tile_modTile_other (s : State) {p q : Nat} (f : Tile → Tile) (h : q ≠ p) : (s.modTile p f).tile q = s.tile q :=
  s.tile_setTile_other _ h
theorem State.die_modDie_other (s : State) {d e : Nat} (f : Die → Die) (h : e ≠ d) : (s.modDie d f).die e = s.die e := by
  simp [State.modDie, State.setDie, State.die, SMap.get_put_other _ _ _ h]
theorem State.row_modRow_other (s : State) {r q : Nat} (f : PowerRegion → PowerRegion) (h : q ≠ r) : (s.modRow r f).row q = s.row q := by
  simp [State.modRow, State.row, SMap.get_put_other _ _ _ h]
theorem State.pen_setPen_other (s : State) {p i q j : Nat} (x : Pennant) (h : q * 64 + j ≠ p * 64 + i) : (s.setPen p i x).pen q j = s.pen q j := by
  simp [State.pen, State.setPen, SMap.get_put_other _ _ _ h]
theorem State.entry_setEntry_tile (s : State) {p q : Nat} (e f : Nat) (x : CacheEntry) (h : q ≠ p) :
    (s.setEntry p e x).entry q f = s.entry q f := by
  simp [State.entry, State.setEntry, State.tile_modTile_other _ _ h]
theorem State.entry_setEntry_other (s : State) (p : Nat) {e f : Nat} (x : CacheEntry) (h : f ≠ e) :
    (s.setEntry p e x).entry p f = s.entry p f := by
  simp [State.entry, State.setEntry, SMap.get_put_other _ _ _ h]
@[simp] theorem State.tile_modDie (s : State) (p d : Nat) (f : Die → Die) : (s.modDie d f).tile p = s.tile p := rfl
@[simp] theorem State.die_setTile (s : State) (p d : Nat) (x : Tile) : (s.setTile p x).die d = s.die d := rfl
@[simp] theorem State.die_modTile (s : State) (p d : Nat) (f : Tile → Tile) : (s.modTile p f).die d = s.die d := rfl
@[simp] theorem State.tile_modRow (s : State) (p r : Nat) (f : PowerRegion → PowerRegion) : (s.modRow r f).tile p = s.tile p := rfl
@[simp] theorem State.row_setTile (s : State) (p r : Nat) (x : Tile) : (s.setTile p x).row r = s.row r := rfl
@[simp] theorem State.row_modTile (s : State) (p r : Nat) (f : Tile → Tile) : (s.modTile p f).row r = s.row r := rfl
@[simp] theorem State.strand_modDie (s : State) (k d : Nat) (f : Die → Die) : (s.modDie d f).strand k = s.strand k := rfl
@[simp] theorem State.tile_modStrand (s : State) (k p : Nat) (f : Strand → Strand) : (s.modStrand k f).tile p = s.tile p := rfl
@[simp] theorem State.tile_setMe (s : State) (x : Strand) (p : Nat) : (s.setMe x).tile p = s.tile p := rfl
@[simp] theorem State.strand_setTile (s : State) (k p : Nat) (x : Tile) : (s.setTile p x).strand k = s.strand k := rfl
@[simp] theorem State.strand_modTile (s : State) (k p : Nat) (f : Tile → Tile) : (s.modTile p f).strand k = s.strand k := rfl
@[simp] theorem State.strand_modRegion (s : State) (k r : Nat) (f : Region → Region) : (s.modRegion r f).strand k = s.strand k := rfl
@[simp] theorem State.strand_fresh (s : State) (k : Nat) : (State.fresh s).strand k = s.strand k := rfl
@[simp] theorem State.strand_vset (s : State) (k j v : Nat) (x : VReg) : (s.vset j v x).strand k = s.strand k := rfl

/-! ## The issuing strand -/

@[simp] theorem State.setMe_key (s : State) (x : Strand) : (s.setMe x).key = s.key := rfl
@[simp] theorem State.setS_key (s : State) (n : BitVec 5) (v : Word) : (s.setS n v).key = s.key := rfl
@[simp] theorem State.done_key (s : State) : s.done.key = s.key := rfl
@[simp] theorem State.goto_key (s : State) (a : Word) : (s.goto a).key = s.key := rfl
@[simp] theorem State.block_key (s : State) : s.block.key = s.key := rfl
@[simp] theorem State.modStrand_key (s : State) (k : Nat) (f : Strand → Strand) : (s.modStrand k f).key = s.key := rfl
@[simp] theorem State.modTile_key (s : State) (k : Nat) (f : Tile → Tile) : (s.modTile k f).key = s.key := rfl
@[simp] theorem State.modRegion_key (s : State) (k : Nat) (f : Region → Region) : (s.modRegion k f).key = s.key := rfl
@[simp] theorem State.fresh_key (s : State) : (State.fresh s).key = s.key := rfl
@[simp] theorem State.vset_key (s : State) (k v : Nat) (x : VReg) : (s.vset k v x).key = s.key := rfl
@[simp] theorem State.me_setMe (s : State) (x : Strand) : (s.setMe x).me = x := s.strand_setStrand s.key x
@[simp] theorem State.me_setS (s : State) (n : BitVec 5) (v : Word) : (s.setS n v).me = s.me.setReg n v := by simp [State.setS]
@[simp] theorem State.me_done (s : State) : s.done.me = { s.me with pc := s.iss.next } := by
  have : s.done.me = (s.setMe { s.me with pc := s.iss.next }).me := rfl
  rw [this, State.me_setMe]
@[simp] theorem State.me_goto (s : State) (a : Word) : (s.goto a).me = { s.me with pc := a } := by
  have : (s.goto a).me = (s.setMe { s.me with pc := a }).me := rfl
  rw [this, State.me_setMe]
@[simp] theorem State.me_block (s : State) : s.block.me = s.me := rfl
@[simp] theorem State.done_res (s : State) : s.done.iss.res = .done := rfl
@[simp] theorem State.goto_res (s : State) (a : Word) : (s.goto a).iss.res = .done := rfl
@[simp] theorem State.block_res (s : State) : s.block.iss.res = .blocked := rfl
theorem State.strand_setMe_other (s : State) (x : Strand) {j : Nat} (h : j ≠ s.key) : (s.setMe x).strand j = s.strand j :=
  s.strand_setStrand_other x h
theorem State.strand_setS_other (s : State) (n : BitVec 5) (v : Word) {j : Nat} (h : j ≠ s.key) :
    (s.setS n v).strand j = s.strand j := s.strand_setStrand_other _ h
theorem State.strand_done_other (s : State) {j : Nat} (h : j ≠ s.key) : s.done.strand j = s.strand j :=
  s.strand_setStrand_other _ h
theorem State.strand_goto_other (s : State) (a : Word) {j : Nat} (h : j ≠ s.key) : (s.goto a).strand j = s.strand j :=
  s.strand_setStrand_other _ h

/-! ## Pennants and reports (R181, R380) -/

@[simp] theorem State.writePen_mem (s : State) (pt i : Nat) (p : Pennant) : (s.writePen pt i p).mem = s.mem := rfl
@[simp] theorem State.writePen_strands (s : State) (pt i : Nat) (p : Pennant) : (s.writePen pt i p).strands = s.strands := rfl
@[simp] theorem State.writePen_ops (s : State) (pt i : Nat) (p : Pennant) : (s.writePen pt i p).ops = s.ops := rfl
@[simp] theorem State.writePen_regions (s : State) (pt i : Nat) (p : Pennant) : (s.writePen pt i p).regions = s.regions := rfl
/-- A pennant written holds what was written, and every other keeps what it held. -/
theorem State.pen_writePen (s : State) (pt i j : Nat) (p : Pennant) :
    (s.writePen pt i p).pen pt j = if j = i then p else s.pen pt j := by
  have h : (s.writePen pt i p).pen pt j = (s.setPen pt i p).pen pt j := rfl
  rw [h]
  by_cases hj : j = i
  · simp [hj, State.pen, State.setPen]
  · simp [hj, State.pen, State.setPen, SMap.get_put_other _ _ _ (show pt * 64 + j ≠ pt * 64 + i by omega)]
@[simp] theorem State.report_mem (s : State) (rcb w : Nat) : (s.report rcb w).mem = s.mem := rfl
@[simp] theorem State.report_reports (s : State) (rcb w : Nat) : (s.report rcb w).reports = s.reports ++ [(rcb, w)] := rfl
@[simp] theorem State.report_answers (s : State) (rcb w : Nat) : (s.report rcb w).answers = s.answers := rfl
@[simp] theorem State.report_outbox (s : State) (rcb w : Nat) : (s.report rcb w).outbox = s.outbox ++ [[0, rcb, w]] := rfl
@[simp] theorem State.startTest_mem (s : State) (d : Nat) (u : FaultUnit) : (s.startTest d u).mem = s.mem := rfl

/-! ## Registers of a strand (R94, R142) -/

@[simp] theorem Strand.reg_zero (x : Strand) : x.reg 0 = 0 := rfl
@[simp] theorem Strand.setReg_zero (x : Strand) (v : Word) : x.setReg 0 v = x := rfl
theorem Strand.reg_setReg_self (x : Strand) (n : BitVec 5) (v : Word) : (x.setReg n v).reg n = if n = 0 then 0 else v := by
  unfold Strand.reg Strand.setReg
  split <;> simp
theorem Strand.reg_setReg_other (x : Strand) {n j : BitVec 5} (v : Word) (h : j ≠ n) : (x.setReg n v).reg j = x.reg j := by
  have hne : n.toNat ≠ j.toNat := fun e => h (BitVec.eq_of_toNat_eq e.symm)
  unfold Strand.reg Strand.setReg
  split
  · rfl
  · split <;> simp [hne]
theorem Strand.setReg_s (x : Strand) (n : BitVec 5) (v : Word) : x.setReg n v = { x with s := (x.setReg n v).s } := by
  unfold Strand.setReg
  split <;> rfl
theorem Strand.mask_setMask_self (x : Strand) (n : BitVec 3) (v : Word) :
    (x.setMask n v).mask n = if n = 0 then BitVec.allOnes 64 else v := by
  unfold Strand.mask Strand.setMask
  split <;> simp
theorem Strand.mask_setMask_other (x : Strand) {n j : BitVec 3} (v : Word) (h : j ≠ n) : (x.setMask n v).mask j = x.mask j := by
  have hne : n.toNat ≠ j.toNat := fun e => h (BitVec.eq_of_toNat_eq e.symm)
  unfold Strand.mask Strand.setMask
  split
  · rfl
  · split <;> simp [hne]

end Sys2Proof.Machine
end

