-- ==== Sys2Proof/Laws/FrameWords.lean ====
section
/-!
SUPPORT. What the operations and the meanings of words leave alone: memory. A word changes no byte of memory when it
issues; its parts do, each when its home performs it (R337). `X_mem` says it of an operation, `execX_mem` of a meaning.
-/
namespace Sys2Proof.Machine

/-! ## Ops -/

/-- The memory of a next state. -/
def outMem (o : Host.Outcome State Fault Refusal) (m : List Host.Cell) : List Host.Cell := match o with | .next t => t.mem | _ => m
@[simp] theorem outMem_next (t : State) (m : List Host.Cell) : outMem (.next t) m = t.mem := rfl
@[simp] theorem foldl_mem {α : Type} (f : State → α → State) (hf : ∀ t a, (f t a).mem = t.mem) (l : List α) (s : State) :
    (l.foldl f s).mem = s.mem := by
  induction l generalizing s with
  | nil => rfl
  | cons a r ih => rw [List.foldl_cons, ih, hf]

@[simp] theorem State.setDie_mem (s : State) (d : Nat) (x : Die) : (State.setDie s d x).mem = s.mem := rfl
@[simp] theorem State.setGridEntry_mem (s : State) (pt e : Nat) (x : GridEntry) : (State.setGridEntry s pt e x).mem = s.mem := rfl
@[simp] theorem State.rearm_mem (s : State) (key : Nat) : (State.rearm s key).mem = s.mem := rfl
@[simp] theorem State.startEvict_mem (s : State) (key e reason cause : Nat) (oid : Option Nat) : (State.startEvict s key e reason cause oid).mem = s.mem := rfl
@[simp] theorem State.bump_mem (s : State) (d : Nat) (i : Fin 11) : (State.bump s d i).mem = s.mem := rfl
@[simp] theorem State.tellError_mem (s : State) (d : Nat) (u : FaultUnit) (rcb what : Nat) : (State.tellError s d u rcb what).mem = s.mem := rfl
@[simp] theorem State.trapEvict_mem (s : State) (key reason cause : Nat) : (State.trapEvict s key reason cause).mem = s.mem := by
  unfold State.trapEvict
  (repeat' split) <;> simp
@[simp] theorem State.trapAt_mem (s : State) (key : Nat) (a : Word) (cause : BitVec 6) (xpc xval : Word) : (State.trapAt s key a cause xpc xval).mem = s.mem := by
  unfold State.trapAt
  dsimp only
  (repeat' split) <;> simp
@[simp] theorem State.trapWith_mem (s : State) (cause : BitVec 6) (xpc xval : Word) : (State.trapWith s cause xpc xval).mem = s.mem := by simp [State.trapWith]
@[simp] theorem State.trap_mem (s : State) (cause : BitVec 6) (xval : Word) : (State.trap s cause xval).mem = s.mem := by simp [State.trap]
@[simp] theorem State.eret_mem (s : State) : (State.eret s).mem = s.mem := rfl
@[simp] theorem State.addCount_mem (s : State) (key : Nat) (c : Cls) : (State.addCount s key c).mem = s.mem := rfl
@[simp] theorem State.subCount_mem (s : State) (key : Nat) (c : Cls) : (State.subCount s key c).mem = s.mem := rfl
@[simp] theorem State.touch_mem (s : State) (key : Nat) : (State.touch s key).mem = s.mem := rfl

/-! ## Mem -/

@[simp] theorem State.postAll_mem (proto : Part) (l : List (Home × Act)) : ∀ s : State, (s.postAll proto l).mem = s.mem := by
  induction l with
  | nil => intro s; rfl
  | cons a r ih => intro s; rw [State.postAll, ih]; rfl
@[simp] theorem State.access_mem (s : State) (a : Access) (eff : Land → State) (h : ∀ l, (eff l).mem = s.mem) :
    (s.access a eff).mem = s.mem := by
  unfold State.access
  split
  · exact State.trap_mem s _ _
  · exact h _

@[simp] theorem State.post_mem (s : State) (p : Part) : (State.post s p).mem = s.mem := rfl
@[simp] theorem State.issueOp_mem (s : State) (op : Op) (cls : Nat) (ord : Ord) (lane : Nat) (root : Nat) (write : Bool) (parts : List (Home × Act)) : (State.issueOp s op cls ord lane root write parts).mem = s.mem := by
  unfold State.issueOp
  dsimp only
  (repeat' split) <;> simp
@[simp] theorem State.pruneGates_mem (s : State) (key : Nat) : (State.pruneGates s key).mem = s.mem := rfl
@[simp] theorem State.issueLoad_mem (s : State) (l : Land) (pieces : List (Int × Nat)) (n : Nat) (fin : Ending) (addr : Word) (ord : Ord) : (State.issueLoad s l pieces n fin addr ord).mem = s.mem := by simp [State.issueLoad]
@[simp] theorem State.issueStore_mem (s : State) (l : Land) (pieces : List (Int × Nat)) (bs : List Byte) (ord : Ord) : (State.issueStore s l pieces bs ord).mem = s.mem := by simp [State.issueStore]
@[simp] theorem State.issueCross_mem (s : State) (chip cp : Nat) (kind n : Nat) (sx : Bool) (cls : Nat) (args : List Nat) (ord : Ord)
    (oid : Option Nat) : (State.issueCross s chip cp kind n sx cls args ord oid).mem = s.mem := by
  unfold State.issueCross
  (repeat' split) <;> simp

/-! ## LoadStore -/

@[simp] theorem State.ldScalar_mem (s : State) (t : BitVec 5) (p : Word) (o : Int) (w : BitVec 2) (sx : Bool) (ord : Ord) (plain : Bool) : (State.ldScalar s t p o w sx ord plain).mem = s.mem := by
  unfold State.ldScalar
  dsimp only
  apply State.access_mem
  intro l
  (repeat' split) <;> simp
@[simp] theorem State.stScalar_mem (s : State) (t : BitVec 5) (p : Word) (o : Int) (w : BitVec 2) (ord : Ord) (plain : Bool) : (State.stScalar s t p o w ord plain).mem = s.mem := by
  unfold State.stScalar
  dsimp only
  apply State.access_mem
  intro l
  (repeat' split) <;> simp
@[simp] theorem execLd_mem (t b : BitVec 5) (w : BitVec 2) (x : BitVec 1) (d : BitVec 11) (s : State) : outMem (execLd t b w x d s) s.mem = s.mem := by simp [execLd]
@[simp] theorem execLdIndex_mem (t b x : BitVec 5) (w : BitVec 2) (sx : BitVec 1) (d : BitVec 6) (s : State) : outMem (execLdIndex t b x w sx d s) s.mem = s.mem := by simp [execLdIndex]
@[simp] theorem execLdAcq_mem (t b : BitVec 5) (w : BitVec 2) (x : BitVec 1) (g : BitVec 5) (s : State) : outMem (execLdAcq t b w x g s) s.mem = s.mem := by simp [execLdAcq]
@[simp] theorem execSt_mem (t b : BitVec 5) (w : BitVec 2) (d : BitVec 11) (s : State) : outMem (execSt t b w d s) s.mem = s.mem := by simp [execSt]
@[simp] theorem execStIndex_mem (t b x : BitVec 5) (w : BitVec 2) (d : BitVec 6) (s : State) : outMem (execStIndex t b x w d s) s.mem = s.mem := by simp [execStIndex]
@[simp] theorem execStRel_mem (t b : BitVec 5) (w : BitVec 2) (g : BitVec 5) (s : State) : outMem (execStRel t b w g s) s.mem = s.mem := by simp [execStRel]
@[simp] theorem State.ldVec_mem (s : State) (v : BitVec 7) (p : Word) (o : Int) (pieces : List (Int × Nat)) : (State.ldVec s v p o pieces).mem = s.mem := by
  unfold State.ldVec
  apply State.access_mem
  intro l
  split <;> simp
@[simp] theorem State.stVec_mem (s : State) (bs : List Byte) (p : Word) (o : Int) (pieces : List (Int × Nat)) : (State.stVec s bs p o pieces).mem = s.mem := by
  unfold State.stVec
  apply State.access_mem
  intro l
  split <;> simp
@[simp] theorem execLdv_mem (v : BitVec 7) (b x : BitVec 5) (d : BitVec 7) (s : State) : outMem (execLdv v b x d s) s.mem = s.mem := by simp [execLdv]
@[simp] theorem execStv_mem (v : BitVec 7) (b x : BitVec 5) (d : BitVec 7) (s : State) : outMem (execStv v b x d s) s.mem = s.mem := by simp [execStv]
@[simp] theorem execLdvs_mem (v : BitVec 7) (b r : BitVec 5) (w : BitVec 2) (s : State) : outMem (execLdvs v b r w s) s.mem = s.mem := by simp [execLdvs]
@[simp] theorem execStvs_mem (v : BitVec 7) (b r : BitVec 5) (w : BitVec 2) (s : State) : outMem (execStvs v b r w s) s.mem = s.mem := by simp [execStvs]
@[simp] theorem execLdvx_mem (v : BitVec 7) (b : BitVec 5) (i : BitVec 7) (w : BitVec 2) (s : State) : outMem (execLdvx v b i w s) s.mem = s.mem := by simp [execLdvx]
@[simp] theorem execStvx_mem (v : BitVec 7) (b : BitVec 5) (i : BitVec 7) (w : BitVec 2) (s : State) : outMem (execStvx v b i w s) s.mem = s.mem := by simp [execStvx]
/-- A PFX that starts no translation. -/
theorem execPfx_mem (b x : BitVec 5) (d : BitVec 14) (s : State) (h : s.iss.fetch = false) : outMem (execPfx b x d s) s.mem = s.mem := by
  simp [execPfx, h]
@[simp] theorem State.issuePlain_mem (s : State) (c : Cls) (fin : Ending) (cls n : Nat) (parts : List (Home × Act)) : (State.issuePlain s c fin cls n parts).mem = s.mem := by simp [State.issuePlain]
@[simp] theorem execSegld_mem (g : BitVec 3) (a : BitVec 5) (s : State) : outMem (execSegld g a s) s.mem = s.mem := by
  unfold execSegld
  dsimp only
  (repeat' split) <;> simp
@[simp] theorem execSegst_mem (g : BitVec 3) (a : BitVec 5) (s : State) : outMem (execSegst g a s) s.mem = s.mem := by
  unfold execSegst
  dsimp only
  (repeat' split) <;> simp

/-! ## Atomics -/

@[simp] theorem State.atomicOp_mem (s : State) (major : Nat) (d b v : BitVec 5) (ty : BitVec 2) (o : BitVec 2) (g : BitVec 5) : (State.atomicOp s major d b v ty o g).mem = s.mem := by
  unfold State.atomicOp
  dsimp only
  apply State.access_mem
  intro l
  (repeat' split) <;> simp
@[simp] theorem execAadd_mem (d b v : BitVec 5) (y o : BitVec 2) (g : BitVec 5) (s : State) : outMem (execAadd d b v y o g s) s.mem = s.mem := by simp [execAadd]
@[simp] theorem execAmin_mem (d b v : BitVec 5) (y o : BitVec 2) (g : BitVec 5) (s : State) : outMem (execAmin d b v y o g s) s.mem = s.mem := by simp [execAmin]
@[simp] theorem execAmax_mem (d b v : BitVec 5) (y o : BitVec 2) (g : BitVec 5) (s : State) : outMem (execAmax d b v y o g s) s.mem = s.mem := by simp [execAmax]
@[simp] theorem execAfmax_mem (d b v : BitVec 5) (y o : BitVec 2) (g : BitVec 5) (s : State) : outMem (execAfmax d b v y o g s) s.mem = s.mem := by simp [execAfmax]
@[simp] theorem execAand_mem (d b v : BitVec 5) (y o : BitVec 2) (g : BitVec 5) (s : State) : outMem (execAand d b v y o g s) s.mem = s.mem := by simp [execAand]
@[simp] theorem execAor_mem (d b v : BitVec 5) (y o : BitVec 2) (g : BitVec 5) (s : State) : outMem (execAor d b v y o g s) s.mem = s.mem := by simp [execAor]
@[simp] theorem execAxor_mem (d b v : BitVec 5) (y o : BitVec 2) (g : BitVec 5) (s : State) : outMem (execAxor d b v y o g s) s.mem = s.mem := by simp [execAxor]
@[simp] theorem execAswp_mem (d b v : BitVec 5) (y o : BitVec 2) (g : BitVec 5) (s : State) : outMem (execAswp d b v y o g s) s.mem = s.mem := by simp [execAswp]
@[simp] theorem execAcas_mem (d b v : BitVec 5) (y o : BitVec 2) (g : BitVec 5) (s : State) : outMem (execAcas d b v y o g s) s.mem = s.mem := by simp [execAcas]

/-! ## Copies -/

@[simp] theorem State.issueEngine_mem (s : State) (op : Op) (c : Option Cls) (party : Party) (home : Home) (write : Bool) (root : Nat)
    (parts : List (Home × Act × List Gate × Nat)) : (s.issueEngine op c party home write root parts).mem = s.mem := by
  unfold State.issueEngine
  dsimp only
  split
  · rw [State.addCount_mem]
    apply Eq.trans (foldl_mem _ ?_ _ _) rfl
    intros; rfl
  · apply Eq.trans (foldl_mem _ ?_ _ _) rfl
    intros; rfl

@[simp] theorem State.copyOp_mem (s : State) (pd pa : Word) (src dst : List (Int × Nat)) (single : Bool) (cp : BitVec 6) (cpe : BitVec 1) : (State.copyOp s pd pa src dst single cp cpe).mem = s.mem := by
  unfold State.copyOp
  apply State.access_mem
  intro l
  apply State.access_mem
  intro l'
  dsimp only
  (repeat' split) <;> simp
@[simp] theorem execCpy_mem (d a n : BitVec 5) (p : BitVec 6) (e : BitVec 1) (s : State) : outMem (execCpy d a n p e s) s.mem = s.mem := by simp [execCpy]
@[simp] theorem execCpys_mem (d a n : BitVec 5) (p : BitVec 6) (e : BitVec 1) (s : State) : outMem (execCpys d a n p e s) s.mem = s.mem := by simp [execCpys]
@[simp] theorem execFill_mem (d v n : BitVec 5) (w : BitVec 2) (c : BitVec 6) (e : BitVec 1) (s : State) : outMem (execFill d v n w c e s) s.mem = s.mem := by
  unfold execFill
  apply State.access_mem
  intro l
  split <;> simp

/-! ## Pennants -/

@[simp] theorem State.penRemote_mem (s : State) (c : Cls) (fin : Ending) (res res2 : Word) (cls : Nat) (ord : Ord)
    (parts : List (Home × Act)) : (s.penRemote c fin res res2 cls ord parts).mem = s.mem := by
  unfold State.penRemote
  dsimp only
  (repeat' split) <;> simp
@[simp] theorem State.sample_mem (s : State) (x : BitVec 1) (t : BitVec 6) (o : BitVec 2) (g : BitVec 5) (kind : Nat) (expect : BitVec 32)
    (put : State → Word × Word → State) (fin : Ending) (hp : ∀ r, (put s r).mem = s.mem) :
    (s.sample x t o g kind expect put fin).mem = s.mem := by
  unfold State.sample
  dsimp only
  (repeat' split) <;> simp [hp]

@[simp] theorem State.localWrite_mem (s : State) (idx : Nat) (act : PenAct) (e : Option (BitVec 5)) (oid : Option Nat) : (State.localWrite s idx act e oid).mem = s.mem := rfl
@[simp] theorem execPwr_mem (x : BitVec 1) (v : BitVec 5) (t : BitVec 6) (o : BitVec 2) (g : BitVec 5) (s : State) : outMem (execPwr x v t o g s) s.mem = s.mem := by
  unfold execPwr
  dsimp only
  (repeat' split) <;> simp
@[simp] theorem execPrd_mem (x : BitVec 1) (e f : BitVec 5) (t : BitVec 6) (o : BitVec 2) (g : BitVec 5) (s : State) : outMem (execPrd x e f t o g s) s.mem = s.mem := by
  unfold execPrd
  exact State.sample_mem _ _ _ _ _ _ _ _ _ (fun _ => rfl)
@[simp] theorem execPsame_mem (x : BitVec 1) (e f : BitVec 5) (t : BitVec 6) (o : BitVec 2) (g : BitVec 5) (s : State) : outMem (execPsame x e f t o g s) s.mem = s.mem := by
  unfold execPsame
  exact State.sample_mem _ _ _ _ _ _ _ _ _ (fun _ => rfl)
@[simp] theorem execPstamp_mem (x : BitVec 1) (e : BitVec 5) (t : BitVec 6) (o : BitVec 2) (g : BitVec 5) (s : State) : outMem (execPstamp x e t o g s) s.mem = s.mem := by
  unfold execPstamp
  exact State.sample_mem _ _ _ _ _ _ _ _ _ (fun _ => rfl)
@[simp] theorem execPadd_mem (x : BitVec 1) (e f : BitVec 5) (t : BitVec 6) (o : BitVec 2) (g : BitVec 5) (s : State) : outMem (execPadd x e f t o g s) s.mem = s.mem := by
  unfold execPadd
  dsimp only
  (repeat' split) <;> simp
@[simp] theorem execPmc_mem (b : BitVec 6) (v : BitVec 5) (o : BitVec 2) (g : BitVec 5) (s : State) : outMem (execPmc b v o g s) s.mem = s.mem := by
  unfold execPmc
  (repeat' split) <;> simp
@[simp] theorem execPclr_mem (a : BitVec 5) (s : State) : outMem (execPclr a s) s.mem = s.mem := by
  unfold execPclr
  (repeat' split) <;> simp

/-! ## Walk -/

@[simp] theorem State.raiseEvent_mem (s : State) (pt : Nat) (w : Word) : (s.raiseEvent pt w).mem = s.mem := rfl
@[simp] theorem State.raiseFault_mem (s : State) (pt slot va : Nat) : (State.raiseFault s pt slot va).mem = s.mem := rfl
@[simp] theorem State.raiseEviction_mem (s : State) (pt e slot reason cause : Nat) : (State.raiseEviction s pt e slot reason cause).mem = s.mem := rfl
@[simp] theorem State.raiseDroop_mem (s : State) (pt row : Nat) : (State.raiseDroop s pt row).mem = s.mem := rfl
@[simp] theorem State.raiseDrift_mem (s : State) (pt : Nat) : (State.raiseDrift s pt).mem = s.mem := rfl
@[simp] theorem State.raiseTimeout_mem (s : State) (pt slot cp : Nat) : (State.raiseTimeout s pt slot cp).mem = s.mem := rfl
@[simp] theorem State.replay_mem (s : State) (p : Party) : (State.replay s p).mem = s.mem := by
  unfold State.replay
  (repeat' split) <;> simp
@[simp] theorem State.enterHold_mem (s : State) (key : Nat) (h : Hold) : (State.enterHold s key h).mem = s.mem := by
  unfold State.enterHold
  (repeat' split) <;> simp

/-! ## System -/

@[simp] theorem State.waitFor_mem (s : State) (l : BitVec 24) (h : Hold) (f : State → State) (hf : ∀ t, (f t).mem = t.mem) :
    (s.waitFor l h f).mem = s.mem := by
  unfold State.waitFor
  (repeat' split) <;> simp [hf]

@[simp] theorem execSysr_mem (d : BitVec 5) (n : BitVec 12) (s : State) : outMem (execSysr d n s) s.mem = s.mem := rfl
@[simp] theorem State.writeSysreg_mem (s : State) (n : Nat) (v : Word) : (State.writeSysreg s n v).mem = s.mem := by
  unfold State.writeSysreg
  (repeat' split) <;> simp
@[simp] theorem execSysw_mem (a : BitVec 5) (n : BitVec 12) (s : State) : outMem (execSysw a n s) s.mem = s.mem := by
  unfold execSysw
  (repeat' split) <;> simp
@[simp] theorem execSyswPer_mem (a : BitVec 5) (s : State) : outMem (execSyswPer a s) s.mem = s.mem := by
  unfold execSyswPer
  dsimp only
  (repeat' split) <;> simp
@[simp] theorem execSyswPph_mem (a : BitVec 5) (s : State) : outMem (execSyswPph a s) s.mem = s.mem := by
  unfold execSyswPph
  dsimp only
  (repeat' split) <;> simp
@[simp] theorem execSyswFcsr_mem (a : BitVec 5) (s : State) : outMem (execSyswFcsr a s) s.mem = s.mem := rfl
@[simp] theorem execTqry_mem (d a : BitVec 5) (s : State) : outMem (execTqry d a s) s.mem = s.mem := rfl
@[simp] theorem execEvack_mem (a : BitVec 5) (s : State) : outMem (execEvack a s) s.mem = s.mem := by
  unfold execEvack
  dsimp only
  (repeat' split) <;> simp
@[simp] theorem execWait_mem (a b c d : BitVec 6) (s : State) : outMem (execWait a b c d s) s.mem = s.mem := by
  unfold execWait
  exact State.waitFor_mem _ _ _ _ (fun _ => rfl)
@[simp] theorem execHalt_mem (s : State) : outMem (execHalt s) s.mem = s.mem := by
  unfold execHalt
  exact State.waitFor_mem _ _ _ _ (fun _ => rfl)
@[simp] theorem execFence_mem (o : BitVec 3) (g : BitVec 5) (set : BitVec 4) (s : State) : outMem (execFence o g set s) s.mem = s.mem := by
  unfold execFence
  dsimp only
  (repeat' split) <;> simp

/-! ## Context -/

@[simp] theorem State.issueLocal_mem (s : State) (c : Cls) (fin : Ending) (res : Word) : (State.issueLocal s c fin res).mem = s.mem := rfl
@[simp] theorem execEvict_mem (d a : BitVec 5) (s : State) : outMem (execEvict d a s) s.mem = s.mem := by
  unfold execEvict
  dsimp only
  (repeat' split) <;> simp
@[simp] theorem State.rekey_mem (s : State) (p q : Party) : (State.rekey s p q).mem = s.mem := rfl
@[simp] theorem State.resumeInto_mem (s : State) (pt e slot : Nat) : (State.resumeInto s pt e slot).mem = s.mem := rfl
@[simp] theorem execResume_mem (d a : BitVec 5) (s : State) : outMem (execResume d a s) s.mem = s.mem := by
  unfold execResume
  dsimp only
  (repeat' split) <;> simp
@[simp] theorem execCtxsv_mem (a b : BitVec 5) (s : State) : outMem (execCtxsv a b s) s.mem = s.mem := by
  unfold execCtxsv
  dsimp only
  simp only [outMem_next]
  (repeat' split) <;> (try simp) <;> (apply State.access_mem; intro l; (repeat' split) <;> simp)
@[simp] theorem execCtxld_mem (a b : BitVec 5) (s : State) : outMem (execCtxld a b s) s.mem = s.mem := by
  unfold execCtxld
  simp only [outMem_next]
  split
  · simp
  · split
    · simp
    · apply State.access_mem
      intro l
      apply State.access_mem
      intro l'
      split <;> simp

/-! ## Grids -/

theorem State.takeGrid_mem {s : State} {pt rcb id : Nat} {d : GridDesc} {t : State} {e : Nat} (h : s.takeGrid pt rcb id d = some (t, e)) :
    t.mem = s.mem := by
  unfold State.takeGrid at h
  (repeat' split at h) <;> cases h <;> rfl

@[simp] theorem execGbind_mem (g : BitVec 3) (a : BitVec 5) (s : State) : outMem (execGbind g a s) s.mem = s.mem := by
  unfold execGbind
  apply State.access_mem
  intro l
  dsimp only
  split <;> (apply State.access_mem; intro l; simp)
@[simp] theorem State.gridLoad_mem (s : State) (g : BitVec 3) (cw step : Word) (n : Nat → Nat) (chk : Option (BitVec 5)) (fin : Nat → Word → Bool → Ending) : (State.gridLoad s g cw step n chk fin).mem = s.mem := by
  unfold State.gridLoad
  dsimp only
  (repeat' split) <;> simp
@[simp] theorem execGld_mem (d c r : BitVec 5) (g : BitVec 3) (k : BitVec 1) (s : State) : outMem (execGld d c r g k s) s.mem = s.mem := by simp [execGld]
@[simp] theorem execGldv_mem (v : BitVec 7) (c r : BitVec 5) (g : BitVec 3) (k : BitVec 1) (s : State) : outMem (execGldv v c r g k s) s.mem = s.mem := by simp [execGldv]
@[simp] theorem execGst_mem (d c : BitVec 5) (g : BitVec 3) (s : State) : outMem (execGst d c g s) s.mem = s.mem := by
  unfold execGst
  dsimp only
  (repeat' split) <;> simp
@[simp] theorem execGstep_mem (g : BitVec 3) (a : BitVec 5) (s : State) : outMem (execGstep g a s) s.mem = s.mem := by
  unfold execGstep
  dsimp only
  (repeat' split) <;> simp
@[simp] theorem execGqry_mem (d : BitVec 5) (g : BitVec 3) (b : BitVec 5) (s : State) : outMem (execGqry d g b s) s.mem = s.mem := by
  unfold execGqry
  dsimp only
  (repeat' split) <;> simp

/-! ## TileOps -/

@[simp] theorem State.gridMap_mem (s : State) (k : Nat) (f : Nat → Nat → Nat → Nat × Flags) : (s.gridMap k f).1.mem = s.mem := by
  unfold State.gridMap
  dsimp only
  apply Eq.trans (foldl_mem _ ?_ _ _) rfl
  intros; rfl
@[simp] theorem State.applyMop_mem (s : State) (o : TileOp) (neg : Bool) (mf : Nat) (a b : VReg) (qa qb : Wide) (kc : Nat) :
    (s.applyMop o neg mf a b qa qb kc).1.mem = s.mem := by
  unfold State.applyMop
  dsimp only
  exact s.gridMap_mem _ _

@[simp] theorem State.raiseFor_mem (s : State) (key : Nat) (f : Flags) : (State.raiseFor s key f).mem = s.mem := rfl
@[simp] theorem State.tocDone_mem (s : State) (key : Nat) : (State.tocDone s key).mem = s.mem := rfl
@[simp] theorem State.modOp_mem (s : State) (oid : Nat) (f : Op → Op) : (State.modOp s oid f).mem = s.mem := rfl
@[simp] theorem State.raiseTile_mem (s : State) (key : Nat) (f : Flags) : (State.raiseTile s key f).mem = s.mem := rfl
@[simp] theorem State.applyTile_mem (s : State) (o : TileOp) : (State.applyTile s o).mem = s.mem := by
  unfold State.applyTile
  dsimp only
  have h : ∀ (k v : Nat) (l : List Nat) (f : Nat → VReg) (t : State), (l.foldl (fun (t : State) r => t.vset k (v + r) (f r)) t).mem = t.mem :=
    fun k v l f t => by
      apply foldl_mem
      intros; rfl
  split
  · simp
  · simp
  · simp
  · simp
  · split
    · simp [h]
    · split <;> simp [h]
  · simp
@[simp] theorem State.applyTiles_mem (s : State) (key : Nat) (n : Nat) : (State.applyTiles s key n).mem = s.mem := by
  induction n generalizing s with
  | zero => rfl
  | succ n ih => unfold State.applyTiles; (repeat' split) <;> simp_all

/-! ## Flags -/

@[simp] theorem State.raise_mem (s : State) (f : Flags) : (State.raise s f).mem = s.mem := rfl

/-! ## Operands -/

@[simp] theorem State.lagged_mem (s : State) : (State.lagged s).mem = s.mem := by simp [State.lagged]
@[simp] theorem State.setLanes_mem (s : State) (v : BitVec 7) (n : Nat) (xs : List (Option Nat)) : (State.setLanes s v n xs).mem = s.mem := by simp [State.setLanes]
@[simp] theorem State.mapLanes_mem (s : State) (d : BitVec 7) (n : Nat) (m : BitVec 1) (f : Nat → Nat × Flags) : (State.mapLanes s d n m f).mem = s.mem := by simp [State.mapLanes]
@[simp] theorem State.mapInts_mem (s : State) (d : BitVec 7) (n : Nat) (m : BitVec 1) (f : Nat → Nat) : (State.mapInts s d n m f).mem = s.mem := by simp [State.mapInts]
@[simp] theorem State.setK_mem (s : State) (k : BitVec 3) (v : Word) : (State.setK s k v).mem = s.mem := rfl

/-! ## Alu -/

@[simp] theorem State.result_mem (s : State) (d : BitVec 5) (v : Word) : outMem (State.result s d v) s.mem = s.mem := rfl
@[simp] theorem execAdd_mem (d a b : BitVec 5) (s : State) : outMem (execAdd d a b s) s.mem = s.mem := rfl
@[simp] theorem execSub_mem (d a b : BitVec 5) (s : State) : outMem (execSub d a b s) s.mem = s.mem := rfl
@[simp] theorem execAddp_mem (d a b : BitVec 5) (s : State) : outMem (execAddp d a b s) s.mem = s.mem := by
  unfold execAddp
  (repeat' split) <;> simp
@[simp] theorem execMul_mem (d a b : BitVec 5) (s : State) : outMem (execMul d a b s) s.mem = s.mem := rfl
@[simp] theorem execMulhu_mem (d a b : BitVec 5) (s : State) : outMem (execMulhu d a b s) s.mem = s.mem := rfl
@[simp] theorem execMulhs_mem (d a b : BitVec 5) (s : State) : outMem (execMulhs d a b s) s.mem = s.mem := rfl
@[simp] theorem execDivu_mem (d a b : BitVec 5) (s : State) : outMem (execDivu d a b s) s.mem = s.mem := rfl
@[simp] theorem execDivs_mem (d a b : BitVec 5) (s : State) : outMem (execDivs d a b s) s.mem = s.mem := rfl
@[simp] theorem execRemu_mem (d a b : BitVec 5) (s : State) : outMem (execRemu d a b s) s.mem = s.mem := rfl
@[simp] theorem execRems_mem (d a b : BitVec 5) (s : State) : outMem (execRems d a b s) s.mem = s.mem := rfl
@[simp] theorem execAnd_mem (d a b : BitVec 5) (s : State) : outMem (execAnd d a b s) s.mem = s.mem := rfl
@[simp] theorem execOr_mem (d a b : BitVec 5) (s : State) : outMem (execOr d a b s) s.mem = s.mem := rfl
@[simp] theorem execXor_mem (d a b : BitVec 5) (s : State) : outMem (execXor d a b s) s.mem = s.mem := rfl
@[simp] theorem execAndn_mem (d a b : BitVec 5) (s : State) : outMem (execAndn d a b s) s.mem = s.mem := rfl
@[simp] theorem execShl_mem (d a b : BitVec 5) (s : State) : outMem (execShl d a b s) s.mem = s.mem := rfl
@[simp] theorem execShr_mem (d a b : BitVec 5) (s : State) : outMem (execShr d a b s) s.mem = s.mem := rfl
@[simp] theorem execSha_mem (d a b : BitVec 5) (s : State) : outMem (execSha d a b s) s.mem = s.mem := rfl
@[simp] theorem execRotl_mem (d a b : BitVec 5) (s : State) : outMem (execRotl d a b s) s.mem = s.mem := rfl
@[simp] theorem execClz_mem (d a : BitVec 5) (s : State) : outMem (execClz d a s) s.mem = s.mem := rfl
@[simp] theorem execCtz_mem (d a : BitVec 5) (s : State) : outMem (execCtz d a s) s.mem = s.mem := rfl
@[simp] theorem execPopc_mem (d a : BitVec 5) (s : State) : outMem (execPopc d a s) s.mem = s.mem := rfl
@[simp] theorem execMins_mem (d a b : BitVec 5) (s : State) : outMem (execMins d a b s) s.mem = s.mem := rfl
@[simp] theorem execMinu_mem (d a b : BitVec 5) (s : State) : outMem (execMinu d a b s) s.mem = s.mem := rfl
@[simp] theorem execMaxs_mem (d a b : BitVec 5) (s : State) : outMem (execMaxs d a b s) s.mem = s.mem := rfl
@[simp] theorem execMaxu_mem (d a b : BitVec 5) (s : State) : outMem (execMaxu d a b s) s.mem = s.mem := rfl
@[simp] theorem execSlt_mem (d a b : BitVec 5) (s : State) : outMem (execSlt d a b s) s.mem = s.mem := rfl
@[simp] theorem execSltu_mem (d a b : BitVec 5) (s : State) : outMem (execSltu d a b s) s.mem = s.mem := rfl
@[simp] theorem execSeq_mem (d a b : BitVec 5) (s : State) : outMem (execSeq d a b s) s.mem = s.mem := rfl
@[simp] theorem execMad_mem (d a b c : BitVec 5) (s : State) : outMem (execMad d a b c s) s.mem = s.mem := rfl
@[simp] theorem execSel_mem (d a b c : BitVec 5) (s : State) : outMem (execSel d a b c s) s.mem = s.mem := rfl
@[simp] theorem execBfx_mem (d a : BitVec 5) (p n : BitVec 6) (s : State) : outMem (execBfx d a p n s) s.mem = s.mem := rfl
@[simp] theorem execBfi_mem (d a : BitVec 5) (p n : BitVec 6) (s : State) : outMem (execBfi d a p n s) s.mem = s.mem := rfl
@[simp] theorem execAddi_mem (d a : BitVec 5) (i : BitVec 14) (s : State) : outMem (execAddi d a i s) s.mem = s.mem := rfl
@[simp] theorem execAndi_mem (d a : BitVec 5) (i : BitVec 14) (s : State) : outMem (execAndi d a i s) s.mem = s.mem := rfl
@[simp] theorem execOri_mem (d a : BitVec 5) (i : BitVec 14) (s : State) : outMem (execOri d a i s) s.mem = s.mem := rfl
@[simp] theorem execXori_mem (d a : BitVec 5) (i : BitVec 14) (s : State) : outMem (execXori d a i s) s.mem = s.mem := rfl
@[simp] theorem execShli_mem (d a : BitVec 5) (n : BitVec 6) (s : State) : outMem (execShli d a n s) s.mem = s.mem := rfl
@[simp] theorem execShri_mem (d a : BitVec 5) (n : BitVec 6) (s : State) : outMem (execShri d a n s) s.mem = s.mem := rfl
@[simp] theorem execShai_mem (d a : BitVec 5) (n : BitVec 6) (s : State) : outMem (execShai d a n s) s.mem = s.mem := rfl
@[simp] theorem execSlti_mem (d a : BitVec 5) (i : BitVec 14) (s : State) : outMem (execSlti d a i s) s.mem = s.mem := rfl
@[simp] theorem execLil_mem (d : BitVec 5) (i : BitVec 19) (s : State) : outMem (execLil d i s) s.mem = s.mem := rfl
@[simp] theorem execLih_mem (d : BitVec 5) (h : BitVec 2) (i : BitVec 16) (s : State) : outMem (execLih d h i s) s.mem = s.mem := rfl

/-! ## Control -/

@[simp] theorem State.branch_mem (s : State) (taken : Bool) (t : Word) : (State.branch s taken t).mem = s.mem := by
  unfold State.branch
  (repeat' split) <;> simp
@[simp] theorem execB_mem (c : BitVec 3) (a b : BitVec 5) (o : BitVec 11) (s : State) : outMem (execB c a b o s) s.mem = s.mem := by simp [execB]
@[simp] theorem execBz_mem (a : BitVec 5) (o : BitVec 19) (s : State) : outMem (execBz a o s) s.mem = s.mem := by simp [execBz]
@[simp] theorem execBnz_mem (a : BitVec 5) (o : BitVec 19) (s : State) : outMem (execBnz a o s) s.mem = s.mem := by simp [execBnz]
@[simp] theorem execLoop_mem (a : BitVec 5) (o : BitVec 19) (s : State) : outMem (execLoop a o s) s.mem = s.mem := by simp [execLoop]
@[simp] theorem execJmp_mem (o : BitVec 24) (s : State) : outMem (execJmp o s) s.mem = s.mem := rfl
@[simp] theorem execJal_mem (o : BitVec 24) (s : State) : outMem (execJal o s) s.mem = s.mem := rfl
@[simp] theorem execJr_mem (a : BitVec 5) (s : State) : outMem (execJr a s) s.mem = s.mem := by
  unfold execJr
  (repeat' split) <;> simp
@[simp] theorem execJalr_mem (d a : BitVec 5) (s : State) : outMem (execJalr d a s) s.mem = s.mem := by
  unfold execJalr
  (repeat' split) <;> simp
@[simp] theorem execNop_mem (s : State) : outMem (execNop s) s.mem = s.mem := rfl
@[simp] theorem State.pend_mem (s : State) : (State.pend s).mem = s.mem := by
  unfold State.pend
  dsimp only
  (repeat' split) <;> simp
@[simp] theorem execPend_mem (s : State) : outMem (execPend s) s.mem = s.mem := by simp [execPend]
@[simp] theorem execTrap_mem (c : BitVec 16) (s : State) : outMem (execTrap c s) s.mem = s.mem := by simp [execTrap]
@[simp] theorem execBkpt_mem (c : BitVec 16) (s : State) : outMem (execBkpt c s) s.mem = s.mem := by
  unfold execBkpt
  (repeat' split) <;> simp
@[simp] theorem execEret_mem (s : State) : outMem (execEret s) s.mem = s.mem := by
  unfold execEret
  (repeat' split) <;> simp

/-! ## FScalar -/

@[simp] theorem State.fresult_mem (s : State) (d : BitVec 5) (r : Nat × Flags) : outMem (State.fresult s d r) s.mem = s.mem := rfl
@[simp] theorem execFadd_mem (d a b : BitVec 5) (f : BitVec 2) (r : BitVec 3) (s : State) : outMem (execFadd d a b f r s) s.mem = s.mem := rfl
@[simp] theorem execFsub_mem (d a b : BitVec 5) (f : BitVec 2) (r : BitVec 3) (s : State) : outMem (execFsub d a b f r s) s.mem = s.mem := rfl
@[simp] theorem execFmul_mem (d a b : BitVec 5) (f : BitVec 2) (r : BitVec 3) (s : State) : outMem (execFmul d a b f r s) s.mem = s.mem := rfl
@[simp] theorem execFma_mem (d a b : BitVec 5) (f : BitVec 2) (r : BitVec 3) (s : State) : outMem (execFma d a b f r s) s.mem = s.mem := rfl
@[simp] theorem execFdiv_mem (d a b : BitVec 5) (f : BitVec 2) (r : BitVec 3) (s : State) : outMem (execFdiv d a b f r s) s.mem = s.mem := rfl
@[simp] theorem execFsqrt_mem (d a : BitVec 5) (f : BitVec 2) (r : BitVec 3) (s : State) : outMem (execFsqrt d a f r s) s.mem = s.mem := rfl
@[simp] theorem execFmin_mem (d a b : BitVec 5) (f : BitVec 2) (s : State) : outMem (execFmin d a b f s) s.mem = s.mem := rfl
@[simp] theorem execFmax_mem (d a b : BitVec 5) (f : BitVec 2) (s : State) : outMem (execFmax d a b f s) s.mem = s.mem := rfl
@[simp] theorem execFclass_mem (d a : BitVec 5) (f : BitVec 2) (s : State) : outMem (execFclass d a f s) s.mem = s.mem := rfl
@[simp] theorem execFcmp_mem (d a b : BitVec 5) (f : BitVec 2) (c : BitVec 3) (s : State) : outMem (execFcmp d a b f c s) s.mem = s.mem := rfl
@[simp] theorem execFcvt_mem (d a : BitVec 5) (t u r : BitVec 3) (x : BitVec 1) (s : State) : outMem (execFcvt d a t u r x s) s.mem = s.mem := rfl

/-! ## Vector -/

@[simp] theorem State.lanes3_mem (s : State) (d a b : BitVec 7) (w : BitVec 2) (m : BitVec 1) (f : Nat → Nat → Nat → Nat → Nat) : (State.lanes3 s d a b w m f).mem = s.mem := by simp [State.lanes3]
@[simp] theorem execVadd_mem (d a b : BitVec 7) (w : BitVec 2) (m : BitVec 1) (s : State) : outMem (execVadd d a b w m s) s.mem = s.mem := by simp [execVadd]
@[simp] theorem execVsub_mem (d a b : BitVec 7) (w : BitVec 2) (m : BitVec 1) (s : State) : outMem (execVsub d a b w m s) s.mem = s.mem := by simp [execVsub]
@[simp] theorem execVmul_mem (d a b : BitVec 7) (w : BitVec 2) (m : BitVec 1) (s : State) : outMem (execVmul d a b w m s) s.mem = s.mem := by simp [execVmul]
@[simp] theorem execVmulhSigned_mem (d a b : BitVec 7) (w : BitVec 2) (m : BitVec 1) (s : State) : outMem (execVmulhSigned d a b w m s) s.mem = s.mem := by simp [execVmulhSigned]
@[simp] theorem execVmulhUnsigned_mem (d a b : BitVec 7) (w : BitVec 2) (m : BitVec 1) (s : State) : outMem (execVmulhUnsigned d a b w m s) s.mem = s.mem := by simp [execVmulhUnsigned]
@[simp] theorem execVmad_mem (d a b : BitVec 7) (w : BitVec 2) (m : BitVec 1) (s : State) : outMem (execVmad d a b w m s) s.mem = s.mem := by simp [execVmad]
@[simp] theorem execVand_mem (d a b : BitVec 7) (w : BitVec 2) (m : BitVec 1) (s : State) : outMem (execVand d a b w m s) s.mem = s.mem := by simp [execVand]
@[simp] theorem execVor_mem (d a b : BitVec 7) (w : BitVec 2) (m : BitVec 1) (s : State) : outMem (execVor d a b w m s) s.mem = s.mem := by simp [execVor]
@[simp] theorem execVxor_mem (d a b : BitVec 7) (w : BitVec 2) (m : BitVec 1) (s : State) : outMem (execVxor d a b w m s) s.mem = s.mem := by simp [execVxor]
@[simp] theorem execVshl_mem (d a b : BitVec 7) (w : BitVec 2) (m : BitVec 1) (s : State) : outMem (execVshl d a b w m s) s.mem = s.mem := by simp [execVshl]
@[simp] theorem execVshr_mem (d a b : BitVec 7) (w : BitVec 2) (m : BitVec 1) (s : State) : outMem (execVshr d a b w m s) s.mem = s.mem := by simp [execVshr]
@[simp] theorem execVsha_mem (d a b : BitVec 7) (w : BitVec 2) (m : BitVec 1) (s : State) : outMem (execVsha d a b w m s) s.mem = s.mem := by simp [execVsha]
@[simp] theorem execVminSigned_mem (d a b : BitVec 7) (w : BitVec 2) (m : BitVec 1) (s : State) : outMem (execVminSigned d a b w m s) s.mem = s.mem := by simp [execVminSigned]
@[simp] theorem execVminUnsigned_mem (d a b : BitVec 7) (w : BitVec 2) (m : BitVec 1) (s : State) : outMem (execVminUnsigned d a b w m s) s.mem = s.mem := by simp [execVminUnsigned]
@[simp] theorem execVmaxSigned_mem (d a b : BitVec 7) (w : BitVec 2) (m : BitVec 1) (s : State) : outMem (execVmaxSigned d a b w m s) s.mem = s.mem := by simp [execVmaxSigned]
@[simp] theorem execVmaxUnsigned_mem (d a b : BitVec 7) (w : BitVec 2) (m : BitVec 1) (s : State) : outMem (execVmaxUnsigned d a b w m s) s.mem = s.mem := by simp [execVmaxUnsigned]
@[simp] theorem execVcmp_mem (k : BitVec 3) (a b : BitVec 7) (c : BitVec 3) (w : BitVec 2) (s : State) : outMem (execVcmp k a b c w s) s.mem = s.mem := rfl
@[simp] theorem execVsel_mem (d a : BitVec 7) (k : BitVec 3) (w : BitVec 2) (s : State) : outMem (execVsel d a k w s) s.mem = s.mem := by simp [execVsel]
@[simp] theorem execVcompress_mem (d a : BitVec 7) (k : BitVec 3) (w : BitVec 2) (s : State) : outMem (execVcompress d a k w s) s.mem = s.mem := by simp [execVcompress]
@[simp] theorem execVmov_mem (d a : BitVec 7) (m : BitVec 1) (s : State) : outMem (execVmov d a m s) s.mem = s.mem := by simp [execVmov]
@[simp] theorem execVabs_mem (d a : BitVec 7) (w : BitVec 2) (m : BitVec 1) (s : State) : outMem (execVabs d a w m s) s.mem = s.mem := by simp [execVabs]
@[simp] theorem execViota_mem (d : BitVec 7) (w : BitVec 2) (m : BitVec 1) (s : State) : outMem (execViota d w m s) s.mem = s.mem := by simp [execViota]
@[simp] theorem execVperm_mem (d a b : BitVec 7) (w : BitVec 2) (m : BitVec 1) (s : State) : outMem (execVperm d a b w m s) s.mem = s.mem := by simp [execVperm]
@[simp] theorem execVrot_mem (d a : BitVec 7) (k : BitVec 6) (w : BitVec 2) (m : BitVec 1) (s : State) : outMem (execVrot d a k w m s) s.mem = s.mem := by simp [execVrot]
@[simp] theorem execVbcast_mem (d : BitVec 7) (r : BitVec 5) (w : BitVec 2) (m : BitVec 1) (s : State) : outMem (execVbcast d r w m s) s.mem = s.mem := by simp [execVbcast]
@[simp] theorem execVext_mem (d : BitVec 5) (a : BitVec 7) (k : BitVec 6) (w : BitVec 2) (x : BitVec 1) (s : State) : outMem (execVext d a k w x s) s.mem = s.mem := rfl
@[simp] theorem execVins_mem (d : BitVec 7) (r : BitVec 5) (k : BitVec 6) (w : BitVec 2) (s : State) : outMem (execVins d r k w s) s.mem = s.mem := by simp [execVins]
@[simp] theorem execVred_mem (d : BitVec 5) (a : BitVec 7) (o : BitVec 3) (x : BitVec 1) (w : BitVec 2) (m : BitVec 1) (s : State) : outMem (execVred d a o x w m s) s.mem = s.mem := rfl
@[simp] theorem execVpack_mem (d a b : BitVec 7) (w : BitVec 2) (x : BitVec 1) (s : State) : outMem (execVpack d a b w x s) s.mem = s.mem := by simp [execVpack]
@[simp] theorem execVunpack_mem (d a : BitVec 7) (h : BitVec 1) (w : BitVec 2) (x : BitVec 1) (s : State) : outMem (execVunpack d a h w x s) s.mem = s.mem := by simp [execVunpack]
@[simp] theorem execKand_mem (d a b : BitVec 3) (s : State) : outMem (execKand d a b s) s.mem = s.mem := rfl
@[simp] theorem execKor_mem (d a b : BitVec 3) (s : State) : outMem (execKor d a b s) s.mem = s.mem := rfl
@[simp] theorem execKxor_mem (d a b : BitVec 3) (s : State) : outMem (execKxor d a b s) s.mem = s.mem := rfl
@[simp] theorem execKnot_mem (d a : BitVec 3) (s : State) : outMem (execKnot d a s) s.mem = s.mem := rfl
@[simp] theorem execKpop_mem (a : BitVec 3) (d : BitVec 5) (s : State) : outMem (execKpop a d s) s.mem = s.mem := rfl

/-! ## VFloat -/

@[simp] theorem State.floats3_mem (s : State) (d a b : BitVec 7) (w : BitVec 2) (m : BitVec 1) (f : FFmt → Nat → Nat → Nat → Nat → Nat × Flags) : (State.floats3 s d a b w m f).mem = s.mem := by simp [State.floats3]
@[simp] theorem execVfadd_mem (d a b : BitVec 7) (w : BitVec 2) (m : BitVec 1) (s : State) : outMem (execVfadd d a b w m s) s.mem = s.mem := by simp [execVfadd]
@[simp] theorem execVfsub_mem (d a b : BitVec 7) (w : BitVec 2) (m : BitVec 1) (s : State) : outMem (execVfsub d a b w m s) s.mem = s.mem := by simp [execVfsub]
@[simp] theorem execVfmul_mem (d a b : BitVec 7) (w : BitVec 2) (m : BitVec 1) (s : State) : outMem (execVfmul d a b w m s) s.mem = s.mem := by simp [execVfmul]
@[simp] theorem execVfma_mem (d a b : BitVec 7) (w : BitVec 2) (m : BitVec 1) (s : State) : outMem (execVfma d a b w m s) s.mem = s.mem := by simp [execVfma]
@[simp] theorem execVfms_mem (d a b : BitVec 7) (w : BitVec 2) (m : BitVec 1) (s : State) : outMem (execVfms d a b w m s) s.mem = s.mem := by simp [execVfms]
@[simp] theorem execVfnma_mem (d a b : BitVec 7) (w : BitVec 2) (m : BitVec 1) (s : State) : outMem (execVfnma d a b w m s) s.mem = s.mem := by simp [execVfnma]
@[simp] theorem execVfdiv_mem (d a b : BitVec 7) (w : BitVec 2) (m : BitVec 1) (s : State) : outMem (execVfdiv d a b w m s) s.mem = s.mem := by simp [execVfdiv]
@[simp] theorem execVfmin_mem (d a b : BitVec 7) (w : BitVec 2) (m : BitVec 1) (s : State) : outMem (execVfmin d a b w m s) s.mem = s.mem := by simp [execVfmin]
@[simp] theorem execVfmax_mem (d a b : BitVec 7) (w : BitVec 2) (m : BitVec 1) (s : State) : outMem (execVfmax d a b w m s) s.mem = s.mem := by simp [execVfmax]
@[simp] theorem execVfsgn_mem (d a b : BitVec 7) (w : BitVec 2) (m : BitVec 1) (s : State) : outMem (execVfsgn d a b w m s) s.mem = s.mem := by simp [execVfsgn]
@[simp] theorem State.floats1_mem (s : State) (d a : BitVec 7) (w : BitVec 2) (m : BitVec 1) (f : FFmt → Nat → Nat → Nat × Flags) : (State.floats1 s d a w m f).mem = s.mem := by simp [State.floats1]
@[simp] theorem execVfsqrt_mem (d a : BitVec 7) (w : BitVec 2) (m : BitVec 1) (s : State) : outMem (execVfsqrt d a w m s) s.mem = s.mem := by simp [execVfsqrt]
@[simp] theorem execVfrcp_mem (d a : BitVec 7) (w : BitVec 2) (m : BitVec 1) (s : State) : outMem (execVfrcp d a w m s) s.mem = s.mem := by simp [execVfrcp]
@[simp] theorem execVfrsq_mem (d a : BitVec 7) (w : BitVec 2) (m : BitVec 1) (s : State) : outMem (execVfrsq d a w m s) s.mem = s.mem := by simp [execVfrsq]
@[simp] theorem execVfclass_mem (d a : BitVec 7) (w : BitVec 2) (m : BitVec 1) (s : State) : outMem (execVfclass d a w m s) s.mem = s.mem := by simp [execVfclass]
@[simp] theorem execVfcmp_mem (k : BitVec 3) (a b : BitVec 7) (c : BitVec 3) (w : BitVec 2) (s : State) : outMem (execVfcmp k a b c w s) s.mem = s.mem := rfl
@[simp] theorem execVfred_mem (d : BitVec 5) (a : BitVec 7) (o : BitVec 3) (w : BitVec 2) (m : BitVec 1) (s : State) : outMem (execVfred d a o w m s) s.mem = s.mem := rfl
@[simp] theorem State.convertElems_mem (s : State) (d a : BitVec 7) (count n n' : Nat) (f : Nat → Nat × Flags) : (State.convertElems s d a count n n' f).mem = s.mem := by simp [State.convertElems]
@[simp] theorem execVcvt_mem (d a : BitVec 7) (i : BitVec 1) (x : BitVec 4) (r : BitVec 3) (sat : BitVec 1) (s : State) : outMem (execVcvt d a i x r sat s) s.mem = s.mem := by simp [execVcvt]
@[simp] theorem execVcvti_mem (d a : BitVec 7) (f : BitVec 2) (t r : BitVec 3) (x : BitVec 1) (s : State) : outMem (execVcvti d a f t r x s) s.mem = s.mem := by simp [execVcvti]
@[simp] theorem execVcvtf_mem (d a : BitVec 7) (f : BitVec 2) (t r : BitVec 3) (x : BitVec 1) (s : State) : outMem (execVcvtf d a f t r x s) s.mem = s.mem := by simp [execVcvtf]
@[simp] theorem execVscale_mem (d a : BitVec 7) (q : BitVec 3) (w : BitVec 2) (r : BitVec 3) (x : BitVec 1) (s : State) : outMem (execVscale d a q w r x s) s.mem = s.mem := by simp [execVscale]

/-! ## Matrix -/

@[simp] theorem State.gridOp_mem (s : State) (f : State → State) (h : ∀ t, (f t).mem = t.mem) : (s.gridOp f).mem = s.mem := by
  unfold State.gridOp
  (repeat' split) <;> simp [h]
@[simp] theorem State.drainMerge_mem (s : State) (m : BitVec 5) (g : BitVec 1) (p : Word) (dest : Option Land)
    (f : Option Land → State) (h : ∀ l, (f l).mem = s.mem) : (s.drainMerge m g p dest f).mem = s.mem := by
  unfold State.drainMerge
  dsimp only
  (repeat' split) <;> simp [h]

@[simp] theorem execModeM_mem (f : BitVec 4) (v : BitVec 7) (s : State) : outMem (execModeM f v s) s.mem = s.mem := by
  unfold execModeM
  dsimp only
  (repeat' split) <;> simp
@[simp] theorem execModeV_mem (s : State) : outMem (execModeV s) s.mem = s.mem := by
  unfold execModeV
  (repeat' split) <;> simp
@[simp] theorem State.issueTile_mem (s : State) (kind : TileKind) (rm : Nat) : (State.issueTile s kind rm).mem = s.mem := rfl
@[simp] theorem State.outer_mem (s : State) (neg : Bool) (a b : BitVec 7) (c d : BitVec 3) (f : BitVec 4) : (State.outer s neg a b c d f).mem = s.mem := by
  unfold State.outer
  dsimp only
  (repeat' split) <;> simp
@[simp] theorem execMop_mem (a b : BitVec 7) (c d : BitVec 3) (f : BitVec 4) (s : State) : outMem (execMop a b c d f s) s.mem = s.mem := by simp [execMop]
@[simp] theorem execMopn_mem (a b : BitVec 7) (c d : BitVec 3) (f : BitVec 4) (s : State) : outMem (execMopn a b c d f s) s.mem = s.mem := by simp [execMopn]
@[simp] theorem execMzero_mem (s : State) : outMem (execMzero s) s.mem = s.mem := by
  unfold execMzero
  apply State.gridOp_mem
  intro t
  simp
@[simp] theorem execMtrn_mem (s : State) : outMem (execMtrn s) s.mem = s.mem := by
  unfold execMtrn
  apply State.gridOp_mem
  intro t
  simp
@[simp] theorem execMscale_mem (a : BitVec 5) (r : BitVec 3) (s : State) : outMem (execMscale a r s) s.mem = s.mem := by
  unfold execMscale
  apply State.gridOp_mem
  intro t
  simp
@[simp] theorem execMqry_mem (d : BitVec 5) (s : State) : outMem (execMqry d s) s.mem = s.mem := rfl
@[simp] theorem State.issueDrain_mem (s : State) (df : BitVec 4) (reg : Option (BitVec 7)) (root : Nat) (stores merge : List (Home × Act)) : (State.issueDrain s df reg root stores merge).mem = s.mem := by
  unfold State.issueDrain
  (repeat' split) <;> simp
@[simp] theorem execMdrain_mem (d m : BitVec 5) (g : BitVec 1) (f : BitVec 4) (s : State) : outMem (execMdrain d m g f s) s.mem = s.mem := by
  unfold execMdrain
  simp only [outMem_next]
  split
  · simp
  · split
    · simp
    · apply State.drainMerge_mem
      intro l
      split <;> simp
@[simp] theorem execMdrainReg_mem (m : BitVec 5) (g : BitVec 1) (f : BitVec 4) (v : BitVec 7) (s : State) : outMem (execMdrainReg m g f v s) s.mem = s.mem := by
  unfold execMdrainReg
  simp only [outMem_next]
  split
  · simp
  · split
    · simp
    · apply State.drainMerge_mem
      intro l
      split <;> simp

/-! ## FormatMem -/

@[simp] theorem execVldf_mem (t : BitVec 7) (b : BitVec 5) (r : BitVec 3) (x : BitVec 1) (f : BitVec 5) (s : State) : outMem (execVldf t b r x f s) s.mem = s.mem := by
  unfold execVldf
  dsimp only
  apply State.access_mem
  intro l
  (repeat' split) <;> simp
@[simp] theorem execVldfScales_mem (t : BitVec 3) (b : BitVec 5) (_r : BitVec 3) (_x : BitVec 1) (s : State) : outMem (execVldfScales t b _r _x s) s.mem = s.mem := by
  unfold execVldfScales
  dsimp only
  apply State.access_mem
  intro l
  (repeat' split) <;> simp
@[simp] theorem State.storeFlags_mem (s : State) (l : Land) (pieces : List (Int × Nat)) (bs : List Byte) (f : Flags) : (State.storeFlags s l pieces bs f).mem = s.mem := by
  unfold State.storeFlags
  (repeat' split) <;> simp
@[simp] theorem execVstf_mem (t : BitVec 7) (b : BitVec 5) (r : BitVec 3) (x : BitVec 1) (f : BitVec 5) (s : State) : outMem (execVstf t b r x f s) s.mem = s.mem := by simp [execVstf]
@[simp] theorem execVstfScales_mem (t : BitVec 3) (b : BitVec 5) (_r : BitVec 3) (_x : BitVec 1) (s : State) : outMem (execVstfScales t b _r _x s) s.mem = s.mem := by simp [execVstfScales]

/-! ## Plot -/

@[simp] theorem State.wantPlot_mem (s : State) (x : Nat) : (s.wantPlot x).mem = s.mem := rfl
@[simp] theorem State.tensor_mem (s : State) (g : BitVec 3) (c : Word) (run : Nat → Run) (store crossOk : Bool)
    (eff : List CopyUse → State) (h : ∀ l, (eff l).mem = s.mem) : (s.tensor g c run store crossOk eff).mem = s.mem := by
  unfold State.tensor
  dsimp only
  (repeat' split) <;> simp [h]

@[simp] theorem State.tensorOp_mem (s : State) (c : Word) (k : Cls) (fin : Ending) (cls n : Nat) (us : List CopyUse) (hx : Nat) (parts : List (Home × Act)) : (State.tensorOp s c k fin cls n us hx parts).mem = s.mem := by simp [State.tensorOp]
@[simp] theorem execTld_mem (t c : BitVec 5) (g : BitVec 3) (s : State) : outMem (execTld t c g s) s.mem = s.mem := by
  unfold execTld
  apply State.tensor_mem
  intro us
  dsimp only
  (repeat' split) <;> simp
@[simp] theorem execTst_mem (t c : BitVec 5) (g : BitVec 3) (s : State) : outMem (execTst t c g s) s.mem = s.mem := by
  unfold execTst
  apply State.tensor_mem
  intro us
  dsimp only
  (repeat' split) <;> simp
@[simp] theorem execTldv_mem (v : BitVec 7) (c : BitVec 5) (g : BitVec 3) (s : State) : outMem (execTldv v c g s) s.mem = s.mem := by
  unfold execTldv
  apply State.tensor_mem
  intro us
  dsimp only
  (repeat' split) <;> simp
@[simp] theorem execTstv_mem (v : BitVec 7) (c : BitVec 5) (g : BitVec 3) (s : State) : outMem (execTstv v c g s) s.mem = s.mem := by
  unfold execTstv
  apply State.tensor_mem
  intro us
  dsimp only
  (repeat' split) <;> simp
@[simp] theorem execTmap_mem (d a : BitVec 5) (g : BitVec 3) (s : State) : outMem (execTmap d a g s) s.mem = s.mem := by
  unfold execTmap
  dsimp only
  (repeat' split) <;> simp
@[simp] theorem execPlotw_mem (a b : BitVec 5) (s : State) : outMem (execPlotw a b s) s.mem = s.mem := by
  unfold execPlotw
  dsimp only
  simp only [outMem_next]
  (repeat' split) <;> (try simp) <;> (apply State.access_mem; intro l; (repeat' split) <;> simp)

/-! ## Tables -/

@[simp] theorem execScopew_mem (a b : BitVec 5) (s : State) : outMem (execScopew a b s) s.mem = s.mem := by
  unfold execScopew
  dsimp only
  (repeat' split) <;> simp
@[simp] theorem execBuntw_mem (a b : BitVec 5) (s : State) : outMem (execBuntw a b s) s.mem = s.mem := by
  unfold execBuntw
  dsimp only
  simp only [outMem_next]
  (repeat' split) <;> (try simp) <;> (apply State.access_mem; intro l; (repeat' split) <;> simp)
@[simp] theorem execRtset_mem (d a b : BitVec 5) (s : State) : outMem (execRtset d a b s) s.mem = s.mem := by
  unfold execRtset
  (repeat' split) <;> simp
@[simp] theorem execRtclr_mem (a : BitVec 5) (s : State) : outMem (execRtclr a s) s.mem = s.mem := by
  unfold execRtclr
  (repeat' split) <;> simp

/-! ## Messages -/

@[simp] theorem execSend_mem (a : BitVec 5) (v : BitVec 7) (r : BitVec 1) (o : BitVec 4) (c : BitVec 6) (e : BitVec 1) (s : State) : outMem (execSend a v r o c e s) s.mem = s.mem := by
  unfold execSend
  dsimp only
  apply State.access_mem
  intro l
  (repeat' split) <;> simp
@[simp] theorem State.follow_mem (s : State) (oid : Nat) : (State.follow s oid).mem = s.mem := by
  unfold State.follow
  dsimp only
  (repeat' split) <;> simp
@[simp] theorem execSpawn_mem (d a : BitVec 5) (s : State) : outMem (execSpawn d a s) s.mem = s.mem := by
  unfold execSpawn
  dsimp only
  apply State.access_mem
  intro l
  (repeat' split) <;> simp
@[simp] theorem execTake_mem (d a : BitVec 5) (s : State) : outMem (execTake d a s) s.mem = s.mem := by
  unfold execTake
  dsimp only
  apply State.access_mem
  intro l
  (repeat' split) <;> simp
@[simp] theorem execTdone_mem (a : BitVec 5) (s : State) : outMem (execTdone a s) s.mem = s.mem := by
  unfold execTdone
  (repeat' split) <;> simp

end Sys2Proof.Machine
end

