-- ==== Sys2Proof/Laws/FrameEvents.lean ====
section
/-!
SUPPORT. What the events leave alone: memory, for every event that writes none.
-/
namespace Sys2Proof.Machine

/-! ## Parts -/

@[simp] theorem State.bindCommand_mem (s : State) (oid : Nat) : (State.bindCommand s oid).mem = s.mem := rfl
@[simp] theorem State.bindPage_mem (s : State) (p : Part) : (State.bindPage s p).mem = s.mem := by
  unfold State.bindPage
  split <;> rfl
@[simp] theorem State.give_mem (s : State) (d : Option Nat) (m : List Nat) : (s.give d m).mem = s.mem := rfl
@[simp] theorem State.sendAnswer_mem (s : State) (n : Nat) : (s.sendAnswer n).mem = s.mem := by
  unfold State.sendAnswer
  (repeat' split) <;> rfl
@[simp] theorem execPartDepart_mem (pid : Nat) (s : State) : outMem (execPartDepart pid s) s.mem = s.mem := by
  unfold execPartDepart
  (repeat' split) <;> simp
@[simp] theorem execPartCarry_mem (pid : Nat) (s : State) : outMem (execPartCarry pid s) s.mem = s.mem := by
  unfold execPartCarry
  dsimp only
  (repeat' split) <;> simp
@[simp] theorem State.modSched_mem (s : State) (d : Nat) (f : Sched → Sched) : (State.modSched s d f).mem = s.mem := rfl
@[simp] theorem State.spawnAt_mem (s : State) (d : Nat) (oid : Nat) (r : Record) : (State.spawnAt s d oid r).mem = s.mem := by
  unfold State.spawnAt
  dsimp only
  (repeat' split) <;> simp
@[simp] theorem State.takeAt_mem (s : State) (d : Nat) (oid rcb : Nat) : (State.takeAt s d oid rcb).mem = s.mem := by
  unfold State.takeAt
  dsimp only
  (repeat' split) <;> simp
@[simp] theorem State.rtsetAt_mem (s : State) (pt oid i : Nat) (w : Word) (rcb : Nat) : (State.rtsetAt s pt oid i w rcb).mem = s.mem := by
  unfold State.rtsetAt
  dsimp only
  (repeat' split) <;> simp
@[simp] theorem State.rtclrAt_mem (s : State) (pt i rcb : Nat) : (State.rtclrAt s pt i rcb).mem = s.mem := by
  unfold State.rtclrAt
  dsimp only
  (repeat' split) <;> simp
@[simp] theorem execLocalWriteApply_mem (pt : Nat) (s : State) : outMem (execLocalWriteApply pt s) s.mem = s.mem := by
  unfold execLocalWriteApply
  (repeat' split) <;> simp
@[simp] theorem execDeposit_mem (pt : Nat) (s : State) : outMem (execDeposit pt s) s.mem = s.mem := by
  unfold execDeposit
  dsimp only
  (repeat' split) <;> simp
@[simp] theorem execPwrRelEntry_mem (oid : Nat) (s : State) : outMem (execPwrRelEntry oid s) s.mem = s.mem := by
  unfold execPwrRelEntry
  (repeat' split) <;> simp
@[simp] theorem State.applyFirst_mem (s : State) (key : Nat) (drain : Bool) : (State.applyFirst s key drain).mem = s.mem := by
  unfold State.applyFirst
  (repeat' split) <;> simp
@[simp] theorem execTileOpApply_mem (pt slot : Nat) (s : State) : outMem (execTileOpApply pt slot s) s.mem = s.mem := by simp [execTileOpApply]
@[simp] theorem execMdrainApply_mem (pt slot : Nat) (s : State) : outMem (execMdrainApply pt slot s) s.mem = s.mem := by simp [execMdrainApply]

/-! ## WalkEvents -/

@[simp] theorem State.cacheLeaf_mem (s : State) (pt : Nat) (e : Leaf) : (State.cacheLeaf s pt e).mem = s.mem := rfl
@[simp] theorem State.parkPart_mem (s : State) (p : Part) (va : Nat) : (State.parkPart s p va).mem = s.mem := by
  unfold State.parkPart
  dsimp only
  (repeat' split) <;> simp
@[simp] theorem execTranslationDrop_mem (pt i : Nat) (s : State) : outMem (execTranslationDrop pt i s) s.mem = s.mem := rfl
@[simp] theorem execPlotCacheFill_mem (pt rcb x : Nat) (s : State) : outMem (execPlotCacheFill pt rcb x s) s.mem = s.mem := by
  unfold execPlotCacheFill
  (repeat' split) <;> simp
@[simp] theorem execPlotCacheDrop_mem (pt i : Nat) (s : State) : outMem (execPlotCacheDrop pt i s) s.mem = s.mem := rfl
@[simp] theorem State.seeReq_mem (s : State) (pt : Nat) : (State.seeReq s pt).mem = s.mem := by
  unfold State.seeReq
  dsimp only
  (repeat' split) <;> simp
@[simp] theorem execHarvest_mem (pt : Nat) (s : State) : outMem (execHarvest pt s) s.mem = s.mem := by
  unfold execHarvest
  (repeat' split) <;> simp
@[simp] theorem State.dropLeaves_mem (s : State) : (State.dropLeaves s).mem = s.mem := rfl
@[simp] theorem execFlush_mem (pt : Nat) (s : State) : outMem (execFlush pt s) s.mem = s.mem := by
  unfold execFlush
  dsimp only
  (repeat' split) <;> simp

/-! ## Tasks -/

@[simp] theorem execStealRound_mem (die rcb : Nat) (s : State) : outMem (execStealRound die rcb s) s.mem = s.mem := by
  unfold execStealRound
  dsimp only
  (repeat' split) <;> simp
@[simp] theorem State.modSteal_mem (s : State) (id : Nat) (f : Steal → Option Steal) : (State.modSteal s id f).mem = s.mem := rfl
@[simp] theorem execStealGrant_mem (id : Nat) (s : State) : outMem (execStealGrant id s) s.mem = s.mem := by
  unfold execStealGrant
  dsimp only
  (repeat' split) <;> simp
@[simp] theorem execStealReceipt_mem (id : Nat) (s : State) : outMem (execStealReceipt id s) s.mem = s.mem := by
  unfold execStealReceipt
  (repeat' split) <;> simp

/-! ## Complete -/

@[simp] theorem State.retire_mem (s : State) (o : Op) : (State.retire s o).mem = s.mem := by
  unfold State.retire
  (repeat' split) <;> simp
@[simp] theorem State.bindGrid_mem (s : State) (key rcb : Nat) (g : BitVec 3) (id : Nat) (place : Option (Nat × Nat)) (bs : List Byte) :
    (State.bindGrid s key rcb g id place bs).mem = s.mem := by
  unfold State.bindGrid
  split
  · next t e h => split <;> simp [State.takeGrid_mem h]
  · simp
@[simp] theorem State.finish_mem (s : State) (key : Nat) (o : Op) : (State.finish s key o).mem = s.mem := by
  unfold State.finish
  (repeat' split) <;> simp
@[simp] theorem State.takeQuiet_mem (s : State) (key : Nat) (o : Op) : (State.takeQuiet s key o).mem = s.mem := by
  unfold State.takeQuiet
  (repeat' split) <;> simp
@[simp] theorem execOperationComplete_mem (oid : Nat) (bad : Option (Nat × FaultUnit)) (s : State) : outMem (execOperationComplete oid bad s) s.mem = s.mem := by
  unfold execOperationComplete
  (repeat' split) <;> simp
@[simp] theorem State.publish_mem (s : State) (o : Op) (pt : Nat) (v : Word) : (State.publish s o pt v).mem = s.mem := by
  unfold State.publish
  (repeat' split) <;> simp
@[simp] theorem execCopyComplete_mem (oid : Nat) (s : State) : outMem (execCopyComplete oid s) s.mem = s.mem := by
  unfold execCopyComplete
  (repeat' split) <;> simp
@[simp] theorem execSendComplete_mem (oid : Nat) (s : State) : outMem (execSendComplete oid s) s.mem = s.mem := by
  unfold execSendComplete
  dsimp only
  (repeat' split) <;> simp
@[simp] theorem State.parkRest_mem (s : State) (key : Nat) : (State.parkRest s key).mem = s.mem := rfl
@[simp] theorem execEvictComplete_mem (pt slot : Nat) (s : State) : outMem (execEvictComplete pt slot s) s.mem = s.mem := by
  unfold execEvictComplete
  dsimp only
  (repeat' split) <;> simp
@[simp] theorem execCtxsvComplete_mem (oid : Nat) (s : State) : outMem (execCtxsvComplete oid s) s.mem = s.mem := by
  unfold execCtxsvComplete
  (repeat' split) <;> simp
@[simp] theorem State.readRest_mem (s : State) (o : Op) (n : Nat) : (s.readRest o n).mem = s.mem := by
  unfold State.readRest
  dsimp only
  (repeat' split) <;> simp
@[simp] theorem execCtxldComplete_mem (oid : Nat) (s : State) : outMem (execCtxldComplete oid s) s.mem = s.mem := by
  unfold execCtxldComplete
  dsimp only
  (repeat' split) <;> simp

/-! ## GridEvents -/

@[simp] theorem State.queuePieces_mem (s : State) (l : List Piece) : (s.queuePieces l).mem = s.mem := by
  unfold State.queuePieces
  apply foldl_mem
  intros; rfl

@[simp] theorem State.sendPiece_mem (s : State) (src : Nat) (g : GridEntry) (q f : Nat) (step : BitVec 32) (cells : List (Nat × Word)) (all : Bool) : (State.sendPiece s src g q f step cells all).mem = s.mem := by
  unfold State.sendPiece
  (repeat' split) <;> simp
@[simp] theorem State.modMirror_mem (s : State) (d : GridDesc) (rcb part id : Nat) (f : Mirror → Mirror) : (State.modMirror s d rcb part id f).mem = s.mem := by
  unfold State.modMirror
  split <;> rfl
@[simp] theorem State.depositRing_mem (s : State) (p : Piece) : (State.depositRing s p).mem = s.mem := by simp [State.depositRing]
theorem State.crossTo_mem {s t : State} {a : Nat} {d : Option Nat} (h : s.crossTo a d = some t) : t.mem = s.mem := by
  unfold State.crossTo at h
  dsimp only at h
  (repeat' split at h) <;> simp at h <;> subst h <;> simp
theorem State.crossAll_mem {s t : State} {a : Nat} (l : List Nat) (h : s.crossAll a l = some t) : t.mem = s.mem := by
  unfold State.crossAll at h
  have key : ∀ (l : List Nat) (u : Option State), l.foldl (fun (u : Option State) d => u.bind (fun t => t.crossTo a (some d))) u = some t →
      ∃ v, u = some v ∧ t.mem = v.mem := by
    intro l
    induction l with
    | nil => exact fun u h => ⟨t, h, rfl⟩
    | cons d l ih =>
      intro u h
      obtain ⟨v, hv, e⟩ := ih _ h
      obtain ⟨w, hw, hc⟩ := Option.bind_eq_some_iff.mp hv
      exact ⟨w, hw, e.trans (State.crossTo_mem hc)⟩
  obtain ⟨v, hv, e⟩ := key l _ h
  rw [e, Option.some.inj hv]
@[simp] theorem execMirrorCopy_mem (id : Nat) (s : State) : outMem (execMirrorCopy id s) s.mem = s.mem := by
  unfold execMirrorCopy
  dsimp only
  split
  · rfl
  · split
    · rfl
    · split
      · rfl
      · next h => simp [State.crossTo_mem h]

/-! ## Regions -/

@[simp] theorem State.putRegion_mem (s : State) (r : Region) : (State.putRegion s r).mem = s.mem := rfl
@[simp] theorem execBoundaryWake_mem (pt slot : Nat) (s : State) : outMem (execBoundaryWake pt slot s) s.mem = s.mem := by
  unfold execBoundaryWake
  dsimp only
  (repeat' split) <;> simp
@[simp] theorem State.release_mem (s : State) (key : Nat) (l : BitVec 24) (pos : Word) (to' : RunState) : (State.release s key l pos to').mem = s.mem := by
  unfold State.release
  dsimp only
  (repeat' split) <;> simp
@[simp] theorem execWaitRelease_mem (pt slot : Nat) (s : State) : outMem (execWaitRelease pt slot s) s.mem = s.mem := by
  unfold execWaitRelease
  dsimp only
  (repeat' split) <;> simp
@[simp] theorem execHaltComplete_mem (pt slot : Nat) (s : State) : outMem (execHaltComplete pt slot s) s.mem = s.mem := by
  unfold execHaltComplete
  dsimp only
  (repeat' split) <;> simp
@[simp] theorem execFenceRelease_mem (pt slot : Nat) (s : State) : outMem (execFenceRelease pt slot s) s.mem = s.mem := by
  unfold execFenceRelease
  dsimp only
  (repeat' split) <;> simp
@[simp] theorem State.dropParty_mem (s : State) (p : Party) (key : Option Nat) : (State.dropParty s p key).mem = s.mem := rfl
@[simp] theorem State.raiseQuiet_mem (s : State) (r : Region) (pt : Nat) : (State.raiseQuiet s r pt).mem = s.mem := by
  unfold State.raiseQuiet
  dsimp only
  (repeat' split) <;> simp
@[simp] theorem execQuiescenceEvent_mem (rcb : Nat) (s : State) : outMem (execQuiescenceEvent rcb s) s.mem = s.mem := by
  unfold execQuiescenceEvent
  (repeat' split) <;> simp
@[simp] theorem execPriorityPreemption_mem (pt slot rcb : Nat) (s : State) : outMem (execPriorityPreemption pt slot rcb s) s.mem = s.mem := by
  unfold execPriorityPreemption
  dsimp only
  (repeat' split) <;> simp
@[simp] theorem execEventDeposit_mem (pt : Nat) (s : State) : outMem (execEventDeposit pt s) s.mem = s.mem := by
  unfold execEventDeposit
  (repeat' split) <;> simp

/-! ## Panels -/

@[simp] theorem State.late_mem (s : State) (pt : Nat) : (State.late s pt).mem = s.mem := rfl
@[simp] theorem State.setTag_mem (s : State) (pt tag : Nat) (t : Tag) : (State.setTag s pt tag t).mem = s.mem := rfl
@[simp] theorem State.dropOp_mem (s : State) (o : Option Nat) : (State.dropOp s o).mem = s.mem := by
  unfold State.dropOp
  (repeat' split) <;> simp
@[simp] theorem State.depositReply_mem (s : State) (pt cp : Nat) (v : Word × BitVec 32) : (State.depositReply s pt cp v).mem = s.mem := rfl
@[simp] theorem execCrossPanelReply_mem (pt tag gen : Nat) (refused : Bool) (value : Word) (count : BitVec 32) (bytes : List Byte) (s : State) : outMem (execCrossPanelReply pt tag gen refused value count bytes s) s.mem = s.mem := by
  unfold execCrossPanelReply
  dsimp only
  (repeat' split) <;> simp
@[simp] theorem execRequestTimeout_mem (pt tag : Nat) (s : State) : outMem (execRequestTimeout pt tag s) s.mem = s.mem := by
  unfold execRequestTimeout
  dsimp only
  (repeat' split) <;> simp
@[simp] theorem State.answer_mem (s : State) (d : Option Nat) (v : Word) (count : Nat) (bs : List Byte) : (State.answer s d v count bs).mem = s.mem := rfl
@[simp] theorem State.refuse_mem (s : State) (d : Option Nat) : (State.refuse s d).mem = s.mem := rfl
@[simp] theorem State.remotePen_mem (s : State) (pt idx : Nat) (op : RemoteOp) : (State.remotePen s pt idx op).mem = s.mem := by
  unfold State.remotePen
  (repeat' split) <;> simp
@[simp] theorem execPacingGrant_mem (src dst n : Nat) (s : State) : outMem (execPacingGrant src dst n s) s.mem = s.mem := by
  unfold execPacingGrant
  dsimp only
  (repeat' split) <;> simp

/-! ## Power -/

@[simp] theorem execDriftChange_mem (pt d : Nat) (s : State) : outMem (execDriftChange pt d s) s.mem = s.mem := by
  unfold execDriftChange
  (repeat' split) <;> simp
@[simp] theorem execDriftAlarm_mem (pt : Nat) (s : State) : outMem (execDriftAlarm pt s) s.mem = s.mem := by
  unfold execDriftAlarm
  (repeat' split) <;> simp
@[simp] theorem State.thermalStep_mem (s : State) (pt : Nat) : (s.thermalStep pt).mem = s.mem := rfl
@[simp] theorem execThermalThrottle_mem (pt : Nat) (temp : BitVec 16) (s : State) : outMem (execThermalThrottle pt temp s) s.mem = s.mem := rfl
@[simp] theorem execDroopDetect_mem (row : Nat) (s : State) : outMem (execDroopDetect row s) s.mem = s.mem := by
  unfold execDroopDetect
  split
  · rfl
  · apply Eq.trans (foldl_mem _ ?_ _ _) rfl
    intros; rfl
@[simp] theorem State.droopFallStep_mem (s : State) (row : Nat) : (s.droopFallStep row).mem = s.mem := by
  unfold State.droopFallStep
  split
  · rfl
  · apply Eq.trans (foldl_mem _ ?_ _ _) rfl
    intros; rfl
@[simp] theorem execDroopRecovery_mem (row : Nat) (s : State) : outMem (execDroopRecovery row s) s.mem = s.mem := by
  unfold execDroopRecovery
  split
  · apply Eq.trans (foldl_mem _ ?_ _ _) rfl
    intro _ _
    rfl
  · rfl
@[simp] theorem State.budgetStep_mem (s : State) (die : Nat) : (s.budgetStep die).mem = s.mem := by
  unfold State.budgetStep
  dsimp only
  (repeat' split) <;> simp
@[simp] theorem execBudgetThrottle_mem (die : Nat) (s : State) : outMem (execBudgetThrottle die s) s.mem = s.mem := by simp [execBudgetThrottle]
@[simp] theorem State.throttles_mem (s : State) : s.throttles.mem = s.mem := by
  unfold State.throttles
  dsimp only
  rw [foldl_mem _ State.budgetStep_mem, foldl_mem _ State.thermalStep_mem]
@[simp] theorem execTurnsChange_mem (pt rise : Nat) (s : State) : outMem (execTurnsChange pt rise s) s.mem = s.mem := by
  unfold execTurnsChange
  dsimp only
  (repeat' split) <;> simp
@[simp] theorem State.modPower_mem (s : State) (d : Nat) (f : Power → Power) : (State.modPower s d f).mem = s.mem := rfl
@[simp] theorem execDrawRefresh_mem (die draw : Nat) (s : State) : outMem (execDrawRefresh die draw s) s.mem = s.mem := by
  unfold execDrawRefresh
  (repeat' split) <;> simp
@[simp] theorem execQuantaSend_mem (die : Nat) (dir : Dir) (q kind : Nat) (s : State) : outMem (execQuantaSend die dir q kind s) s.mem = s.mem := by
  unfold execQuantaSend
  (repeat' split) <;> simp
@[simp] theorem State.setStage_mem (s : State) (id stage : Nat) : (State.setStage s id stage).mem = s.mem := rfl
@[simp] theorem State.dropTransfer_mem (s : State) (id : Nat) : (State.dropTransfer s id).mem = s.mem := rfl
@[simp] theorem execQuantaReceipt_mem (id : Nat) (s : State) : outMem (execQuantaReceipt id s) s.mem = s.mem := by
  unfold execQuantaReceipt
  (repeat' split) <;> simp
@[simp] theorem State.settle_mem (s : State) (t : Transfer) : (State.settle s t).mem = s.mem := by
  unfold State.settle
  (repeat' split) <;> simp
@[simp] theorem State.giveBack_mem (s : State) (t : Transfer) : (State.giveBack s t).mem = s.mem := by
  unfold State.giveBack
  split <;> rfl
@[simp] theorem execQuantaAck_mem (id : Nat) (s : State) : outMem (execQuantaAck id s) s.mem = s.mem := by
  unfold execQuantaAck
  (repeat' split) <;> simp
@[simp] theorem execQuantaReturn_mem (id : Nat) (s : State) : outMem (execQuantaReturn id s) s.mem = s.mem := by
  unfold execQuantaReturn
  (repeat' split) <;> simp
@[simp] theorem execQuantaRecall_mem (die : Nat) (dir : Dir) (q : Nat) (s : State) : outMem (execQuantaRecall die dir q s) s.mem = s.mem := by
  unfold execQuantaRecall
  dsimp only
  (repeat' split) <;> simp
@[simp] theorem State.markSide_mem (s : State) (die : Nat) (dir : Dir) (v : Bool) : (State.markSide s die dir v).mem = s.mem := by
  unfold State.markSide
  (repeat' split) <;> simp
@[simp] theorem execSidebandFailure_mem (die : Nat) (dir : Dir) (s : State) : outMem (execSidebandFailure die dir s) s.mem = s.mem := by
  unfold execSidebandFailure
  simp only [outMem_next]
  split
  · rfl
  · rw [State.markSide_mem]
    apply foldl_mem
    intro t a
    split <;> simp
@[simp] theorem execSidebandRestore_mem (die : Nat) (dir : Dir) (s : State) : outMem (execSidebandRestore die dir s) s.mem = s.mem := by simp [execSidebandRestore]

/-! ## Faults -/

@[simp] theorem State.loseStrands_mem (s : State) (pt : Nat) : (State.loseStrands s pt).mem = s.mem := by
  unfold State.loseStrands
  dsimp only
  rw [foldl_mem, foldl_mem]
  · intro t a
    simp
  · intro t a
    simp
@[simp] theorem State.tellAll_mem (s : State) (rs : List Region) : (State.tellAll s rs).mem = s.mem := by
  unfold State.tellAll
  apply foldl_mem
  intros; rfl
@[simp] theorem State.markLost_mem (s : State) (rs : List Region) : (State.markLost s rs).mem = s.mem := by
  unfold State.markLost
  apply foldl_mem
  intros; rfl
@[simp] theorem State.dropRoutes_mem (s : State) (pt : Nat) : (s.dropRoutes pt).mem = s.mem := rfl
@[simp] theorem State.setFaultPolicy_mem (s : State) (d n : Nat) : (s.setFaultPolicy d n).mem = s.mem := by
  unfold State.setFaultPolicy
  split <;> rfl
@[simp] theorem State.choose_mem (s : State) (d n : Nat) : (s.choose d n).mem = s.mem := by
  unfold State.choose
  split <;> simp
@[simp] theorem State.lostParts_mem (s : State) (f : Nat) : (State.lostParts s f).mem = s.mem := by
  unfold State.lostParts
  dsimp only
  apply foldl_mem
  intro t a
  split <;> simp
@[simp] theorem State.loseDie_mem (s : State) (f : Nat) : (State.loseDie s f).mem = s.mem := by simp [State.loseDie]
@[simp] theorem State.dropFrames_mem (s : State) (f : Nat) : (s.dropFrames f).mem = s.mem := rfl
@[simp] theorem State.nameBuddy_mem (s : State) (pt e die : Nat) : (s.nameBuddy pt e die).mem = s.mem := by
  unfold State.nameBuddy
  dsimp only
  split <;> simp
@[simp] theorem State.loseBuddy_mem (s : State) (l : Nat) : (State.loseBuddy s l).mem = s.mem := rfl
@[simp] theorem State.failLane_mem (s : State) (d dir : Nat) : (State.failLane s d dir).mem = s.mem := by
  unfold State.failLane
  dsimp only
  (repeat' split) <;> simp
@[simp] theorem State.corrected_mem (s : State) (d : Nat) (u : FaultUnit) : (State.corrected s d u).mem = s.mem := by
  unfold State.corrected
  (repeat' split) <;> simp
@[simp] theorem execCorrectedError_mem (die : Nat) (u : FaultUnit) (s : State) : outMem (execCorrectedError die u s) s.mem = s.mem := by simp [execCorrectedError]
@[simp] theorem execFlitTagFailure_mem (die : Nat) (link : LinkLane) (s : State) : outMem (execFlitTagFailure die link s) s.mem = s.mem := by
  simp [execFlitTagFailure]
@[simp] theorem execSpareCopyEnd_mem (die g : Nat) (s : State) : outMem (execSpareCopyEnd die g s) s.mem = s.mem := by
  unfold execSpareCopyEnd
  (repeat' split) <;> simp
@[simp] theorem execDccRestart_mem (_die : Nat) (s : State) : outMem (execDccRestart _die s) s.mem = s.mem := rfl

/-! ## Boot -/

@[simp] theorem State.setPort_mem (s : State) (n : Nat) (down : Bool) : (s.setPort n down).mem = s.mem := rfl
@[simp] theorem State.graftFailed_mem (s : State) (l : Nat) : (s.graftFailed l).mem = s.mem := by
  unfold State.graftFailed
  dsimp only
  (repeat' split) <;> rfl

@[simp] theorem execPowerRegionEnergise_mem (s : State) : outMem (execPowerRegionEnergise s) s.mem = s.mem := by
  unfold execPowerRegionEnergise
  (repeat' split) <;> simp
@[simp] theorem execImageCheck_mem (die : Nat) (s : State) : outMem (execImageCheck die s) s.mem = s.mem := by
  unfold execImageCheck
  dsimp only
  (repeat' split) <;> simp
@[simp] theorem State.setEnd_mem (s : State) (die : Nat) (dir : Dir) (ok : Bool) (out back : Nat) : (s.setEnd die dir ok out back).mem = s.mem := rfl
@[simp] theorem execLinkAuthentication_mem (die : Nat) (dir : Dir) (ok : Bool) (key : Nat) (s : State) : outMem (execLinkAuthentication die dir ok key s) s.mem = s.mem := by
  unfold execLinkAuthentication
  dsimp only
  (repeat' split) <;> simp
@[simp] theorem execGetMeasurements_mem (die : Nat) (s : State) : outMem (execGetMeasurements die s) s.mem = s.mem := by
  unfold execGetMeasurements
  (repeat' split) <;> simp
@[simp] theorem State.trimPhase_mem (s : State) (d : List (Nat × Nat)) : (State.trimPhase s d).mem = s.mem := by
  unfold State.trimPhase
  split
  · rfl
  · apply Eq.trans (foldl_mem _ ?_ _ _) rfl
    intros; rfl

end Sys2Proof.Machine
end

