-- ==== Sys2Proof/Laws/Canonical.lean ====
section
/-!
SUPPORT. Every operation and event that writes memory keeps its canonical form (Memory.wf).
-/
namespace Sys2Proof.Machine

/-! ## Ops -/

@[simp] theorem State.setBytes_wf (s : State) (k : Nat) (bs : List Byte) (h : Memory.wf s.mem = true) : Memory.wf (s.setBytes k bs).mem = true :=
  wf_putBytes bs k h
@[simp] theorem State.setNat_wf (s : State) (k n x : Nat) (h : Memory.wf s.mem = true) : Memory.wf (s.setNat k n x).mem = true :=
  wf_putBytes _ k h
/-- A fold of steps that keep the canonical form keeps it. -/
theorem foldl_wf {α : Type} (f : State → α → State) (hf : ∀ t a, Memory.wf t.mem = true → Memory.wf (f t a).mem = true) (l : List α) (s : State)
    (h : Memory.wf s.mem = true) : Memory.wf (l.foldl f s).mem = true := by
  induction l generalizing s with
  | nil => exact h
  | cons a r ih => exact ih _ (hf s a h)

/-! ## Leaves -/

@[simp] theorem State.orLeaf_wf (s : State) (ldie off b : Nat) (h : Memory.wf s.mem = true) : Memory.wf (State.orLeaf s ldie off b).mem = true := by
  unfold State.orLeaf
  dsimp only
  (repeat' split) <;> simp [h]
theorem State.walkInto_wf {s : State} {pt root va : Nat} {w : Bool} {t : State} {e : Leaf} (h : Memory.wf s.mem = true)
    (ht : s.walkInto pt root va w = some (t, e)) : Memory.wf t.mem = true := by
  unfold State.walkInto at ht
  split at ht
  · cases ht
  · cases ht
    simp [h]
@[simp] theorem State.prefetch_wf (s : State) (p : Word) (o : Int) (h : Memory.wf s.mem = true) :
    Memory.wf (s.prefetch p o).mem = true := by
  unfold State.prefetch
  split
  · split
    · exact h
    · rw [State.post_mem]; exact h
  · exact h
@[simp] theorem execPfx_wf (b x : BitVec 5) (d : BitVec 14) (s : State) (h : Memory.wf s.mem = true) :
    Memory.wf (outMem (execPfx b x d s) s.mem) = true := by
  unfold execPfx
  rw [outMem_next]
  split <;> simp [h]

/-! ## Parts -/

@[simp] theorem State.scopewAt_wf (s : State) (rcb e : Nat) (w : Word) (h : Memory.wf s.mem = true) : Memory.wf (State.scopewAt s rcb e w).mem = true := by
  unfold State.scopewAt
  dsimp only
  (repeat' split) <;> simp [h]
@[simp] theorem State.buntwAt_wf (s : State) (rcb slot : Nat) (bs : List Byte) (h : Memory.wf s.mem = true) : Memory.wf (State.buntwAt s rcb slot bs).mem = true := by
  unfold State.buntwAt
  (repeat' split) <;> simp [h]
@[simp] theorem State.plotwAt_wf (s : State) (oid rcb x : Nat) (bs : List Byte) (h : Memory.wf s.mem = true) : Memory.wf (State.plotwAt s oid rcb x bs).mem = true := by
  unfold State.plotwAt
  (repeat' split) <;> simp [h]
theorem putNibbles_wf (ns : List (Nat × Bool × BitVec 4)) : ∀ {m : List Host.Cell}, Memory.wf m = true →
    Memory.wf (ns.foldl (fun m n => memPut m n.1 (putNibble (memGet m n.1) n.2.1 n.2.2)) m) = true := by
  induction ns with
  | nil => intro m h; exact h
  | cons n r ih => intro m h; exact ih (wf_put _ _ h)
theorem State.setRuns_wf (s : State) (gs : List Seg) (n x : Nat) (h : Memory.wf s.mem = true) : Memory.wf (s.setRuns gs n x).mem = true :=
  wf_putCells _ h
@[simp] theorem State.act_wf (s : State) (p : Part) (h : Memory.wf s.mem = true) : Memory.wf (State.act s p).mem = true := by
  unfold State.act
  dsimp only
  split
  case h_2 => exact wf_putCells _ h
  case h_3 => exact wf_putCells _ h
  case h_4 => exact putNibbles_wf _ h
  case h_5 => exact State.setRuns_wf _ _ _ _ h
  case h_6 => exact State.setRuns_wf _ _ _ _ h
  all_goals (try split) <;> simp [h]

@[simp] theorem State.logAppend_wf (s : State) (pt e : Nat) (used : Leaf → Bool) (h : Memory.wf s.mem = true) : Memory.wf (State.logAppend s pt e used).mem = true := by simp [State.logAppend, h]
@[simp] theorem State.noteReq_mem (s t : State) (a : Act) : (s.noteReq t a).mem = t.mem := by
  unfold State.noteReq
  dsimp only
  (repeat' split) <;> rfl
@[simp] theorem execPartPerform_wf (pid : Nat) (s : State) (h : Memory.wf s.mem = true) : Memory.wf (outMem (execPartPerform pid s) s.mem) = true := by
  unfold execPartPerform
  rw [outMem_next]
  split
  · exact h
  · next p _ =>
    split
    · exact h
    · extract_lets s0 s1 s2
      have h0 : Memory.wf s0.mem = true := h
      clear_value s0
      have h1 : Memory.wf s1.mem = true := foldl_wf _ (fun _ _ ht => State.logAppend_wf _ _ _ _ ht) _ _ h0
      clear_value s1
      have h2 : Memory.wf s2.mem = true := by
        show Memory.wf (State.mem (match p.home with | .agent pt => _ | _ => s1)) = true
        (repeat' split) <;> exact h1
      clear_value s2
      split
      · exact h2
      · exact h2
      · rw [State.follow_mem, State.noteReq_mem]
        exact State.act_wf _ _ h2

/-! ## WalkEvents -/

@[simp] theorem State.mergeEntry_wf (s : State) (e : Nat) (h : Memory.wf s.mem = true) : Memory.wf (State.mergeEntry s e).mem = true := by
  unfold State.mergeEntry
  dsimp only
  (repeat' split) <;> simp [h]
@[simp] theorem State.walked_mem (s : State) (p : Part) : (s.walked p).mem = s.mem := rfl
theorem State.walkPages_wf (p : Part) (l : List Nat) : ∀ (s : State), Memory.wf s.mem = true → Memory.wf (s.walkPages p l).1.mem = true := by
  induction l with
  | nil => exact fun s h => h
  | cons a r ih =>
    intro s h
    unfold State.walkPages
    split
    · exact h
    · next hw => exact ih _ (State.walkInto_wf h hw)
@[simp] theorem execPageWalk_wf (pid : Nat) (s : State) (h : Memory.wf s.mem = true) : Memory.wf (outMem (execPageWalk pid s) s.mem) = true := by
  unfold execPageWalk
  simp only [outMem_next]
  split
  · exact h
  · next p _ =>
    split
    · exact h
    · split
      · split
        · exact h
        · split
          · rw [State.parkPart_mem]; exact h
          · exact h
      · split
        · exact h
        · next u hu =>
          have hw := State.walkPages_wf p (s.unwalked p) u (by rw [State.crossAll_mem _ hu]; exact h)
          split
          · exact hw
          · split
            · rw [State.parkPart_mem]; exact hw
            · exact hw
theorem State.mergeNext_wf (s : State) (pt : Nat) (h : Memory.wf s.mem = true) : Memory.wf (s.mergeNext pt).mem = true :=
  State.setNat_wf _ _ _ _ (State.setNat_wf _ _ _ _ (State.mergeEntry_wf _ _ h))
@[simp] theorem State.mergeLog_wf (pt w0 n : Nat) : ∀ (s : State), Memory.wf s.mem = true → Memory.wf (s.mergeLog pt w0 n).mem = true := by
  induction n with
  | zero => intro s h; exact h
  | succ n ih =>
    intro s h
    unfold State.mergeLog
    split
    · exact h
    · exact ih _ (State.mergeNext_wf _ _ h)
theorem State.mergeGranted_wf (pt w0 n : Nat) : ∀ (s : State), Memory.wf s.mem = true → Memory.wf (s.mergeGranted pt w0 n).mem = true := by
  induction n with
  | zero => intro s h; exact h
  | succ n ih =>
    intro s h
    unfold State.mergeGranted
    split
    · exact h
    · split
      · exact h
      · next hc => exact ih _ (State.mergeNext_wf _ _ (by rw [State.crossTo_mem hc]; exact h))
theorem State.mergeIf_wf (b : Bool) (pt w0 n : Nat) (s : State) (h : Memory.wf s.mem = true) :
    Memory.wf (outMem (.next (if b then s.mergeGranted pt w0 n else s)) s.mem) = true := by
  simp only [outMem_next]
  split
  · exact State.mergeGranted_wf _ _ _ _ h
  · exact h
@[simp] theorem execLogMerge_wf (pt : Nat) (s : State) (h : Memory.wf s.mem = true) : Memory.wf (outMem (execLogMerge pt s) s.mem) = true := by
  rw [execLogMerge]
  exact State.mergeIf_wf _ _ _ _ _ h

@[simp] theorem execRequestComplete_wf (pt : Nat) (s : State) (h : Memory.wf s.mem = true) : Memory.wf (outMem (execRequestComplete pt s) s.mem) = true := by
  unfold execRequestComplete
  rw [outMem_next]
  split
  · exact h
  · exact State.setNat_wf _ _ _ _ (State.setNat_wf _ _ _ _ h)

/-! ## GridEvents -/

/-! Grid cells -/
theorem State.cellKey_wf {s : State} {pt : Nat} {g : GridEntry} {k : Nat} {w : Bool} {t : State} {a : Nat} (h : Memory.wf s.mem = true)
    (ht : s.cellKey pt g k w = some (t, a)) : Memory.wf t.mem = true := by
  unfold State.cellKey at ht
  dsimp only at ht
  split at ht
  · cases ht
  · split at ht
    · cases ht; exact h
    · split at ht
      · cases ht
      · next t' e hw =>
        have h2 : Memory.wf t'.mem = true := by
          split at hw
          · cases hw; exact h
          · exact State.walkInto_wf h hw
        split at ht
        · split at ht
          · cases ht
          · rw [← (Prod.mk.inj (Option.some.inj ht)).1]
            exact State.logAppend_wf _ _ _ _ h2
        · rw [← (Prod.mk.inj (Option.some.inj ht)).1]
          exact h2
theorem State.putCells_wf (pt : Nat) (g : GridEntry) (l : List (Nat × Word)) : ∀ {s t : State}, Memory.wf s.mem = true →
    s.putCells pt g l = some t → Memory.wf t.mem = true := by
  induction l with
  | nil => intro s t h ht; cases ht; exact h
  | cons c r ih =>
    intro s t h ht
    unfold State.putCells at ht
    split at ht
    · exact ih h ht
    · split at ht
      · cases ht
      · next hk => exact ih (State.setNat_wf _ _ _ _ (State.cellKey_wf h hk)) ht
theorem State.getCells_wf (pt : Nat) (g : GridEntry) (l : List Nat) : ∀ {s t : State} {vs : List Word}, Memory.wf s.mem = true →
    s.getCells pt g l = .ok (t, vs) → Memory.wf t.mem = true := by
  induction l with
  | nil => intro s t vs h ht; cases ht; exact h
  | cons c r ih =>
    intro s t vs h ht
    unfold State.getCells at ht
    split at ht
    · cases ht
    · next hk =>
      split at ht
      · cases ht
      · next hr => cases ht; exact ih (State.cellKey_wf h hk) hr
theorem State.landBuffer_wf {s : State} {p : Piece} {e : Nat} {t : State} (h : Memory.wf s.mem = true) (ht : s.landBuffer p e = some t) :
    Memory.wf t.mem = true := by
  unfold State.landBuffer at ht
  dsimp only at ht
  split at ht
  · cases ht; exact h
  · split at ht
    · cases ht
    · obtain ⟨u, hu, rfl⟩ := Option.map_eq_some_iff.mp ht
      simp [State.putCells_wf _ _ _ h hu]
theorem State.logCells_wf (pt : Nat) (g : GridEntry) (l : List (Nat × Word)) : ∀ {s : State}, Memory.wf s.mem = true →
    Memory.wf (s.logCells pt g l).mem = true := by
  induction l with
  | nil => intro s h; exact h
  | cons c r ih =>
    intro s h
    unfold State.logCells
    split
    · exact ih h
    · split
      · exact h
      · next hk => exact ih (State.cellKey_wf h hk)
theorem State.pieceEntry_mem {s : State} {p : Piece} {q : State × Option Nat} (h : s.pieceEntry p = some q) : q.1.mem = s.mem := by
  unfold State.pieceEntry at h
  split at h
  · cases h; rfl
  · split at h
    · cases h
    · split at h
      · cases h; rfl
      obtain ⟨x, hx, rfl⟩ := Option.map_eq_some_iff.mp h
      exact State.takeGrid_mem (t := x.1) (e := x.2) hx
theorem State.holdPiece_wf {s : State} {p : Piece} (h : Memory.wf s.mem = true) : Memory.wf (s.holdPiece p).mem = true := by
  unfold State.holdPiece
  split
  · next he =>
    split
    · exact h
    · exact State.logCells_wf _ _ _ (by rw [State.pieceEntry_mem he]; exact h)
  · exact h
theorem State.depositPiece_wf {s : State} {p : Piece} {t : State} (h : Memory.wf s.mem = true) (ht : s.depositPiece p = some t) :
    Memory.wf t.mem = true := by
  unfold State.depositPiece at ht
  split at ht
  · cases ht
  · next he => cases ht; rw [State.pieceEntry_mem he]; exact h
  · next he => exact State.landBuffer_wf (by rw [State.pieceEntry_mem he]; exact h) ht
theorem wf_getD {o : Option State} {s : State} (h : Memory.wf s.mem = true) (ho : ∀ t, o = some t → Memory.wf t.mem = true) :
    Memory.wf (o.getD s).mem = true := by
  cases o with
  | none => exact h
  | some t => exact ho t rfl
@[simp] theorem execGridPieceDeposit_wf (id : Nat) (s : State) (h : Memory.wf s.mem = true) : Memory.wf (outMem (execGridPieceDeposit id s) s.mem) = true := by
  unfold execGridPieceDeposit
  simp only [outMem_next]
  split
  · exact h
  · split
    · exact h
    · split
      · exact h
      · split
        · exact h
        · next hc =>
          have hm := State.crossTo_mem hc
          split
          · split
            · rw [State.depositRing_mem, hm]; exact h
            · rw [hm]; exact h
          · split
            · exact h
            · next hw =>
              have hn := (State.crossAll_mem _ hw).trans hm
              exact wf_getD (State.holdPiece_wf h) (fun _ ht => State.depositPiece_wf (by rw [hn]; exact h) ht)
@[simp] theorem State.putMapped_wf (s : State) (pt : Nat) (g : GridEntry) (l : List (Nat × Word)) (h : Memory.wf s.mem = true) :
    Memory.wf (s.putMapped pt g l).mem = true :=
  foldl_wf _ (fun t _ ht => by
    have hu : Memory.wf (State.mem (if t.logFull pt then t.mergeLog pt (t.logWR pt) 512 else t)) = true := by
      split
      · exact State.mergeLog_wf _ _ _ _ ht
      · exact ht
    exact wf_getD hu (fun _ hv => State.putCells_wf _ _ _ hu hv)) _ _ h
@[simp] theorem State.restorePart_wf (s : State) (pt e : Nat) (g : GridEntry) (ring : Bool) (h : Memory.wf s.mem = true) :
    Memory.wf (s.restorePart pt e g ring).mem = true := by
  unfold State.restorePart
  split <;> simp [h]
@[simp] theorem State.publishStep_wf (s : State) (o : Op) (pt e step : Nat) (h : Memory.wf s.mem = true) :
    Memory.wf (s.publishStep o pt e step).mem = true := by
  unfold State.publishStep
  dsimp only
  split
  · simp [h]
  · next t vs hg =>
    have ht := State.getCells_wf _ _ _ h hg
    (repeat' split) <;> simp [ht]
@[simp] theorem execGstepProcess_wf (oid : Nat) (s : State) (h : Memory.wf s.mem = true) : Memory.wf (outMem (execGstepProcess oid s) s.mem) = true := by
  unfold execGstepProcess
  simp only [outMem_next]
  split
  · exact h
  · split
    · split
      · exact h
      · refine wf_getD h (fun u hu => ?_)
        obtain ⟨v, hv, rfl⟩ := Option.map_eq_some_iff.mp hu
        exact State.publishStep_wf _ _ _ _ _ (by rw [State.crossAll_mem _ hv]; exact h)
    · exact h

/-! ## Regions -/

@[simp] theorem State.writeStatus_wf (s : State) (rcb : Nat) (st : RegionSt) (cause : Nat) (h : Memory.wf s.mem = true) :
    Memory.wf (State.writeStatus s rcb st cause).mem = true := by
  unfold State.writeStatus
  split <;> simp [h]
theorem State.placeStrand_mem {s : State} {pt slot : Nat} {r : Region} {idx num : Nat} {c : Cadence} {rt : Bool} {t : State}
    (h : s.placeStrand pt slot r idx num c rt = some t) : t.mem = s.mem := by
  unfold State.placeStrand at h
  split at h
  · cases h
  · cases h
    simp only [State.setStrand_mem, State.dropParty_mem]
    apply foldl_mem
    intros; rfl
theorem State.placeCadence_mem {pt : Nat} {r : Region} {idx : Nat} {c : Cadence} (n : Nat) : ∀ {s t : State} {num : Nat},
    s.placeCadence pt r idx c n num = some t → t.mem = s.mem := by
  induction n with
  | zero => intro s t num h; cases h; rfl
  | succ n ih =>
    intro s t num h
    unfold State.placeCadence at h
    split at h
    · cases h
    · split at h
      · cases h
      · next hp => rw [ih h, State.placeStrand_mem hp]
theorem State.placeCadences_mem {pt : Nat} {r : Region} (l : List (Nat × Cadence)) : ∀ {s t : State},
    s.placeCadences pt r l = some t → t.mem = s.mem := by
  induction l with
  | nil => intro s t h; cases h; rfl
  | cons c l ih =>
    intro s t h
    unfold State.placeCadences at h
    split at h
    · exact ih h
    · split at h
      · cases h
      · next hp => rw [ih h, State.placeCadence_mem _ hp]
theorem State.placeTile_mem {s : State} {pt : Nat} {r : Region} {t : State} (h : s.placeTile pt r = some t) : t.mem = s.mem := by
  unfold State.placeTile at h
  dsimp only at h
  split at h
  · cases h
  · next u hu =>
    rw [State.placeCadences_mem _ h]
    split at hu
    · cases hu; rfl
    · split at hu
      · exact State.placeStrand_mem hu
      · cases hu
theorem State.placeAll_mem {r : Region} (l : List Nat) : ∀ {s t : State}, s.placeAll r l = some t → t.mem = s.mem := by
  induction l with
  | nil => intro s t h; cases h; rfl
  | cons p l ih =>
    intro s t h
    unfold State.placeAll at h
    split at h
    · cases h
    · next hp => rw [ih h, State.placeTile_mem hp]
theorem admitError (c : Nat) (m : List Host.Cell) (q : Region × State) (h : (Except.error c : Except Nat (Region × State)) = .ok q) : q.2.mem = m := by
  cases h
theorem admitIte (P : Prop) [Decidable P] {a b : Except Nat (Region × State)} {m : List Host.Cell} (ha : ∀ q, a = .ok q → q.2.mem = m)
    (hb : ∀ q, b = .ok q → q.2.mem = m) : ∀ q, (if P then a else b) = .ok q → q.2.mem = m := by
  split
  · exact ha
  · exact hb
/-- Admission arms strands and writes no memory. -/
theorem State.admission_mem (s : State) (r : Region) (w : Nat) : ∀ q, s.admission r w = .ok q → q.2.mem = s.mem := by
  unfold State.admission
  extract_lets
  refine admitIte _ (admitError _ _) ?_
  generalize s.setOf w = o
  cases o with
  | none => exact admitError _ _
  | some t =>
    dsimp -zeta only
    extract_lets
    iterate 5 (refine admitIte _ (admitError _ _) ?_)
    extract_lets
    iterate 2 (refine admitIte _ (admitError _ _) ?_)
    generalize hp : State.placeAll s _ _ = o
    cases o with
    | none => exact admitError _ _
    | some u =>
      iterate 2 (refine admitIte _ (admitError _ _) ?_)
      intro q hq
      cases hq
      exact State.placeAll_mem _ hp
theorem wf_ite (P : Prop) [Decidable P] {a b : State} (ha : Memory.wf a.mem = true) (hb : Memory.wf b.mem = true) :
    Memory.wf (if P then a else b).mem = true := by
  split
  · exact ha
  · exact hb
@[simp] theorem State.placeImage_wf (s : State) (r : Region) (pt : Nat) (h : Memory.wf s.mem = true) :
    Memory.wf (s.placeImage r pt).mem = true := by
  unfold State.placeImage
  exact State.setBytes_wf _ _ _ (State.setBytes_wf _ _ _ h)
theorem State.takeScopes_wf (s : State) (base : Nat) (h : Memory.wf s.mem = true) : Memory.wf (s.takeScopes base).1.mem = true := by
  unfold State.takeScopes
  split
  · exact h
  · exact foldl_wf _ (fun _ _ ht => State.setNat_wf _ _ _ _ ht) _ _ h
@[simp] theorem execRegionAdmission_wf (rcb : Nat) (img : Image) (s : State) (h : Memory.wf s.mem = true) :
    Memory.wf (outMem (execRegionAdmission rcb img s) s.mem) = true := by
  unfold execRegionAdmission
  simp only [outMem_next]
  refine wf_ite _ h ?_
  generalize s.panelKey rcb = k
  generalize s.launchArg img.launch rcb = arg
  cases k with
  | none => exact h
  | some k =>
    cases arg with
    | none => exact h
    | some arg =>
      dsimp only
      generalize ha : s.admission _ _ = a
      cases a with
      | error c => exact State.writeStatus_wf _ _ _ _ h
      | ok q =>
        refine wf_ite _ h (State.writeStatus_wf _ _ _ _ (foldl_wf _ (fun _ _ hu => State.placeImage_wf _ _ _ hu) _ _ (State.takeScopes_wf _ _ ?_)))
        rw [State.admission_mem _ _ _ _ ha]; exact h
@[simp] theorem State.startRegion_wf (s : State) (pt : Nat) (r : Region) (h : Memory.wf s.mem = true) :
    Memory.wf (s.startRegion pt r).mem = true := by
  unfold State.startRegion
  dsimp only
  have ht : ∀ f : State → Nat → State, (∀ t i, (f t i).mem = t.mem) → Memory.wf ((List.range 16).foldl f s).mem = true := by
    intro f hf; rw [foldl_mem f hf]; exact h
  refine wf_ite _ (State.writeStatus_wf _ _ _ _ ?_) (ht _ ?_)
  · exact ht _ (fun _ _ => rfl)
  · exact fun _ _ => rfl
@[simp] theorem State.endRegion_wf (s : State) (rcb cause : Nat) (h : Memory.wf s.mem = true) :
    Memory.wf (s.endRegion rcb cause).mem = true := by
  unfold State.endRegion
  dsimp only
  refine State.writeStatus_wf _ _ _ _ ?_
  refine foldl_wf _ (fun _ _ ht => ?_) _ _ (foldl_wf _ (fun _ _ ht => ?_) _ _ h) <;> simpa -implicitDefEqProofs using ht
@[simp] theorem State.endTree_wf (f : Nat) : ∀ (s : State) (rcb cause : Nat), Memory.wf s.mem = true →
    Memory.wf (s.endTree f rcb cause).mem = true := by
  induction f with
  | zero => intro s _ _ h; exact h
  | succ f ih =>
    intro s rcb cause h
    unfold State.endTree
    exact State.endRegion_wf _ _ _ (foldl_wf _ (fun _ _ ht => ih _ _ _ ht) _ _ h)
theorem endIf_wf (P : Prop) [Decidable P] (s : State) (rcb cause n : Nat) (h : Memory.wf s.mem = true) :
    Memory.wf (if P then s.endTree n rcb cause else s).mem = true := by
  split
  · exact State.endTree_wf _ _ _ _ h
  · exact h

@[simp] theorem execStrandStart_wf (pt slot : Nat) (s : State) (h : Memory.wf s.mem = true) : Memory.wf (outMem (execStrandStart pt slot s) s.mem) = true := by
  unfold execStrandStart
  dsimp only
  (repeat' split) <;> simp [h]
@[simp] theorem execRegionEnd_wf (rcb : Nat) (s : State) (h : Memory.wf s.mem = true) : Memory.wf (outMem (execRegionEnd rcb s) s.mem) = true := by
  unfold execRegionEnd
  (repeat' split) <;> simp [h]

/-! ## Panels -/

theorem State.arrive_mem (s : State) (die : Option Nat) (fin : Ending) (res : Word) (buf : List Byte) (acts : List (Home × Act)) :
    (s.arrive die fin res buf acts).mem = s.mem := by
  unfold State.arrive
  exact (foldl_mem _ (by intros; rfl) _ _).trans rfl
theorem State.walkRuns_wf (root : Nat) (w : Bool) (l : List (Nat × List Seg)) : ∀ {s t : State} {r : List (Home × List Seg)},
    Memory.wf s.mem = true → s.walkRuns root w l = some (t, r) → Memory.wf t.mem = true := by
  induction l with
  | nil => intro s t r h ht; cases ht; exact h
  | cons c l ih =>
    intro s t r h ht
    unfold State.walkRuns at ht
    split at ht
    · cases ht
    · split at ht
      · cases ht
      · next hr => cases ht; exact ih (State.orLeaf_wf _ _ _ _ h) hr
theorem State.spot_wf (s : State) (target : RemoteTarget) (n : Nat) (w st : Bool) (h : Memory.wf s.mem = true) :
    Memory.wf (s.spot target n w st).1.mem = true := by
  cases target with
  | virt root va =>
    rw [State.spot]
    split
    · exact h
    · split
      · next hr => exact State.walkRuns_wf _ _ _ h hr
      · exact h
  | _ => rw [State.spot]; exact h
theorem State.spot_wf' {s : State} {target : RemoteTarget} {n : Nat} {w st : Bool} {t : State} {p : Spot} (h : Memory.wf s.mem = true)
    (hq : s.spot target n w st = (t, p)) : Memory.wf t.mem = true := by
  have := State.spot_wf s target n w st h
  rw [hq] at this
  exact this
theorem spotGo_wf {die : Option Nat} {s : State} {target : RemoteTarget} {n : Nat} {w st : Bool} {missing : State} {f : State → List (Home × List Seg) → State}
    (h : Memory.wf s.mem = true) (hm : Memory.wf missing.mem = true) (hf : ∀ t l, Memory.wf t.mem = true → Memory.wf (f t l).mem = true) :
    Memory.wf (State.mem (match s.spot target n w st with
      | (t, .here l) => f t l
      | (_, .miss) => missing
      | (_, .refused) => s.refuse die)) = true := by
  split
  · next hq => exact hf _ _ (State.spot_wf' h hq)
  · exact hm
  · exact h
@[simp] theorem State.remoteMem_wf (s : State) (target : RemoteTarget) (op : RemoteOp) (h : Memory.wf s.mem = true) :
    Memory.wf (State.remoteMem s target op).mem = true := by
  have ha : ∀ (t : State) die fin res buf acts, Memory.wf t.mem = true → Memory.wf (t.arrive die fin res buf acts).mem = true :=
    fun t _ _ _ _ _ ht => by rw [State.arrive_mem]; exact ht
  cases op with
  | load n sx => exact spotGo_wf h h (fun _ _ ht => ha _ _ _ _ _ _ ht)
  | copyOut n => exact spotGo_wf h h (fun _ _ ht => ha _ _ _ _ _ _ ht)
  | store bs => exact spotGo_wf h h (fun _ _ ht => ha _ _ _ _ _ _ ht)
  | nibble hi v => exact spotGo_wf h h (fun _ _ ht => ha _ _ _ _ _ _ ht)
  | copyIn bs => exact spotGo_wf h h (fun _ _ ht => ha _ _ _ _ _ _ ht)
  | atomic major ty v e => exact spotGo_wf h h (fun _ _ ht => ha _ _ _ _ _ _ ht)
  | _ => exact h
@[simp] theorem execHostWrite_wf (target : RemoteTarget) (bytes : List Byte) (s : State) (h : Memory.wf s.mem = true) :
    Memory.wf (outMem (execHostWrite target bytes s) s.mem) = true := by
  unfold execHostWrite
  simp only [outMem_next]
  refine wf_ite _ h ?_
  split
  · split
    · next hq => rw [State.arrive_mem]; exact State.spot_wf' h hq
    · exact h
  · split
    · split <;> exact h
    · exact h
  · exact h
@[simp] theorem execRemoteRequest_wf (target : RemoteTarget) (op : RemoteOp) (s : State) (h : Memory.wf s.mem = true) : Memory.wf (outMem (execRemoteRequest target op s) s.mem) = true := by
  unfold execRemoteRequest
  simp only [outMem_next]
  refine wf_ite _ h ?_
  split
  · split
    · exact wf_ite _ h (wf_ite _ (by rw [State.remotePen_mem]; exact h) h)
    · exact h
  · split <;> exact h
  · exact State.remoteMem_wf _ _ _ h

/-! ## Power -/

@[simp] theorem execStatusBlockRefresh_wf (die : Nat) (s : State) (h : Memory.wf s.mem = true) : Memory.wf (outMem (execStatusBlockRefresh die s) s.mem) = true := by simp [execStatusBlockRefresh, h]

/-! ## Faults -/

theorem regions_mem (t : State) (rs : List Region) : ({ t with regions := rs } : State).mem = t.mem := rfl
@[simp] theorem State.writeMap_wf (s : State) (d : Nat) (h : Memory.wf s.mem = true) : Memory.wf (s.writeMap d).mem = true := by
  unfold State.writeMap
  exact State.setBytes_wf _ _ _ h
@[simp] theorem State.writeMaps_wf (s : State) (h : Memory.wf s.mem = true) : Memory.wf s.writeMaps.mem = true :=
  foldl_wf _ (fun _ _ ht => State.writeMap_wf _ _ ht) _ _ h
theorem mem_ite (P : Prop) [Decidable P] {a b : State} {m : List Host.Cell} (ha : a.mem = m) (hb : b.mem = m) : (if P then a else b).mem = m := by
  split
  · exact ha
  · exact hb
@[simp] theorem State.removeTile_wf (s : State) (pt : Nat) (dead : Bool) (h : Memory.wf s.mem = true) :
    Memory.wf (s.removeTile pt dead).mem = true := by
  unfold State.removeTile
  extract_lets d rs s1 s2 s3 s4
  have h1 : s1.mem = s.mem := State.modDie_mem _ _ _
  clear_value s1
  have h2 : s2.mem = s.mem := (State.bump_mem _ _ _).trans ((State.loseStrands_mem _ _).trans h1)
  clear_value s2
  have h3 : s3.mem = s.mem := (regions_mem _ _).trans h2
  clear_value s3
  have h4 : s4.mem = s.mem := (State.markLost_mem _ _).trans (mem_ite _ h3 h3)
  clear_value s4
  refine State.writeMap_wf _ _ ?_
  rw [State.tellAll_mem, h4]
  exact h
@[simp] theorem State.loseRouter_wf (s : State) (pt : Nat) (h : Memory.wf s.mem = true) : Memory.wf (s.loseRouter pt).mem = true :=
  State.writeMap_wf _ _ h
@[simp] theorem State.graftGrid_wf (s : State) (pt e : Nat) (g : GridEntry) (h : Memory.wf s.mem = true) :
    Memory.wf (s.graftGrid pt e g).mem = true := by
  unfold State.graftGrid
  have h1 := State.restorePart_wf s pt e g true h
  refine wf_ite _ (by simpa -implicitDefEqProofs using h) (wf_ite _ h1 (foldl_wf _ (fun t p ht => wf_getD ?_ (fun _ hu => State.depositPiece_wf ht hu)) _ _ h1))
  rw [State.queuePieces_mem]; exact ht
@[simp] theorem State.rearmRegion_wf (s : State) (r : Region) (pts : List (Option Nat)) (h : Memory.wf s.mem = true) :
    Memory.wf (s.rearmRegion r pts).mem = true := by
  refine foldl_wf _ (fun t pt ht => ?_) _ _ h
  cases pt with
  | none => rw [State.markLost_mem]; exact ht
  | some pt =>
    have hi := State.placeImage_wf t r pt ht
    exact wf_getD (by rw [State.markLost_mem]; exact hi) (fun _ hu => by rw [State.placeTile_mem hu]; exact hi)
@[simp] theorem State.graftOnto_wf (s : State) (f l l' : Nat) (h : Memory.wf s.mem = true) : Memory.wf (s.graftOnto f l l').mem = true := by
  unfold State.graftOnto
  extract_lets rs grids rings t0 t t1 t2 t3 t4 t5
  have h0 : t0.mem = s.mem := (foldl_mem _ (fun _ _ => by (repeat' split) <;> first | exact State.depositRing_mem _ _ | rfl) _ _).trans rfl
  have h1 : t1.mem = s.mem := h0
  clear_value t0 t t1
  have h2 : t2.mem = s.mem := (State.loseBuddy_mem _ _).trans ((State.loseBuddy_mem _ _).trans ((State.dropFrames_mem _ _).trans
    ((State.lostParts_mem _ _).trans ((State.loseDie_mem _ _).trans h1))))
  clear_value t2
  have h3 : Memory.wf t3.mem = true := by
    have : t3.mem = s.mem := (regions_mem _ _).trans h2
    rw [this]; exact h
  clear_value t3
  have h4 : Memory.wf t4.mem = true := foldl_wf _ (fun _ _ hu => State.rearmRegion_wf _ _ _ hu) _ _ h3
  clear_value t4
  have h5 : Memory.wf t5.mem = true := foldl_wf _ (fun u g hu => by
    split
    · exact State.graftGrid_wf _ _ _ _ hu
    · simpa -implicitDefEqProofs using hu) _ _ h4
  clear_value t5
  exact State.writeMaps_wf _ (by rw [State.tellAll_mem]; exact h5)
theorem endLive_wf (n rcb c : Nat) (u : State) (h : Memory.wf u.mem = true) :
    Memory.wf (if regionLive (u.region rcb) then u.endTree n rcb c else u).mem = true := by
  split
  · exact State.endTree_wf _ _ _ _ h
  · exact h
@[simp] theorem State.endAll17_wf (s : State) (rs : List Region) (h : Memory.wf s.mem = true) : Memory.wf (s.endAll17 rs).mem = true :=
  foldl_wf _ (fun u _ hu => endLive_wf _ _ _ u hu) _ _ h
theorem vacate_wf (s : State) (m : SMap (Nat × Nat)) (f l : Nat) (h : Memory.wf s.mem = true) :
    Memory.wf (((({ s with dmap := m } : State).loseDie f).loseBuddy l).writeMaps).mem = true :=
  State.writeMaps_wf _ (by rw [State.loseBuddy_mem, State.loseDie_mem]; exact h)
@[simp] theorem State.failDie_wf (s : State) (f : Nat) (h : Memory.wf s.mem = true) : Memory.wf (s.failDie f).mem = true := by
  unfold State.failDie
  extract_lets t
  have ht : Memory.wf t.mem = true := by rw [show t.mem = s.mem from State.modDie_mem _ _ _]; exact h
  clear_value t
  split
  · exact ht
  · refine wf_ite _ (vacate_wf _ _ _ _ ht) ?_
    split
    · exact State.graftOnto_wf _ _ _ _ ht
    · exact vacate_wf _ _ _ _ (State.endAll17_wf _ _ ht)
@[simp] theorem State.failTile_wf (s : State) (d i : Nat) (dead : Bool) (h : Memory.wf s.mem = true) :
    Memory.wf (s.failTile d i dead).mem = true := by
  unfold State.failTile
  exact wf_ite _ (State.loseRouter_wf _ _ h) (wf_ite _ h (wf_ite _ (State.failDie_wf _ _ h) (State.removeTile_wf _ _ _ h)))
@[simp] theorem State.failChannel_wf (s : State) (d ch : Nat) (h : Memory.wf s.mem = true) :
    Memory.wf (s.failChannel d ch).mem = true := by
  unfold State.failChannel
  exact wf_ite _ h (wf_ite _ (State.failDie_wf _ _ h) (wf_ite _ h h))
@[simp] theorem State.ladder_wf (s : State) (d : Nat) (u : FaultUnit) (dead : Bool) (h : Memory.wf s.mem = true) :
    Memory.wf (s.ladder d u dead).mem = true := by
  unfold State.ladder
  (repeat' split) <;> simp [h]
@[simp] theorem execSelfTestResult_wf (die : Nat) (u : FaultUnit) (pass dead : Bool) (s : State) (h : Memory.wf s.mem = true) :
    Memory.wf (outMem (execSelfTestResult die u pass dead s) s.mem) = true := by
  unfold execSelfTestResult
  simp only [outMem_next]
  refine wf_ite _ h (wf_ite _ ?_ (State.ladder_wf _ _ _ _ ?_)) <;> simpa -implicitDefEqProofs using h
@[simp] theorem State.restoreAt_wf (s : State) (g : GridEntry) (h : Memory.wf s.mem = true) : Memory.wf (s.restoreAt g).mem = true := by
  unfold State.restoreAt
  split
  · simpa -implicitDefEqProofs using h
  · split
    · simpa -implicitDefEqProofs using h
    · exact State.restorePart_wf _ _ _ _ _ h
theorem State.rollBack_wf {s u : State} {r : Region} {gs : List (Nat × GridEntry)} (h : Memory.wf s.mem = true)
    (hu : s.rollBack r gs = some u) : Memory.wf u.mem = true := by
  unfold State.rollBack at hu
  extract_lets t1 t2 t3 r' t4 t5 at hu
  have h1 : t1.mem = s.mem := foldl_mem _ (fun _ _ => by rw [State.setStrand_mem, State.dropParty_mem]) _ _
  clear_value t1
  have h2 : t2.mem = s.mem := (foldl_mem _ (fun _ _ => by rw [State.setEntry_mem, State.dropParty_mem]) _ _).trans h1
  clear_value t2
  have h3 : t3.mem = s.mem := h2
  clear_value t3 r'
  have h4 : Memory.wf t4.mem = true := by
    have : t4.mem = s.mem := (State.modRegion_mem _ _ _).trans h3
    rw [this]; exact h
  clear_value t4
  have h5 : Memory.wf t5.mem = true := foldl_wf _ (fun _ _ hu => State.placeImage_wf _ _ _ hu) _ _ h4
  clear_value t5
  split at hu
  · cases hu
  obtain ⟨v, hv, rfl⟩ := Option.map_eq_some_iff.mp hu
  exact foldl_wf _ (fun _ _ ht => State.restoreAt_wf _ _ ht) _ _ (by rw [State.placeAll_mem _ hv]; exact h5)
theorem State.rollback?_wf {s u : State} {rcb : Nat} (h : Memory.wf s.mem = true) (hu : s.rollback? rcb = some u) :
    Memory.wf u.mem = true := by
  unfold State.rollback? at hu
  dsimp only at hu
  split at hu
  · exact State.rollBack_wf (show Memory.wf (s.answered rcb).mem = true from h) hu
  · cases hu
@[simp] theorem execFaultDomainTakedown_wf (rcb : Nat) (s : State) (h : Memory.wf s.mem = true) :
    Memory.wf (outMem (execFaultDomainTakedown rcb s) s.mem) = true := by
  rw [execFaultDomainTakedown]
  exact wf_ite _ (State.endTree_wf _ _ _ _ (by rw [State.choose_mem]; exact h)) h
@[simp] theorem execRegionRollback_wf (rcb : Nat) (s : State) (h : Memory.wf s.mem = true) :
    Memory.wf (outMem (execRegionRollback rcb s) s.mem) = true := by
  rw [execRegionRollback]
  refine wf_ite _ h (wf_getD h (fun u hu => ?_))
  obtain ⟨v, hv, rfl⟩ := Option.map_eq_some_iff.mp hu
  rw [State.choose_mem]
  exact State.rollback?_wf h hv
@[simp] theorem execTurnTableChange_wf (die : Nat) (tts : List Nat) (s : State) (h : Memory.wf s.mem = true) :
    Memory.wf (outMem (execTurnTableChange die tts s) s.mem) = true := by
  unfold execTurnTableChange
  simp only [outMem_next]
  exact wf_ite _ h (State.writeMap_wf _ _ h)

/-! ## Boot -/

theorem bootPhase_wf (s : State) (n : Nat) (h : Memory.wf s.mem = true) : Memory.wf ({ s with bootPhase := n } : State).mem = true := h
theorem State.restart_mem (s : State) : s.restart.mem = [] := rfl
@[simp] theorem State.restart_wf (s : State) : Memory.wf s.restart.mem = true := by
  rw [State.restart_mem]; rfl
@[simp] theorem execPanelReset_wf (s : State) : Memory.wf (outMem (execPanelReset s) s.mem) = true := by
  rw [execPanelReset]
  exact State.restart_wf s
@[simp] theorem execInletOvertemp_wf (temp : Nat) (s : State) (h : Memory.wf s.mem = true) :
    Memory.wf (outMem (execInletOvertemp temp s) s.mem) = true := by
  rw [execInletOvertemp]
  exact wf_ite _ (State.restart_wf _) h
@[simp] theorem execRecoveryImage_wf (img : PortImage) (s : State) (h : Memory.wf s.mem = true) :
    Memory.wf (outMem (execRecoveryImage img s) s.mem) = true := by
  rw [execRecoveryImage]
  exact wf_ite _ h (State.restart_wf s)
theorem phase3_wf (s : State) (g : Bool) (n : Nat) (h : Memory.wf s.mem = true) :
    Memory.wf ({ s with gradeB := g, bootPhase := n } : State).mem = true := h
@[simp] theorem State.selfTestPhase_wf (s : State) (bad : List Nat) (grade : Nat) (pts fp : List (Nat × Nat × Nat))
    (h : Memory.wf s.mem = true) : Memory.wf (s.selfTestPhase bad grade pts fp).mem = true := by
  unfold State.selfTestPhase
  extract_lets s1 s2 s3
  have h1 : s1.mem = s.mem := foldl_mem _ (fun _ _ => State.modDie_mem _ _ _) _ _
  clear_value s1
  have h2 : s2.mem = s.mem := (foldl_mem _ (fun _ _ => State.modDie_mem _ _ _) _ _).trans h1
  clear_value s2
  have h3 : s3.mem = s.mem := (foldl_mem _ (fun _ _ => State.modDie_mem _ _ _) _ _).trans h2
  clear_value s3
  exact wf_ite _ h (phase3_wf _ _ _ (State.writeMaps_wf _ (by rw [h3]; exact h)))
@[simp] theorem State.configurePhase_wf (s : State) (chip : Nat) (dmap : List (Nat × Nat × Nat)) (csl : List (Nat × Nat)) (tmo threshold : Nat)
    (h : Memory.wf s.mem = true) : Memory.wf (s.configurePhase chip dmap csl tmo threshold).mem = true := by
  unfold State.configurePhase
  extract_lets t u v passed
  have h1 : t.mem = s.mem := rfl
  have h2 : u.mem = s.mem := (foldl_mem _ (fun _ _ => State.modRow_mem _ _ _) _ _).trans h1
  clear_value u
  have h3 : v.mem = s.mem := (foldl_mem _ (fun _ _ => State.modDie_mem _ _ _) _ _).trans h2
  clear_value v
  refine wf_ite _ h (bootPhase_wf _ _ (State.writeMaps_wf _ ?_))
  rw [foldl_mem _ (fun _ _ => State.graftFailed_mem _ _), h3]
  exact h
theorem State.setThreshold_mem (s : State) (n : Nat) : (s.setThreshold n).mem = s.mem := by
  unfold State.setThreshold
  split <;> rfl
theorem State.setPolicy_mem (s : State) (n : Nat) : (s.setPolicy n).mem = s.mem := by
  unfold State.setPolicy
  split <;> rfl

end Sys2Proof.Machine
end

