-- ==== Sys2Proof/Laws/Ends.lean ====
section
/-!
SUPPORT. What the shared ends of a word do: the write of a register and the move to the next position, said once.
-/
namespace Sys2Proof.Safety

open Sys2Proof.Machine

theorem MemKept.of_eq {s t : State} (h : t.mem = s.mem) : MemKept s t := fun _ => by rw [h]

/-- The strand at its next position, with the issue done. -/
theorem performed_end (s : State) (x : Strand) :
    Performed s { s.setMe x with iss := { s.iss with res := .done } } x :=
  ⟨State.strand_setStrand _ _ _, fun _ hk => State.strand_setStrand_other _ _ hk, .of_eq rfl, rfl⟩
/-- The strand replaced twice is the strand replaced once. -/
theorem put_put {α : Type} (m : SMap α) (k : Nat) (x y : α) : SMap.put (SMap.put m k x) k y = SMap.put m k y := by
  induction m with
  | nil => simp [SMap.put]
  | cons c r ih =>
    obtain ⟨j, z⟩ := c
    simp only [SMap.put]
    split
    · simp [SMap.put, *]
    · split <;> simp [SMap.put, *]
theorem setMe_setMe (s : State) (x y : Strand) : (s.setMe x).setMe y = s.setMe y := by
  simp only [State.setMe, State.setStrand, State.key, put_put]
theorem performed_goto (s : State) (x : Strand) (pc : Word) : Performed s ((s.setMe x).goto pc) { x with pc := pc } := by
  unfold State.goto
  rw [State.me_setMe, setMe_setMe]
  exact performed_end s _
theorem performed_done (s : State) (x : Strand) : Performed s (s.setMe x).done { x with pc := s.iss.next } :=
  performed_goto s x s.iss.next
theorem moves_goto (s : State) (pc : Word) : Moves s (s.goto pc) pc := performed_end s _
theorem moves_done (s : State) : Moves s s.done s.iss.next := performed_end s _

theorem Strand.reg_setReg (x : Strand) (d : BitVec 5) (v : Word) (r : BitVec 5) :
    (x.setReg d v).reg r = if r = 0 then 0 else if r = d then v else x.reg r := by
  by_cases hr : r = d
  · subst hr
    rw [Strand.reg_setReg_self]
    split <;> simp_all
  · rw [Strand.reg_setReg_other _ _ hr, if_neg hr]
    split
    · simp_all [Strand.reg]
    · rfl

theorem writesReg_done (s : State) (d : BitVec 5) (v : Word) : WritesReg s (s.setS d v).done d v s.iss.next := by
  refine ⟨_, performed_done s _, ?_, fun r => ?_⟩
  · rw [Strand.setReg_s]
  · exact Strand.reg_setReg _ _ _ _
theorem writesReg_goto (s : State) (d : BitVec 5) (v pc : Word) : WritesReg s ((s.setS d v).goto pc) d v pc := by
  refine ⟨_, performed_goto s _ _, ?_, fun r => ?_⟩
  · rw [Strand.setReg_s]
  · exact Strand.reg_setReg _ _ _ _
/-- A word whose result goes to s d. -/
theorem result_writes (s : State) (d : BitVec 5) (v : Word) : ∃ t, s.result d v = .next t ∧ WritesReg s t d v s.iss.next :=
  ⟨_, rfl, writesReg_done s d v⟩

theorem Strand.mask_setMask (x : Strand) (d : BitVec 3) (v : Word) (r : BitVec 3) :
    (x.setMask d v).mask r = if r = 0 then BitVec.allOnes 64 else if r = d then v else x.mask r := by
  by_cases hr : r = d
  · subst hr
    rw [Strand.mask_setMask_self]
    split <;> simp_all
  · rw [Strand.mask_setMask_other _ _ hr, if_neg hr]
    split
    · simp_all [Strand.mask]
    · rfl
theorem Strand.setMask_k (x : Strand) (n : BitVec 3) (v : Word) : x.setMask n v = { x with k := (x.setMask n v).k } := by
  unfold Strand.setMask
  split <;> rfl
theorem writesMask_done (s : State) (d : BitVec 3) (v : Word) : WritesMask s (s.setK d v).done d v := by
  refine ⟨_, performed_done s _, ?_, fun r => ?_⟩
  · rw [Strand.setMask_k]
  · exact Strand.mask_setMask _ _ _ _

theorem traps_trap (s : State) (c : BitVec 6) (xpc xval : Word) : Traps s (s.trapWith c xpc xval) c xpc xval := rfl

end Sys2Proof.Safety
end

