-- ==== Sys2Proof/Laws/Issues.lean ====
section
/-!
SUPPORT. What the issue of an operation does, said once: `postAll`, `issueOp`, `issueEngine`, `touch`, and a word's access.
-/
namespace Sys2Proof.Safety

open Sys2Proof.Machine

/-- Posting appends the parts in order and numbers them; nothing else changes. -/
theorem postAll_posts (proto : Part) (ps : List (Home × Act)) : ∀ s : State,
    ∃ q, (s.postAll proto ps) = { s with posts := s.posts ++ q, nextId := s.nextId + ps.length } ∧
      q.map (fun p => (p.home, p.act)) = ps ∧
      ∀ p ∈ q, p.oid = proto.oid ∧ p.src = proto.src ∧ p.gates = proto.gates ∧ p.party = proto.party ∧ p.cls = proto.cls := by
  induction ps with
  | nil => intro s; exact ⟨[], by simp [State.postAll], rfl, fun _ h => absurd h (by simp)⟩
  | cons x r ih =>
    intro s
    obtain ⟨h, a⟩ := x
    let p0 : Part := { proto with home := h, act := a, pid := s.nextId }
    obtain ⟨q, hq, hm, hp⟩ := ih (s.post { proto with home := h, act := a })
    refine ⟨p0 :: q, ?_, ?_, ?_⟩
    · show State.postAll (s.post _) proto r = _
      rw [hq]
      simp only [State.post, State.fresh, p0, List.append_assoc, List.singleton_append, List.length_cons]
      congr 1
      omega
    · simp [hm, p0]
    · intro p h'
      rcases List.mem_cons.mp h' with h' | h'
      · subst h'; exact ⟨rfl, rfl, rfl, rfl, rfl⟩
      · exact hp p h'

theorem map_pair_gates (q : List Part) (G : List Gate) (h : ∀ p ∈ q, p.gates = G) :
    q.map (fun p => (p.home, p.act, p.gates)) = (q.map (fun p => (p.home, p.act))).map (fun x => (x.1, x.2, G)) := by
  rw [List.map_map]
  exact List.map_congr_left (fun p hp => by simp [h p hp])

/-- The issuing strand after the count of a class has risen and its gates have changed. -/
theorem count_setCount (x : Strand) (c k : Cls) (n : Nat) : (x.setCount c n).count k = if c = k then n else x.count k := by
  cases c <;> cases k <;> rfl
theorem regsKept_setCount (x : Strand) (c : Cls) (n : Nat) : RegsKept x (x.setCount c n) := by cases c <;> rfl
theorem RegsKept.trans {x y z : Strand} (h : RegsKept x y) (g : RegsKept y z) : RegsKept x z := by
  rw [RegsKept] at *
  rw [g, h]

/-- An operation with its strand replaced by one with the same registers, then the end of the word. -/
theorem issues_of {s t : State} {c : Option Cls} {fin : Ending} {ps : List (Home × Act × List Gate)} (x : Strand)
    (hx : t.strand s.key = x) (hr : RegsKept s.me x) (hc : ∀ k, x.count k = s.me.count k + (if c = some k then 1 else 0))
    (hs : StrandsKeptBut s t s.key)
    (ho : ∃ o q, t.ops = s.ops ++ [o] ∧ o.oid = s.nextId ∧ o.party = .strand s.key ∧ o.rcb = s.me.rcbp.toNat ∧ o.cls = c ∧
      o.fin = fin ∧ t.posts = s.posts ++ q ∧ q.map (fun p => (p.home, p.act, p.gates)) = ps ∧ ∀ p ∈ q, p.oid = o.oid ∧ p.src = s.pt)
    (hg : t.regions = s.regions ∨ t.regions = (s.rearm s.key).regions)
    (he : t = { s with strands := t.strands, regions := t.regions, ops := t.ops, posts := t.posts, nextId := t.nextId }) :
    Issues s t.done c fin ps := by
  have hi : t.iss = s.iss := by rw [he]
  have hk : t.key = s.key := by simp only [State.key, hi]
  have hm : t.me = x := by rw [State.me, hk, hx]
  have hd : t.done = { t.setStrand s.key { x with pc := s.iss.next } with iss := { s.iss with res := .done } } := by
    simp only [State.done, State.setMe, hk, hm, hi]
  have hst : t.done.strand s.key = { x with pc := s.iss.next } := by
    rw [hd]; exact State.strand_setStrand _ _ _
  refine ⟨?_, ?_, ?_, ?_, ?_, ?_, ?_, ?_⟩
  · rw [hst, RegsKept]; rw [RegsKept] at hr; rw [hr]
  · rw [hst]
  · intro k
    rw [hst, ← hc k]
    cases k <;> rfl
  · intro k hne
    rw [hd]
    exact (State.strand_setStrand_other _ _ hne).trans (hs k hne)
  · refine .of_eq ?_
    rw [hd]
    show t.mem = s.mem
    rw [he]
  · rw [hd]; exact ho
  · rw [hd]; exact hg
  · rw [hd]
    conv => lhs; rw [he]
    rfl

/-- What a state after an issue has of the state before, short of the end of the word. -/
structure Issued (s t : State) (c : Option Cls) (fin : Ending) (ps : List (Home × Act × List Gate)) : Prop where
  regs : RegsKept s.me (t.strand s.key)
  count : ∀ k, (t.strand s.key).count k = s.me.count k + (if c = some k then 1 else 0)
  strands : StrandsKeptBut s t s.key
  op : ∃ o q, t.ops = s.ops ++ [o] ∧ o.oid = s.nextId ∧ o.party = .strand s.key ∧ o.rcb = s.me.rcbp.toNat ∧ o.cls = c ∧
      o.fin = fin ∧ t.posts = s.posts ++ q ∧ q.map (fun p => (p.home, p.act, p.gates)) = ps ∧ ∀ p ∈ q, p.oid = o.oid ∧ p.src = s.pt
  regions : t.regions = s.regions ∨ t.regions = (s.rearm s.key).regions
  rest : t = { s with strands := t.strands, regions := t.regions, ops := t.ops, posts := t.posts, nextId := t.nextId }

theorem Issued.done {s t : State} {c : Option Cls} {fin : Ending} {ps : List (Home × Act × List Gate)} (h : Issued s t c fin ps) :
    Issues s t.done c fin ps := issues_of _ rfl h.regs h.count h.strands h.op h.regions h.rest

/-- The strand changed in gates or quiet count only. -/
theorem Issued.mod {s t : State} {c : Option Cls} {fin : Ending} {ps : List (Home × Act × List Gate)} (h : Issued s t c fin ps)
    (f : Strand → Strand) (hf : ∀ x, RegsKept x (f x) ∧ ∀ k, (f x).count k = x.count k) : Issued s (t.modStrand s.key f) c fin ps where
  regs := by rw [State.strand_modStrand]; exact h.regs.trans (hf _).1
  count := fun k => by rw [State.strand_modStrand, (hf _).2 k]; exact h.count k
  strands := fun k hk => (State.strand_modStrand_other _ _ hk).trans (h.strands k hk)
  op := h.op
  regions := h.regions
  rest := by
    conv => lhs; rw [State.modStrand, State.setStrand, h.rest]
    rfl

/-- The quiet count returns to 0 (R63). -/
theorem Issued.touch {s t : State} {c : Option Cls} {fin : Ending} {ps : List (Home × Act × List Gate)} (h : Issued s t c fin ps)
    (hr : t.regions = s.regions) : Issued s (t.touch s.key) c fin ps := by
  have hrcb : (t.strand s.key).rcbp = s.me.rcbp := by have := h.regs; rw [RegsKept] at this; rw [this]
  have h2 : Issued s (t.rearm s.key) c fin ps :=
    { regs := h.regs, count := h.count, strands := h.strands, op := h.op
      regions := Or.inr (by simp only [State.rearm, State.modRegion, hr, hrcb]; rfl)
      rest := by
        rw [show t.rearm s.key = { t with regions := (t.rearm s.key).regions } from rfl]
        generalize (t.rearm s.key).regions = R
        conv => lhs; rw [h.rest] }
  exact h2.mod _ (fun x => ⟨rfl, fun k => by cases k <;> rfl⟩)

theorem issued_count {s t u : State} {fin : Ending} {ps : List (Home × Act × List Gate)} (c : Option Cls) (hx : t.strand s.key = s.me)
    (hs : StrandsKeptBut s t s.key)
    (ho : ∃ o q, t.ops = s.ops ++ [o] ∧ o.oid = s.nextId ∧ o.party = .strand s.key ∧ o.rcb = s.me.rcbp.toNat ∧ o.cls = c ∧
      o.fin = fin ∧ t.posts = s.posts ++ q ∧ q.map (fun p => (p.home, p.act, p.gates)) = ps ∧ ∀ p ∈ q, p.oid = o.oid ∧ p.src = s.pt)
    (hg : t.regions = s.regions)
    (he : t = { s with strands := t.strands, regions := t.regions, ops := t.ops, posts := t.posts, nextId := t.nextId })
    (hu : ∀ k, c = some k → u = t.addCount s.key k) (hn : c = none → u = t) : Issued s u c fin ps := by
  cases c with
  | none => rw [hn rfl]; exact ⟨by rw [hx]; rfl, fun k => by rw [hx]; simp, hs, ho, Or.inl hg, he⟩
  | some c =>
    rw [hu c rfl]
    show Issued s (t.modStrand s.key (fun x => x.setCount c (x.count c + 1))) (some c) fin ps
    refine ⟨?_, fun k => ?_, fun k hk => ?_, ho, Or.inl hg, ?_⟩
    · rw [State.strand_modStrand, hx]; exact regsKept_setCount _ _ _
    · rw [State.strand_modStrand, hx, count_setCount]
      by_cases h : c = k
      · subst h; simp
      · simp [h]
    · exact (State.strand_modStrand_other _ _ hk).trans (hs k hk)
    · conv => lhs; rw [State.modStrand, State.setStrand, he]
      rfl

/-- The issue of an operation of the strand. -/
theorem issueOp_issued (s : State) (op : Op) (cls : Nat) (ord : Ord) (lane root : Nat) (write : Bool) (parts : List (Home × Act)) :
    Issued s (s.issueOp op cls ord lane root write parts) op.cls op.fin
      (parts.map (fun x => (x.1, x.2, s.relGate (.strand s.key) ord.rel ord.scope ++ gatesFor s.me.gates cls))) := by
  unfold State.issueOp
  extract_lets party x gates oid op' first s1 s2 s3 needs
  obtain ⟨q, hq, hm, hp⟩ := postAll_posts _ parts s1
  have hq2 : s2 = { s1 with posts := s1.posts ++ q, nextId := s1.nextId + parts.length } := hq
  have h2 : Issued s s3 op.cls op.fin (parts.map (fun x => (x.1, x.2, gates))) := by
    refine issued_count (t := s2) op.cls ?_ ?_ ⟨op', q, ?_, rfl, rfl, rfl, rfl, rfl, ?_, ?_, fun p h => ⟨(hp p h).1, (hp p h).2.1⟩⟩ ?_ ?_ ?_ ?_
    · rw [hq2]; rfl
    · intro k _; rw [hq2]; rfl
    · rw [hq2]; rfl
    · rw [hq2]; rfl
    · rw [map_pair_gates q gates (fun p h => (hp p h).2.2.1), hm]
    · rw [hq2]; rfl
    · rw [hq2]; rfl
    · intro k hk
      have : op'.cls = some k := hk
      simp only [s3, this]
    · intro hk
      have : op'.cls = none := hk
      simp only [s3, this]
  split
  · exact h2.mod _ (fun x => ⟨rfl, fun k => by cases k <;> rfl⟩)
  · exact h2
/-- No region has changed in the issue of an operation. -/
theorem issueOp_regions (s : State) (op : Op) (cls : Nat) (ord : Ord) (lane root : Nat) (write : Bool) (parts : List (Home × Act)) :
    (s.issueOp op cls ord lane root write parts).regions = s.regions := by
  unfold State.issueOp
  extract_lets party x gates oid op' first s1 s2 s3 needs
  obtain ⟨q, hq, -, -⟩ := postAll_posts _ parts s1
  have hq2 : s2 = { s1 with posts := s1.posts ++ q, nextId := s1.nextId + parts.length } := hq
  have h3 : s3.regions = s.regions := by
    show (match op'.cls with | some c => s2.addCount s.key c | none => s2).regions = _
    cases op'.cls <;> simp only [hq2] <;> rfl
  split
  · exact h3
  · exact h3

/-- With no tag free a word for another panel waits. -/
theorem issueCross_none (s : State) (chip cp kind n : Nat) (sx : Bool) (cls : Nat) (args : List Nat) (ord : Ord) (o : Option Nat)
    (h : s.freeTag = none) : s.issueCross chip cp kind n sx cls args ord o = s.block := by
  unfold State.issueCross
  rw [h]
/-- With a tag free it is sent. -/
theorem issueCross_sends (s : State) (chip cp kind n : Nat) (sx : Bool) (cls : Nat) (args : List Nat) (ord : Ord) (o : Option Nat)
    (h : s.freeTag ≠ none) : Sends s (s.issueCross chip cp kind n sx cls args ord o) chip [] := by
  cases ht : s.freeTag with
  | none => exact absurd ht h
  | some i =>
    unfold State.issueCross
    rw [ht]
    dsimp -zeta only
    extract_lets x gates tag pid part s1 req s2
    have hb : ∀ u : State, (u = s2 ∨ u = s2.touch s.key) → Sends s u.done chip [] := by
      intro u hu
      have hkey : u.key = s.key := by rcases hu with hu | hu <;> rw [hu] <;> rfl
      have hnext : u.iss = s.iss := by rcases hu with hu | hu <;> rw [hu] <;> rfl
      have hme : ∃ q b c, u.me = { s.me with quiet := q, busy := b, busyTake := c } := by
        rcases hu with hu | hu
        · exact ⟨s.me.quiet, s.me.busy, s.me.busyTake, by rw [hu]; rfl⟩
        · refine ⟨0, true, true, ?_⟩
          rw [State.me, hkey, hu, State.touch, State.strand_modStrand]
          rfl
      obtain ⟨q, b, c, hme⟩ := hme
      have hst : u.done.strand s.key = { s.me with pc := s.iss.next, quiet := q, busy := b, busyTake := c } := by
        simp only [State.done, State.setMe, hkey, hme, hnext]
        exact State.strand_setStrand _ _ _
      refine ⟨?_, ?_, ?_, ?_, ?_, ⟨part, [], i, [kind] ++ args, req, ht, ?_, rfl, rfl, ?_, ?_, rfl, rfl, rfl⟩, ?_, Or.inl ?_, ?_⟩
      · rw [hst]; rfl
      · rw [hst]
      · intro k; rw [hst]; cases k <;> rfl
      · intro k hk
        have h1 : u.done.strand k = u.strand k := by
          rw [State.done, State.setMe, hkey]; exact State.strand_setStrand_other _ _ hk
        rw [h1]
        rcases hu with hu | hu <;> rw [hu]
        · rfl
        · exact State.strand_modStrand_other _ _ hk
      · refine .of_eq ?_
        rcases hu with hu | hu <;> rw [hu] <;> rfl
      · rcases hu with hu | hu <;> rw [hu] <;> simp [s2, s1, part, pid, State.fresh, State.done, State.setMe, State.touch, State.modStrand, State.setStrand, State.modTile, State.setTile, State.rearm, State.modRegion]
      · simp only [part, tag]; rfl
      · rcases hu with hu | hu <;> rw [hu] <;> rfl
      · rcases hu with hu | hu <;> rw [hu]
        · exact Or.inl rfl
        · exact Or.inr rfl
      · rcases hu with hu | hu <;> rw [hu] <;> rfl
      · rcases hu with hu | hu <;> rw [hu] <;> rfl
    show Sends s (if (bitOf 1 cls || bitOf 2 cls) = true then s2.touch s.key else s2).done chip []
    split
    · exact hb _ (Or.inr rfl)
    · exact hb _ (Or.inl rfl)

/-- An access goes to another panel only where its rule admits it (R253). -/
theorem check_cross {s : State} {a : Access} {k : Nat} (h : s.check a = .ok (.cross k)) : a.crossOk = true := by
  unfold State.check at h
  extract_lets d x kindOk l at h
  by_cases h1 : (!kindOk || !hasRight d a.right || a.badFmt) = true
  · rw [if_pos h1] at h; cases h
  · rw [if_neg h1] at h
    generalize l = m at h
    cases m with
    | cross c =>
      cases hc : a.crossOk with
      | true => rfl
      | false => simp [hc] at h
    | scratch q b => exact absurd h (by dsimp only; split <;> (try split) <;> simp)
    | refused q b => exact absurd h (by dsimp only; split <;> (try split) <;> simp)
    | flat q b => exact absurd h (by dsimp only; split <;> (try split) <;> simp)
    | absent => exact absurd h (by dsimp only; split <;> (try split) <;> simp)

/-- A word's access with an effect for each landing. -/
theorem accesses_of {s : State} {i : Instr} {a : Access} {c : Cls} {fin : Ending} {act : List Seg → Act} {gates : List Gate}
    (eff : Land → State) (he : exec i s = .next (s.access a eff))
    (hl : ∀ l, (∀ k, l ≠ .cross k) → eff l = if s.full c = true then s.block else (eff l))
    (hi : ∀ l, (∀ k, l ≠ .cross k) → s.full c = false → Issues s (eff l) (some c) fin ((lines s.pt l a.pieces).map (fun x => (x.1, act x.2, gates))))
    (hx : a.crossOk = true → ∀ k, (s.freeTag = none → eff (.cross k) = s.block) ∧ (s.freeTag ≠ none → Sends s (eff (.cross k)) k [])) :
    Accesses s i a c fin act gates := by
  refine ⟨fun e x h => ⟨_, he.trans ?_, rfl⟩, fun l h hk hf => he.trans ?_, fun l h hk hf => ⟨_, he.trans ?_, hi l hk hf⟩, fun k h => ?_⟩
  · simp only [State.access, h]; rfl
  · simp only [State.access, h]; rw [hl l hk, if_pos hf]
  · simp only [State.access, h]
  · have hc := check_cross h
    exact ⟨hc, fun hf => he.trans (by simp only [State.access, h]; rw [(hx hc k).1 hf]),
      fun hf => ⟨_, he.trans (by simp only [State.access, h]), (hx hc k).2 hf⟩⟩

/-- Gates put beside homes and acts. -/
theorem map_map_rd (ls : List (Home × List Seg)) (act : List Seg → Act) (G : List Gate) :
    (ls.map (fun x => (x.1, act x.2))).map (fun x => (x.1, x.2, G)) = ls.map (fun x => (x.1, act x.2, G)) := by
  rw [List.map_map]; rfl
/-- A load. -/
theorem load_issues (s : State) (l : Land) (ps : List (Int × Nat)) (n : Nat) (fin : Ending) (addr : Word) (ord : Ord) :
    Issues s (s.issueLoad l ps n fin addr ord).done (some .ldc) fin ((lines s.pt l ps).map (fun x => (x.1, Act.read x.2,
      s.relGate (.strand s.key) ord.rel ord.scope ++ gatesFor s.me.gates 1))) := by
  have h := (issueOp_issued s { oid := 0, party := .strand 0, rcb := 0, cls := some .ldc, fin := fin, buf := zeros n, addr := addr }
    clsR ord 0 (landRoot l) false ((lines s.pt l ps).map (fun x => (x.1, Act.read x.2)))).done
  rw [map_map_rd] at h
  exact h
/-- A store. -/
theorem store_issues (s : State) (l : Land) (ps : List (Int × Nat)) (bs : List Byte) (ord : Ord) :
    Issues s (s.issueStore l ps bs ord).done (some .stc) .none ((lines s.pt l ps).map (fun x => (x.1, Act.write (cellsOf bs x.2),
      s.relGate (.strand s.key) ord.rel ord.scope ++ gatesFor s.me.gates 2))) := by
  have h := ((issueOp_issued s { oid := 0, party := .strand 0, rcb := 0, cls := some .stc, fin := .none }
    clsW ord 0 (landRoot l) true ((lines s.pt l ps).map (fun x => (x.1, Act.write (cellsOf bs x.2))))).touch (issueOp_regions ..)).done
  rw [map_map_rd _ (fun q => Act.write (cellsOf bs q))] at h
  exact h

end Sys2Proof.Safety
end

