-- ==== Sys2Proof/Tests/Slice0.lean ====
section
/-!
SUPPORT. Tests: words written out from the encoding tables of R81 to R91 and what they decode to, ill-formed words, small
examples of single steps with results worked out from the rules, and for each statement with hypotheses a state and operands
that meet them.
-/
namespace Sys2Proof.Tests

open Sys2Proof.Machine Sys2Proof.Safety
set_option Elab.async false

/-! ## Small states -/

/-- A running strand with registers of a list. -/
def strandOf (rs : List (Nat × Word)) : Strand :=
  { st := .running, vlim := 128, s := Vector.ofFn (fun i : Fin 32 => (rs.lookup i.val).getD 0) }
/-- Strand 0 of tile 0, which issues a word at position 0, is x. -/
def run0 (x : Strand) : State := { State.reset with bootPhase := 7, strands := [(0, x)], iss := { next := 8 } }
/-- The same with registers of a list. -/
def at0 (rs : List (Nat × Word)) : State := run0 (strandOf rs)
/-- The same with a descriptor in sg0. -/
def seg0 (d : Wide) (rs : List (Nat × Word)) : State := run0 { strandOf rs with sg := (Vector.replicate 8 0).set 0 d }
/-- The same privileged. -/
def priv0 (rs : List (Nat × Word)) : State := run0 { strandOf rs with priv := 1 }
/-- The same in a region. -/
def inRegion (r : Region) (s : State) : State := { s with regions := [r] }
/-- The same with v registers of a list, VBASE being 0. -/
def withV (vs : List (Nat × VReg)) (s : State) : State := { s with vregs := vs }
/-- The same with one counter full. -/
def full0 (c : Cls) (s : State) : State := s.modStrand 0 (fun x => x.setCount c 63)

/-- 4096 bytes of the tile's own scratchpad, of tile 1 of the die, of the page tables, of another panel. -/
def localSeg : Wide := descriptor kindLocal 11 0 0 0 0 4096 0
def tileSeg : Wide := descriptor kindTile 27 0 0 1 0 4096 0
def flatSeg : Wide := descriptor kindFlat 11 0 0 0 0 4096 0
def farSeg : Wide := descriptor kindTile 27 5 0 0 0 4096 0 ||| BitVec.ofNat 256 (2 ^ 230)

def after (o : Out) : State := match o with | .next t => t | _ => State.reset
/-- Register r of strand 0 after a step. -/
def reg (o : Out) (r : BitVec 5) : Word := ((after o).strand 0).reg r
def vreg (o : Out) (v : Nat) : VReg := (after o).vget 0 v
def isOk {α β : Type} (e : Except α β) : Bool := match e with | .ok _ => true | .error _ => false
def errOf {α β : Type} (e : Except α β) : Option α := match e with | .ok _ => none | .error x => some x
def okOf {α β : Type} (e : Except α β) : Option β := match e with | .ok x => some x | .error _ => none

/-! ## Decoding: each word is put together from its form in R81 or R89 and its codes in R82 to R91, with L = 1 -/

/-- R85: d 3, a 17, b 30; the unary words b 0. -/
theorem test_decode_alu1 :
    decodeWord 0x411C7C00 = some (.add 3 17 30) ∧
    decodeWord 0x411C7C01 = some (.sub 3 17 30) ∧
    decodeWord 0x411C7C02 = some (.addp 3 17 30) ∧
    decodeWord 0x411C7C03 = some (.mul 3 17 30) ∧
    decodeWord 0x411C7C04 = some (.mulhu 3 17 30) ∧
    decodeWord 0x411C7C05 = some (.mulhs 3 17 30) ∧
    decodeWord 0x411C7C06 = some (.divu 3 17 30) ∧
    decodeWord 0x411C7C07 = some (.divs 3 17 30) ∧
    decodeWord 0x411C7C08 = some (.remu 3 17 30) ∧
    decodeWord 0x411C7C09 = some (.rems 3 17 30) ∧
    decodeWord 0x411C7C0A = some (.and 3 17 30) ∧
    decodeWord 0x411C7C0B = some (.or 3 17 30) ∧
    decodeWord 0x411C7C0C = some (.xor 3 17 30) ∧
    decodeWord 0x411C7C0D = some (.andn 3 17 30) ∧
    decodeWord 0x411C7C0E = some (.shl 3 17 30) ∧
    decodeWord 0x411C7C0F = some (.shr 3 17 30) := by decide +kernel
/-- R85: d 3, a 17, b 30; the unary words b 0. -/
theorem test_decode_alu2 :
    decodeWord 0x411C7C10 = some (.sha 3 17 30) ∧
    decodeWord 0x411C7C11 = some (.rotl 3 17 30) ∧
    decodeWord 0x411C4012 = some (.clz 3 17) ∧
    decodeWord 0x411C4013 = some (.ctz 3 17) ∧
    decodeWord 0x411C4014 = some (.popc 3 17) ∧
    decodeWord 0x411C7C15 = some (.mins 3 17 30) ∧
    decodeWord 0x411C7C16 = some (.minu 3 17 30) ∧
    decodeWord 0x411C7C17 = some (.maxs 3 17 30) ∧
    decodeWord 0x411C7C18 = some (.maxu 3 17 30) ∧
    decodeWord 0x411C7C19 = some (.slt 3 17 30) ∧
    decodeWord 0x411C7C1A = some (.sltu 3 17 30) ∧
    decodeWord 0x411C7C1B = some (.seq 3 17 30) := by decide +kernel
/-- R82, R81: immediates, fields and constants. -/
theorem test_decode_imm :
    decodeWord 0x421C7C90 = some (.mad 3 17 30 9) ∧
    decodeWord 0x421C7C91 = some (.sel 3 17 30 9) ∧
    decodeWord 0x431C7E04 = some (.bfx 3 17 62 1) ∧
    decodeWord 0x431C45A1 = some (.bfi 3 17 5 40) ∧
    decodeWord 0x441FFFFE = some (.lil 3 (-2)) ∧
    decodeWord 0x451CABCD = some (.lih 3 2 0xABCD) ∧
    decodeWord 0x481C7FFB = some (.addi 3 17 (-5)) ∧
    decodeWord 0x491C7FFB = some (.andi 3 17 (-5)) ∧
    decodeWord 0x4A1C7FFB = some (.ori 3 17 (-5)) ∧
    decodeWord 0x4B1C7FFB = some (.xori 3 17 (-5)) ∧
    decodeWord 0x4C1C403F = some (.shli 3 17 63) ∧
    decodeWord 0x4D1C403F = some (.shri 3 17 63) ∧
    decodeWord 0x4E1C403F = some (.shai 3 17 63) ∧
    decodeWord 0x4F1C6000 = some (.slti 3 17 (-8192)) := by decide +kernel
/-- R82, R86, R87: branches, jumps and the MISC words. -/
theorem test_decode_flow :
    decodeWord 0x50B1F7FF = some (.b 5 17 30 (-1)) ∧
    decodeWord 0x518FFFFD = some (.bz 17 (-3)) ∧
    decodeWord 0x528FFFFD = some (.bnz 17 (-3)) ∧
    decodeWord 0x538FFFFD = some (.loop 17 (-3)) ∧
    decodeWord 0x54FFFFFE = some (.jmp (-2)) ∧
    decodeWord 0x55000009 = some (.jal 9) ∧
    decodeWord 0x56000000 = some (.nop) ∧
    decodeWord 0x56040000 = some (.pend) ∧
    decodeWord 0x56080000 = some (.eret) ∧
    decodeWord 0x560C0000 = some (.halt) ∧
    decodeWord 0x5610BEEF = some (.trap 0xBEEF) ∧
    decodeWord 0x56140007 = some (.bkpt 7) ∧
    decodeWord 0x57044000 = some (.jr 17) ∧
    decodeWord 0x571C4001 = some (.jalr 3 17) := by decide +kernel
/-- R87: d 3, a 17, b 30, sg 6. -/
theorem test_decode_group1 :
    decodeWord 0x571C4002 = some (.spawn 3 17) ∧
    decodeWord 0x571C4003 = some (.take 3 17) ∧
    decodeWord 0x57044004 = some (.tdone 17) ∧
    decodeWord 0x571C7C05 = some (.rtset 3 17 30) ∧
    decodeWord 0x57044006 = some (.rtclr 17) ∧
    decodeWord 0x57344007 = some (.segld 6 17) ∧
    decodeWord 0x57344008 = some (.segst 6 17) ∧
    decodeWord 0x57344009 = some (.gbind 6 17) ∧
    decodeWord 0x5734400A = some (.gstep 6 17) ∧
    decodeWord 0x5719BC0B = some (.gqry 3 6 30) ∧
    decodeWord 0x571C4C0C = some (.tmap 3 17 6) ∧
    decodeWord 0x571C400D = some (.tqry 3 17) ∧
    decodeWord 0x5704400E = some (.evack 17) ∧
    decodeWord 0x571C400F = some (.evict 3 17) ∧
    decodeWord 0x571C4010 = some (.resume 3 17) ∧
    decodeWord 0x57047C11 = some (.ctxsv 17 30) := by decide +kernel
/-- R87: d 3, a 17, b 30, sg 6. -/
theorem test_decode_group2 :
    decodeWord 0x57047C12 = some (.ctxld 17 30) ∧
    decodeWord 0x57047C13 = some (.scopew 17 30) ∧
    decodeWord 0x57047C14 = some (.buntw 17 30) ∧
    decodeWord 0x57047C15 = some (.plotw 17 30) ∧
    decodeWord 0x57044016 = some (.pclr 17) := by decide +kernel
/-- R82: tensor and grid words. -/
theorem test_decode_tensor :
    decodeWord 0x461C7000 = some (.tld 3 17 6) ∧
    decodeWord 0x461C7400 = some (.tst 3 17 6) ∧
    decodeWord 0x47C71C00 = some (.tldv 99 17 6) ∧
    decodeWord 0x47C71D00 = some (.tstv 99 17 6) ∧
    decodeWord 0x7E1C7DA0 = some (.gld 3 17 30 6 1) ∧
    decodeWord 0x7E1C4190 = some (.gst 3 17 6) ∧
    decodeWord 0x7FC71F68 = some (.gldv 99 17 30 6 1) := by decide +kernel
/-- R83, R82: loads, stores, copies. -/
theorem test_decode_mem1 :
    decodeWord 0x581C6FF9 = some (.ld 3 17 2 1 (-7)) ∧
    decodeWord 0x591C7CF7 = some (.ldIndex 3 17 30 1 1 (-9)) ∧
    decodeWord 0x5A1C4B50 = some (.ldAcq 3 17 0 1 21) ∧
    decodeWord 0x5B1C77F9 = some (.st 3 17 3 (-7)) ∧
    decodeWord 0x5C1C7D37 = some (.stIndex 3 17 30 2 (-9)) ∧
    decodeWord 0x5D1C5550 = some (.stRel 3 17 1 21) ∧
    decodeWord 0x5E1C7F9C = some (.pfx 3 17 (-100)) ∧
    decodeWord 0x5F1C7D53 = some (.fill 3 17 30 2 41 1) ∧
    decodeWord 0x60C71F40 = some (.ldv 99 17 30 (-64)) ∧
    decodeWord 0x61C71F40 = some (.stv 99 17 30 (-64)) ∧
    decodeWord 0x62C71F40 = some (.ldvs 99 17 30 2) ∧
    decodeWord 0x63C71F40 = some (.stvs 99 17 30 2) ∧
    decodeWord 0x64C718C8 = some (.ldvx 99 17 70 1) ∧
    decodeWord 0x65C718C8 = some (.stvx 99 17 70 1) ∧
    decodeWord 0x66C71F14 = some (.vldf 99 17 7 1 5) ∧
    decodeWord 0x660D17A8 = some (.vldfScales 6 17 3 1) := by decide +kernel
/-- R83, R82: loads, stores, copies. -/
theorem test_decode_mem2 :
    decodeWord 0x67C71F14 = some (.vstf 99 17 7 1 5) ∧
    decodeWord 0x670D17A8 = some (.vstfScales 6 17 3 1) ∧
    decodeWord 0x731C7D4C = some (.cpy 3 17 30 41 1) ∧
    decodeWord 0x741C794C = some (.cpys 3 17 28 41 1) ∧
    decodeWord 0x758E3CD3 = some (.send 17 99 1 9 41 1) := by decide +kernel
/-- R84, R82: atomics, FENCE, WAIT, system registers. -/
theorem test_decode_sync :
    decodeWord 0x681C7D75 = some (.aadd 3 17 30 2 3 21) ∧
    decodeWord 0x691C7D75 = some (.amin 3 17 30 2 3 21) ∧
    decodeWord 0x6A1C7D75 = some (.amax 3 17 30 2 3 21) ∧
    decodeWord 0x6B1C7D75 = some (.afmax 3 17 30 2 3 21) ∧
    decodeWord 0x6C1C7D75 = some (.aand 3 17 30 2 3 21) ∧
    decodeWord 0x6D1C7D75 = some (.aor 3 17 30 2 3 21) ∧
    decodeWord 0x6E1C7D75 = some (.axor 3 17 30 2 3 21) ∧
    decodeWord 0x6F1C7D75 = some (.aswp 3 17 30 2 3 21) ∧
    decodeWord 0x701C7D75 = some (.acas 3 17 30 2 3 21) ∧
    decodeWord 0x71959000 = some (.fence 4 21 9) ∧
    decodeWord 0x72054A3F = some (.wait 1 20 40 63) ∧
    decodeWord 0x76188380 = some (.sysr 3 0x107) ∧
    decodeWord 0x77880980 = some (.sysw 17 0x013) ∧
    decodeWord 0x77880800 = some (.syswPer 17) ∧
    decodeWord 0x77880880 = some (.syswPph 17) ∧
    decodeWord 0x77880080 = some (.syswFcsr 17) := by decide +kernel
/-- R82: pennant words, with a local target and an address word. -/
theorem test_decode_pennant :
    decodeWord 0x788E2AA0 = some (.pwr 1 3 34 2 21) ∧
    decodeWord 0x798E3135 = some (.prd 1 3 17 34 1 21) ∧
    decodeWord 0x7A8E3135 = some (.psame 1 3 17 34 1 21) ∧
    decodeWord 0x7B0E3FF5 = some (.padd 0 3 17 63 3 21) ∧
    decodeWord 0x7CA63540 = some (.pmc 41 17 2 21) ∧
    decodeWord 0x7D0C1FB5 = some (.pstamp 0 3 63 1 21) := by decide +kernel
/-- R88: integer vector words, d 99, a 70, b 33, w 2, m 1. -/
theorem test_decode_vint :
    decodeWord 0xC1C7190D = some (.vadd 99 70 33 2 1) ∧
    decodeWord 0xC2C7190D = some (.vsub 99 70 33 2 1) ∧
    decodeWord 0xC3C7190D = some (.vmul 99 70 33 2 1) ∧
    decodeWord 0xC4C7190D = some (.vmulhSigned 99 70 33 2 1) ∧
    decodeWord 0xC5C7190D = some (.vmulhUnsigned 99 70 33 2 1) ∧
    decodeWord 0xC6C7190D = some (.vmad 99 70 33 2 1) ∧
    decodeWord 0xC7C7190D = some (.vand 99 70 33 2 1) ∧
    decodeWord 0xC8C7190D = some (.vor 99 70 33 2 1) ∧
    decodeWord 0xC9C7190D = some (.vxor 99 70 33 2 1) ∧
    decodeWord 0xCAC7190D = some (.vshl 99 70 33 2 1) ∧
    decodeWord 0xCBC7190D = some (.vshr 99 70 33 2 1) ∧
    decodeWord 0xCCC7190D = some (.vsha 99 70 33 2 1) ∧
    decodeWord 0xCDC7190D = some (.vminSigned 99 70 33 2 1) ∧
    decodeWord 0xCEC7190D = some (.vminUnsigned 99 70 33 2 1) ∧
    decodeWord 0xCFC7190D = some (.vmaxSigned 99 70 33 2 1) ∧
    decodeWord 0xD0C7190D = some (.vmaxUnsigned 99 70 33 2 1) := by decide +kernel
/-- R88 to R91: comparisons, moves, reductions and masks. -/
theorem test_decode_vmove1 :
    decodeWord 0xD1D190D8 = some (.vcmp 6 70 33 5 2) ∧
    decodeWord 0xD2C71B40 = some (.vsel 99 70 6 2) ∧
    decodeWord 0xD3C71801 = some (.vmov 99 70 1) ∧
    decodeWord 0xD3C7180D = some (.vabs 99 70 2 1) ∧
    decodeWord 0xD3C71815 = some (.vfsqrt 99 70 2 1) ∧
    decodeWord 0xD3C7181D = some (.vfrcp 99 70 2 1) ∧
    decodeWord 0xD3C71825 = some (.vfrsq 99 70 2 1) ∧
    decodeWord 0xD3C7182D = some (.vfclass 99 70 2 1) ∧
    decodeWord 0xD3C60035 = some (.viota 99 2 1) ∧
    decodeWord 0xD4C7190D = some (.vperm 99 70 33 2 1) ∧
    decodeWord 0xD5C718F5 = some (.vrot 99 70 15 2 1) ∧
    decodeWord 0xD6C71005 = some (.vbcast 99 17 2 1) ∧
    decodeWord 0xD71C63C5 = some (.vext 3 70 15 2 1) ∧
    decodeWord 0xD8C711C6 = some (.vins 99 17 7 3) ∧
    decodeWord 0xD91C6B05 = some (.vred 3 70 5 1 2 1) ∧
    decodeWord 0xDA1C6405 = some (.vfred 3 70 2 2 1) := by decide +kernel
/-- R88 to R91: comparisons, moves, reductions and masks. -/
theorem test_decode_vmove2 :
    decodeWord 0xDBC71B40 = some (.vcompress 99 70 6 2) ∧
    decodeWord 0xDCD58000 = some (.kand 6 5 3) ∧
    decodeWord 0xDCD58001 = some (.kor 6 5 3) ∧
    decodeWord 0xDCD58002 = some (.kxor 6 5 3) ∧
    decodeWord 0xDCD40003 = some (.knot 6 5) ∧
    decodeWord 0xDC144404 = some (.kpop 5 17) ∧
    decodeWord 0xDDC7190D = some (.vpack 99 70 33 2 1) ∧
    decodeWord 0xDEC7180D = some (.vunpack 99 70 1 2 1) ∧
    decodeWord 0xDFC71B5E = some (.vscale 99 70 6 2 7 1) := by decide +kernel
/-- R88 to R91: float words. -/
theorem test_decode_vfloat1 :
    decodeWord 0xE0C7190D = some (.vfadd 99 70 33 2 1) ∧
    decodeWord 0xE1C7190D = some (.vfsub 99 70 33 2 1) ∧
    decodeWord 0xE2C7190D = some (.vfmul 99 70 33 2 1) ∧
    decodeWord 0xE3C7190D = some (.vfma 99 70 33 2 1) ∧
    decodeWord 0xE4C7190D = some (.vfms 99 70 33 2 1) ∧
    decodeWord 0xE5C7190D = some (.vfnma 99 70 33 2 1) ∧
    decodeWord 0xE6C7190D = some (.vfdiv 99 70 33 2 1) ∧
    decodeWord 0xE7C7190D = some (.vfmin 99 70 33 2 1) ∧
    decodeWord 0xE8C7190D = some (.vfmax 99 70 33 2 1) ∧
    decodeWord 0xE9D190D8 = some (.vfcmp 6 70 33 5 2) ∧
    decodeWord 0xEAC7190D = some (.vfsgn 99 70 33 2 1) ∧
    decodeWord 0xEBC71B12 = some (.vcvt 99 70 1 8 4 1) ∧
    decodeWord 0xECC71AB2 = some (.vcvti 99 70 2 5 4 1) ∧
    decodeWord 0xEDC71AB2 = some (.vcvtf 99 70 2 5 4 1) ∧
    decodeWord 0xEE1C7D40 = some (.fadd 3 17 30 2 4) ∧
    decodeWord 0xEE1C7D41 = some (.fsub 3 17 30 2 4) := by decide +kernel
/-- R88 to R91: float words. -/
theorem test_decode_vfloat2 :
    decodeWord 0xEE1C7D42 = some (.fmul 3 17 30 2 4) ∧
    decodeWord 0xEE1C7D43 = some (.fma 3 17 30 2 4) ∧
    decodeWord 0xEE1C7D44 = some (.fdiv 3 17 30 2 4) ∧
    decodeWord 0xEE1C4145 = some (.fsqrt 3 17 2 4) ∧
    decodeWord 0xEE1C7D06 = some (.fmin 3 17 30 2) ∧
    decodeWord 0xEE1C7D07 = some (.fmax 3 17 30 2) ∧
    decodeWord 0xEE1C4108 = some (.fclass 3 17 2) ∧
    decodeWord 0xEF1C7D50 = some (.fcmp 3 17 30 2 5) ∧
    decodeWord 0xF01C7190 = some (.fcvt 3 17 6 1 4 1) := by decide +kernel
/-- R88 to R91: matrix words. -/
theorem test_decode_matrix :
    decodeWord 0xF1C60000 = some (.modeM 8 96) ∧
    decodeWord 0xF1000000 = some (.modeV) ∧
    decodeWord 0xF2C71B57 = some (.mop 99 70 6 5 7) ∧
    decodeWord 0xF3C71803 = some (.mopn 99 70 0 0 3) ∧
    decodeWord 0xF41C7000 = some (.mdrain 3 17 1 8) ∧
    decodeWord 0xF404718E = some (.mdrainReg 17 1 8 99) ∧
    decodeWord 0xF58C0000 = some (.mscale 17 4) ∧
    decodeWord 0xF6000000 = some (.mzero) ∧
    decodeWord 0xF6000001 = some (.mtrn) ∧
    decodeWord 0xF6180002 = some (.mqry 3) := by decide +kernel

/-! ## Ill-formed terms: each field condition of R82 to R92 refuses -/

/-- R75: a relaxed order with a scope; R84, R185, R187: an order that the word does not take. -/
theorem test_illformed_order :
    wellFormed (.aadd 1 2 3 0 0 1) = false ∧
    wellFormed (.amin 1 2 3 0 0 1) = false ∧
    wellFormed (.amax 1 2 3 0 0 31) = false ∧
    wellFormed (.aand 1 2 3 0 0 1) = false ∧
    wellFormed (.aor 1 2 3 0 0 1) = false ∧
    wellFormed (.axor 1 2 3 0 0 1) = false ∧
    wellFormed (.aswp 1 2 3 0 0 1) = false ∧
    wellFormed (.acas 1 2 3 0 0 1) = false ∧
    wellFormed (.afmax 1 2 3 0 0 1) = false ∧
    wellFormed (.pwr 0 1 2 0 1) = false ∧
    wellFormed (.pwr 0 1 2 1 0) = false ∧
    wellFormed (.pwr 0 1 2 3 0) = false ∧
    wellFormed (.prd 0 1 2 3 2 0) = false ∧
    wellFormed (.prd 0 1 2 3 0 1) = false ∧
    wellFormed (.psame 0 1 2 3 3 0) = false ∧
    wellFormed (.psame 0 1 2 3 0 1) = false ∧
    wellFormed (.padd 0 1 2 3 0 1) = false ∧
    wellFormed (.pmc 0 1 1 0) = false ∧
    wellFormed (.pmc 0 1 0 1) = false ∧
    wellFormed (.pstamp 0 1 2 2 0) = false ∧
    wellFormed (.pstamp 0 1 2 0 1) = false := by decide

/-- R81: an s register named by an odd target. -/
theorem test_illformed_target :
    wellFormed (.pwr 1 1 3 0 0) = false ∧
    wellFormed (.prd 1 1 2 3 0 0) = false ∧
    wellFormed (.psame 1 1 2 3 0 0) = false ∧
    wellFormed (.padd 1 1 2 3 0 0) = false ∧
    wellFormed (.pstamp 1 1 3 0 0) = false := by decide

/-- R105: pos + len above 64; R83: sign extension of 64 bits; R86: FENCE codes; R81: a pennant without cpe; R261: a stride above 28; R354: a route without sr. -/
theorem test_illformed_fields :
    wellFormed (.bfx 1 2 60 4) = false ∧
    wellFormed (.bfi 1 2 1 63) = false ∧
    wellFormed (.ld 1 2 3 1 0) = false ∧
    wellFormed (.ldIndex 1 2 3 3 1 0) = false ∧
    wellFormed (.ldAcq 1 2 3 1 0) = false ∧
    wellFormed (.fence 0 0 1) = false ∧
    wellFormed (.fence 5 0 1) = false ∧
    wellFormed (.fence 7 0 1) = false ∧
    wellFormed (.fence 1 0 0) = false ∧
    wellFormed (.fill 1 2 3 0 5 0) = false ∧
    wellFormed (.cpy 1 2 3 5 0) = false ∧
    wellFormed (.cpys 1 2 3 5 0) = false ∧
    wellFormed (.cpys 1 2 29 0 0) = false ∧
    wellFormed (.send 1 2 0 1 0 0) = false ∧
    wellFormed (.send 1 2 0 0 5 0) = false := by decide

/-- R76, R78, R77, R121: reserved codes of rm, cond, ty and fmt; R196, R197: numbers of system registers. -/
theorem test_illformed_codes :
    wellFormed (.b 6 1 2 0) = false ∧
    wellFormed (.b 7 1 2 0) = false ∧
    wellFormed (.vcmp 1 2 3 6 0) = false ∧
    wellFormed (.vfcmp 1 2 3 7 2) = false ∧
    wellFormed (.fcmp 1 2 3 0 6) = false ∧
    wellFormed (.vldf 1 2 5 0 0) = false ∧
    wellFormed (.vldf 1 2 0 0 10) = false ∧
    wellFormed (.vldf 1 2 0 0 15) = false ∧
    wellFormed (.vldf 1 2 0 0 24) = false ∧
    wellFormed (.vldfScales 1 2 6 0) = false ∧
    wellFormed (.vstf 1 2 6 0 0) = false ∧
    wellFormed (.vstf 1 2 0 0 10) = false ∧
    wellFormed (.vstfScales 1 2 5 0) = false ∧
    wellFormed (.afmax 1 2 3 1 0 0) = false ∧
    wellFormed (.afmax 1 2 3 3 0 0) = false ∧
    wellFormed (.sysr 1 0x000) = false ∧
    wellFormed (.sysr 1 0x108) = false ∧
    wellFormed (.sysw 1 0x001) = false ∧
    wellFormed (.sysw 1 0x010) = false ∧
    wellFormed (.sysw 1 0x011) = false ∧
    wellFormed (.sysw 1 0x038) = false := by decide

/-- R90: lanes and rotations below the lane count; codes of reductions and packings; rm and xf; R138: FCVT between formats that differ, one of them a float. -/
theorem test_illformed_vector :
    wellFormed (.vrot 1 2 8 3 0) = false ∧
    wellFormed (.vext 1 2 16 2 0) = false ∧
    wellFormed (.vins 1 2 32 1) = false ∧
    wellFormed (.vext 1 2 0 3 1) = false ∧
    wellFormed (.vred 1 2 6 0 0 0) = false ∧
    wellFormed (.vfred 1 2 3 0 0) = false ∧
    wellFormed (.vpack 1 2 3 0 0) = false ∧
    wellFormed (.vunpack 1 2 0 0 0) = false ∧
    wellFormed (.vunpack 1 2 0 3 1) = false ∧
    wellFormed (.vscale 1 2 3 0 5 0) = false ∧
    wellFormed (.vcvt 1 2 0 1 0 0) = false ∧
    wellFormed (.vcvt 1 2 0 9 0 0) = false ∧
    wellFormed (.vcvt 1 2 0 0 6 0) = false ∧
    wellFormed (.vcvti 1 2 0 0 5 0) = false ∧
    wellFormed (.vcvtf 1 2 0 0 6 0) = false ∧
    wellFormed (.fadd 1 2 3 0 5) = false ∧
    wellFormed (.fsub 1 2 3 0 6) = false ∧
    wellFormed (.fmul 1 2 3 0 5) = false ∧
    wellFormed (.fma 1 2 3 0 6) = false ∧
    wellFormed (.fdiv 1 2 3 0 5) = false ∧
    wellFormed (.fsqrt 1 2 0 6) = false ∧
    wellFormed (.fcvt 1 2 3 3 0 0) = false ∧
    wellFormed (.fcvt 1 2 4 5 0 0) = false ∧
    wellFormed (.fcvt 1 2 0 1 5 0) = false := by decide

/-- R90: formats of the grid, scale registers of its formats, drains and their columns. -/
theorem test_illformed_matrix :
    wellFormed (.modeM 9 0) = false ∧
    wellFormed (.mop 1 2 0 0 9) = false ∧
    wellFormed (.mop 1 2 1 0 3) = false ∧
    wellFormed (.mop 1 2 0 1 3) = false ∧
    wellFormed (.mopn 1 2 0 0 9) = false ∧
    wellFormed (.mopn 1 2 1 0 0) = false ∧
    wellFormed (.mdrain 1 2 0 0) = false ∧
    wellFormed (.mdrain 1 2 1 9) = false ∧
    wellFormed (.mdrainReg 2 0 0 5) = false ∧
    wellFormed (.mdrainReg 2 1 9 5) = false ∧
    wellFormed (.mscale 1 5) = false := by decide

/-- Beside an ill-formed term stands a well-formed one at the edge of the condition. -/
theorem test_wellformed_edges :
    wellFormed (.bfx 1 2 60 3) = true ∧ wellFormed (.b 5 1 2 0) = true ∧ wellFormed (.vrot 1 2 7 3 0) = true ∧ wellFormed (.cpys 1 2 28 0 0) = true ∧
    wellFormed (.fence 4 0 1) = true ∧ wellFormed (.modeM 8 0) = true ∧ wellFormed (.mop 1 2 1 1 4) = true ∧ wellFormed (.pwr 1 1 2 2 31) = true ∧
    wellFormed (.afmax 1 2 3 2 0 0) = true ∧ wellFormed (.vldf 1 2 7 1 23) = true ∧ wellFormed (.fcvt 1 2 4 3 0 0) = true := by decide

/-! ## Words that are no instruction (R92) -/

/-- R92: majors 0x00 of either class and 0x37 to 0x3F of class A. -/
theorem test_refused_majors :
    ([0x40000000, 0xC0000000, 0xF7000000, 0xF8000000, 0xFB000000, 0xFF000000] : List (BitVec 32)).map decodeWord = [none, none, none, none, none, none] := by
  decide +kernel
/-- R92: reserved subfunctions of ALU, MAD/SEL, BFX/BFI, MISC, GROUP, UNARY, MASK, SFLOAT and MGROUP. -/
theorem test_refused_subfunctions :
    ([0x4100001C, 0x42000002, 0x43000002, 0x56180000, 0x57000017, 0xD3000038, 0xDC000005, 0xEE000009, 0xF6000003] : List (BitVec 32)).map decodeWord =
      [none, none, none, none, none, none, none, none, none] := by decide +kernel
/-- R92: reserved and unused fields that are not 0: ADD res, CLZ b, LIH res, NOP imm, JR d, MZERO d, VMOV w, KNOT kb, FMIN rm. -/
theorem test_refused_fields :
    ([0x41000040, 0x41000212, 0x45010000, 0x56000001, 0x57080000, 0xF6080000, 0xD3000002, 0xDC008003, 0xEE000016] : List (BitVec 32)).map decodeWord =
      [none, none, none, none, none, none, none, none, none] := by decide +kernel
/-- R73: an sg field of 5 bits above 7 (SEGLD, GQRY, TMAP); R83: LD ordered other than acquire; a sign-extending store; R87: SHLI by 64. -/
theorem test_refused_operands :
    ([0x57400007, 0x5722000B, 0x5700100C, 0x5A000000, 0x5A000400, 0x5B000800, 0x4C000040] : List (BitVec 32)).map decodeWord =
      [none, none, none, none, none, none, none] := by decide +kernel
/-- R86: HALT, ERET, TRAP and BKPT are lone words. -/
theorem test_lone_words :
    ([0x560C0000, 0x160C0000, 0x56080000, 0x16080000, 0x56100001, 0x16100001, 0x56140001, 0x16140001] : List (BitVec 32)).map decodeWord =
      [some .halt, none, some .eret, none, some (.trap 1), none, some (.bkpt 1), none] := by decide +kernel
/-- The listing's words (R92). -/
theorem test_decode_listing :
    ([0x48380000, 0x56000000, 0x18203000, 0x9CC00001, 0x58583028, 0x7203FFFF, 0x79044180, 0x41188E1B] : List (BitVec 32)).map decodeWord =
      [some (.addi 7 0 0), some .nop, some (.ld 4 0 3 0 0), some (.kor 6 0 0), some (.ld 11 0 3 0 40), some (.wait 0 63 63 63), some (.prd 0 1 2 3 0 0),
       some (.seq 3 2 7)] ∧
    ([0x52180007, 0x48388000, 0xB6000000, 0xF2810414, 0x72FFFFC0, 0xF452E200, 0x78044820, 0x56040000, 0x54FFFFF8] : List (BitVec 32)).map decodeWord =
      [some (.bnz 3 7), some (.addi 7 2 0), some .mzero, some (.mop 64 65 0 1 4), some (.wait 63 63 63 0), some (.mdrain 10 11 1 1), some (.pwr 0 1 4 2 1),
       some .pend, some (.jmp (-8))] := by decide +kernel

/-! ## Small examples: results worked out by hand from the rules, or taken from the spec's own tables -/

def big : Word := 0xFFFFFFFFFFFFFFFF
/-- Result in s3 of a word with s1 = x and s2 = y. -/
def out3 (i : Instr) (x y : Word) : Word := reg (exec i (at0 [(1, x), (2, y)])) 3
/-- Cause, XVAL and s3 after a word that traps into a handler at 0x100. -/
def caught (i : Instr) (s : State) : BitVec 6 × Word × Word :=
  let x := (after (exec i (s.modStrand 0 (fun y => { y with xbase := 0x101 })))).strand 0
  (x.xcause, x.xval, x.pc)
/-- The program counter of strand 0 after a word. -/
def pcOf (o : Out) : Word := ((after o).strand 0).pc

/-- R100: sums wrap; the high halves of products; logic; ANDN. -/
theorem test_alu_arithmetic :
    out3 (.add 3 1 2) big 2 = 1 ∧ out3 (.sub 3 1 2) 0 1 = big ∧ out3 (.mul 3 1 2) big 2 = 0xFFFFFFFFFFFFFFFE ∧
    out3 (.mulhu 3 1 2) big big = 0xFFFFFFFFFFFFFFFE ∧ out3 (.mulhs 3 1 2) big 1 = big ∧ out3 (.mulhs 3 1 2) big big = 0 ∧
    out3 (.and 3 1 2) 12 10 = 8 ∧ out3 (.or 3 1 2) 12 10 = 14 ∧ out3 (.xor 3 1 2) 12 10 = 6 ∧ out3 (.andn 3 1 2) 12 10 = 4 := by decide +kernel
/-- R101: the rows of its table and its examples. -/
theorem test_division :
    out3 (.divs 3 1 2) (-7) 2 = -3 ∧ out3 (.rems 3 1 2) (-7) 2 = -1 ∧ out3 (.divu 3 1 2) 7 0 = big ∧ out3 (.remu 3 1 2) 7 0 = 7 ∧
    out3 (.divs 3 1 2) 7 0 = big ∧ out3 (.rems 3 1 2) 7 0 = 7 ∧ out3 (.divs 3 1 2) 0x8000000000000000 big = 0x8000000000000000 ∧
    out3 (.rems 3 1 2) 0x8000000000000000 big = 0 ∧ out3 (.divu 3 1 2) big 2 = 0x7FFFFFFFFFFFFFFF ∧ out3 (.remu 3 1 2) big 2 = 1 := by decide +kernel
/-- R100: shift amounts are bits 5:0; counts of 0 are 64; signed against unsigned order. -/
theorem test_shifts_counts_order :
    out3 (.shl 3 1 2) 1 65 = 2 ∧ out3 (.shr 3 1 2) big 63 = 1 ∧ out3 (.sha 3 1 2) 0x8000000000000000 63 = big ∧
    out3 (.rotl 3 1 2) 0x8000000000000001 1 = 3 ∧ out3 (.clz 3 1) 0 0 = 64 ∧ out3 (.clz 3 1) 1 0 = 63 ∧ out3 (.ctz 3 1) 0 0 = 64 ∧
    out3 (.ctz 3 1) 8 0 = 3 ∧ out3 (.popc 3 1) big 0 = 64 ∧ out3 (.mins 3 1 2) big 1 = big ∧ out3 (.minu 3 1 2) big 1 = 1 ∧
    out3 (.maxs 3 1 2) big 1 = 1 ∧ out3 (.maxu 3 1 2) big 1 = big ∧ out3 (.slt 3 1 2) big 1 = 1 ∧ out3 (.sltu 3 1 2) big 1 = 0 ∧
    out3 (.seq 3 1 2) 5 5 = 1 := by decide +kernel
/-- R102: the table of ADDP. -/
theorem test_addp :
    out3 (.add 3 1 2) 0x001FFFFFFFFFFFFC 8 = 0x0020000000000004 ∧
    caught (.addp 3 1 2) (at0 [(1, 0x001FFFFFFFFFFFFC), (2, 8)]) = (6, 0x001FFFFFFFFFFFFC, 0x100) ∧
    out3 (.addp 3 1 2) 0x001FFFFFFFFFFFFC 0xFFE0000000000004 = 0 ∧
    caught (.addp 3 1 2) (at0 [(1, 0x001FFFFFFFFFFFFC), (2, 0xFFE0000000000003)]) = (6, 0x001FFFFFFFFFFFFC, 0x100) := by decide +kernel
/-- R103 to R106: immediates extend their sign, fields, and the constant of R106. -/
theorem test_immediates :
    out3 (.addi 3 1 (-1)) 0 0 = big ∧ out3 (.andi 3 1 (-64)) 0x7F 0 = 0x40 ∧ out3 (.ori 3 1 (-2)) 1 0 = big ∧ out3 (.xori 3 1 (-1)) 5 0 = 0xFFFFFFFFFFFFFFFA ∧
    out3 (.shli 3 1 63) 1 0 = 0x8000000000000000 ∧ out3 (.shri 3 1 63) big 0 = 1 ∧ out3 (.shai 3 1 1) 0x8000000000000000 0 = 0xC000000000000000 ∧
    out3 (.slti 3 1 (-1)) 0 0 = 0 ∧ reg (exec (.mad 3 1 2 4) (at0 [(1, 3), (2, 5), (4, 7)])) 3 = 22 ∧
    reg (exec (.sel 3 1 2 4) (at0 [(1, 3), (2, 5), (4, 7)])) 3 = 3 ∧ reg (exec (.sel 3 1 2 4) (at0 [(1, 3), (2, 5)])) 3 = 5 ∧
    out3 (.bfx 3 1 4 7) 0xABCD 0 = 0xBC ∧ reg (exec (.bfi 3 1 4 7) (at0 [(1, 0x5A), (3, 0xFFFF)])) 3 = 0xF5AF ∧
    out3 (.lil 3 (-1)) 0 0 = big ∧ reg (exec (.lih 5 3 0x0123) (at0 [(5, 0x456789ABCDEF)])) 5 = 0x0123456789ABCDEF := by decide +kernel
/-- R94: a write of s0 is discarded. R69: sources stand as the word found them. -/
theorem test_zero_register_and_source_as_destination :
    reg (exec (.addi 0 0 5) (at0 [])) 0 = 0 ∧ reg (exec (.add 3 3 3) (at0 [(3, 4)])) 3 = 8 ∧ reg (exec (.jalr 31 31) (at0 [(31, 0x40)])) 31 = 8 ∧
    pcOf (exec (.jalr 31 31) (at0 [(31, 0x40)])) = 0x40 := by decide +kernel
/-- R107 to R110: offsets count bundles from the word's own; LOOP of 0 wraps and branches; a target off its words traps. -/
theorem test_control :
    pcOf (exec (.b 2 1 2 3) (at0 [(1, big), (2, 1)])) = 24 ∧ pcOf (exec (.b 4 1 2 3) (at0 [(1, big), (2, 1)])) = 8 ∧
    pcOf (exec (.bz 1 (-1)) (at0 [])) = 0xFFFFFFFFFFFFFFF8 ∧ pcOf (exec (.bnz 1 7) (at0 [])) = 8 ∧
    reg (exec (.loop 1 4) (at0 [])) 1 = big ∧ pcOf (exec (.loop 1 4) (at0 [])) = 32 ∧ pcOf (exec (.loop 1 4) (at0 [(1, 1)])) = 8 ∧
    pcOf (exec (.jmp 5) (at0 [])) = 40 ∧ reg (exec (.jal 5) (at0 [])) 31 = 8 ∧ pcOf (exec (.jr 1) (at0 [(1, 0x34)])) = 0x34 ∧
    (caught (.jr 1) (at0 [(1, 0x36)])).1 = 2 ∧ pcOf (exec .nop (at0 [])) = 8 := by decide +kernel
/-- R113, R204, R207: TRAP saves its code and the next position, enters the handler privileged; R114: ERET returns. -/
theorem test_trap_and_return :
    caught (.trap 0x1234) (at0 []) = (12, 0x1234, 0x100) ∧
    (let x := (after (exec (.trap 7) ((at0 []).modStrand 0 (fun y => { y with xbase := 0x101 })))).strand 0
     x.xpc = 8 ∧ x.priv = 5) ∧
    (let x := (after (exec .eret ((at0 []).modStrand 0 (fun y => { y with xpc := 0x44, priv := 5 })))).strand 0
     x.pc = 0x44 ∧ x.priv = 0) ∧
    (caught .eret (at0 [])).1 = 3 ∧ pcOf (exec (.bkpt 9) (at0 [])) = 8 := by decide +kernel
/-- R197, R198: VLIM read; XBASE is not written unprivileged, with the number in XVAL. R131: 5 is no mode, the flags are still written. -/
theorem test_system_registers :
    reg (exec (.sysr 3 0x021) (at0 [])) 3 = 128 ∧ caught (.sysw 1 0x033) (at0 [(1, 0x201)]) = (3, 0x33, 0x100) ∧
    ((after (exec (.sysw 1 0x033) (priv0 [(1, 0x20F)]))).strand 0).xbase = 0x209 ∧
    ((after (exec (.syswFcsr 1) ((at0 [(1, 0x51F)]).modStrand 0 (fun y => { y with fcsr := 0x100 })))).strand 0).fcsr = 0x11F := by decide +kernel
/-- R54: its table at cycle 900: PEND passes two boundaries and idles to boundary 4. -/
theorem test_pend :
    let x := (after (exec .pend { (at0 []).modStrand 0 (fun y => { y with per := 4, pph := 1, pidx := 1 }) with ticks := 900 })).strand 0
    x.pidx = 4 ∧ x.ovr = 2 ∧ x.st = .idle := by decide +kernel

/-- R138: the table of scalar floats, results and flags, with s2 = 1.0, s3 = 2^-24. -/
theorem test_scalar_floats :
    let s := at0 [(2, 0x3F800000), (3, 0x33800000)]
    let f (i : Instr) (r : BitVec 5) := (reg (exec i s) r, ((after (exec i s)).strand 0).fcsr)
    f (.fadd 1 2 3 2 0) 1 = (0x3F800000, 0x10) ∧ f (.fadd 1 2 3 2 2) 1 = (0x3F800001, 0x10) ∧ f (.fadd 1 2 3 3 7) 1 = (0x73000000, 0) ∧
    f (.fsub 1 2 2 2 0) 1 = (0, 0) ∧ f (.fsub 1 2 2 2 3) 1 = (0x80000000, 0) := by decide +kernel
theorem test_scalar_conversions :
    let f (x : Word) (sat : BitVec 1) :=
      let s := at0 [(4, x)]
      (reg (exec (.fcvt 3 4 6 0 1 sat) s) 3, ((after (exec (.fcvt 3 4 6 0 1 sat) s)).strand 0).fcsr)
    f 0xC006000000000000 0 = (0xFFFFFFFFFFFFFFFE, 0x10) ∧ f 0x41E65A0BC0000000 0 = (0xFFFFFFFF80000000, 1) ∧ f 0x41E65A0BC0000000 1 = (0x7FFFFFFF, 0x21) ∧
    (let s := at0 [(2, 0x3F800000), (3, 0x7FF8000000000000)]
     reg (exec (.fcmp 1 2 3 3 2) s) 1 = 0 ∧ ((after (exec (.fcmp 1 2 3 3 2) s)).strand 0).fcsr = 1) := by decide +kernel
/-- R134 to R136: 6 / 3, sqrt 4, 2 x 3 + 1, and a division by zero; MIN with a NaN; the class of -0. -/
theorem test_scalar_float_functions :
    out3 (.fdiv 3 1 2 2 0) 0x40C00000 0x40400000 = 0x40000000 ∧ out3 (.fsqrt 3 1 2 0) 0x40800000 0 = 0x40000000 ∧
    reg (exec (.fma 3 1 2 2 0) (at0 [(1, 0x40000000), (2, 0x40400000), (3, 0x3F800000)])) 3 = 0x40E00000 ∧
    out3 (.fmul 3 1 2 2 0) 0x40000000 0xC0400000 = 0xC0C00000 ∧ out3 (.fdiv 3 1 2 2 0) 0x3F800000 0x80000000 = 0xFF800000 ∧
    out3 (.fmin 3 1 2 2) 0x7FC00000 0x40000000 = 0x40000000 ∧ out3 (.fmax 3 1 2 2) 0x80000000 0 = 0 ∧ out3 (.fclass 3 1 2) 0x80000000 0 = 8 := by
  decide +kernel

/-! Vector examples: n lanes of a register from a list. -/
def vl (n : Nat) (xs : List Nat) : VReg := BitVec.ofNat 512 (ofLanes n xs)
/-- Lanes of v3, the first few, after a word with v1 and v2. -/
def vout (n k : Nat) (i : Instr) (x y : List Nat) : List Nat :=
  (laneList n (vreg (exec i (withV [(1, vl n x), (2, vl n y)] (at0 []))) 3)).take k

/-- R144, R147: lanes wrap; shift amounts mod the width; high halves signed and unsigned. -/
theorem test_vector_integers :
    vout 8 2 (.vadd 3 1 2 0 0) [255, 1] [2, 2] = [1, 3] ∧ vout 16 1 (.vsub 3 1 2 1 0) [0] [1] = [65535] ∧ vout 8 1 (.vmul 3 1 2 0 0) [16] [17] = [16] ∧
    vout 8 1 (.vmulhSigned 3 1 2 0 0) [255] [1] = [255] ∧ vout 8 1 (.vmulhUnsigned 3 1 2 0 0) [255] [255] = [254] ∧
    vout 8 1 (.vshl 3 1 2 0 0) [1] [9] = [2] ∧ vout 8 1 (.vsha 3 1 2 0 0) [128] [7] = [255] ∧ vout 8 1 (.vshr 3 1 2 0 0) [128] [7] = [1] ∧
    vout 8 1 (.vminSigned 3 1 2 0 0) [255] [1] = [255] ∧ vout 8 1 (.vminUnsigned 3 1 2 0 0) [255] [1] = [1] ∧
    vout 8 1 (.vabs 3 1 0 0) [128] [0] = [128] ∧ vout 16 3 (.viota 3 1 0) [] [] = [0, 1, 2] := by decide +kernel
/-- R154's table, R156, R157. -/
theorem test_vector_moves :
    vout 16 1 (.vpack 3 1 2 2 1) [0x1170, 1] [] = [0x7FFF] ∧ vout 16 1 (.vpack 3 1 2 2 0) [0x1170, 1] [] = [0x1170] ∧
    vout 16 1 (.vpack 3 1 2 2 1) [0x63C0, 0xFFFF] [] = [0x8000] ∧ vout 16 2 (.vunpack 3 1 0 2 1) [0xFFFE] [] = [0xFFFE, 0xFFFF] ∧
    vout 16 2 (.vunpack 3 1 0 2 0) [0xFFFE] [] = [0xFFFE, 0] ∧ vout 64 2 (.vrot 3 1 1 3 0) [10, 11, 12] [] = [11, 12] ∧
    vout 64 3 (.vperm 3 1 2 3 0) [10, 11, 12] [2, 8, 0] = [12, 0, 10] ∧
    reg (exec (.vext 4 1 1 0 1) (withV [(1, vl 8 [1, 0x80])] (at0 []))) 4 = 0xFFFFFFFFFFFFFF80 := by decide +kernel
/-- R145, R158, R160, R143: masks of comparisons, the tree of a reduction, an unmasked lane alone is written. -/
theorem test_masks_and_reductions :
    ((after (exec (.vcmp 2 1 2 2 3) (withV [(1, vl 64 [1, 5]), (2, vl 64 [3, 3])] (at0 [])))).strand 0).mask 2 = 1 ∧
    reg (exec (.vred 4 1 0 0 3 0) (withV [(1, vl 64 [1, 2, 3])] (at0 []))) 4 = 6 ∧
    reg (exec (.vred 4 1 2 1 3 0) (withV [(1, vl 64 [2 ^ 64 - 1])] (at0 []))) 4 = 0 ∧
    reg (exec (.kpop 0 4) (at0 [])) 4 = 64 ∧ ((after (exec (.knot 2 0) (at0 []))).strand 0).mask 2 = 0 ∧
    vreg (exec (.vadd 3 1 1 3 1) (withV [(1, vl 64 [1, 1])] (run0 { strandOf [] with k := (Vector.replicate 8 0).set 1 2 }))) 3 = vl 64 [0, 2] := by
  decide +kernel
/-- R150: its table. -/
theorem test_reciprocals :
    let f (w : Nat) (i : Instr) (x : Nat) :=
      let o := exec i (withV [(1, vl w ([x] ++ List.replicate (512 / w - 1) (if w = 32 then 0x3F800000 else 0x3FF0000000000000)))] (at0 []))
      ((laneList w (vreg o 3)).headD 0, ((after o).strand 0).fcsr)
    f 32 (.vfrcp 3 1 2 0) 0x40400000 = (0x3EAAB000, 0) ∧ f 32 (.vfrsq 3 1 2 0) 0x40800000 = (0x3F000000, 0) ∧ f 32 (.vfrcp 3 1 2 0) 1 = (0x7F800000, 4) ∧
    f 32 (.vfrcp 3 1 2 0) 0x80000000 = (0xFF800000, 2) ∧ f 64 (.vfrsq 3 1 3 0) 0xBFF0000000000000 = (0x7FF8000000000000, 1) := by decide +kernel
/-- R129's examples: FP32 to FP64 keeps a NaN's payload at the top; E4M3's NaN. R133: 0.003 rounds to the subnormal 2. -/
theorem test_vector_conversions :
    (laneList 64 (vreg (exec (.vcvt 3 1 1 0 0 0) (withV [(1, vl 32 [0x7FD58882])] (at0 []))) 3)).headD 0 = 0x7FFAB11040000000 ∧
    (laneList 32 (vreg (exec (.vcvt 3 1 0 4 0 0) (withV [(1, vl 8 [0x7F, 0xFF])] (at0 []))) 3)).take 2 = [0x7FC00000, 0xFFC00000] ∧
    (laneList 8 (vreg (exec (.vcvt 3 1 1 4 0 0) (withV [(1, vl 32 [0x3B449BA6])] (at0 []))) 3)).headD 0 = 2 := by decide +kernel

/-- R164, R162: MODEW of MODE.M F32, v16; R175: MQRY in that mode gives E = 16. -/
theorem test_mode :
    ((after (exec (.modeM 1 16) (at0 []))).strand 0).modew = 0x11010 ∧ ((after (exec .modeV (run0 { strandOf [] with modew := 0x11010 }))).strand 0).modew = 0 ∧
    reg (exec (.mqry 3) (run0 { strandOf [] with modew := 0x11010 })) 3 = 0x1011010 := by decide +kernel
theorem test_mode_hazards :
    caught (.modeM 1 8) (at0 []) = (10, 2, 0x100) ∧ caught (.modeM 4 96) (at0 []) = (10, 2, 0x100) ∧ caught .mzero (at0 []) = (10, 4, 0x100) ∧
    caught (.mop 1 2 0 0 1) (at0 []) = (10, 4, 0x100) := by decide +kernel

/-! Memory, pennants and tile operations, each at the step that has the effect. -/

/-- R222, R254: a load counts in LDC until its data is back; a store beyond the limit traps with the pointer in XVAL. -/
theorem test_memory_issue :
    ((after (exec (.ld 3 1 3 0 8) (seg0 localSeg [(1, 16)]))).strand 0).ldc = 1 ∧
    caught (.st 3 1 3 (-8)) (seg0 localSeg [(1, 0)]) = (4, 0x001FFFFFFFFFFFF8, 0x100) ∧ caught (.st 3 1 3 0) (seg0 localSeg [(1, 4089)]) = (4, 4089, 0x100) := by decide +kernel
/-- R254: the part of a store of 16 bits, arrived at its home, writes its two bytes little-endian. -/
theorem test_store_performed :
    let s := after (exec (.st 3 1 1 2) (seg0 localSeg [(1, 16), (3, 0x12345)]))
    let t : State := { s with arrived := s.posts, posts := [] }
    (after (exec (.partPerform (t.arrived.headD default).pid) t)).bytes (scratchKey 0 17) 4 = [0, 0x45, 0x23, 0] := by decide +kernel
/-- R184, R181: a local write of a pennant is counted in TOC and waits for the end of its cycle; R185: a sample reads value and count. -/
theorem test_pennants :
    (after (exec (.pwr 0 1 4 0 0) (at0 [(1, 9)]))).locals.map (fun l => (l.idx, l.due)) = [(4, 2)] ∧
    (let o := exec (.prd 0 3 5 4 0 0) { at0 [] with pens := [(4, { hoist := 7, stamp := 2, value := 9 })] }
     (reg o 3, reg o 5)) = (9, 7) ∧
    reg (exec (.psame 0 3 5 4 0 0) { at0 [(5, 8)] with pens := [(4, { hoist := 7 })] }) 3 = 0xFFFFFFFF := by decide +kernel
/-- R169: a MOP of F32 adds the product of the columns' lanes to every live cell, here cell (0, 1) of the block at v0. -/
theorem test_mop_applied :
    let m : Strand := { strandOf [] with modew := 0x11000, k := ((Vector.replicate 8 0).set 6 1).set 7 2 }
    let s := after (exec (.mop 20 21 0 0 1) (withV [(0, vl 32 [0x3F800000, 0x3F800000]), (20, vl 32 [0x40000000]), (21, vl 32 [0x40400000, 0x40400000])] (run0 m)))
    (laneList 32 ((after (exec (.tileOpApply 0 0) s)).vget 0 0)).take 2 = [0x3F800000, 0x40E00000] := by decide +kernel
/-- The word ADDI s7, s0, #5 placed where step fetches next: after one step s7 is 5 (log 20). -/
theorem test_step_runs_the_placed_word :
    ((after (step (State.reset.withFetchWord 32 0x48380005))).strand 0).reg 7 = 5 := by decide +kernel
/-- R309's worked translation: TMAP of (5, 4) in header 2 with shard (1, 1) in entry 7 on die 9 of panel 5. -/
theorem test_tmap :
    let img (xs : List Nat) : VReg := vl 64 xs
    let shards : List Plot := [{ rcb := 0, x := 2, img := img [0xB2100007FFFF0004, 0x0000000000C00008, 0x0000000000600004] },
      { rcb := 0, x := 4, img := img [0xC000000120000000, 5] }, { rcb := 0, x := 5, img := img [0xC004000120000000, 5] },
      { rcb := 0, x := 6, img := img [0xC020000120000000, 5] }, { rcb := 0, x := 7, img := img [0xC024000120000000, 5] }]
    let s : State := { (inRegion { rcb := 0, plotCount := 16 } (seg0 (descriptor kindShard 67 5 0 0 0 0 2) [(2, 0x0000000000400005)])).modTile 0
      (fun t => { t with plots := shards }) with chip := 5 }
    ((after (exec (.tmap 6 2 0) s)).ops.map (fun o => o.res)) = [0x0489000000A00007] := by decide +kernel
/-! ## Witnesses: bounds that steps keep, and floats -/

theorem reset_turnsInRange : TurnsInRange State.reset :=
  ⟨fun p => by rw [show State.reset.tile p = {} from rfl]; decide, fun d => by rw [show State.reset.die d = {} from rfl]; decide⟩
theorem reset_quantaInRange : QuantaInRange State.reset :=
  ⟨fun d => by rw [show State.reset.die d = {} from rfl]; decide, by decide +kernel, by decide, fun _ h => by cases h⟩
theorem reset_countsInRange : CountsInRange State.reset :=
  ⟨fun k c => by rw [show State.reset.strand k = {} from rfl]; cases c <;> exact ⟨Nat.le_refl 0, Nat.zero_le 63⟩, fun _ _ => Nat.zero_le 63⟩
theorem witness_CountersStayInRange : CountsInRange State.reset ∧ goesOn State.reset := ⟨reset_countsInRange, _, rfl⟩
theorem witness_TurnsAndQuantaStayInRange : TurnsInRange State.reset ∧ QuantaInRange State.reset ∧ goesOn State.reset :=
  ⟨reset_turnsInRange, reset_quantaInRange, _, rfl⟩

/-- Single precision. -/
def fw : FFmt := laneFmt 2
theorem one_isReal : IsReal (fw.decode 0x3F800000) 1 := ⟨false, 2 ^ 23, -23, by decide, by norm_num⟩
theorem minusOne_isReal : IsReal (fw.decode 0xBF800000) (-1) := ⟨true, 2 ^ 23, -23, by decide, by norm_num⟩
theorem zero_isReal : IsReal (fw.decode 0) 0 := ⟨false, 0, -149, by decide, by norm_num⟩
theorem minusZero_isReal : IsReal (fw.decode 0x80000000) 0 := ⟨true, 0, -149, by decide, by norm_num⟩
/-- Numbers of each sign and zeros of both; infinities; quiet and signalling NaNs and what is none. -/
theorem witness_FloatValues :
    (1 + -1 = (0 : ℝ) ∧ (1 : ℝ) + 0 ≠ 0 ∧ (fw.decode 0).neg ≠ (fw.decode 0x80000000).neg) ∧ fw.decode 0x7F800000 = .inf false ∧
    fw.decode 0xFF800000 = .inf true ∧ (NanPat fw 0x7FC00000 ∧ ¬SigPat fw 0x7FC00000) ∧ SigPat fw 0x7F800001 ∧ ¬NanPat fw 0x7F800000 ∧
    (254 : Nat) < 255 ∧ (ffmt 4).decode 0x7F = .nan false false 0 ∧ (ffmt 4).special = .e4m3 ∧ (ffmt 8).special = .finite ∧ (8 : Nat) < 9 := by
  refine ⟨⟨by norm_num, by norm_num, by decide⟩, ?_⟩
  unfold SigPat NanPat
  decide
/-- A magnitude in a binade, the largest value of a format, and an integer above the range of 8 bits. -/
theorem witness_FloatValues_rounding :
    ((2 : ℝ) ^ (0 : ℤ) ≤ 1 ∧ (1 : ℝ) < 2 ^ ((0 : ℤ) + 1)) ∧ IsLargest (ffmt 4) 448 ∧ IsReal (fw.decode 0x43800000) 256 ∧ (127 : Int) < 256 :=
  ⟨by norm_num, rfl, ⟨false, 2 ^ 23, -15, by decide, by norm_num⟩, by decide⟩
/-- A cell of 1 with one product of 1, and one of zeros. -/
theorem witness_FloatValues_cell :
    let x (v : FVal) : CellIn := { c := v, ab := [(v, v)], exp := 0, nanScale := false }
    (x (.num false 1 0)).nanScale = false ∧ IsReal (x (.num false 1 0)).c 1 ∧
    List.Forall₂ (fun p u => IsReal p.1 u.1 ∧ IsReal p.2 u.2) (x (.num false 1 0)).ab [((1 : ℝ), (1 : ℝ))] ∧
    IsReal (x (.num false 0 0)).c 0 ∧ ∀ u ∈ [((0 : ℝ), (0 : ℝ))], u.1 * u.2 = 0 := by
  have one : IsReal (.num false 1 0) 1 := ⟨false, 1, 0, rfl, by norm_num⟩
  have zero : IsReal (.num false 0 0) 0 := ⟨false, 0, 0, rfl, by norm_num⟩
  exact ⟨rfl, one, .cons ⟨one, one⟩ .nil, zero, by simp⟩
/-- Cells of zeros of both signs; with a NaN and a scale of 0xFF; with 0 times an infinity; with one infinity; a pattern that 0xFF scales. -/
theorem witness_FloatValues_special :
    let ins (x : CellIn) : List FVal := (x.c :: x.ab.flatMap (fun p => [p.1, p.2])) ++ (if x.nanScale then [FVal.nan false false 0] else [])
    let has (x : CellIn) : Prop := ∃ n q p, FVal.nan n q p ∈ ins x
    let zeros : CellIn := { c := .num false 0 0, ab := [(.num true 0 0, .num false 1 0)], exp := 0, nanScale := false }
    let nan : CellIn := { c := .nan false true 1, ab := [], exp := 0, nanScale := true }
    let zi : CellIn := { zeros with ab := [(.num true 0 0, .inf false)] }
    let inf : CellIn := { zeros with c := .inf true }
    (zeros.c.neg = false ∧ ∃ p ∈ zeros.ab, (p.1.neg != p.2.neg) = true) ∧ (has nan ∧ ∀ n q p, FVal.nan n q p ∈ ins nan → p < 2 ^ 51) ∧
    (¬has zi ∧ IsReal (.num true 0 0) 0 ∧ FVal.isInf (.inf false) = true) ∧ (¬has inf ∧ inf.c = .inf true) ∧ (255 : Nat) = 255 := by
  refine ⟨⟨rfl, _, .head _, rfl⟩, ⟨⟨false, true, 1, by simp⟩, ?_⟩, ⟨?_, ⟨true, 0, 0, rfl, by norm_num⟩, rfl⟩, ⟨?_, rfl⟩, rfl⟩
  · intro n q p h; simp at h; omega
  · rintro ⟨n, q, p, h⟩; simp at h
  · rintro ⟨n, q, p, h⟩; simp at h

/-! ## Witnesses: states and operands that meet the hypotheses of the statements, clause by clause -/

theorem witness_AddPointer :
    let o (s : State) : Int := (((s.rs 1).toNat % 2 ^ 53 : Nat) : Int) + (s.rs 2).toInt
    let s1 := at0 [(1, 0x001FFFFFFFFFFFFE), (2, 1)]
    let s2 := at0 [(1, 0x001FFFFFFFFFFFFE), (2, 2)]
    let s3 := at0 [(1, 0), (2, 0xFFFFFFFFFFFFFFFF)]
    (0 ≤ o s1 ∧ o s1 < 2 ^ 53) ∧ 2 ^ 53 ≤ o s2 ∧ o s3 < 0 := by decide +kernel

theorem witness_ImmediateResults : (0 : BitVec 6).toNat + (63 : BitVec 6).toNat + 1 ≤ 64 ∧ (63 : BitVec 6).toNat + (0 : BitVec 6).toNat + 1 ≤ 64 := by
  decide

theorem witness_BranchesGo : ((at0 [(1, 8)]).rs 1).toNat % 4 = 0 ∧ ((at0 [(1, 3)]).rs 1).toNat % 4 ≠ 0 := by decide +kernel

theorem witness_PendWaitsForItsBoundary : (at0 []).me.per = 0 ∧ (run0 { per := 1 }).me.per ≠ 0 := by decide +kernel

theorem witness_TrapWordsTrap : (run0 { priv := 8 }).me.be = true ∧ (run0 { priv := 7 }).me.be = false ∧ (at0 []).me.p = false ∧ (at0 []).me.en = false := by
  decide +kernel

/-- A tile whose cache is full. -/
def fullCache (s : State) : State := s.modTile 0 (fun t => { t with cache := (List.range 32).map (fun e => (e, { st := .held })) })

theorem witness_TrapEntry :
    let x := (run0 { priv := 0, xbase := 0x41 }).strand 0
    let y := (run0 { priv := 4, xbase := 0x41 }).strand 0
    (x.hold = .none ∧ x.xh = false ∧ x.xbase.getLsbD 0 = true) ∧ (y.hold = .none ∧ y.xh = true) ∧
    ((at0 []).strand 0).xbase.getLsbD 0 = false ∧ lowestEntry (at0 []) (0 / 16) = some 0 ∧ lowestEntry (fullCache (at0 [])) (0 / 16) = none := by
  decide +kernel

theorem witness_EretReturns :
    (run0 { priv := 1, xpc := 4 }).me.p = true ∧ (run0 { priv := 1, xpc := 4 }).me.xpc.toNat % 4 = 0 ∧
    (run0 { priv := 1, xpc := 6 }).me.xpc.toNat % 4 ≠ 0 ∧ (run0 { xpc := 4 }).me.p = false := by decide +kernel

/-- An operation of strand 0 in class c, with parked parts or none. -/
def opOf (c : Cls) (ps : List Part) : Op := { oid := 0, party := .strand 0, rcb := 0, cls := some c, fin := .none, parked := ps }
def partOf (oid : Nat) (h : Home) (a : Act) : Part :=
  { pid := 1, oid := oid, party := .strand 0, src := 0, home := h, lane := 0, gates := [], cls := clsR, act := a }
/-- Strand 0 has one parked load. -/
def parked0 (s : State) : State := { full0 .ldc s with ops := [opOf .ldc [partOf 0 .virt (.read [])]] }

theorem witness_WaitAndHalt :
    let l : BitVec 24 := (0 : BitVec 6) ++ (63 : BitVec 6) ++ (63 : BitVec 6) ++ (63 : BitVec 6)
    let within (n : Nat) (lim : BitVec 6) : Prop := lim = 63 ∨ n ≤ lim.toNat
    let free (s : State) (l : BitVec 24) : Prop := s.parkedOps (.strand s.key) = [] ∨ s.needsParked s.key l = false
    let bad := run0 { strandOf [] with badLoads := [8] }
    (free (at0 []) l ∧ within (at0 []).me.ldc 0 ∧ (at0 []).me.badLoads = []) ∧ (free bad l ∧ within bad.me.ldc 0 ∧ bad.me.badLoads = [8]) ∧
    (free (full0 .ldc (at0 [])) l ∧ ¬within (full0 .ldc (at0 [])).me.ldc 0 ∧ within (full0 .ldc (at0 [])).me.ldc 63) ∧
    -- a parked load is over the limits 0 but not over a limit of 1
    ((parked0 (at0 [])).needsParked 0 l = true ∧ (parked0 (at0 [])).needsParked 0 0 = true ∧ (parked0 (at0 [])).parkedOps (.strand 0) ≠ [] ∧
      (parked0 (at0 [])).needsParked 0 ((1 : BitVec 6) ++ (0 : BitVec 18)) = false ∧ (parked0 (at0 [])).iss.slot < 16) := by decide +kernel

/-- Strand 0 has one load under way to tile 0's scratchpad. -/
def loading0 (s : State) : State := { full0 .ldc s with ops := [opOf .ldc []], posts := [partOf 0 (.bank 0 0) (.read [])] }

theorem witness_FenceGatesLaterAccesses :
    let s := loading0 (at0 [])
    let stuck := parked0 (at0 [])
    let needs (s : State) := s.pendingClasses (.strand 0) true false false
    let scope := s.scope 0 4
    let seq (s : State) : Gate := { needs := needs s, scope := scope, own := false }
    (needs s).any ((at0 []).needOpen scope) = false ∧ ((needs s).any (s.needOpen scope) = true ∧ s.gatesNeedParked s.key [seq s] = false) ∧
      ((needs stuck).any (stuck.needOpen scope) = true ∧ stuck.gatesNeedParked stuck.key [seq stuck] = true) ∧ needs (at0 []) = [] := by decide +kernel

theorem witness_SysrReadsEveryRegister : (at0 []).iss.slot < 16 := by decide +kernel

theorem witness_SyswWritesAndIgnores : (priv0 []).me.p = true := by decide +kernel

theorem witness_PeriodWrites :
    let s (v : Word) := inRegion { rcb := 0, permin := 10, permax := 100 } (run0 { strandOf [(1, v)] with pph := 20 })
    let bad (s : State) : Prop := ((s.rs 1).setWidth 24 : BitVec 24).toNat < (s.region s.me.rcbp.toNat).permin ∨
      (s.region s.me.rcbp.toNat).permax < ((s.rs 1).setWidth 24 : BitVec 24).toNat ∨
      (((s.rs 1).setWidth 24 : BitVec 24) ≠ 0 ∧ ((s.rs 1).setWidth 24 : BitVec 24).toNat ≤ s.me.pph.toNat)
    bad (s 9) ∧ bad (s 101) ∧ bad (s 20) ∧ ¬bad (s 21) ∧ ¬bad (s 100) ∧
    (¬bad (at0 []) ∧ ((at0 []).rs 1).setWidth 24 = (0 : BitVec 24)) ∧ (at0 []).me.per = 0 ∧ (run0 { per := 5, due := some (1, 2) }).me.per ≠ 0 ∧
    (let t := run0 { strandOf [(1, 5)] with per := 5 }
     t.me.per ≠ 0 ∧ t.me.per.toNat ≤ ((t.rs 1).setWidth 24 : BitVec 24).toNat) ∧
    (let t := run0 { strandOf [(1, 4)] with per := 5 }
     ¬(t.me.per ≠ 0 ∧ t.me.per.toNat ≤ ((t.rs 1).setWidth 24 : BitVec 24).toNat)) := by decide +kernel

/-- Every request tag of tile 0 is taken. -/
def noTags (s : State) : State := s.modTile 0 (fun t => { t with tags := (List.range 64).map (fun i => (i, { req := some default })) })
/-- An access of n bytes at offset o of sg0. -/
def acc (o n : Nat) (r : Right) (x : Bool) : Access := { p := BitVec.ofNat 64 o, o := o, pieces := [(o, n)], right := r, crossOk := x }
/-- Where an access of strand 0 with descriptor d in sg0 lands, and what it traps. -/
def lands (d : Wide) (a : Access) : Option Land := okOf ((seg0 d []).check a)
def traps (d : Wide) (a : Access) : Option (BitVec 6 × Word) := errOf ((seg0 d []).check a)

/-- The clauses of `Accesses`: a failed check at either side of the limit, a landing with the counter free and full, another
panel with a tag free and none. -/
theorem witness_Accesses :
    traps localSeg (acc 4089 8 .read true) = some (4, 4089) ∧ lands localSeg (acc 4088 8 .read true) = some (.scratch 0 0) ∧
    traps 0 (acc 0 8 .read true) = some (5, 0) ∧ lands tileSeg (acc 4095 1 .read false) = some (.scratch 1 0) ∧
    lands flatSeg (acc 0 8 .read false) = some (.flat 0 0) ∧
    lands farSeg (acc 0 8 .read true) = some (.cross 5) ∧ traps farSeg (acc 0 8 .read false) = some (5, 0) ∧
    (seg0 localSeg []).full .ldc = false ∧ (full0 .ldc (seg0 localSeg [])).full .ldc = true ∧
    (seg0 farSeg []).freeTag = some 0 ∧ (noTags (seg0 farSeg [])).freeTag = none := by decide +kernel

theorem witness_LoadsIssue :
    okOf ((seg0 localSeg []).check { p := 0, o := 0, pieces := (List.range 64).map (fun (i : Nat) => ((i : Int) * 64, 1)), right := .read }) =
      some (.scratch 0 0) ∧
    errOf ((seg0 localSeg []).check { p := 0, o := 0, pieces := [(0, 1), (-1, 1)], right := .read }) = some (4, 0) := by decide +kernel

theorem witness_StoresIssue :
    lands localSeg (acc 4032 64 .write false) = some (.scratch 0 0) ∧ traps localSeg (acc 4033 64 .write false) = some (4, 4033) ∧
    traps (descriptor kindLocal 1 0 0 0 0 4096 0) (acc 0 8 .write true) = some (5, 0) ∧
    (full0 .stc (seg0 localSeg [])).full .stc = true ∧ (seg0 localSeg []).full .stc = false := by decide +kernel

theorem witness_ConvertingAccessesIssue :
    let a (bad ok : Bool) : Access := { acc 0 64 .read false with badFmt := bad, condOk := ok }
    lands localSeg (a false true) = some (.scratch 0 0) ∧ traps localSeg (a true true) = some (5, 0) ∧ traps localSeg (a false false) = some (5, 0) ∧
    (4 : BitVec 5) ≠ 0 := by decide +kernel

theorem witness_AtomicsIssue :
    let a (o n : Nat) : Access := { acc o n .atomic true with condOk := (o : Int) % n == 0 }
    lands localSeg (a 4088 8) = some (.scratch 0 0) ∧ traps localSeg (a 4 8) = some (5, 4) ∧ traps localSeg (a 4096 8) = some (4, 4096) ∧
    lands farSeg (a 0 4) = some (.cross 5) ∧
    -- an unaligned base: the word crosses a line
    (okOf ((seg0 (descriptor kindLocal 11 0 0 0 60 4096 0) []).check (a 0 8)) = some (.scratch 0 60) ∧
      (lines 0 (.scratch 0 60) [(0, 8)]).length = 2) := by decide +kernel

theorem witness_AcquireGatesWhatFollows :
    let s := seg0 localSeg []
    let pen (n i : Nat) := seg0 tileSeg [(1, BitVec.ofNat 64 (n * 2 ^ 46 + i * 2 ^ 40))]
    let gone := { pen 1 5 with dmap := [(0, (0, 2))] }
    let busy := { pen 0 5 with posts := [partOf 0 (.pens 0) (.penSample 0 0 0)] }
    ((lands localSeg (acc 0 8 .read false) = some (.scratch 0 0) ∧ (∀ k, Land.scratch 0 0 ≠ .cross k) ∧ s.full .ldc = false) ∧
      lands localSeg { acc 0 8 .atomic true with condOk := true } = some (.scratch 0 0) ∧ lines s.pt (.scratch 0 0) [(0, 8)] ≠ [] ∧
      lines s.pt .absent [(0, 8)] = []) ∧
    (okOf ((pen 1 5).penTarget 1 2 1) = some (.tile 1 5) ∧ (pen 1 5).full .ldc = false) ∧ okOf (gone.penTarget 1 2 1) = some .absent ∧
    (okOf ((pen 0 5).penTarget 1 2 1) = some (.here 5) ∧ (pen 0 5).localHeld 1 {} = false ∧ (pen 0 5).localHeld 3 ((pen 0 5).ord 1 0) = false ∧
      busy.localHeld 1 {} = true) ∧ ((1 : BitVec 2) = 1 ∧ (3 : BitVec 2) = 3 ∧ ¬((2 : BitVec 2) = 1 ∨ (2 : BitVec 2) = 3)) :=
  ⟨⟨⟨by decide +kernel, (by intro k h; cases h), by decide +kernel⟩, by decide +kernel⟩, by decide +kernel, by decide +kernel, by decide +kernel, by decide +kernel⟩

theorem witness_CopiesIssue :
    let s := seg0 localSeg []
    let two := run0 { strandOf [] with sg := ((Vector.replicate 8 0).set 0 localSeg).set 1 farSeg }
    let far : Access := { acc 0 64 .read true with p := BitVec.ofNat 64 (2 ^ 53) }
    lands localSeg (acc 0 64 .read false) = some (.scratch 0 0) ∧ lands localSeg (acc 64 64 .write false) = some (.scratch 0 0) ∧
    traps localSeg (acc 4096 1 .read false) = some (4, 4096) ∧ traps localSeg (acc 4096 1 .write false) = some (4, 4096) ∧
    lands localSeg (acc 4096 0 .write false) = some (.scratch 0 0) ∧ s.full .cpc = false ∧ (full0 .cpc s).full .cpc = true ∧
    okOf (two.check far) = some (.cross 5) ∧ okOf (two.check (acc 0 64 .write true)) = some (.scratch 0 0) ∧
    okOf (two.check { far with right := .write }) = some (.cross 5) ∧
    two.freeTag ≠ none ∧ (noTags two).freeTag = none ∧ two.segCross (BitVec.ofNat 64 (2 ^ 53)) ≠ two.segCross 0 := by decide +kernel

theorem witness_DescriptorWordsIssue :
    let s (p : BitVec 4) (e : Word) := inRegion { rcb := 0, descCount := 2 } (run0 { strandOf [(1, e)] with priv := p })
    let r := (s 0 1).region (s 0 1).me.rcbp.toNat
    ((s 0 1).rs 1).toNat < r.descCount ∧ r.descCount ≤ ((s 0 2).rs 1).toNat ∧ (s 0 1).me.p = false ∧ (s 1 1).me.p = true ∧
    (s 1 1).full .stc = false ∧ (full0 .stc (s 1 1)).full .stc = true ∧ (s 1 1).full .ldc = false ∧ (full0 .ldc (s 1 1)).full .ldc = true := by
  decide +kernel

/-- A pennant address word (R180): segment 0, die 0, tile n, pennant i. -/
def penAddr (n i : Nat) : Word := BitVec.ofNat 64 (n * 2 ^ 46 + i * 2 ^ 40)

theorem witness_LocalPennantWords :
    let s := seg0 tileSeg [(1, penAddr 0 5), (2, penAddr 144 0)]
    -- an earlier load of the strand is under way: a release waits for it
    let late := loading0 s
    let rel (s : State) := (s.relGate (.strand s.key) true (s.scope s.key 4)).any (fun q => s.gateClosed q (.pens s.pt))
    let busy := { s with posts := [partOf 0 (.pens 0) (.penSample 0 0 0)] }
    okOf (s.penTarget 0 63 0) = some (.here 63) ∧ okOf (s.penTarget 1 2 0) = some (.here 5) ∧ errOf (s.penTarget 1 4 0) = some (4, penAddr 144 0) ∧
    (s.localHeld 1 {} = false ∧ s.localHeld 2 {} = false ∧ s.localHeld 3 (s.ord 0 0) = false ∧ rel s = false) ∧
    (busy.localHeld 1 {} = true ∧ busy.localHeld 2 {} = true ∧ busy.localHeld 3 (busy.ord 0 0) = true) ∧
    (rel late = true ∧ late.localHeld 2 {} = false ∧ late.full .stc = false) ∧ (rel (full0 .stc late) = true ∧ (full0 .stc late).full .stc = true) ∧
    ((run0 { priv := 1 }).me.p = true ∧ (run0 { priv := 1 }).localHeld 0 {} = false ∧ (run0 { priv := 1 }).me.gates = []) ∧
    busy.localHeld 0 {} = true := by decide +kernel

/-- A bunting in slot 0 whose only member is pennant 3 of tile 2, at offset 1024 of die 0. -/
def bunting0 (s : State) : State :=
  inRegion { rcb := 0, buntBase := 1024 } ((s.setNat (dieKey 0 1024) 8 (2 ^ 63 + 1)).setNat (dieKey 0 1088) 4 (2 * 64 + 3))

theorem witness_RemotePennantWords :
    let s := seg0 tileSeg [(1, penAddr 1 5)]
    let far := seg0 (farSeg) [(1, penAddr 1 5 + BitVec.ofNat 64 (2 ^ 33))]
    let gone := { s with dmap := [(0, (0, 2))] }
    let dead := s.modDie 0 (fun x => { x with pts := [(1, 2)] })
    okOf (s.penTarget 1 2 0) = some (.tile 1 5) ∧ okOf (gone.penTarget 1 2 0) = some .absent ∧ okOf (s.penTarget 1 2 0 true) = some (.tile 1 5) ∧
    -- a member behind a dead router, and one in the open
    ((dead.refusedPath 0 2 = true ∧ s.refusedPath 0 2 = false) ∧ (at0 []).physTile 0 2 = some 2) ∧ okOf (far.penTarget 1 2 0) = some (.cross 5 0 0 1 5) ∧
    (s.full .stc = false ∧ s.full .ldc = false) ∧ ((full0 .stc s).full .stc = true ∧ (full0 .ldc s).full .ldc = true) ∧
    far.freeTag ≠ none ∧ (noTags far).freeTag = none ∧ (at0 []).bunting 0 0 = none ∧ (bunting0 (at0 [])).bunting 0 0 = some [131] ∧
    (bunting0 (at0 [])).full .stc = false ∧ (full0 .stc (bunting0 (at0 []))).full .stc = true := by decide +kernel

theorem witness_TileQueries :
    let s (k i : Nat) := run0 { strandOf [(1, BitVec.ofNat 64 (k * 32 + i))] with en := true }
    let kind (s : State) := (s.rs 1).toNat / 32 % 8
    (s 1 0).me.en = true ∧ (kind (s 2 0) ≠ 1 ∧ kind (s 1 0) = 1) ∧ 16 ≤ ((s 1 16).rs 1).toNat % 32 ∧ (s 1 15).parkedOps (.strand 15) = [] := by
  decide +kernel
/-- EVACK in the cycle in which a timeout was raised: one that set its bit, one that was merged, and one of another kind. -/
theorem witness_TileQueries_raised :
    let w : Word := eventWord 5 0 0 0
    let s (m : Bool) (k : Nat) := (run0 { strandOf [(1, BitVec.ofNat 64 (k * 32))] with en := true }).modTile 0 (fun t =>
      { t with raisedAt := some 0, raised := [(w, m)], tp := true })
    let kind (s : State) := (s.rs 1).toNat / 32 % 8
    let named (s : State) (r : Word × Bool) : Prop := r.1.toNat / 2 ^ 56 % 256 = kind s
    ((s true 5).me.en = true ∧ ((s true 5).tile 0).raisedAt = some ((s true 5).cycle 0) ∧ ((s true 5).tile 0).raised = [] ++ (w, true) :: [] ∧
      named (s true 5) (w, true)) ∧ (((s false 5).tile 0).raised = [] ++ (w, false) :: [] ∧ named (s false 5) (w, false)) ∧
    ¬named (s true 4) (w, true) ∧ ((at0 []).tile 0).raised = [] := by decide +kernel
/-- A page fault of strand 1 with a parked access, acknowledged with bit 8 set and clear; a strand of another tree is not replayed. -/
theorem witness_TileQueries_replay :
    let s (b : Nat) (rcbp : Word) : State := { run0 { strandOf [(1, BitVec.ofNat 64 (b * 256 + 33))] with en := true } with
      ops := [{ opOf .ldc [partOf 0 .virt (.read [])] with party := .strand 1 }] }.setStrand 1 { st := .parked, rcbp := rcbp }
    let replays (s : State) : Prop := (s.rs 1).toNat / 2 ^ 8 % 2 = 1 ∧ ((s.strand 1).st = .parked ∨ (s.strand 1).st = .held) ∧
      s.within (s.strand 1).rcbp.toNat s.me.rcbp.toNat = true
    ((s 1 0).rs 1).toNat / 32 % 8 = 1 ∧ ((s 1 0).rs 1).toNat % 32 = 1 ∧ (s 1 0).parkedOps (.strand 1) ≠ [] ∧ 1 ≠ (s 1 0).key ∧
    replays (s 1 0) ∧ ¬replays (s 0 0) ∧ ¬replays (s 1 64) := by decide +kernel

/-- Strand 1 of the tile in state st. -/
def other (st : RunState) (rcbp : Word) (s : State) : State := s.setStrand 1 { st := st, rcbp := rcbp }
/-- Entry 0 of the tile's cache. -/
def entry0 (e : CacheEntry) (s : State) : State := s.setEntry 0 0 e

theorem witness_EvictAndResume :
    let s := priv0 [(1, 1)]
    let live (s : State) (k : Nat) := (s.strand k).st = .running ∨ (s.strand k).st = .idle ∨ (s.strand k).st = .held ∨ (s.strand k).st = .parked
    let w (s : State) := s.within (s.strand 1).rcbp.toNat s.me.rcbp.toNat
    -- an access under way keeps EVICT, of class E, back behind a FENCE with E
    let gated (s : State) : Bool := (gatesFor s.me.gates 4).any (fun g => s.gateClosed g (.grid s.pt))
    let fenced := (loading0 s).modStrand 0 (fun x => { x with gates := [⟨⟨[.part 1], .system, false, false⟩, false, false, true, false⟩] })
    gated s = false ∧ gated fenced = true ∧
    (s.me.p = true ∧ s.full .cpc = false ∧ (full0 .cpc s).full .cpc = true) ∧ ¬live s 1 ∧ (live s 0 ∧ 0 = s.key) ∧
    (live (other .running 64 s) 1 ∧ w (other .running 64 s) = false ∧ 1 ≠ s.key) ∧
    (live (other .parked 0 s) 1 ∧ w (other .parked 0 s) = true ∧ lowestEntry (other .parked 0 s) 0 = some 0) ∧
    (live (fullCache (other .idle 0 s)) 1 ∧ lowestEntry (fullCache (other .idle 0 s)) 0 = none) := by decide +kernel
/-- A held context with a wait, a fence and no hold recorded, the last idle before its boundary or not. -/
theorem witness_EvictAndResume_resume :
    let e (st : CacheSt) (x : Strand) := entry0 { st := st, strand := x } (priv0 [])
    let c (st : CacheSt) (x : Strand) := (e st x).entry 0 0
    let hrec (n : Nat) : Strand := { hrec := BitVec.ofNat 64 (n * 2 ^ 61) }
    let armed := { (priv0 []) with strands := (List.range 16).map (fun i => (i, { st := .armed, priv := 1 })) }
    let idle (n : Nat) : Strand := { was := .idle, per := 1, pidx := BitVec.ofNat 64 n }
    ((priv0 []).entry 0 0).st = .empty ∧ (c .loading {}).st = .loading ∧ (e .held { rcbp := 64 }).within 64 0 = false ∧ (e .bad {}).within 0 0 = true ∧
    (e .bad {}).resumeSlot 0 (c .bad {}) = some 1 ∧ ((e .held {}).resumeSlot 0 (c .held {}) = some 1 ∧ 0 * 16 + 1 ≠ (e .held {}).key) ∧
    armed.resumeSlot 0 { st := .held } = none ∧ (hrec 5).hrec.toNat / 2 ^ 61 = 5 ∧ (hrec 6).hrec.toNat / 2 ^ 61 = 6 ∧
    (((priv0 []).cycle 0 : Int) < boundary (idle 1) 1 ∧ ¬(((priv0 []).cycle 0 : Int) < boundary (idle 0) 0)) ∧
    ((e .held {}).parkedOps (.strand 1) = [] ∧ (parked0 (e .held {})).parkedOps (.strand 0) ≠ [] ∧ (opOf .ldc []).cross = false) := by decide +kernel

theorem witness_ContextImagesIssue :
    let s := run0 { strandOf [] with priv := 1, sg := (Vector.replicate 8 0).set 0 localSeg }
    let h := entry0 { st := .held, strand := { vlim := 8 } } s
    let w (s : State) := s.within (s.entry 0 0).strand.rcbp.toNat s.me.rcbp.toNat
    (s.me.p = true ∧ (s.entry 0 0).st = .empty) ∧ ((h.entry 0 0).st = .held ∧ h.parkedOps (.cached 0) = [] ∧ w h = true) ∧
    w (entry0 { st := .held, strand := { rcbp := 64 } } s) = false ∧
    okOf (h.check (acc 0 1536 .write false)) = some (.scratch 0 0) ∧ errOf (h.check (acc 2561 1536 .write false)) = some (4, 2561) ∧
    okOf (s.check (acc 2560 1024 .read false)) = some (.scratch 0 0) ∧ errOf (s.check (acc 3073 1024 .read false)) = some (4, 3073) ∧
    s.imageVlim (.scratch 0 0) 2560 = 8 ∧ okOf (s.check (acc 2560 1536 .read false)) = some (.scratch 0 0) ∧
    (s.imageVlim (.scratch 0 0) 3072 = 8 ∧ okOf (s.check (acc 3072 1024 .read false)) = some (.scratch 0 0) ∧
      errOf (s.check (acc 3072 1536 .read false)) = some (4, 3072)) ∧ s.full .cpc = false ∧ (full0 .cpc s).full .cpc = true := by decide +kernel

/-- A grid of 32 cells in two halves, one ghost layer between them and none at the ends; tile 0 holds the first half, with a
piece for step 5 arrived at its upper face. -/
def gridD : GridDesc :=
  { rank := 1, fmt := 2, w := 1, d := 1, r := 1, mirror := false, m := 0, buddy := 0, g := [32, 1, 1], p := [2, 1, 1], bc := [0, 0, 0, 0, 0, 0]
    fixed := [], parts := [⟨0, false, 0, 0, 0, true⟩, ⟨0, false, 1, 0, 0, true⟩] }
def gridE : GridEntry :=
  { id := 1, desc := gridD, slots := [{}, {}, { tag := 5, state := 2, arrived := 1, contrib := 1 }, {}] }
def gridSeg : Wide := descriptor kindGrid 35 0 0 0 0 0 0
def grid0 (rs : List (Nat × Word)) : State := (seg0 gridSeg rs).setGridEntry 0 0 gridE

theorem witness_GridWords :
    let s := grid0 [(1, 16), (2, 5)]
    let e := s.gridEntry s.pt (gridNo (s.src.seg 0))
    let cell (w : Word) (j : Nat) : List Int := [coordAxis w 0 + j, coordAxis w 1, coordAxis w 2]
    -- the entry is bound, and not without its rights or its ID
    (dKind (s.src.seg 0) = 4 ∧ dG (s.src.seg 0) = true ∧ dR (s.src.seg 0) = true ∧ dW (s.src.seg 0) = true ∧ e.id ≠ 0) ∧
    dKind ((at0 []).src.seg 0) ≠ 4 ∧
    -- a shaped coordinate and two that are not
    ((16 : Word).getLsbD 63 = false ∧ (∀ a, a < 3 → e.desc.rank ≤ a → coordAxis 16 a = 0)) ∧ (0x8000000000000000 : Word).getLsbD 63 = true ∧
    coordAxis 0x200000 1 ≠ 0 ∧
    -- cells 0 to 15 are interior, 16 a ghost of face 1, 17 and -1 outside
    (∀ j, j < 16 → cellOutside e.desc e.part (cell 0 j) = false ∧ ghostFace e.desc e.part (cell 0 j) = none) ∧
    (cellOutside e.desc e.part (cell 16 0) = false ∧ ghostFace e.desc e.part (cell 16 0) = some 1) ∧
    cellOutside e.desc e.part (cell 17 0) = true ∧ cellOutside e.desc e.part (cell 0x1FFFFF 0) = true ∧
    -- step 5 is served, 6 stale, 4 expired
    servingSlot e 1 5 = some 0 ∧ servingSlot e 1 6 = none ∧ servingSlot e 1 4 = none ∧ newestTag e 1 = 5 ∧ newestTag e 1 ≠ 0xFFFFFFFF ∧
    e.desc.rank ≤ 3 ∧ (5 : Word).toNat ≤ 4294967287 ∧ 4294967287 < (4294967288 : Word).toNat ∧
    s.full .ldc = false ∧ s.full .stc = false ∧ s.full .cpc = false ∧
    (full0 .ldc s).full .ldc = true ∧ (full0 .stc s).full .stc = true ∧ (full0 .cpc s).full .cpc = true ∧
    -- GST: cell 5 clear of the tile's protected bytes, and with the storage at their start on them
    (s.cellProtected 0 e 5 = false ∧
      s.cellProtected 0 { e with desc := { gridD with parts := [⟨Config.logOff, false, 0, 0, 0, true⟩] } } 5 = true) := by
  decide +kernel
/-- GBIND: a header in reach and one that is not, and the descriptor of one partition that ends with its segment or past it. -/
theorem witness_GridWords_bind :
    let h (o : Nat) : State := ((seg0 localSeg []).setNat (scratchKey 0 o) 8 1).setNat (scratchKey 0 (o + 24)) 4 1
    let len (o : Nat) : Nat := gridBytes (gridHeader ((h o).peek (.scratch 0 0) o 128))
    lands localSeg (acc 3968 128 .read false) = some (.scratch 0 0) ∧ traps localSeg (acc 3969 128 .read false) = some (4, 3969) ∧
    (len 3968 = 144 ∧ errOf ((h 3968).check (acc 3968 144 .read false)) = some (4, 3968)) ∧
    (len 3952 = 144 ∧ okOf ((h 3952).check (acc 3952 144 .read false)) = some (.scratch 0 0)) ∧
    lands flatSeg (acc 0 144 .read false) = some (.flat 0 0) := by decide +kernel

/-- A tensor of four bytes along one axis: its header, and its one shard on die 0 of panel `chip`. -/
def headerImg : VReg := BitVec.ofNat 512 (2 ^ 63 + 2 ^ 61 + 2 ^ 60 + 2 ^ 56 + 16 * 2 ^ 51 + 0xFFFF * 2 ^ 16 + 1 + 4 * 2 ^ 64 + 4 * 2 ^ 128)
def shardImg (chip : Nat) : VReg := BitVec.ofNat 512 (2 ^ 63 + 2 ^ 62 + chip * 2 ^ 64)
def shardSeg : Wide := descriptor kindShard 67 0 0 0 0 0 0
def tensor0 (imgs : List VReg) : State :=
  (inRegion { rcb := 0, plotCount := 2 } (seg0 shardSeg [])).modTile 0 (fun t =>
    { t with plots := (List.range imgs.length).map (fun i => { rcb := 0, x := i, img := imgs.getD i 0 }) })
/-- How an access of one element along axis 0 comes out: the number of copies on the panels, or 10 and above what it is not. -/
def transOf (s : State) (c : Nat) (store : Bool) : Nat × List Nat :=
  match s.translate 0 0 s.plotCount 0 c { a := 0, n := 1 } store with
  | .missing x => (10, [x]) | .limit => (12, []) | .miss code h => (13, [code, h]) | .ok us => (us.length, us.map (fun u => shardChip u.sh))

theorem witness_TensorWords :
    let s := tensor0 [headerImg, shardImg 0]
    let far := tensor0 [headerImg, shardImg 5]
    (dKind (s.src.seg 0) = 5 ∧ dT (s.src.seg 0) = true ∧ dR (s.src.seg 0) = true ∧ dW (s.src.seg 0) = true) ∧ dKind ((at0 []).src.seg 0) ≠ 5 ∧
    transOf s 3 false = (1, [0]) ∧ transOf s 3 true = (1, [0]) ∧ transOf s 4 false = (12, []) ∧ transOf (tensor0 []) 0 false = (10, [0]) ∧
    transOf (tensor0 [headerImg]) 0 true = (10, [1]) ∧ transOf (tensor0 [headerImg, 0]) 0 false = (13, [2, 0]) ∧ transOf (tensor0 [0]) 0 true = (13, [4, 0]) ∧
    transOf far 0 false = (1, [5]) ∧ transOf far 0 true = (1, [5]) ∧ far.freeTag ≠ none ∧ (noTags far).freeTag = none ∧
    dCpe (s.src.seg 0) = false ∧ dCpe (shardSeg ||| BitVec.ofNat 256 (2 ^ 230)) = true ∧
    (s.full .ldc = false ∧ s.full .stc = false) ∧ ((full0 .ldc s).full .ldc = true ∧ (full0 .stc s).full .stc = true) ∧
    [s, tensor0 [], tensor0 [0]].map (fun t => match chainFrom (t.plotEntry 0 0) 2 none 4 0 with | .ok hs => hs.length | .missing _ => 8 | .bad => 9) =
      [1, 8, 9] := by decide +kernel

theorem witness_TableWords :
    let s (p : BitVec 4) (a : Word) := inRegion { rcb := 0, plotCount := 2 } (run0 { strandOf [(1, a), (2, 0x7000000000000000)] with priv := p })
    let img : State := run0 { strandOf [] with priv := 1, sg := (Vector.replicate 8 0).set 0 localSeg }
    (s 0 0).me.p = false ∧ ((s 1 5).me.p = true ∧ ((s 1 5).rs 1).toNat % 32 < 6) ∧ 6 ≤ ((s 1 6).rs 1).toNat % 32 ∧
    ((s 1 6).rs 2).toNat / 2 ^ 60 = 7 ∧ ¬(((s 1 6).rs 1).toNat / 2 ^ 60 = 7) ∧
    ((s 1 2).region 0).plotCount ≤ ((s 1 2).rs 1).toNat % 2 ^ 16 ∧ ((s 1 1).rs 1).toNat % 2 ^ 16 < ((s 1 1).region 0).plotCount ∧
    okOf (img.check (acc 3072 1024 .read false)) = some (.scratch 0 0) ∧ errOf (img.check (acc 3073 1024 .read false)) = some (4, 3073) ∧
    (img.full .stc = false ∧ img.full .cpc = false) ∧ ((full0 .stc img).full .stc = true ∧ (full0 .cpc img).full .cpc = true) := by
  decide +kernel

theorem witness_QueueWords :
    let a (o n : Nat) (r : Right) : Access := { acc o n r false with flatOk := false, condOk := (o : Int) % n == 0 }
    lands localSeg (a 4032 64 .write) = some (.scratch 0 0) ∧ traps localSeg (a 32 64 .write) = some (5, 32) ∧
    lands tileSeg (a 4064 32 .read) = some (.scratch 1 0) ∧ traps flatSeg (a 0 32 .read) = some (5, 0) ∧
    traps localSeg (a 4096 32 .write) = some (4, 4096) ∧ (at0 []).full .cpc = false ∧ (full0 .cpc (at0 [])).full .cpc = true ∧
    -- a record on a tile and on none
    lines 0 (.scratch 1 0) [(0, 32)] ≠ [] ∧ (okOf ({ seg0 tileSeg [] with dmap := [(0, (0, 2))] }.check (a 0 32 .read)) = some .absent ∧
      lines 0 .absent [(0, 32)] = []) ∧ (at0 []).iss.slot < 16 := by decide +kernel

theorem witness_ReductionsAndMasks : (0 : BitVec 1) = 0 ∧ (1 : BitVec 1) = 1 := by decide
theorem witness_VectorFloats : ((1 : BitVec 3) ≠ 0 ∧ (2 : BitVec 3).toNat ≤ 2) ∧ (NanPat fw 0x7FC00000 ∧ ¬SigPat fw 0x7FC00000 ∧ SigPat fw 0x7F800001 ∧ ¬NanPat fw 0x7F800000) ∧
    (∃ x, IsExt (fw.decode 0x7F800000) x ∧ x = ⊤) ∧ (∃ x, IsExt (fw.decode 0xFF800000) x ∧ x = ⊥) ∧ (∃ x, IsExt (fw.decode 0) x ∧ x = 0) ∧
    IsReal (fw.decode 0x3F800000) 1 ∧ (1 : ℝ) ≠ 0 := by
  refine ⟨by decide, ?_, ⟨⊤, ?_, rfl⟩, ⟨⊥, ?_, rfl⟩, ⟨0, ?_, rfl⟩, one_isReal, by norm_num⟩
  · unfold SigPat NanPat
    decide
  · rw [show fw.decode 0x7F800000 = .inf false from by decide]
    rfl
  · rw [show fw.decode 0xFF800000 = .inf true from by decide]
    rfl
  · rw [show fw.decode 0 = .num false 0 (-149) from by decide]
    exact ⟨0, ⟨false, 0, -149, rfl, by norm_num⟩, rfl⟩
theorem witness_ScalarFloats : ((3 : BitVec 3).toNat < 4 ∧ (0 : BitVec 3).toNat < 4) ∧ 4 ≤ (4 : BitVec 3).toNat ∧ 4 ≤ (7 : BitVec 3).toNat := by decide

/-- Matrix mode in format mf with the block at vb. -/
def matrix0 (mf vb : Nat) (rs : List (Nat × Word)) : State := run0 { strandOf rs with modew := modeWord 0 mf vb }

theorem witness_MatrixWords :
    let s := matrix0 0 8 []
    let busy := run0 { strandOf [] with toc := 1 }
    let cls (k : Nat) := if k < 2 then k else 2
    let mf (s : State) := s.me.modew.toNat / 2 ^ 12 % 16
    let vb (s : State) := s.me.modew.toNat % 128
    busy.me.toc ≠ 0 ∧ s.me.toc = 0 ∧ (1 : BitVec 7).toNat % 8 ≠ 0 ∧ ((120 : BitVec 7).toNat % 8 = 0 ∧ (120 : BitVec 7).toNat + 8 ≤ s.me.vlim.toNat) ∧
    (run0 { vlim := 127 }).me.vlim.toNat < (120 : BitVec 7).toNat + 8 ∧ s.me.modew.getLsbD 16 = true ∧ (at0 []).me.modew.getLsbD 16 = false ∧
    s.full .toc = false ∧ (full0 .toc s).full .toc = true ∧ cls (1 : BitVec 4).toNat ≠ cls (mf s) ∧ cls (0 : BitVec 4).toNat = cls (mf s) ∧
    (vb s ≤ (8 : BitVec 7).toNat ∧ (15 : BitVec 7).toNat < vb s + 8) ∧ ¬(vb s ≤ (7 : BitVec 7).toNat) ∧ ¬((16 : BitVec 7).toNat < vb s + 8) := by
  decide +kernel

theorem witness_DrainsEnter :
    let s : State := run0 { strandOf [] with modew := modeWord 0 0 8, sg := (Vector.replicate 8 0).set 0 localSeg }
    let far : State := run0 { strandOf [] with modew := modeWord 0 0 8, sg := (Vector.replicate 8 0).set 0 farSeg }
    let merge (o : Nat) : Access := { acc o 8 .atomic false with condOk := (o : Int) % 8 == 0 }
    let none' := { seg0 tileSeg [] with dmap := [(0, (0, 2))] }
    (at0 []).me.modew.getLsbD 16 = false ∧ s.me.modew.getLsbD 16 = true ∧
    -- the eight registers of an F64 image: at 121 past VLIM, from 1 to 15 on the block, at 0, 16 and 120 clear of it
    s.me.vlim.toNat < 121 + 8 ∧ 120 + 8 ≤ s.me.vlim.toNat ∧ (1 < 8 + 8 ∧ 8 < 1 + 8) ∧ (15 < 8 + 8 ∧ 8 < 15 + 8) ∧ ¬(0 < 8 + 8 ∧ 8 < 0 + 8) ∧ ¬(16 < 8 + 8) ∧
    errOf (s.checkLate (merge 4)) = some (5, 4) ∧ okOf (s.checkLate (merge 4088)) = some (some (.scratch 0 0)) ∧ okOf (far.checkLate (merge 0)) = some none ∧
    okOf (none'.checkLate (merge 0)) = some (some .absent) ∧ lines 0 .absent [(0, 8)] = [] ∧ lines 0 (.scratch 0 0) [(0, 8)] ≠ [] ∧
    okOf (s.checkLate (acc 3584 512 .write false)) = some (some (.scratch 0 0)) ∧ errOf (s.checkLate (acc 3585 512 .write false)) = some (4, 3585) ∧
    okOf (far.checkLate (acc 0 512 .write false)) = some none ∧ s.full .toc = false ∧ (full0 .toc s).full .toc = true := by decide +kernel

/-- A running region of tile 0, its RCB at 128. -/
def regA : Region := { rcb := 128, st := .running, tiles := [0], kq := 2, prio := 2 }
def inA (x : Strand) : State := inRegion regA (run0 { x with rcbp := 128 })

theorem witness_StrandEvents :
    let c (s : State) : Int := (s.cycle 0 : Nat)
    let x (s : State) := s.strand 0
    let idle (n : Nat) := run0 { st := .idle, per := 1, pidx := BitVec.ofNat 64 n }
    let held (h : Hold) (n : Nat) := run0 { st := .held, hold := h, ldc := n }
    let open0 := { loading0 (at0 []) with strands := [(0, { st := .held, hold := .fence [⟨[.part 1], .system, false, false⟩] 0 false })] }
    let arm (r : RegionSt) (t : Nat) (y : Strand) := inRegion { regA with st := r, startAt := t } (run0 { y with st := .armed, rcbp := 128 })
    ((x (idle 0)).st = .idle ∧ boundary (x (idle 0)) 0 ≤ c (idle 0)) ∧ ¬(boundary (x (idle 1)) 1 ≤ c (idle 1)) ∧
    (x (held (.wait 0 0 false) 0)).meets 0 = true ∧ (x (held (.wait 0 0 false) 1)).meets 0 = false ∧
    (x (held (.halt 0) 0)).meets 0 = true ∧ (x (held (.halt 0) 1)).meets 0 = false ∧
    open0.gateWaits ⟨[.part 1], .system, false, false⟩ = true ∧ (at0 []).gateWaits ⟨[.part 1], .system, false, false⟩ = false ∧
    (x (at0 [])).st ≠ .held ∧ (x (at0 [])).st ≠ .armed ∧
    ((x (arm .running 0 { started := true })).st = .armed ∧ (arm .running 0 {}).region? 128 = some regA ∧ boundary (x (arm .running 0 { started := true })) 0 ≤ 0 ∧
      0 < boundary (x (arm .running 0 { started := true, pph := 1 })) 0) ∧ ((x (held (.wait 0 0 false) 0)).badLoads = [] ∧ (0 : Nat) < 16) ∧
    ((x (arm .admitted 1 {})).started = false ∧ (arm .admitted 1 {}).startDue 0 (((arm .admitted 1 {}).region? 128).getD {}) = false) ∧
    (arm .admitted 0 {}).startDue 0 (((arm .admitted 0 {}).region? 128).getD {}) = true ∧ (arm .admitted 0 {}).panelKey 128 = some 128 := by
  decide +kernel

/-- An RCB at 4096 of die 0, all other positions being vacant: the tile 0 of die 0 (R312), one strand, runtime entry 0, a
descriptor table of two at 8192 whose entry 0 is 8 bytes of text with X on tile 5 and entry 1 the data (R313). -/
def submitted : State :=
  let s : State := { State.reset with bootPhase := 7, dmap := (List.range 127).map (fun d => (d + 1, (d + 1, 2))) }
  let k := 4096
  let text : Wide := descriptor kindTile 5 0 0 5 0 8 0
  let data : Wide := descriptor kindTile 3 0 0 5 64 64 0
  ((((((s.setNat (k + 24) 8 (7 * 2 ^ 60)).setNat (k + 48) 2 1).setNat (k + 64) 8 (8192 + 2 * 2 ^ 43)).setNat (k + 114) 2 1).setNat (k + 72) 8 12288).setNat
    8192 32 text.toNat).setNat 8224 32 data.toNat
def image (off : Nat) : Image := { cadences := [{ entry := 0, period := 0, strands := 1, vregs := 8, phase := 0 }], textOff := off, dataOff := 512, launch := 0 }
/-- What the checks of admission answer: a cause, or the tiles and whether the windows fit. -/
def admitted (s : State) (i : Image) : Sum Nat (List Nat × Bool) :=
  match s.admission (s.effective 4096 4096 i) (s.nat 4120 8) with | .error c => .inl c | .ok (q, _) => .inr (q.tiles, s.windowsOk q)

theorem witness_RegionEvents :
    let s0 : State := { State.reset with bootPhase := 7 }
    let halted := inA { st := .halted }
    let live := inA { st := .running }
    let calm := inA { st := .running, quiet := 2 }
    let gone := inRegion { regA with away := [{ id := 0, quiet := 0, busy := false, busyTake := false, home := 0 }] } halted
    let lost := inRegion { regA with lost := true } halted
    let under (n : Nat) : State := { live with reports := [(128, 13)], domains := [(0, n)] }
    let two := { live with regions := [regA, { regA with rcb := 256, prio := 3 }] }
    let told := { live with reports := [(128, 13)] }
    ((halted.region? 128 = some regA ∧ (∀ k ∈ halted.regionKeys regA, (halted.strand k).st = .halted) ∧ halted.regionEntries regA = []) ∧
      halted.inFlight 128 = false ∧ halted.regionKeys regA = [0] ∧ regA.away = [] ∧ regA.lost = false ∧ regA.st = .running) ∧
    (live.regionKeys regA = [0] ∧ (live.strand 0).st ≠ .halted) ∧ (gone.region 128).away ≠ [] ∧ (lost.region 128).lost = true ∧
    (regA.quieted = false ∧ regA.kq ≠ 0 ∧ (∀ k ∈ calm.regionKeys regA, quietEnough regA.kq (calm.strand k) = true) ∧ calm.regionEntries regA = [] ∧
      calm.inFlight 128 = false) ∧ ({ regA with kq := 0 }).kq = 0 ∧
    ((two.region? 256).map Region.prio = some 3 ∧ (two.strand 0).rcbp.toNat = 128 ∧ lowestEntry two 0 = some 0 ∧ (2 : Nat) < 3 ∧
      (two.strand 0).st = .running) ∧
    (told.told 128 = true ∧ (∀ q ∈ live.reports, q.1 ≠ 128) ∧ regionLive regA = true) ∧
    -- the policy of the fault domain: open, end, rollback; one with a rollback to make and one without
    (told.domainPolicy regA.domain = 0 ∧ (under 1).domainPolicy regA.domain = 1 ∧ (under 2).domainPolicy regA.domain = 2) ∧
    (told.rollback? 128 ≠ none ∧ (under 2).rollback? 128 ≠ none ∧ live.rollback? 128 = none) ∧
    { told with agenda := [.faultPolicy 0 2] }.agenda = .faultPolicy 0 2 :: [] ∧ ((2 : Nat) = 1 ∨ (2 : Nat) = 2) ∧ ((3 : Nat) ≠ 1 ∧ (3 : Nat) ≠ 2) ∧ live.regionGrids 128 = [] ∧ live.panelKey 128 = some 128 ∧
    -- children of the region
    ({ regA with rcb := 256, parent := 128 }).parent = 128 ∧ (s0.region? 4096 = none ∧ s0.bootPhase = 7) := by decide +kernel

theorem witness_RegionEvents_admission :
    admitted submitted (image 256) = .inr ([0], true) ∧ admitted submitted (image 260) = .inr ([0], false) ∧
    (let s0 : State := { State.reset with bootPhase := 7 }
     s0.region? 4096 = none ∧ 4096 % 128 = 0 ∧ s0.panelKey 4096 = some 4096 ∧ admitted s0 (image 256) = .inl 8) := by decide +kernel
/-- One RCB for each cause of a refusal, all else as in the one admitted: a field out of range, a tile set of kind 0, a parent
that is none, more strands and a higher priority than the parent, a phase at the period, a runtime entry of two strands, more
strands than declared, a start not ahead, text without X. -/
theorem witness_RegionEvents_causes :
    let k := 4096
    let s := submitted
    let within (n p : Nat) (s : State) : State := { ((s.setNat (k + 8) 8 128).setNat (k + 16) 8 0x1FFFF) with
      regions := [{ regA with strands := n, prio := p, set := (s.setOf (7 * 2 ^ 60)).getD .empty }] }
    let c := image 256
    admitted (s.setNat (k + 48) 2 17) c = .inl 8 ∧ admitted (s.setNat (k + 24) 8 0) c = .inl 1 ∧ admitted ((s.setNat (k + 8) 8 128).setNat (k + 16) 8 0x1FFFF) c = .inl 1 ∧
    admitted (within 0 2 s) c = .inl 2 ∧ admitted (within 1 2 (s.setNat (k + 50) 1 7)) c = .inl 3 ∧
    admitted s { c with cadences := [{ entry := 0, period := 5, strands := 1, vregs := 8, phase := 5 }] } = .inl 4 ∧
    admitted s { c with cadences := [{ entry := 0, period := 0, strands := 2, vregs := 8, phase := 0 }] } = .inl 5 ∧
    admitted s { c with cadences := c.cadences ++ [{ entry := 1, period := 0, strands := 1, vregs := 8, phase := 0 }] } = .inl 6 ∧
    admitted (s.setNat (k + 51) 1 1) c = .inl 7 ∧ admitted (s.setNat 8192 32 (descriptor kindTile 1 0 0 5 0 8 0).toNat) c = .inl 8 := by decide +kernel
/-- Launch records: none, one that names the RCB with its argument, one of another RCB and one off its alignment; a boot phase, an
address, a region and a cadence that keep a region out. -/
theorem witness_RegionEvents_launch :
    let s : State := (({ State.reset with bootPhase := 7 } : State).setNat 8200 8 4096).setNat 8208 8 7
    let c : Cadence := { entry := 0, period := 0, strands := 1, vregs := 8, phase := 0 }
    let listed (c : Cadence) : Prop := 1 ≤ c.strands ∧ c.strands ≤ 16 ∧ c.vregs % 8 = 0 ∧ 8 ≤ c.vregs ∧ c.vregs ≤ 128 ∧ c.period < 2 ^ 24 ∧
      (c.period = 0 → c.phase = 0)
    s.launchArg 0 4096 = some 0 ∧ s.launchArg 8192 4096 = some 7 ∧ s.panelKey 8192 = some 8192 ∧ memNat s.mem (8192 + 8) 8 = 4096 ∧
    memNat s.mem (8256 + 8) 8 ≠ 4096 ∧ 8200 % 64 ≠ 0 ∧ State.reset.bootPhase ≠ 7 ∧ (64 : Nat) % 128 ≠ 0 ∧
    (listed c ∧ ¬listed { c with vregs := 12 } ∧ ¬listed { c with strands := 0 } ∧ ¬listed { c with phase := 1 }) ∧
    ((inA {}).region? 128 = some regA ∧ regA.st ≠ .refused ∧ regA.st ≠ .ended) := by decide +kernel
/-- A mirrored partition of a running region that a report has named: its entry, its tile and its newest copy. -/
theorem witness_RegionEvents_rollback :
    let d : GridDesc := { gridD with mirror := true, m := 2, parts := [⟨0, false, 0, 0, 0, true⟩] }
    let e : GridEntry := { gridE with desc := d, rcb := 128 }
    let s : State := { ((inA { st := .running }).setGridEntry 0 0 e) with
      reports := [(128, 13)]
      mirrors := [{ id := 1, desc := d, rcb := 128, part := 0, buddy := 1, tags := [4, 6], done := [true, true], cells := [[], [7]] }] }
    s.told 128 = true ∧ s.regionGrids 128 = [(0, e)] ∧ e.desc.mirror = true ∧ (d.parts[e.part]?).map (fun y => s.physTile y.die y.n) = some (some 0) ∧
    s.gridFree 0 = some 1 ∧ e.id ≠ 0 ∧ ((s.mirror? e.desc 128 e.part).bind Mirror.newest).map Prod.fst = some 6 := by decide +kernel


def postedPart (h : Home) (a : Act) (s : State) : State := { s with ops := [opOf .ldc []], posts := [partOf 0 h a] }
def sentPart (h : Home) (a : Act) (src lane : Nat) (s : State) : State := { s with ops := [opOf .ldc []], chan := [{ partOf 0 h a with src := src, lane := lane }] }
def arrivedPart (h : Home) (a : Act) (s : State) : State := { s with ops := [opOf .ldc []], arrived := [partOf 0 h a] }

theorem witness_parties : (∀ y, Party.strand 0 ≠ .walker y) ∧ ∀ k, Party.cached 1 ≠ .strand k := ⟨(by intro y h; cases h), by intro k h; cases h⟩

theorem witness_PartEvents :
    let p (h : Home) (a : Act) := partOf 0 h a
    let s := postedPart (.bank 0 0) (.read []) (at0 [])
    let shut := postedPart (.bank 0 0) (.read []) (at0 [])
    let q : Part := { p (.bank 0 0) (.read []) with gates := [⟨[.part 1], .system, false, false⟩] }
    let far := sentPart (.bank 144 0) (.read []) 0 0 (at0 [])
    let granted := far.modDie 0 (fun x => { x with grants := [(1, 1)] })
    let a (act : Act) := arrivedPart (.bank 0 0) act (at0 [])
    let copy : Part := { p (.bank 0 0) (.read []) with party := .copy 0 }
    (at0 []).postOf? 1 = none ∧ s.postOf? 1 = some (p (.bank 0 0) (.read [])) ∧ s.bound? (p (.bank 0 0) (.read [])) = some (p (.bank 0 0) (.read [])) ∧
    (s.headOf (p (.bank 0 0) (.read [])) (.bank 0 0) = true ∧ s.gatesOpen (p (.bank 0 0) (.read [])) (.bank 0 0) = true) ∧ shut.gatesOpen q (.bank 0 0) = false ∧
    s.logShort (p (.bank 0 0) (.read [])) = false ∧ Home.bank 0 0 ≠ .cross ∧ isEngine (.strand 0) = false ∧ isEngine copy.party = true ∧
    -- the walk of a PFX, ports to other panels up and all down
    ({ p .virt (.read [⟨8, 0, 0⟩]) with party := .walker 0 }.party = .walker 0 ∧ isWalker (p (.bank 0 0) (.read [])).party = false) ∧
    ((at0 []).outsideOpen 0 = true ∧ { at0 [] with portsDown := List.range 64 }.outsideOpen 0 = false) ∧
    { at0 [] with posts := [copy] }.commandBound 0 = true ∧ { at0 [] with posts := [copy, { copy with pid := 2, home := .virt }] }.commandBound 0 = false ∧
    (postedPart .cross (.message [1]) (at0 [])).bound? (p .cross (.message [1])) = some (p .cross (.message [1])) ∧
    (aheadIn far.chan (p (.bank 144 0) (.read [])) = false ∧ aheadIn (({ p (.bank 144 0) (.read []) with pid := 2 }) :: far.chan) (p (.bank 144 0) (.read [])) = true) ∧
    needsGrant (p (.bank 0 0) (.read [])) = none ∧ needsGrant (p (.bank 144 0) (.read [])) = some 1 ∧
    SMap.get (far.die 0).grants 1 0 = 0 ∧ SMap.get (granted.die 0).grants 1 0 ≠ 0 ∧
    ((a (.read [⟨scratchKey 0 0, 0, 8⟩])).chosen (p (.bank 0 0) (.read [⟨scratchKey 0 0, 0, 8⟩])) = true ∧
      (a (.read [])).op? 0 = some (opOf .ldc []) ∧ (opOf .ldc []).later = []) ∧
    { a (.read []) with arrived := [p (.bank 0 0) (.read []), { p (.bank 0 0) (.read []) with pid := 2 }] }.chosen { p (.bank 0 0) (.read []) with pid := 2 } = false ∧
    (([(scratchKey 0 0, (1 : Byte)), (scratchKey 0 1, 2)] : List (Nat × Byte)).map Prod.fst).Nodup ∧
    ((0xFFFFFFFF : Word).toNat < 2 ^ (8 * 4) ∧ (0xFFFFFFFFFFFFFFFF : Word).toNat < 2 ^ (8 * 8)) ∧
    (arrivedPart (.pens 0) (.penSample 3 0 0) (at0 [])).chosen (p (.pens 0) (.penSample 3 0 0)) = true ∧
    -- a router takes the earlier of two
    (let z (n : Nat) : Part := { p (.router 0) (.rtclr 1 0) with pid := n }
     { at0 [] with arrived := [z 2, z 1] }.arrived = [z 2] ++ z 1 :: [] ∧ (∀ q ∈ [z 2], q.pid ≠ 1) ∧ (z 2).home = .router 0) ∧
    (far.cutOff 0 1 = false ∧ (far.modDie 0 (fun x => { x with linkTried := [false, true, false, false] })).cutOff 0 1 = true) := by decide +kernel
/-- Parts of the other kinds at their homes: each is taken, none is logged, and its operation has nothing that follows. -/
theorem witness_PartEvents_acts :
    let b : Record := { entry := 0, arg := 0, region := 128, ctl := 0, token := 0, seq := 0, stolen := false }
    (∀ x ∈ [(Home.bank 0 0, Act.write [(scratchKey 0 0, 1)]), (.bank 0 0, .writeBuf [⟨scratchKey 0 0, 0, 8⟩]), (.bank 0 0, .nibbles [(scratchKey 0 0, true, 5)]),
        (.bank 0 0, .atomic [⟨scratchKey 0 0, 0, 8⟩] 0x28 2 1 0), (.bank 0 0, .amax [⟨scratchKey 0 0, 0, 4⟩] 0), (.pens 0, .penSample 3 0 0), (.pens 0, .penWrite 3 1 0),
        (.pens 0, .penAdd 3 1 0), (.sched 0, .spawn b), (.sched 0, .tdone 128 0), (.router 0, .rtset 1 0 128), (.router 0, .rtclr 1 128),
        (.channel 0 0, .scopew 128 6 0), (.channel 0 0, .buntw 128 0), (.channel 0 0, .plotw 128 1)],
      let s := arrivedPart x.1 x.2 (at0 [])
      s.chosen (partOf 0 x.1 x.2) = true ∧ s.logNeeds (partOf 0 x.1 x.2) = [] ∧ s.op? 0 = some (opOf .ldc [])) ∧
    (scratchKey 0 0 = 2 ^ 43 + 2 ^ 20 * 0 + 0 ∧ (zeros 1024).length = 1024 ∧ (at0 []).panelKey 0 = some 0 ∧ { at0 [] with dmap := [(0, (0, 2))] }.panelKey 0 = none) := by
  decide +kernel
/-- Queues: a die with room and a full one, of the region and not; a task that is free, one behind a barrier, and none. -/
theorem witness_PartEvents_queues :
    let r (n ctl : Nat) : Record := { entry := 0, arg := 0, region := 128, ctl := BitVec.ofNat 32 ctl, token := 0, seq := n, stolen := false }
    let before (a b : Nat) : Prop := 0 < (b + 2 ^ 24 - a) % 2 ^ 24 ∧ (b + 2 ^ 24 - a) % 2 ^ 24 < 2 ^ 23
    let a := inA {}
    let bulk (h : Home) (act : Act) (o : Op) : State := { at0 [] with ops := [o], arrived := [partOf 0 h act] }
    let alone (s : State) : Prop := ∀ q ∈ ({ s with arrived := [] } : State).allParts, q.oid ≠ 0
    let spawn : Op := { opOf .cpc [] with fin := .word 1, later := [(.absent, .spawn (r 0 0))] }
    let take : Op := { opOf .cpc [] with fin := .take 1, later := [(.bank 0 0, .writeBuf [])] }
    (a.logDie 0 = some 0 ∧ (a.dmapOf 0).2 = 0 ∧ (∃ pt ∈ (a.region 128).tiles, pt / 144 = 0) ∧ (∀ pt ∈ (a.region 128).tiles, pt / 144 ≠ 1)) ∧
    (({ at0 [] with dmap := [(3, (3, 2))] }.dmapOf 3).2 ≠ 0 ∧ (at0 []).logDie 128 = none) ∧
    (before 1 2 ∧ ¬before 2 1 ∧ before (2 ^ 24 - 1) 0) ∧ (((r 1 0x400).ctl).getLsbD 10 = true ∧ ((r 2 0).ctl).getLsbD 10 = false) ∧
    ((r 1 0x300).ctl.toNat / 256 % 4 = 3 ∧ (r 1 0x100).ctl.toNat / 256 % 4 = 1) ∧
    (let s := bulk (.bank 0 0) (.read []) spawn
     s.chosen (partOf 0 (.bank 0 0) (.read [])) = true ∧ alone s ∧ s.op? 0 = some spawn ∧ s.logNeeds (partOf 0 (.bank 0 0) (.read [])) = []) ∧
    (let s := bulk (.sched 0) (.take 128) take
     s.chosen (partOf 0 (.sched 0) (.take 128)) = true ∧ alone s ∧ s.op? 0 = some take) := by decide +kernel
/-- A part through a page whose leaf is cached, which departs to the home of its bytes. -/
theorem witness_PartEvents_virt :
    let l : Leaf := { root := 0, va := 0, bits := 16, die := 0, frame := 0x300000, w := true, d := false, ldie := 0, off := 0x200000, logged := false }
    let p : Part := { partOf 0 .virt (.read [⟨8, 0, 8⟩]) with root := 0 }
    let s := (postedPart .virt (.read [⟨8, 0, 8⟩]) (at0 [])).modTile 0 (fun t => { t with leaves := [l] })
    s.postOf? 1 = some p ∧ (s.bound? p).isSome = true ∧ s.cachedLeaf p.src p.root (actKey p.act) = some l ∧ leafCovers l p.root (actKey p.act) = true ∧
      (s.headOf p (((s.bound? p).map Part.home).getD .virt) = true ∧ s.gatesOpen p (((s.bound? p).map Part.home).getD .virt) = true) ∧
      (s.modTile 0 (fun t => { t with leaves := [] })).bound? p = none := by decide +kernel
/-- The read of a grid descriptor: one whose header is read and whose entries are not, and one that is read whole. -/
theorem witness_PartEvents_bind :
    let o (n : Nat) : Op := { opOf .ldc [] with fin := .bind 1 false 0 (scratchKey 0 0), count := BitVec.ofNat 64 n
                                                buf := toBytes 8 1 ++ zeros 16 ++ toBytes 4 1 ++ zeros 100 }
    let s := { arrivedPart (.bank 0 0) (.read []) (at0 []) with ops := [o 4096] }
    s.chosen (partOf 0 (.bank 0 0) (.read [])) = true ∧ s.op? 0 = some (o 4096) ∧ (∀ q ∈ ({ s with arrived := [] } : State).allParts, q.oid ≠ 0) ∧
      bindRest (o 4096) (o 4096).buf false 0 (scratchKey 0 0) ≠ [] ∧ bindRest (o 128) (o 128).buf false 0 (scratchKey 0 0) = [] ∧
      ([⟨scratchKey 0 0, 0, 8⟩] : List Seg).find? (fun g => g.buf == 0) = some ⟨scratchKey 0 0, 0, 8⟩ := by decide +kernel
/-- Where a spawned record goes: to a die that is reached, to one whose way out is refused, to none; routes of another region. -/
theorem witness_PartEvents_ways :
    let r (region entry : Nat) : Record := { entry := BitVec.ofNat 64 entry, arg := 0, region := region, ctl := 0, token := 0, seq := 0, stolen := false }
    let a := inA {}
    let e : Route := { word := 0, v := true, owner := 256 }
    (a.queueDie 0 (r 128 0) = some 0 ∧ a.exitRefused 0 0 = false) ∧
    { a with dmap := [(5, (5, 2))] }.queueDie 0 { r 128 0 with ctl := 5 } = none ∧
    (a.modDie 0 (fun x => { x with pts := (List.range 144).map (fun i => (i, 2)) })).exitRefused 0 1 = true ∧ (e.v = true ∧ e.owner ≠ 128) ∧
    (a.routeCheck 0 0).code ≠ 0 ∧ (a.routeCheck 0 (BitVec.ofNat 64 (2 ^ 56))).code = 0 := by decide +kernel

/-- Strand 0 has one operation with no part left. -/
def finished (o : Op) (s : State) : State := { (s.modStrand 0 (fun x => { x with ldc := 1, cpc := 1 })) with ops := [o] }

theorem witness_Completions :
    let o (f : Ending) : Op := { opOf .ldc [] with fin := f, buf := [0x80, 0, 0, 0, 0, 0, 0, 0], res := 7 }
    let ok (f : Ending) : Bool := let s := finished (o f) (at0 []); s.mayComplete (o f) && (s.op? 0 == some (o f))
    let out : Op := { o (.answer 1 8 false) with party := .outside 0 }
    (at0 []).op? 0 = none ∧ (loading0 (at0 [])).mayComplete (opOf .ldc []) = false ∧
    [.none, .word 3, .words 3 4, .bytes 3 1 true, .bytes 3 8 false, .vec 1, .conv 1 4 1 0 true, .flags 1, .scales 2, .seg 1, .cell 3 2 (some 4) 0 true,
      .cells 1 none 0 false, .elem 3 9 true, .run 1 9 [true, false], .take 3, .bind 1 false 0 0, .drain, .plotw 1].all ok = true ∧
    ((finished out (at0 [])).mayComplete out = true ∧ (finished out (at0 [])).op? 0 = some out) ∧
    isLoadEnd (.bytes 3 8 true) = true ∧ isLoadEnd .copy = false ∧ (0, FaultUnit.tileSram 0 0) ∈ { o (.word 3) with units := [(0, .tileSram 0 0)] }.units ∧
    (0, FaultUnit.tileSram 0 0) ∉ (o (.word 3)).units := by decide +kernel
/-- A copy and a send with all done, with parts still under way, with a gate that waits, with a pennant and with none. -/
theorem witness_Completions_commands :
    let cp (f : Ending) (p : Option Nat) : Op := { opOf .cpc [] with fin := f, pub := p }
    let eng (f : Ending) : State := finished (cp f none) (at0 [])
    ((eng .copy).opIdle (cp .copy none) = true ∧ (eng (.send 1 0 0)).opIdle (cp (.send 1 0 0) none) = true ∧ (cp .copy none).pubPid = none ∧
      (eng .copy).op? 0 = some (cp .copy none) ∧ (cp (.send 1 0 0) (some 3)).pub = some 3) ∧ (loading0 (at0 [])).opIdle (opOf .ldc []) = false ∧
    (loading0 (at0 [])).gateWaits ⟨[.part 1], .system, false, false⟩ = true ∧ (eng .copy).gateWaits ⟨[.part 1], .system, false, false⟩ = false ∧
    -- one message of a tile in a cycle
    (((at0 []).tile 0).sendAt ≠ some ((at0 []).cycle 0) ∧
      (((at0 []).modTile 0 (fun t => { t with sendAt := some 0 })).tile 0).sendAt = some ((at0 []).cycle 0)) := by decide +kernel
/-- GSTEP: its cells read, no earlier command for the entry; with a copy due and none under way. -/
theorem witness_Completions_gstep :
    let o : Op := { opOf .cpc [] with fin := .gstep 0 6 }
    let s := finished o (grid0 [])
    let d : GridDesc := { gridD with mirror := true, m := 2 }
    s.op? 0 = some o ∧ s.opIdle o = true ∧ o.gates = [] ∧ o.parked = [] ∧ (s.ops.takeWhile (fun q => q.oid != 0)) = [] ∧
    isOk (s.getCells 0 (s.gridEntry 0 0) [15]) = true ∧ (s.gridEntry 0 0).desc.mirror = false ∧ receivers gridD 0 = [(0, 0), (1, 0)] ∧
    (d.mirror = true ∧ 6 % d.m = 0 ∧ s.jobs = []) ∧ (gridD.parts[1]?).map (fun y => s.physTile y.die y.n) = some (some 1) ∧ s.refusedPath 0 1 = false ∧
    -- ready, and no walk crosses; with a gate of the deposit closed it is not
    s.stepReady o 0 6 = true ∧ s.stepWalks o = [] ∧ Granted s 0 [] ∧ ({ loading0 (at0 []) with ops := [{ o with gates := [⟨[.part 1], .system, false, false⟩] }] }.stepReady
      { o with gates := [⟨[.part 1], .system, false, false⟩] } 0 6 = false) := by
  unfold Granted
  decide +kernel
/-- Crossings of die 0 to die 1: with a grant, and without. -/
theorem witness_Granted :
    let s := (at0 []).modDie 0 (fun d => { d with grants := [(1, 1)] })
    Granted s 0 [1] ∧ ¬Granted s 0 [1, 1] ∧ ¬Granted (at0 []) 0 [1] := by
  unfold Granted
  decide +kernel
/-- An eviction with everything done and with a load under way, with no EVICT and with that of strand 1. -/
theorem witness_Completions_evict :
    let dying := (at0 []).setEntry 0 0 { st := .loading, strand := { st := .evicted }, slot := 0 }
    let cmd : Op := { opOf .cpc [] with oid := 5, party := .strand 1, fin := .evict 3 0 }
    let asked : State := { (at0 []).setEntry 0 0 { st := .loading, strand := { st := .evicted }, slot := 0, oid := some 5 } with ops := [cmd] }
    (dying.savingEntry 0 0 = some 0 ∧ dying.drained 0 = true ∧ (dying.entry 0 0).oid = none) ∧ (loading0 dying).drained 0 = false ∧
    (at0 []).savingEntry 0 0 = none ∧ (asked.drained 0 = true ∧ (asked.entry 0 0).oid = some 5 ∧ asked.op? 5 = some cmd ∧ (1 : Nat) ≠ 0) ∧
    (parked0 dying).ops.any (fun y => y.party == .strand 0 && !y.parked.isEmpty) = true := by decide +kernel
/-- Images: saved; read whole, with a range in order and out of it, taken and free; with a part still to read. -/
theorem witness_Completions_images :
    let img (vl : Nat) : List Byte := zeros 320 ++ toBytes 8 vl ++ zeros 1208
    let sv : Op := { opOf .cpc [] with fin := .ctxsv 0 }
    let ld (b : List Byte) : Op := { opOf .cpc [] with fin := .ctxld 0, buf := b }
    let whole (vl : Nat) : State := finished (ld (img vl)) (run0 { st := .running, vbase := 1024, vlim := 8 })
    let first : Op := { ld ((img 8).take 1024) with count := 1536, later := [(.bank 0 0, .read [⟨scratchKey 0 0, 0, 512⟩])] }
    let f (b : List Byte) (a : Nat) : Nat := ofBytes ((b.drop a).take 8)
    ((finished sv (at0 [])).opIdle sv = true ∧ (finished sv (at0 [])).op? 0 = some sv) ∧
    -- the quiet counts that the region keeps: one of the context, one of another
    (let a (n : Nat) : Away := { id := n, quiet := 3, busy := true, busyTake := false, home := 0 }
     [a 1, a 0].find? (fun x => x.id == 0) = some (a 0) ∧ ([a 1].find? (fun x => x.id == 0)).or [a 1].head? = some (a 1) ∧
     [{ a 0 with home := 1 }].find? (fun x => x.id == 0 && x.home == 0) = none ∧ [a 0].find? (fun x => x.id == 0 && x.home == 0) = some (a 0)) ∧
    (rangeOk (f (img 8) 312) (f (img 8) 320) = true ∧ 1024 + 64 * f (img 8) 320 ≤ (img 8).length ∧ (whole 8).rangeFree (some 0) 0 0 8 = true ∧
      hrecOk 0 = true ∧ periodOk ((whole 8).region 0) 0 0 = true ∧ (whole 8).opIdle (ld (img 8)) = true) ∧
    rangeOk (f (img 7) 312) (f (img 7) 320) = false ∧ (whole 8).rangeFree (some 0) 0 1024 8 = false ∧
    (first.buf.length < 1536 ∧ 1536 ≤ first.count.toNat ∧ first.later ≠ [] ∧ (finished first (at0 [])).opIdle { first with later := [] } = true) := by
  decide +kernel

theorem witness_PennantEvents :
    let l : LocalWrite := { pid := 1, pt := 0, due := 0, idx := 3, act := .add 1 2, key := 0, e := some 4, oid := none }
    let d : Deposit := { pt := 0, idx := 3, act := .set 5 6, pid := none, oid := none }
    let h (at' : Option Nat) : HeldRel := { oid := 0, pt := 0, party := .strand 0, idx := 3, v := 1, stamp := 0, gates := [], openAt := at' }
    let s : State := { at0 [] with locals := [l] }
    let t : State := { at0 [] with deposits := [d] }
    (at0 []).localDue 0 = none ∧ s.localDue 0 = some l ∧ { at0 [] with locals := [{ l with due := 1 }] }.localDue 0 = none ∧
    (t.deposits.find? (fun d => d.pt == 0) = some d ∧ t.localDue 0 = none ∧ (t.tile 0).lastDeposit ≠ some (t.cycle 0)) ∧
    ((t.modTile 0 (fun x => { x with lastDeposit := some 0 })).tile 0).lastDeposit = some (t.cycle 0) ∧ (s.localDue 0).isSome = true ∧
    (d.answer = false ∧ { d with answer := true }.answer = true) ∧ (at0 []).heldRels.find? (fun r => r.oid == 0) = none ∧
    { at0 [] with heldRels := [h (some 0)] }.heldRels.find? (fun r => r.oid == 0) = some (h (some 0)) ∧ (h (some 0)).openAt ≠ none ∧
    (h (some 0)).party = .strand 0 ∧ (h none).openAt = none := by decide +kernel

def tileOp (k : TileKind) : TileOp := { toid := 9, key := 0, kind := k, k6 := 1, k7 := 1, rm := 0, since := 0 }

theorem witness_TileApplies :
    let s (k : TileKind) : State := { matrix0 0 8 [] with tileOps := [tileOp k], ops := [opOf .toc []] }
    (at0 []).tileOpsOf 0 = [] ∧
    (∀ k ∈ [TileKind.zero, .trn, .scale 1, .mop false 0 0 0 0 0 0, .drainReg 0 16 (some 7), .drainReg 0 16 none, .drainMem 0 0], (s k).tileOpsOf 0 = [tileOp k]) ∧
    isDrain (.drainReg 0 16 (some 7)) = true ∧ isDrain .zero = false ∧ (s (.drainMem 0 0)).op? 0 = some (opOf .toc []) ∧ (s (.drainReg 0 16 (some 7))).op? 7 = none ∧
    (s (.drainReg 0 16 (some 0))).op? 0 = some (opOf .toc []) ∧
    -- a gate that is open, one that waits for a load under way, and one of a strand that is being evicted
    (let g : Gate := ⟨[.part 1], .system, false, false⟩
     (at0 []).gateClosed g (.grid 0) = false ∧ (loading0 (at0 [])).gateClosed g (.grid 0) = true ∧ (run0 { st := .evicted }).me.st = .evicted) ∧
    (f64.decode (0x7FF8000000000000 % 2 ^ 63)).isNan = true ∧ (∀ i, i < 8 → (f64.decode (i % 2 ^ 63)).isNan = false) := by decide +kernel

/-- A piece for face 1 of tile 0's half of the grid, and the same half with a buddy. -/
def piece (t : BitVec 32) : Piece :=
  { id := 4, src := 0, pt := 0, part := 0, grid := 1, rcb := 0, desc := gridD, face := 1, step := t, cells := [(0, 9)], ring := false, all := false }
def holds (p : Piece) : State := { grid0 [] with pieces := [p] }
def mirrorD : GridDesc := { gridD with mirror := true, m := 2, buddy := 1 }

theorem witness_GridEvents :
    let s (t : BitVec 32) : State := holds (piece t)
    let x (t : BitVec 32) : Slot := ((gridE.slots)[2 * (piece t).face + t.toNat / gridD.d % 2]?).getD {}
    let start (t : BitVec 32) : Prop := (x t).state = 0 ∨ (x t).state = 3 ∨ (x t).tag.toNat < t.toNat
    -- face 1 has its slot 0 valid for step 5 and its slot 1 never written
    let mid : Slot := { tag := 6, state := 1, arrived := 1, contrib := 2 }
    let pin := { s 8 with ops := [{ opOf .ldc [] with pin := [(0, 0, 2)] }], posts := [partOf 0 (.bank 0 0) (.read [])] }
    let j (id : Nat) : MirrorJob := { id := id, pt := 0, entry := 0, step := 4, cells := [] }
    let jobs : State := { grid0 [] with jobs := [j 1, j 2] }
    (s 7).pieces.find? (fun p => p.id == 4) = some (piece 7) ∧ (s 7).gridFor 0 0 1 gridD = some 0 ∧ (start 7 ∧ start 8) ∧ ¬start 4 ∧ (x 8).state = 2 ∧
    ((s 7).pieces.takeWhile (fun q => q.id != 4) = [] ∧ (s 7).pieceDie (piece 7) = none ∧ (piece 7).ring = false ∧ (piece 7).all = false) ∧
    pin.pinned 0 0 2 = true ∧ (s 8).pinned 0 0 2 = false ∧ (mid.state = 1 ∧ mid.tag = 6 ∧ ¬(mid.tag.toNat < 6)) ∧
    (gridE.desc.parts[gridE.part]?).map PartEntry.virt = some false ∧ 2 * 1 + 1 < gridE.slots.length ∧ fixedCells gridD 0 1 = [] ∧
    (s 7).cellProtected 0 gridE (bufferStart gridD 0 1 1) = false ∧
    (grid0 []).pieces.find? (fun p => p.id == 4) = none ∧ jobs.jobs.find? (fun j => j.id == 1) = some (j 1) ∧
    jobs.jobs.takeWhile (fun q => q.id != 1) = [] ∧ jobs.jobs.takeWhile (fun q => q.id != 2) = [j 1] ∧ (s 7).pieceWalks (piece 7) = [] ∧
    -- a buddy on another die
    ((jobs.setGridEntry 0 0 { gridE with buddy := some 1 }).gridEntry 0 0).buddy.bind jobs.physDie = some 1 := by decide +kernel
/-- A piece behind another, and pieces to another die without a grant, over a link that is down, and with a grant. -/
theorem witness_GridEvents_waits :
    let p := piece 7
    let far : Piece := { p with src := 2 }
    let two : State := { grid0 [] with pieces := [{ p with id := 3 }, p] }
    let overDie (f : Die → Die) : State := (holds far).modDie 2 f
    let grant := overDie (fun d => { d with grants := [(0, 1)] })
    two.pieces.takeWhile (fun q => q.id != 4) = [{ p with id := 3 }] ∧ (holds far).pieceDie far = some 0 ∧
    SMap.get ((holds far).die far.src).grants 0 0 = 0 ∧ SMap.get (grant.die 2).grants 0 0 = 1 ∧ grant.cutOff 2 0 = false ∧
    (grant.modDie 1 (fun d => { d with linkTried := [false, true, false, false] })).cutOff 2 0 = true := by decide +kernel
/-- A piece that finds no entry: its descriptor in the die's memory, in a partition table of zeros, with every entry of the tile in use. -/
theorem witness_GridEvents_entries :
    let p : Piece := { piece 7 with grid := dieKey 0 4096 + 1 }
    let D : GridDesc := { gridD with fixed := [0, 0, 0, 0, 0, 0] }
    let put (s : State) (l : List (Nat × Nat)) : State := l.foldl (fun s x => s.setNat (dieKey 0 (4096 + x.1)) 8 x.2) s
    let s0 (p : Piece) : State := { seg0 gridSeg [] with pieces := [p] }
    let none' : State := s0 p
    let some' : State := put none' [(0, 18569), (8, 32), (24, 2), (136, 0), (152, 1)]
    let full : State := (List.range 16).foldl (fun s e => s.setGridEntry 0 e { gridE with id := 7, rcb := 64 }) some'
    -- a piece of another panel whose place no page table maps, and one with a descriptor in memory
    let away : Piece := { p with src := 128, place := some (0, 0) }
    (s0 away).pieceDesc away = none ∧ some'.pieceDesc { p with src := 128 } = some D ∧ (s0 { p with src := 0 }).pieceDesc p = some gridD ∧
    (s0 { p with place := some (0, 0) }).descAt p.grid (some (0, 0)) = none ∧
    none'.gridFor 0 0 p.grid D = none ∧ (none'.descAt p.grid none).map (none'.gridValid 0 0) = some false ∧
    some'.descAt p.grid none = some D ∧ (some'.gridFor 0 0 p.grid D = none ∧ some'.gridValid 0 (some'.region 0).root D = true ∧
      some'.gridFind 0 0 p.grid D = none) ∧ some'.gridFree 0 = some 0 ∧ (full.gridFor 0 0 p.grid D = none ∧ full.gridFree 0 = none) ∧
    (some'.minePart 0 D = 0 ∧ (D.parts[0]?).map PartEntry.virt = some false ∧
      ((freshGrid p.grid 0 0 D).slots[2 * p.face + p.step.toNat / D.d % 2]?).isSome = true) := by decide +kernel
/-- Pieces for the ring of a mirrored half, whose buddy stands and whose buddy is lost, into a fresh slot and one in use. -/
theorem witness_GridEvents_rings :
    let p (t : BitVec 32) : Piece := { piece t with desc := mirrorD, ring := true }
    let at' (b : Option Nat) (t : BitVec 32) : State :=
      ((holds (p t)).setGridEntry 0 0 { gridE with desc := mirrorD, buddy := b })
    let m : Mirror := { id := 1, desc := mirrorD, rcb := 0, part := 0, buddy := 1
                        ring := [{ face := 1, idx := 1, slot := { tag := 7, state := 1, arrived := 1, contrib := 2 }, cells := [(1, 8)] }] }
    let kept : State := { at' (some 1) 7 with mirrors := [m] }
    (at' (some 1) 7).buddyOf mirrorD 0 0 1 = some 1 ∧ (at' none 7).buddyOf mirrorD 0 0 1 = none ∧ 7 / 1 % (2 * 2 / 1 + 2) = 1 ∧
    ((at' (some 1) 7).pieceDie (p 7) = none ∨ SMap.get ((at' (some 1) 7).die 0).grants 1 0 = 0) ∧
    ((at' (some 1) 7).mirror? mirrorD 0 0 = none ∧ kept.mirror? mirrorD 0 0 = some m) ∧
    ((m.slotOf 1 1).map (fun r => (r.slot.state, r.slot.tag)) = some (1, 7) ∧ m.slotOf 1 2 = none) ∧
    (let q := { p 7 with src := 128 }; { kept with pieces := [q] }.pieceDie q = none ∧ q.all = false) ∧
    ((at' (some 1) 7).pieceDesc (p 7) = some mirrorD ∧ mirrorD.mirror = true ∧ gridD.mirror = false) := by decide +kernel

/-- A page table for root 0 at die 0: level 1 at 0, level 2 at 0x100000, level 3 at 0x200000, a writable leaf of 64 KiB at
0x300000 for the lowest addresses (R288 to R290). -/
def paged (s : State) : State :=
  ((s.setNat (dieKey 0 0) 8 (0x100000 / 4096 * 4096 + 1)).setNat (dieKey 0 0x100000) 8 (0x200000 + 1)).setNat (dieKey 0 0x200000) 8 (0x300000 + 16 + 2 + 1)
/-- The leaf that the table gives for address 8, and a cached copy of it in tile 0. -/
def leaf8 : Leaf := { root := 0, va := 0, bits := 16, die := 0, frame := 0x300000, w := true, d := false, ldie := 0, off := 0x200000, logged := false }
def caches (l : Leaf) (s : State) : State := s.modTile 0 (fun t => { t with leaves := [l] })

/-- PFX: through a descriptor of kind FLAT and of kind LOCAL, with the leaf cached, in the table, and nowhere. -/
theorem witness_DescriptorWordsIssue_pfx :
    let f (n : Nat) : State := { seg0 flatSeg [] with iss := { next := 8, fetch := n == 1 } }
    let c (s : State) : Option Land := okOf (s.check (acc 8 1 .read false))
    ((f 0).iss.fetch = false ∧ (f 1).iss.fetch = true) ∧ (c (f 1) = some (.flat 0 0) ∧ c (seg0 localSeg []) = some (.scratch 0 0) ∧ c (at0 []) = none) ∧
    (caches leaf8 (f 1)).cachedLeaf 0 0 8 ≠ none ∧ (f 1).cachedLeaf 0 0 8 = none ∧ (paged (f 1)).cachedLeaf 0 0 8 = none ∧
    (f 1).walk 0 8 false = none ∧ (paged (f 1)).walk 0 8 false = some leaf8 ∧ (paged (f 1)).physDie 0 = some 0 := by decide +kernel

theorem witness_TranslationEvents :
    let v : Part := { partOf 0 .virt (.read [⟨8, 0, 8⟩]) with root := 0 }
    let vw : Part := { partOf 0 .virt (.write [(8, 1)]) with root := 0, write := true }
    let s (p : Part) (t : State) : State := { t with ops := [opOf .ldc []], posts := [p] }
    let cop (t : State) : State := { s v t with ops := [{ opOf .cpc [] with party := .copy 0 }] }
    (at0 []).postOf? 1 = none ∧ ((s v (at0 [])).postOf? 1 = some v ∧ v.home = .virt ∧ (partOf 0 (.bank 0 0) (.read [])).home ≠ .virt) ∧
    -- the leaf cached and of use, cached but to be read again, cached without the right to write, in the table, nowhere
    ((caches leaf8 (s v (at0 []))).cachedLeaf v.src v.root (actKey v.act) = some leaf8 ∧ (v.fresh = false ∧ { v with fresh := true }.fresh = true)) ∧
    ((caches { leaf8 with w := false } (s vw (at0 []))).cachedLeaf vw.src vw.root (actKey vw.act) = some { leaf8 with w := false } ∧
      vw.write = true ∧ v.write = false) ∧
    ((s v (at0 [])).cachedLeaf v.src v.root (actKey v.act) = none ∧ (s v (paged (at0 []))).walk v.root (actKey v.act) v.write = some leaf8) ∧
    ((s v (at0 [])).walk v.root (actKey v.act) v.write = none ∧ (s v (paged (at0 []))).physDie 0 = some 0) ∧
    -- what is left to walk: nothing, the page, both pages of a word, the second only
    (let word' (a : Nat) : Act := .atomic [⟨a, 0, 4⟩, ⟨2 ^ 16, 4, 4⟩] 0x28 2 1 0
     let todo (t : State) (q : Part) : List Nat := (actPages q.act).filter (fun a => q.fresh || (t.cachedLeaf q.src q.root a).isNone)
     let z : Part := { v with act := word' (2 ^ 16 - 4) }
     todo (caches leaf8 (s v (at0 []))) v = [] ∧ todo (s v (at0 [])) v = [8] ∧ todo (s z (at0 [])) z = [2 ^ 16 - 4, 2 ^ 16] ∧
       todo (caches leaf8 (s z (at0 []))) z = [2 ^ 16] ∧ ((s z (paged (at0 []))).walkInto 0 0 (2 ^ 16 - 4) false).isSome = true ∧
       (((s z (paged (at0 []))).walkInto 0 0 (2 ^ 16 - 4) false).bind (fun u => u.1.walk 0 (2 ^ 16) false)) = none) ∧
    -- the parties an access parks for
    ((s v (at0 [])).op? 0 = some (opOf .ldc []) ∧ (opOf .ldc []).party = .strand 0 ∧ isEngine v.party = false ∧ isEngine (.copy 0) = true) ∧
    -- the walk of a PFX; a table on another die, with grants for its reads and without
    ({ v with party := .walker 0 }.party = .walker 0) ∧ (paged (at0 [])).walkDies 0 0 8 = [] ∧
    (let far := (paged (at0 [])).walkDies 1 0 8
     far = [0, 0, 0] ∧ Granted ((paged (at0 [])).modDie 1 (fun d => { d with grants := [(0, 3)] })) 1 far ∧ ¬Granted (paged (at0 [])) 1 far) ∧
    ((s v (run0 { strandOf [] with st := .held })).strand 0).st = .held ∧ (((cop (at0 [])).op? 0).map Op.party) = some (.copy 0) := by
  unfold Granted
  decide +kernel
theorem witness_TranslationEvents_plots :
    let live : State := { tensor0 [] with regions := [{ rcb := 0, plotCount := 2, st := .running }] }
    let down (s : State) : State := s.modDie 0 (fun d => { d with linkTried := [false, true, false, false] })
    (live.region? 0).map Region.st = some .running ∧ ((tensor0 []).region? 0).map Region.st ≠ some .running ∧
    ((tensor0 []).region? 0).map Region.plotCount = some 2 ∧ ((1 : Nat) < 2 ∧ (2 : Nat) ≤ 2) ∧
    (live.physDie (live.plotAddr 0 1 / 2 ^ 36 % 2 ^ 7) = some 0 ∧ live.cutOff 1 0 = false ∧ (down live).cutOff 1 0 = true) ∧
    ((tensor0 []).panelKey (0 / 64 * 64 + 64 * 1) = some 64 ∧ { tensor0 [] with dmap := [(0, (0, 2))] }.panelKey 64 = none) := by decide +kernel
/-- The write log: short of 256 entries, at a harvest, with a request new, under way and done, full. -/
theorem witness_TranslationEvents_log :
    let log (n : Nat) : State := (at0 []).setNat (scratchKey 0 Config.logOff) 8 n
    let request (ms : List (Nat × Nat)) (fs : List Nat) : LogReq := { pt := 0, hv := true, fl := false, merges := ms, flushes := fs }
    let harv : State := { log 1 with logReqs := [request [(0, 1)] []] }
    let done : State := { at0 [] with logReqs := [request [] []] }
    let new : State := (at0 []).modTile 0 (fun t => { t with hvNew := true, flNew := true })
    let p (a : Act) : Part := { partOf 0 (.bank 0 0) a with logs := [(logWord leaf8, 0)] }
    let past : State := harv.setNat (scratchKey 0 Config.logEntry) 8 (2 ^ 63 + 2 ^ 56)
    let e (s : State) : Nat := memNat s.mem (scratchKey 0 Config.logEntry) 8
    let a (n : Nat) : State := { log n with arrived := [p (.write [(1, 2)])] }
    ((log 255).logWR 0 + 2 ^ 64 - (log 255).logRDv 0) % 2 ^ 64 < 256 ∧ (log 255).harvesting 0 = false ∧
    (harv.harvesting 0 = true ∧ harv.logWR 0 = (harv.logRDv 0 + 1) % 2 ^ 64 ∧ harv.physDie 0 = some 0) ∧
    ((new.tile 0).hvNew = true ∧ (new.tile 0).flNew = true ∧ ((at0 []).tile 0).hvNew = false ∧ ((at0 []).tile 0).flNew = false) ∧
    ({ at0 [] with logReqs := [request [] [0]] }.logReqs.any (fun q => q.pt == 0 && q.flushes != []) = true ∧ (at0 []).logReqs = []) ∧
    (harv.logReqs.find? (fun q => q.pt == 0 && harv.reqDone q) = none ∧ done.logReqs.find? (fun q => q.pt == 0 && done.reqDone q) = some (request [] [])) ∧
    ((a 512).arrived.find? (fun q => q.pid == 1) = some (p (.write [(1, 2)])) ∧ (a 512).chosen (p (.write [(1, 2)])) = true ∧
      (a 512).logNeeds (p (.write [(1, 2)])) = [(logWord leaf8, 0)]) ∧ ((a 512).logShort (p (.write [(1, 2)])) = true ∧ 512 ≤ (a 512).logUsed 0 ∧
      (a 511).logUsed 0 < 512 ∧ logWord leaf8 < 2 ^ 64) ∧
    -- an entry that names a leaf of another die, and one of the tile's own
    ((past.physDie (e past / 2 ^ 56 % 128)).filter (fun d => bitOf 63 (e past) && d != 0 / 144) = some 1 ∧
      (harv.physDie (e harv / 2 ^ 56 % 128)).filter (fun d => bitOf 63 (e harv) && d != 0 / 144) = none) ∧
    (((at0 []).tile 0).events = [] ∧ (((at0 []).modTile 0 (fun t => { t with events := [7] })).tile 0).events = [7]) := by decide +kernel

/-- A request to panel 5 under tag 2, generation 1. -/
def asked (q : Request) : State :=
  { (at0 []).modTile 0 (fun t => { t with tags := [(2, { gen := 1, req := some q })] }) with ops := [opOf .cpc []] }
theorem witness_PanelEvents :
    let q (o : Option Nat) (k : Nat) : Request := { cp := 3, stamp := 0, kind := k, n := 4, sx := false, slot := 0, issued := 0, chip := 5, oid := o }
    let g (s : State) := SMap.get (s.tile 0).tags 2 {}
    let late : State := { asked (q none 0) with ticks := 2200000 }
    (g (at0 [])).req = none ∧ ((g (asked (q none 0))).req = some (q none 0) ∧ (g (asked (q none 0))).gen.toNat = 1) ∧
    ((q none 4).oid.bind (asked (q none 4)).op? = none ∧ (q (some 9) 3).oid.bind (asked (q (some 9) 3)).op? = none ∧
      (asked (q (some 0) 3)).op? 0 = some (opOf .cpc [])) ∧
    ((at0 []).insideOpen 0 = true ∧ { at0 [] with portsDown := List.range 64 }.insideOpen 0 = false) ∧
    (late.refNs = 2000000 ∧ (asked (q none 0)).refNs < (q none 0).issued + (asked (q none 0)).tmo ∧ (q none 0).issued + late.tmo ≤ late.refNs) := by
  decide +kernel
/-- Accesses that reach the panel from outside: places that exist and do not, bytes that may be written and not, at their bounds. -/
theorem witness_PanelEvents_arrivals :
    let s := at0 []
    let busy : State := { s.modTile 1 (fun t => { t with agentOp := some 0 }) with ops := [opOf .ldc []], arrived := [partOf 0 (.agent 1) (.read [])] }
    let lines (n : Nat) := byLine (cutRuns 256 [(8, n)] 0)
    -- a port that reaches die 0 up, and all down; the die of a leaf
    (s.gateways ≠ [] ∧ s.insideOpen 0 = true ∧ { s with portsDown := List.range 64 }.gateways = [] ∧
      -- an answer of die 0 may leave, and may not
      (s.outsideOpen 0 = true ∧ { s with portsDown := List.range 64 }.outsideOpen 0 = false ∧
        (let u : State := { s with agenda := [.answer 0], answers := [(some 0, [3])] }
         u.answers[0]? = some (some 0, [3]) ∧ u.answers[1]? = none)) ∧ (paged s).targetOpen (.virt 0 8) 8 = true ∧
      { paged s with portsDown := List.range 64 }.targetOpen (.virt 0 8) 8 = false) ∧
    (State.reset.bootPhase ≠ 7 ∧ s.bootPhase = 7) ∧ (s.physTile 0 1 = some 1 ∧ s.physTile 0 144 = none) ∧
    (s.protectedBytes 1 (Config.logOff - 8) 8 true = false ∧ s.protectedBytes 1 (Config.logOff - 7) 8 true = true ∧
      s.protectedBytes 1 Config.logREQ 8 true = false ∧ s.protectedBytes 1 Config.logREQ 8 false = true) ∧
    (1048568 + 8 ≤ 2 ^ 20 ∧ 2 ^ 20 < 1048569 + 8 ∧ s.protectedBytes 1 0 8 false = false) ∧ (s.agentAmid 1 = none ∧ busy.agentAmid 1 = some 0) ∧
    ((s.walkRuns 0 false (lines 8)).isSome = false ∧ ((paged s).walkRuns 0 true (lines 8)).isSome = true ∧ 2 ^ 48 - 8 + 8 ≤ 2 ^ 48 ∧ 2 ^ 48 < 2 ^ 48 - 7 + 8) ∧
    (s.physDie 127 = some 127 ∧ s.physDie 128 = none) ∧ (guarded (Config.mapBlockOff - 8) 8 = false ∧ guarded (Config.mapBlockOff - 7) 8 = true ∧
      guarded Config.statusBlockOff 1 = true) ∧ ((15 : Nat) < 16 ∧ (7 : Nat) < 8 ∧ (120 : Nat) ≤ 120 ∧ (8 : Nat) ≤ 8 ∧ (119 : Nat) < 120) := by decide +kernel
/-- The turn among the dies that announce bulk parts to die 1: none, die 0, and past die 0 when it had the last. -/
theorem witness_PanelEvents_grants :
    let far : State := { at0 [] with ops := [opOf .ldc []], chan := [{ partOf 0 (.bank 144 0) (.read []) with src := 0, lane := 2 }] }
    let two : State := { far with chan := far.chan ++ [{ partOf 0 (.bank 144 0) (.read []) with src := 288, lane := 2 }] }
    (at0 []).announced 0 1 = 0 ∧ far.announced 0 1 = 1 ∧ (at0 []).grantTurn 1 = none ∧ far.grantTurn 1 = some 0 ∧
    (two.modDie 1 (fun d => { d with granted := some 0 })).grantTurn 1 = some 2 := by decide +kernel

theorem witness_PowerEvents :
    let tile (f : Tile → Tile) : State := (at0 []).modTile 0 f
    let row (d t : Nat) : State := { tile (fun y => { y with droop := d }) with ticks := t }
    let hot (s : State) (t : Int) : Prop := (16 * s.threshold : Nat) ≤ t ∨ 45 < s.inlet
    ((500 < 501 ∧ ¬(500 < 500)) ∧ State.reset.bootPhase < 4 ∧ 4 ≤ (at0 []).bootPhase) ∧
    ((tile (fun t => { t with alarmDue := 1 })).tile 0).alarmDue ≠ 0 ∧ ((at0 []).tile 0).alarmDue = 0 ∧
    (1680 ≤ (1680 : BitVec 16).toInt ∧ (1679 : BitVec 16).toInt < 1680) ∧ (hot (at0 []) (1520 : BitVec 16).toInt ∧ ¬hot (at0 []) (1519 : BitVec 16).toInt) ∧
    ((1440 : BitVec 16).toInt + 80 ≤ (16 * (at0 []).threshold : Nat) ∧ (16 * (at0 []).threshold : Nat) < (1441 : BitVec 16).toInt + 80) ∧
    hot { at0 [] with inlet := 46 } 0 ∧
    -- a fall that is due within 100 ns of a firing, and the turn that makes it
    (({ at0 [] with rows := [(0, { fallBy := some 100 })] }.row 0).fallBy ≠ none ∧ ((at0 []).row 0).fallBy = none ∧
      { at0 [] with agenda := [.droopFall 0] }.agenda = .droopFall 0 :: []) ∧
    (((0 ∈ (row 15 1100).rowTiles 0) ∧ ((row 15 1100).tile 0).droop < 16) ∧ ((row 15 1100).row 0).clearAt + 1000 ≤ (row 15 1100).refNs) ∧ ((row 16 1100).rowTiles 0).any (fun q => decide (((row 16 1100).tile q).droop < 16)) = false ∧
    ¬(((row 15 1098).row 0).clearAt + 1000 ≤ (row 15 1098).refNs) ∧ ((15 : Nat) < 16 ∧ (16 : Nat) ≤ 16) ∧ ((1023 : Nat) ≤ 1023 ∧ 1023 < 1024) ∧
    (((at0 []).die 0).power.out.length = 4 ∧ ((at0 []).die 0).power.lent.length = 4 ∧ ((at0 []).die 0).power.owed.length = 4) := by decide +kernel
/-- The budget at 360 usable quanta: a draw of 361 falls, one of 319 at CSL 40 climbs, one of 320 stays. A tile's turns fall to
the demand it has seen, climb toward it within the slew limit, and stay at it. -/
theorem witness_PowerEvents_turns :
    let s (d b t : Nat) : State := { (at0 []).modDie 0 (fun x => { x with power := { x.power with draw := d }, budget := b }) with ticks := t }
    let u (s : State) := (s.die 0).power.held - (s.die 0).power.set
    let tile (e n t : Nat) : State := { (at0 []).modTile 0 (fun x => { x with turns := e, seen := n }) with ticks := t }
    let start (s : State) : Prop := s.cycle 0 % 16 = 0 ∧ (s.tile 0).turnsAt ≠ some (s.cycle 0 / 16)
    (u (s 361 2 1100) < ((s 361 2 1100).die 0).power.draw ∧ 1 < ((s 361 2 1100).die 0).budget ∧ ((s 361 2 1100).die 0).budgetAt + 1000 ≤ (s 361 2 1100).refNs) ∧
    (((s 319 15 1100).die 0).power.draw + ((s 319 15 1100).row 0).csl < u (s 319 15 1100) ∧ ((s 319 15 1100).die 0).budget < 16) ∧
    (¬(((s 320 15 1100).die 0).power.draw + ((s 320 15 1100).row 0).csl < u (s 320 15 1100)) ∧ (s 0 1 0).refNs < ((s 0 1 0).die 0).budgetAt + 1000) ∧
    (start (tile 9 8 0) ∧ ¬start (tile 9 8 17)) ∧ (((tile 9 8 0).tile 0).seen < ((tile 9 8 0).tile 0).turns) ∧
    (((tile 7 8 0).tile 0).turns < ((tile 7 8 0).tile 0).seen ∧ 39 < ((tile 7 8 0).row 0).csl ∧ ¬(40 < ((tile 7 8 0).row 0).csl)) ∧
    ((tile 8 8 0).tile 0).turns ≤ ((tile 8 8 0).tile 0).seen := by decide +kernel

theorem witness_QuantaAndSteals :
    let s : State := { at0 [] with dies := [(0, { power := { owed := [0, 5, 0, 0], lent := [0, 7, 0, 0], set := 2, recalled := [0, 2, 0, 0] } })] }
    let x (k : Nat) (st : Nat) : Transfer := { id := 3, src := 0, dir := .e, q := 5, kind := k, stage := st }
    let t (st : Nat) (h : Nat) : State := { at0 [] with dies := [(1, { power := { held := h } }), (0, { power := { held := h } })], transfers := [x 0 st] }
    let k (n st : Nat) : State := { s with transfers := [x n st] }
    (dieAt 0 .e = some 1 ∧ dieAt 0 .n = none ∧ (s.die 0).sideDown.getD 1 false = false ∧ ((127 : Nat) < 128 ∧ (128 : Nat) ≤ 128)) ∧
    -- OUT and LENT of a side within 440: with 7 lent, 433 may go and 434 may not
    (433 + (s.die 0).power.out.getD 1 0 + (s.die 0).power.lent.getD 1 0 ≤ 440 ∧ ¬(434 + (s.die 0).power.out.getD 1 0 + (s.die 0).power.lent.getD 1 0 ≤ 440)) ∧
    -- kind 0 up to the usable quanta, kind 1 up to what is owed, kind 2 up to what is set aside
    (358 + (s.die 0).power.draw ≤ (s.die 0).power.held - (s.die 0).power.set ∧ ¬(359 + (s.die 0).power.draw ≤ (s.die 0).power.held - (s.die 0).power.set)) ∧
    (5 + s.repaying 0 .e ≤ (s.die 0).power.owed.getD 1 0 ∧ ¬(6 + s.repaying 0 .e ≤ (s.die 0).power.owed.getD 1 0) ∧ (k 1 0).repaying 0 .e = 5) ∧
    (2 ≤ (s.die 0).power.set ∧ 2 ≤ (s.die 0).power.held) ∧
    ((t 0 436).transfer? 3 0 = some (x 0 0) ∧ 440 < ((t 0 436).die 1).power.held + 5 ∧ ((t 0 435).die 1).power.held + 5 ≤ 440) ∧
    ((k 0 1).transfer? 3 1 = some (x 0 1) ∧ (k 2 1).transfer? 3 1 = some (x 2 1) ∧ (t 0 0).transfer? 3 1 = none ∧ (k 0 1).transfer? 3 0 = none) ∧
    ((t 2 436).transfer? 3 2 = some (x 0 2) ∧ 440 < ((t 2 436).die 0).power.held + 5 ∧ ((t 2 435).die 0).power.held + 5 ≤ 440 ∧ (t 0 0).transfer? 3 2 = none) ∧
    -- recalls of what is lent, and of what the neighbour holds beyond what it has set aside
    ((s.die 0).power.lent.getD 1 0 < 8 + (s.die 1).power.recalled.getD 3 0 ∧ 7 + (s.die 1).power.recalled.getD 3 0 ≤ (s.die 0).power.lent.getD 1 0) ∧
    ((s.die 1).power.set + 360 ≤ (s.die 1).power.held ∧ (s.die 1).power.held < (s.die 1).power.set + 361) ∧
    (((k 0 1).onSide 0 .e = [x 0 1] ∧ (k 0 0).onSide 0 .e = [x 0 0]) ∧ (at0 []).onSide 0 .e = [] ∧ ((k 0 1).transfers.map Transfer.id).Nodup) := by
  decide +kernel
theorem witness_QuantaAndSteals_steals :
    let w (es : SMap Nat) (rs : SMap Nat) (t : Nat) : State := { at0 [] with ticks := t, dies := [(9, { sched := { empties := es, rounds := rs } })] }
    let wanted (s : State) : Prop := (s.die 9).sched.ready = [] ∧ (s.die 9).sched.empties.any (fun e => e.1 == 128 && decide (s.refNs ≤ e.2 + 1000)) = true ∧
      (s.die 9).sched.rounds.all (fun e => e.1 != 128 || decide (e.2 + 1000 ≤ s.refNs)) = true
    let r (n : Nat) (st : Bool) : Record := { entry := 0, arg := 0, region := 128, ctl := 0x80, token := 0, seq := n, stolen := st }
    let q (rs : List Record) (n : Nat) (x : Steal) : State :=
      { at0 [] with dies := [(1, { sched := { ready := rs, out := List.replicate n (0, 0) } }), (0, { sched := { ready := List.replicate n (r 0 false) } })], steals := [x] }
    let st (k : Nat) (l : List Nat) (tk : Option Record) : Steal := { id := 4, rcb := 128, thief := 0, asked := 1, left := l, stage := k, task := tk }
    let es (s : State) := (s.die 1).sched.stealable 128
    (wanted (w [(128, 0)] [] 1100) ∧ wanted (w [(128, 0)] [(128, 0)] 1100)) ∧
    ¬wanted (w [(128, 0)] [] 1102) ∧ ¬wanted (w [(128, 900)] [(128, 500)] 1100) ∧ ¬wanted (w [] [] 0) ∧
    ((w [] [] 0).logDie 9 = some 9 ∧ (w [] [] 0).dmap = [] ∧ (at0 []).logDie 128 = none ∧ ((at0 []).logNeighbours 9).filterMap (at0 []).physDie = [1, 10, 17, 8]) ∧
    ((q [r 0 false] 0 (st 0 [] none)).steals.find? (fun x => x.id == 4 && x.stage == 0) = some (st 0 [] none) ∧
      ((q [r 0 false] 0 (st 0 [8] none)).steals.map Steal.id).Nodup ∧ (at0 []).cutOff 0 1 = false ∧ (at0 []).cutOff 1 0 = false ∧
      (let down := (at0 []).modDie 0 (fun d => { d with linkTried := [false, true, false, false] })
       down.cutOff 0 1 = true ∧ down.cutOff 1 0 = true) ∧ (es (q [r 0 false] 0 (st 0 [] none))).length < 2) ∧
    (2 ≤ (es (q [r 0 false, r 1 false] 0 (st 0 [] none))).length ∧ ((q [r 0 false, r 1 false] 0 (st 0 [] none)).die 1).sched.out.length < 4096) ∧
    (4096 ≤ ((q [r 0 false, r 1 false] 4096 (st 0 [] none)).die 1).sched.out.length ∧
      (∀ y ∈ es (q [r 0 false, r 1 false] 4096 (st 0 [] none)), y.stolen = false) ∧
      es (q [r 0 true, r 1 true] 4096 (st 0 [] none)) = [r 0 true, r 1 true]) ∧
    ((q [] 0 (st 1 [] (some (r 0 false)))).steals.find? (fun x => x.id == 4 && x.stage == 1) = some (st 1 [] (some (r 0 false))) ∧
      ((q [] 4095 (st 1 [] (some (r 0 false)))).die 0).sched.ready.length < 4096 ∧ 4096 ≤ ((q [] 4096 (st 1 [] (some (r 0 false)))).die 0).sched.ready.length) ∧
    ((q [] 0 (st 1 [] none)).steals.find? (fun x => x.id == 4 && x.stage == 0) = none ∧ (q [] 0 (st 0 [] none)).steals.find? (fun x => x.id == 4 && x.stage == 1) = none) := by
  decide +kernel

/-- Die 3 with a test of each kind of unit running. -/
def testing (f : Die → Die) : State := (at0 []).modDie 3 (fun x =>
  f { x with tests := [.linkLane 2 0, .channel 5, .channel 19, .tileSram 0 18, .oscillator 0, .tileRouter 0, .wholeDie] })
def freePos (s : State) (c : Nat) : BitVec 8 := ((s.die 3).chspare.toList[c / 20]?).getD 31
def copying : State := testing (fun x => { x with copies := [(0, 4)] })
def fewTiles : State := testing (fun x => { x with pts := (List.range 8).map (fun i => (i + 1, 1)) })
def withSpares : State := { testing id with dmap := [(59, (59, 1)), (68, (68, 1))] }

theorem witness_RepairEvents :
    let units : List FaultUnit := [.linkLane 2 0, .channel 5, .channel 19, .tileSram 0 18, .oscillator 0, .tileRouter 0, .wholeDie]
    (∀ u ∈ units, u ∈ ((testing id).die 3).tests) ∧ ((testing id).die 3).failed = false ∧ .tileSram 1 0 ∉ ((testing id).die 3).tests ∧
    -- units at their bounds, the direction of a link that die 3 has and the one it lacks
    ((143 : Nat) < 144 ∧ ¬((144 : Nat) < 144) ∧ (18 : Nat) ≤ 18 ∧ ¬((19 : Nat) ≤ 18) ∧ (159 : Nat) < 160 ∧ ¬((160 : Nat) < 160)) ∧
    (dirNo .s = 2 ∧ dieAt 3 .s ≠ none ∧ dieAt 3 .n = none) ∧ (((testing id).die 3).lanes.getD 2 0 < 4 ∧
      ¬(((testing (fun x => { x with lanes := [0, 0, 4, 0] })).die 3).lanes.getD 2 0 < 4)) ∧ ((testing id).policy = 0 ∧ { testing id with policy := 1 }.policy = 1 ∧
      { testing id with policy := 3 }.policy = 3 ∧ { testing id with policy := 4 }.policy = 4) := by decide +kernel
/-- A policy of ending the regions, with one on the tile that is tested; and a tile that was removed before. -/
theorem witness_RepairEvents_policies :
    let r : Region := { rcb := 128, st := .running, tiles := [3 * 144] }
    let s := inRegion r { testing id with policy := 4 }
    let before := testing (fun x => { x with pts := [(0, 1)] })
    (regionLive r = true ∧ s.regions = [r] ∧ (s.regions.map Region.rcb).Nodup ∧ r.parent = 0) ∧
    (unitTile (.tileSram 0 18) = some 0 ∧ 3 * 144 ∈ r.tiles ∧ unitTile (.channel 5) = none ∧ 3 * 144 / 144 = 3) ∧
    (before.pts 3 0 = 1 ∧ (testing (fun x => { x with pts := [(0, 2)] })).pts 3 0 = 2 ∧ .tileRouter 0 ∈ (before.die 3).tests) ∧
    (let e : Route := { word := BitVec.ofNat 64 (2 ^ 56), v := true, owner := 128 }
     e.v = true ∧ 3 * 144 / 144 = 3) := by decide +kernel
theorem witness_RepairEvents_channel :
    freePos (testing id) 5 = 31 ∧ (159 : Nat) < 160 ∧ 5 % 20 ≠ 19 ∧ 19 % 20 = 19 ∧ ((testing id).die 3).copies = [] ∧
    (copying.die 3).copies.any (fun c => c.1 == 0) = true ∧ freePos (testing (fun x => { x with chspare := Vector.replicate 8 4 })) 5 ≠ 31 ∧
    (copying.die 3).copies.find? (fun c => c.1 == 0) = some (0, 4) ∧ ((testing id).die 3).copies.find? (fun c => c.1 == 0) = none := by decide +kernel
theorem witness_RepairEvents_tile :
    (testing id).pts 3 0 = 0 ∧ 137 ≤ (testing id).active 3 ∧ fewTiles.active 3 < 137 ∧ fewTiles.pts 3 0 = 0 ∧
    (let r : Region := { rcb := 128, st := .running, tiles := [3 * 144] }
     regionLive r = true ∧ 3 * 144 + 0 ∈ r.tiles) := by decide +kernel
theorem witness_RepairEvents_graft :
    withSpares.logDie 3 = some 3 ∧ (withSpares.dmapOf 3).2 ≠ 1 ∧ (withSpares.dmapOf 59).2 = 1 ∧ (∀ k, k < 59 → (withSpares.dmapOf k).2 ≠ 1) ∧
    (∀ k, k < 128 → ((testing id).dmapOf k).2 ≠ 1) ∧ (withSpares.dmapOf 68).2 = 1 ∧ { withSpares with policy := 2 }.policy = 2 := by decide +kernel
theorem witness_RepairEvents_turns :
    turnsOk ((List.range 144).map (fun _ => 15)) = true ∧ turnsOk [] = false ∧ ((List.range 144).map (fun _ => 31)).all (fun x => x % 16 == 15) = true ∧
    ([14, 15].any (fun x => x % 16 != 15)) = true := by decide +kernel

theorem witness_BootEvents :
    let b (n : Nat) : State := { State.reset with bootPhase := n }
    let last : State := { b 1 with dies := (List.range 127).map (fun i => (i, { digestOk := true })) }
    let fused (n : Nat) : Die := (({ b 1 with dies := [(0, { fuse := n })] } : State).die 0)
    let on (e t : Nat) : State := { State.reset with energised := e, ticks := t }
    (b 1).bootPhase ≠ 0 ∧ (State.reset.bootPhase = 0 ∧ State.reset.recovery = false ∧ State.reset.inlet < 55 ∧ State.reset.energised = 0) ∧
    ((on 1 1100000).energisedAt + 1000000 ≤ (on 1 1100000).refNs ∧ (on 1 1099999).refNs < (on 1 1099999).energisedAt + 1000000 ∧ (on 1 0).energised ≠ 0) ∧
    (55 ≤ { State.reset with inlet := 55 }.inlet ∧ ((14 : Nat) < 15 ∧ ¬((15 : Nat) < 15))) ∧
    ((b 1).flash.sigOk = true ∧ (fused 0).fuse ≤ (b 1).flash.version ∧ ¬((fused ((b 1).flash.version + 1)).fuse ≤ (b 1).flash.version)) ∧
    ((∀ d, d < 128 → d ≠ 127 → (last.die d).digestOk = true) ∧ ((b 1).die 1).digestOk = false) ∧ { b 1 with recovery := true }.recovery = true ∧
    ((7 : Nat) < 8 ∧ 120 ≤ 127 ∧ 127 < 128 ∧ 8 ≤ 119 ∧ 119 < 120) ∧ ((54 : Nat) < 55 ∧ 55 ≤ 55) ∧
    -- port 0 of die 0, and the management port when all 64 are down
    (0 ∉ (b 1).portsDown ∧ 0 ∈ { b 1 with portsDown := [0] }.portsDown ∧ (∀ k, k < 64 → k ∈ { b 1 with portsDown := List.range 64 }.portsDown) ∧
      63 ∉ { b 1 with portsDown := List.range 63 }.portsDown) ∧
    ((b 1).attest = none ∧ { b 1 with attest := some 5 }.attest = some 5) := by decide +kernel
/-- The self-test, the trim, the configuration and the firmware's settings: each due, out of its phase, and out of its range. -/
theorem witness_BootEvents_phases :
    let b (n : Nat) (t : Turn) : State := { State.reset with bootPhase := n, agenda := [t] }
    let conf (th : Nat) : Turn := .configure 5 [] [(0, 1), (1, 1023)] 10000 th
    let ended : Die := { linkTried := [true, true, true, true] }
    let five : State := b 5 (conf 95)
    let bad (l : List Nat) (dm : List (Nat × (Nat × Nat))) : State := { five with dies := l.map (fun d => (d, { failed := true })), dmap := dm }
    let fails (s : State) (l : Nat) : Bool := (s.die (s.dmapOf l).1).failed
    (b 2 (.selfTest [3] 0 [] [])).agenda = [.selfTest [3] 0 [] []] ∧ ((∀ e ∈ ([(3, 0, 19), (3, 1, 31)] : List (Nat × Nat × Nat)), e.2.2 ≤ 19 ∨ e.2.2 = 31) ∧
      ¬(20 ≤ 19 ∨ 20 = 31)) ∧ ((b 2 (conf 95)).bootPhase = 2 ∧ (b 3 (conf 95)).bootPhase ≠ 2) ∧
    ((b 3 (.trim [(0, 200)])).agenda = [.trim [(0, 200)]] ∧ (∀ e ∈ ([(0, 200)] : List (Nat × Nat)), e.2 ≤ 200) ∧ 200 < 201) ∧
    (((b 4 (conf 95)).die 0).linkTried.getD 1 false = false ∧ ended.linkTried.getD 1 false = true ∧ dieAt 0 .e = some 1 ∧ dieAt 0 .w = none ∧
      dieAt 8 .n = some 0) ∧
    ((∀ l, l < 128 → (five.dmapOf l).2 < 2 ∧ (five.dmapOf l).1 < 128) ∧ (bad [] [(0, (0, 2))]).dmapOf 0 = (0, 2) ∧
      ((bad [] [(0, (1, 0))]).dmapOf 0).1 = ((bad [] [(0, (1, 0))]).dmapOf 1).1 ∧ (∀ l, l < 128 → fails five l = false) ∧
      -- die 3 failed: no spare position, one at 59, and the position itself a spare
      (fails (bad [3] []) 3 = true ∧ (∀ k, k < 128 → k ≠ 3 → fails (bad [3] []) k = false) ∧ (∀ j, j < 128 → ((bad [3] []).dmapOf j).2 ≠ 1)) ∧
      (((bad [3] [(59, (59, 1))]).dmapOf 3).2 = 0 ∧ ((bad [3] [(59, (59, 1))]).dmapOf 59).2 = 1 ∧ (∀ k, k < 59 → ((bad [3] [(59, (59, 1))]).dmapOf k).2 ≠ 1)) ∧
      ((bad [3] [(3, (3, 1))]).dmapOf 3).2 = 1 ∧ (∀ e ∈ ([(0, 1), (1, 1023)] : List (Nat × Nat)), 1 ≤ e.2 ∧ e.2 ≤ 1023) ∧
      (10000 : Nat) ≤ 10000 ∧ (1000000000 : Nat) ≤ 1000000000 ∧ (95 : Nat) ≤ 95 ∧ 95 < 96) ∧
    (((List.range 128).filter (fun d => !((bad [0, 1] []).die d).failed)).length = 126 ∧
      ((List.range 128).filter (fun d => !((bad [0, 1, 2] []).die d).failed)).length < 126) ∧
    ((b 7 (.threshold 95)).agenda = [.threshold 95] ∧ (b 7 (.policy 4)).agenda = [.policy 4] ∧ (4 : Nat) < 5 ∧ (b 7 (.port 63 true)).agenda = [.port 63 true] ∧ (63 : Nat) < 64) := by decide +kernel

theorem witness_EncodeDecodeRoundTrip :
    (wellFormed (.vrot 1 2 63 0 0) = true ∧ isWord (.vrot 1 2 63 0 0) = true ∧ wellFormed (.deposit 0) = true ∧ isWord (.deposit 0) = false) ∧
    (decodeWord 0x48380005 = some (.addi 7 0 5) ∧ mustBeLone (.addi 7 0 5) = false) ∧
    (let w := encode true .eret
     decodeWord w = some .eret ∧ mustBeLone .eret = true ∧ wordLone w = true) := by decide +kernel

theorem witness_StepKeepsMemoryCanonical : Safety.Inv State.reset ∧ goesOn State.reset := ⟨by unfold Safety.Inv; decide, _, rfl⟩

/-- A bundle placed as `withFetchWord` places it, of two words. -/
def bundle0 (w0 w1 : Nat) (x : Strand → Strand) : State := ((State.reset.placed 0).setNat (scratchKey 0 0) 8 (w0 + w1 * 2 ^ 32)).modStrand 0 x

theorem witness_StepRunsTheDecodedWord :
    let u (s : State) : State := { s with agenda := [] }
    let goes (s : State) : Bool := s.turnOpen 0 && decide (s.nextSlot 0 = some 0)
    let lone := bundle0 0x48380005 0x56000000 (fun x => x)
    let second := bundle0 0x56000000 0x48380005 (fun x => { x with pc := 4 })
    let two (f : Strand → Strand) := bundle0 0x18203000 0x9CC00001 (fun x => f { x with sg := (Vector.replicate 8 0).set 0 localSeg })
    let none' := bundle0 0x40000000 0x56000000 (fun x => x)
    lone.agenda = [.issue 0 0 0 none [] false] ∧ goes (u lone) = true ∧ goes (u { lone with bootPhase := 0 }) = false ∧
    ((lone.strand 0).pc.toNat < (lone.region 0).textLen ∧ (lone.strand 0).oddPc = false) ∧
    (wordLone 0x48380005 = true ∧ wordLone 0x56000000 = true ∧ decodeWord 0x48380005 = some (.addi 7 0 5) ∧ (u lone).counterFull (.addi 7 0 5) = false) ∧
    (goes (u second) = true ∧ (second.strand 0).pc.toNat % 8 = 4) ∧
    (goes (u (two id)) = true ∧ wordLone 0x18203000 = false ∧ wordLone 0x9CC00001 = false ∧ wordIsA 0x18203000 = false ∧ wordIsA 0x9CC00001 = true) ∧
    (decodeWord 0x18203000 = some (.ld 4 0 3 0 0) ∧ decodeWord 0x9CC00001 = some (.kor 6 0 0) ∧
      (∀ d ∈ dests ((two id).strand 0) (.ld 4 0 3 0 0), d ∉ dests ((two id).strand 0) (.kor 6 0 0))) ∧
    ((u (two id)).counterFull (.kor 6 0 0) = false ∧ (u (two (fun x => x.setCount .ldc 63))).counterFull (.ld 4 0 3 0 0) = true) ∧
    (goes (u none') = true ∧ wordLone 0x40000000 = true ∧ decodeWord 0x40000000 = none) := by decide +kernel
end Sys2Proof.Tests
end

section
/-!
SUPPORT. What of the panel the rules of turns and quanta read (R24, R231 to R236), and the relation between a state and a later
one in which all of that is as it was.
-/
namespace Sys2Proof.Machine

/-- E and the demands behind it of each tile, the budget demand of each die, the quanta that it holds and has set aside, the
transfers on the sidebands, and the next number. -/
@[ext] structure PowerView where
  turns     : Nat → Nat × Nat × Nat × Nat
  budget    : Nat → Nat
  quanta    : Nat → Nat × Nat
  transfers : List Transfer
  ids       : Nat

def PowerView.of (tiles : SMap Tile) (dies : SMap Die) (transfers : List Transfer) (ids : Nat) : PowerView where
  turns p := let t := SMap.get tiles p {}; (t.turns, t.seen, t.thermal, t.droop)
  budget d := (SMap.get dies d {}).budget
  quanta d := ((SMap.get dies d {}).power.held, (SMap.get dies d {}).power.set)
  transfers := transfers
  ids := ids
def State.pview (s : State) : PowerView := .of s.tiles s.dies s.transfers s.nextId
/-- The same with n numbers more given away. -/
def PowerView.plus (v : PowerView) (n : Nat) : PowerView := { v with ids := v.ids + n }
/-- The second view is the first with numbers given away. -/
def PowerView.Grows (v w : PowerView) : Prop := ∃ n, w = v.plus n
/-- The numbers that a later state has given away. -/
def newIds (s t : State) : Nat := t.nextId - s.nextId
/-- The later state has the turns, demands, quanta and transfers of the earlier. -/
@[reducible] def Kept (s t : State) : Prop := t.pview = s.pview.plus (newIds s t)

@[congr] theorem newIds_congr (s t : State) : newIds s t = newIds s t := rfl
@[simp] theorem PowerView.plus_plus (v : PowerView) (m n : Nat) : (v.plus m).plus n = v.plus (m + n) := by
  simp [PowerView.plus, Nat.add_assoc]
@[simp] theorem PowerView.grows_self (v : PowerView) : v.Grows v := ⟨0, rfl⟩
@[simp] theorem PowerView.grows_plus (v : PowerView) (n : Nat) : v.Grows (v.plus n) := ⟨n, rfl⟩
@[simp] theorem PowerView.plus_ite (P : Prop) [Decidable P] (v w : PowerView) (n : Nat) :
    (if P then v else w).plus n = if P then v.plus n else w.plus n := apply_ite (PowerView.plus · n) P v w
@[simp] theorem PowerView.grows_ite (P : Prop) [Decidable P] (u v w : PowerView) :
    u.Grows (if P then v else w) ↔ (P → u.Grows v) ∧ (¬P → u.Grows w) := by
  split <;> simp [*]
@[simp] theorem State.pview_ite (P : Prop) [Decidable P] (s t : State) : (if P then s else t).pview = if P then s.pview else t.pview :=
  apply_ite State.pview P s t

theorem Kept.of_grows {s t : State} (h : s.pview.Grows t.pview) : Kept s t := by
  obtain ⟨n, h⟩ := h
  have hn : t.nextId = s.nextId + n := congrArg PowerView.ids h
  rw [Kept, newIds, hn, Nat.add_sub_cancel_left, h]
theorem Kept.grows {s t : State} (h : Kept s t) : s.pview.Grows t.pview := ⟨_, h⟩
theorem Kept.of_eq {s t : State} (h : t.pview = s.pview) : Kept s t := .of_grows ⟨0, h⟩
theorem Kept.transfers_eq {s t : State} (h : Kept s t) : t.transfers = s.transfers := congrArg PowerView.transfers h
theorem Kept.nextId_eq {s t : State} (h : Kept s t) : t.nextId = s.nextId + newIds s t := congrArg PowerView.ids h
theorem Kept.refl (s : State) : Kept s s := .of_eq rfl
theorem Kept.trans {s t u : State} (h : Kept s t) (g : Kept t u) : Kept s u :=
  .of_grows ⟨newIds s t + newIds t u, by rw [g, h, PowerView.plus_plus]⟩
theorem Kept.ite {P : Prop} [Decidable P] {s t u : State} (h : P → Kept s t) (g : ¬P → Kept s u) : Kept s (if P then t else u) := by
  split
  · exact h ‹_›
  · exact g ‹_›

/-! ## A record of the state with other fields replaced -/

@[simp] theorem State.pview_mk (mem strands vregs pens tiles dies rows ticks chip gradeB dmap threshold policy domains portsDown tmo inlet
    bootPhase energised energisedAt flash attest recovery regions ops posts chan arrived tileOps locals deposits heldRels pieces mirrors jobs
    steals transfers logReqs answers outbox reports nextId iss agenda) :
    State.pview ⟨mem, strands, vregs, pens, tiles, dies, rows, ticks, chip, gradeB, dmap, threshold, policy, domains, portsDown, tmo, inlet,
      bootPhase, energised, energisedAt, flash, attest, recovery, regions, ops, posts, chan, arrived, tileOps, locals, deposits, heldRels,
      pieces, mirrors, jobs, steals, transfers, logReqs, answers, outbox, reports, nextId, iss, agenda⟩ = .of tiles dies transfers nextId := (rfl)
@[simp] theorem PowerView.of_self (s : State) : PowerView.of s.tiles s.dies s.transfers s.nextId = s.pview := (rfl)
@[simp] theorem PowerView.of_add (tiles : SMap Tile) (dies : SMap Die) (l : List Transfer) (k n : Nat) :
    PowerView.of tiles dies l (k + n) = (PowerView.of tiles dies l k).plus n := (rfl)

/-! ## The named updates -/

@[simp] theorem State.setStrand_pview (s : State) (k : Nat) (x : Strand) : (s.setStrand k x).pview = s.pview := (rfl)
@[simp] theorem State.modStrand_pview (s : State) (k : Nat) (f : Strand → Strand) : (s.modStrand k f).pview = s.pview := (rfl)
@[simp] theorem State.modRow_pview (s : State) (r : Nat) (f : PowerRegion → PowerRegion) : (s.modRow r f).pview = s.pview := (rfl)
@[simp] theorem State.setPen_pview (s : State) (p i : Nat) (x : Pennant) : (s.setPen p i x).pview = s.pview := (rfl)
@[simp] theorem State.modRegion_pview (s : State) (r : Nat) (f : Region → Region) : (s.modRegion r f).pview = s.pview := (rfl)
@[simp] theorem State.setBytes_pview (s : State) (k : Nat) (bs : List Byte) : (s.setBytes k bs).pview = s.pview := (rfl)
@[simp] theorem State.setNat_pview (s : State) (k n x : Nat) : (s.setNat k n x).pview = s.pview := (rfl)
@[simp] theorem State.fresh_pview (s : State) : (State.fresh s).pview = s.pview.plus 1 := (rfl)
@[simp] theorem State.setMe_pview (s : State) (x : Strand) : (s.setMe x).pview = s.pview := (rfl)
@[simp] theorem State.setS_pview (s : State) (n : BitVec 5) (v : Word) : (s.setS n v).pview = s.pview := (rfl)
@[simp] theorem State.vset_pview (s : State) (k v : Nat) (x : VReg) : (s.vset k v x).pview = s.pview := (rfl)
@[simp] theorem State.done_pview (s : State) : s.done.pview = s.pview := (rfl)
@[simp] theorem State.goto_pview (s : State) (a : Word) : (s.goto a).pview = s.pview := (rfl)
@[simp] theorem State.block_pview (s : State) : s.block.pview = s.pview := (rfl)
@[simp] theorem State.report_pview (s : State) (r w : Nat) : (s.report r w).pview = s.pview := (rfl)

/-- A tile with its turns and demands as they were. -/
theorem State.setTile_pview (s : State) (p : Nat) (x : Tile)
    (h : x.turns = (s.tile p).turns ∧ x.seen = (s.tile p).seen ∧ x.thermal = (s.tile p).thermal ∧ x.droop = (s.tile p).droop) :
    (s.setTile p x).pview = s.pview := by
  have ht : ∀ q, (((s.setTile p x).tile q).turns, ((s.setTile p x).tile q).seen, ((s.setTile p x).tile q).thermal, ((s.setTile p x).tile q).droop) =
      ((s.tile q).turns, (s.tile q).seen, (s.tile q).thermal, (s.tile q).droop) := fun q => by
    by_cases hq : q = p
    · subst hq; rw [State.tile_setTile]; simp [h]
    · rw [State.tile_setTile_other _ _ hq]
  exact PowerView.ext (funext ht) rfl rfl rfl rfl
@[simp] theorem State.modTile_pview (s : State) (p : Nat) (f : Tile → Tile)
    (h : ∀ t, (f t).turns = t.turns ∧ (f t).seen = t.seen ∧ (f t).thermal = t.thermal ∧ (f t).droop = t.droop) :
    (s.modTile p f).pview = s.pview := s.setTile_pview _ _ (h _)
/-- A die with its budget demand and quanta as they were. -/
theorem State.setDie_pview (s : State) (d : Nat) (x : Die)
    (h : x.budget = (s.die d).budget ∧ x.power.held = (s.die d).power.held ∧ x.power.set = (s.die d).power.set) :
    (s.setDie d x).pview = s.pview := by
  have hd : ∀ e, (SMap.get (s.setDie d x).dies e {}).budget = (s.die e).budget ∧ (SMap.get (s.setDie d x).dies e {}).power.held = (s.die e).power.held ∧
      (SMap.get (s.setDie d x).dies e {}).power.set = (s.die e).power.set := fun e => by
    by_cases he : e = d
    · subst he; simpa [State.setDie] using h
    · simp [State.setDie, SMap.get_put_other _ _ _ he, State.die]
  have hb : (s.setDie d x).pview.budget = s.pview.budget := funext fun e => (hd e).1
  have hq : (s.setDie d x).pview.quanta = s.pview.quanta := funext fun e => Prod.ext (hd e).2.1 (hd e).2.2
  exact PowerView.ext rfl hb hq rfl rfl
@[simp] theorem State.modDie_pview (s : State) (d : Nat) (f : Die → Die)
    (h : ∀ x, (f x).budget = x.budget ∧ (f x).power.held = x.power.held ∧ (f x).power.set = x.power.set) :
    (s.modDie d f).pview = s.pview := s.setDie_pview _ _ (h _)
@[simp] theorem State.writePen_pview (s : State) (pt i : Nat) (p : Pennant) : (s.writePen pt i p).pview = s.pview := by
  simp [State.writePen]
@[simp] theorem State.setEntry_pview (s : State) (p e : Nat) (x : CacheEntry) : (s.setEntry p e x).pview = s.pview := by
  simp [State.setEntry]
@[simp] theorem State.setGridEntry_pview (s : State) (p e : Nat) (x : GridEntry) : (s.setGridEntry p e x).pview = s.pview := by
  simp [State.setGridEntry]

/-! ## Tables of the state replaced entry by entry -/

/-- A property that an update of every entry leaves. -/
theorem SMap.get_map_of {α β : Type} (φ : α → β) (f : Nat × α → Nat × α) (hf : ∀ e, (f e).1 = e.1 ∧ φ (f e).2 = φ e.2) (m : SMap α) (k : Nat)
    (d : α) : φ (SMap.get (m.map f) k d) = φ (SMap.get m k d) := by
  induction m with
  | nil => rfl
  | cons e r ih =>
    simp only [List.map_cons, SMap.get, (hf e).1]
    split
    · exact (hf e).2
    · exact ih
@[simp] theorem PowerView.of_map_tiles (f : Nat × Tile → Nat × Tile) (h : ∀ e, (f e).1 = e.1 ∧ (f e).2.turns = e.2.turns ∧
    (f e).2.seen = e.2.seen ∧ (f e).2.thermal = e.2.thermal ∧ (f e).2.droop = e.2.droop) (m : SMap Tile) (dies : SMap Die) (l : List Transfer)
    (k : Nat) : PowerView.of (m.map f) dies l k = .of m dies l k :=
  PowerView.ext (funext fun p => SMap.get_map_of (fun t : Tile => (t.turns, t.seen, t.thermal, t.droop)) f
    (fun e => ⟨(h e).1, by simp [h e]⟩) m p {}) rfl rfl rfl rfl
@[simp] theorem PowerView.of_map_dies (f : Nat × Die → Nat × Die) (h : ∀ e, (f e).1 = e.1 ∧ (f e).2.budget = e.2.budget ∧
    (f e).2.power.held = e.2.power.held ∧ (f e).2.power.set = e.2.power.set) (tiles : SMap Tile) (m : SMap Die) (l : List Transfer)
    (k : Nat) : PowerView.of tiles (m.map f) l k = .of tiles m l k :=
  PowerView.ext rfl (funext fun d => SMap.get_map_of Die.budget f (fun e => ⟨(h e).1, (h e).2.1⟩) m d {})
    (funext fun d => SMap.get_map_of (fun x : Die => (x.power.held, x.power.set)) f (fun e => ⟨(h e).1, by simp [h e]⟩) m d {}) rfl rfl
@[simp] theorem PowerView.of_modTile (s : State) (p : Nat) (f : Tile → Tile)
    (h : ∀ t, (f t).turns = t.turns ∧ (f t).seen = t.seen ∧ (f t).thermal = t.thermal ∧ (f t).droop = t.droop) (dies : SMap Die)
    (l : List Transfer) (k : Nat) : PowerView.of (s.modTile p f).tiles dies l k = .of s.tiles dies l k :=
  PowerView.ext (congrArg PowerView.turns (s.modTile_pview p f h) :) rfl rfl rfl rfl

@[simp] theorem State.modTile_transfers (s : State) (p : Nat) (f : Tile → Tile) : (s.modTile p f).transfers = s.transfers := (rfl)
@[simp] theorem State.modDie_transfers (s : State) (d : Nat) (f : Die → Die) : (s.modDie d f).transfers = s.transfers := rfl
@[simp] theorem State.fresh_transfers (s : State) : (s.fresh).transfers = s.transfers := (rfl)
@[simp] theorem State.setBytes_transfers (s : State) (k : Nat) (bs : List Byte) : (s.setBytes k bs).transfers = s.transfers := (rfl)
@[simp] theorem State.fresh_nextId (s : State) : (State.fresh s).nextId = s.nextId + 1 := (rfl)

/-! ## Events of a tile -/

@[simp] theorem setPending_demands (t : Tile) (k i : Nat) : (setPending t k i).turns = t.turns ∧ (setPending t k i).seen = t.seen ∧
    (setPending t k i).thermal = t.thermal ∧ (setPending t k i).droop = t.droop := by
  unfold setPending
  split <;> simp
@[simp] theorem clearPending_demands (t : Tile) (k i : Nat) : (clearPending t k i).turns = t.turns ∧ (clearPending t k i).seen = t.seen ∧
    (clearPending t k i).thermal = t.thermal ∧ (clearPending t k i).droop = t.droop := by
  unfold clearPending
  split <;> simp
@[simp] theorem Tile.raise_demands (t : Tile) (c : Nat) (w : Word) : (t.raise c w).turns = t.turns ∧ (t.raise c w).seen = t.seen ∧
    (t.raise c w).thermal = t.thermal ∧ (t.raise c w).droop = t.droop := by
  unfold Tile.raise
  dsimp only
  split <;> simp
@[simp] theorem Tile.ack_demands (t : Tile) (c k i : Nat) : (t.ack c k i).turns = t.turns ∧ (t.ack c k i).seen = t.seen ∧
    (t.ack c k i).thermal = t.thermal ∧ (t.ack c k i).droop = t.droop := by
  unfold Tile.ack
  (repeat' split) <;> simp

/-! ## Folds and outcomes -/

/-- A fold of steps that keep them keeps them. -/
@[simp] theorem foldl_kept {α : Type} (f : State → α → State) (hf : ∀ (t : State) a, t.pview.Grows (f t a).pview) (l : List α) (s : State) :
    Kept s (l.foldl f s) := by
  induction l generalizing s with
  | nil => exact .refl s
  | cons a r ih => exact (Kept.of_grows (hf s a)).trans (ih _)

/-- The state that an outcome goes on with. -/
def outState (o : Out) (s : State) : State := match o with | .next t => t | _ => s
@[simp] theorem outState_next (t s : State) : outState (.next t) s = t := (rfl)

/-! ## The bounds as facts of the view -/

def PowerView.TurnsOk (v : PowerView) : Prop :=
  (∀ p, let t := v.turns p
    1 ≤ t.1 ∧ t.1 ≤ 16 ∧ 1 ≤ t.2.1 ∧ t.2.1 ≤ 16 ∧ 1 ≤ t.2.2.1 ∧ t.2.2.1 ≤ 16 ∧ 1 ≤ t.2.2.2 ∧ t.2.2.2 ≤ 16) ∧
  ∀ d, 1 ≤ v.budget d ∧ v.budget d ≤ 16
/-- What the sidebands carry: the transfers that have not been taken. -/
def carried (l : List Transfer) : Nat := ((l.filter (fun x => x.stage != 1)).map Transfer.q).sum
def PowerView.QuantaOk (v : PowerView) : Prop :=
  (∀ d, (v.quanta d).2 ≤ (v.quanta d).1 ∧ (v.quanta d).1 ≤ 440) ∧
  ((List.range 128).map (fun d => (v.quanta d).1)).sum + carried v.transfers = 46080 ∧
  (v.transfers.map Transfer.id).Nodup ∧
  ∀ x, x ∈ v.transfers → x.id < v.ids ∧ x.src < 128 ∧ dieAt x.src x.dir ≠ none
theorem turnsInRange_iff (s : State) : Safety.TurnsInRange s ↔ s.pview.TurnsOk := .rfl
theorem quantaInRange_iff (s : State) : Safety.QuantaInRange s ↔ s.pview.QuantaOk := .rfl
theorem PowerView.QuantaOk.plus {v : PowerView} (h : v.QuantaOk) (n : Nat) : (v.plus n).QuantaOk := by
  obtain ⟨hd, hs, hn, hx⟩ := h
  refine ⟨hd, hs, hn, fun x hm => ?_⟩
  obtain ⟨hi, hr⟩ := hx x hm
  exact ⟨Nat.lt_add_right n hi, hr⟩

/-- The later state meets the bounds that the earlier one meets. -/
structure KeepsBounds (s t : State) : Prop where
  turns  : Safety.TurnsInRange s → Safety.TurnsInRange t
  quanta : Safety.QuantaInRange s → Safety.QuantaInRange t
theorem KeepsBounds.refl (s : State) : KeepsBounds s s := ⟨id, id⟩
theorem KeepsBounds.trans {s t u : State} (h : KeepsBounds s t) (g : KeepsBounds t u) : KeepsBounds s u :=
  ⟨g.turns ∘ h.turns, g.quanta ∘ h.quanta⟩
theorem Kept.bounds {s t : State} (h : Kept s t) : KeepsBounds s t := by
  refine ⟨fun ht => ?_, fun hq => ?_⟩
  · rw [turnsInRange_iff, h]; exact ht
  · rw [quantaInRange_iff, h]; exact ((quantaInRange_iff s).mp hq).plus _
theorem KeepsBounds.of_eq {s t : State} (h : t.pview = s.pview) : KeepsBounds s t := (Kept.of_eq h).bounds
theorem KeepsBounds.of_grows {s t : State} (h : s.pview.Grows t.pview) : KeepsBounds s t := (Kept.of_grows h).bounds
theorem KeepsBounds.ite {P : Prop} [Decidable P] {s t u : State} (h : P → KeepsBounds s t) (g : ¬P → KeepsBounds s u) :
    KeepsBounds s (if P then t else u) := by
  split
  · exact h ‹_›
  · exact g ‹_›
theorem foldl_bounds {α : Type} (f : State → α → State) (hf : ∀ t a, KeepsBounds t (f t a)) (l : List α) (s : State) :
    KeepsBounds s (l.foldl f s) := by
  induction l generalizing s with
  | nil => exact .refl s
  | cons a r ih => exact (hf s a).trans (ih _)

/-- The entries of a table whose keys stay. -/
theorem SMap.get_filter {α : Type} (p : Nat → Bool) (m : SMap α) (k : Nat) (d : α) :
    SMap.get (m.filter (fun e => p e.1)) k d = if p k then SMap.get m k d else d := by
  induction m with
  | nil => simp [SMap.get]
  | cons e r ih =>
    obtain ⟨j, x⟩ := e
    by_cases hj : p j = true
    · by_cases hk : j = k
      · subst hk; simp [SMap.get, hj]
      · simp only [List.filter_cons, hj, if_true, SMap.get, if_neg hk]; exact ih
    · rw [List.filter_cons_of_neg (p := fun e : Nat × α => p e.1) hj, ih]
      split
      · next h =>
        rw [SMap.get, if_neg]
        rintro rfl
        exact hj h
      · rfl
/-- Tiles of which the panel forgets what they held start at 16. -/
theorem KeepsBounds.forget {s t : State} (p : Nat → Bool) (tiles : SMap Tile) (dies : SMap Die) (l : List Transfer) (n : Nat)
    (hs : s.pview.Grows (.of tiles dies l n)) (ht : t.pview = .of (tiles.filter (fun e => p e.1)) dies l n) : KeepsBounds s t := by
  obtain ⟨k, hk⟩ := hs
  refine ⟨fun h => ?_, fun h => ?_⟩
  · obtain ⟨h1, h2⟩ : PowerView.TurnsOk (.of tiles dies l n) := hk ▸ h
    rw [turnsInRange_iff, ht]
    refine ⟨fun q => ?_, h2⟩
    have hq := h1 q
    simp only [PowerView.of, SMap.get_filter] at hq ⊢
    split
    · exact hq
    · decide
  · have hv : PowerView.QuantaOk (.of tiles dies l n) := hk ▸ ((quantaInRange_iff s).mp h).plus k
    rw [quantaInRange_iff, ht]
    exact hv

end Sys2Proof.Machine
end

section
/-!
SUPPORT. The turns, demands, quanta and transfers of the panel under the operations of words (Kept).
-/
namespace Sys2Proof.Machine

/-! ## Ops -/

@[simp] theorem State.rearm_kept (s : State) (key : Nat) : Kept s (State.rearm s key) :=
  .of_eq rfl
@[simp] theorem State.startEvict_kept (s : State) (key e reason cause : Nat) (oid : Option Nat) : Kept s (State.startEvict s key e reason cause oid) := .of_grows (by simp [State.startEvict])
@[simp] theorem State.bump_kept (s : State) (d : Nat) (i : Fin 11) : Kept s (State.bump s d i) := .of_grows (by simp [State.bump])
@[simp] theorem State.startTest_kept (s : State) (d : Nat) (u : FaultUnit) : Kept s (s.startTest d u) := .of_grows (by simp [State.startTest])
@[simp] theorem State.tellError_kept (s : State) (d : Nat) (u : FaultUnit) (rcb what : Nat) : Kept s (s.tellError d u rcb what) :=
  .of_grows (by simp [State.tellError])
@[simp] theorem State.trapEvict_kept (s : State) (key reason cause : Nat) : Kept s (State.trapEvict s key reason cause) := by
  apply Kept.of_grows
  unfold State.trapEvict
  (repeat' split) <;> simp
@[simp] theorem State.trapAt_kept (s : State) (key : Nat) (a : Word) (cause : BitVec 6) (xpc xval : Word) : Kept s (State.trapAt s key a cause xpc xval) := .of_grows (by simp [State.trapAt])
@[simp] theorem State.trapWith_kept (s : State) (cause : BitVec 6) (xpc xval : Word) : Kept s (State.trapWith s cause xpc xval) := .of_grows (by simp [State.trapWith])
@[simp] theorem State.trap_kept (s : State) (cause : BitVec 6) (xval : Word) : Kept s (State.trap s cause xval) := .of_grows (by simp [State.trap])
@[simp] theorem State.eret_kept (s : State) : Kept s (State.eret s) :=
  .of_eq rfl
@[simp] theorem State.addCount_kept (s : State) (key : Nat) (c : Cls) : Kept s (State.addCount s key c) :=
  .of_eq rfl
@[simp] theorem State.subCount_kept (s : State) (key : Nat) (c : Cls) : Kept s (State.subCount s key c) :=
  .of_eq rfl
@[simp] theorem State.touch_kept (s : State) (key : Nat) : Kept s (State.touch s key) :=
  .of_eq rfl

/-! ## Mem -/

@[simp] theorem State.post_kept (s : State) (p : Part) : Kept s (State.post s p) := .of_grows (by simp [State.post])
@[simp] theorem State.postAll_kept (proto : Part) (l : List (Home × Act)) (s : State) : Kept s (s.postAll proto l) := by
  induction l generalizing s with
  | nil => exact .refl s
  | cons a r ih => exact (State.post_kept s _).trans (ih _)
/-- An access ends in a trap or in the effect of the place where it lands. -/
theorem State.access_kept (s : State) (a : Access) (eff : Land → State) (h : ∀ l, s.pview.Grows (eff l).pview) : Kept s (s.access a eff) := by
  unfold State.access
  split
  · exact State.trap_kept s _ _
  · exact .of_grows (h _)

@[simp] theorem State.issueOp_kept (s : State) (op : Op) (cls : Nat) (ord : Ord) (lane root : Nat) (write : Bool) (parts : List (Home × Act)) :
    Kept s (s.issueOp op cls ord lane root write parts) := by
  unfold State.issueOp
  extract_lets party x gates oid op' first s1 s2 s3 needs
  have h1 : Kept s s1 := .of_grows ⟨1, rfl⟩
  have h2 : Kept s s2 := h1.trans (State.postAll_kept _ _ _)
  have h3 : Kept s s3 := h2.trans (.of_grows (by simp only [s3]; split <;> simp))
  exact h3.trans (.of_grows (by simp))
@[simp] theorem State.pruneGates_kept (s : State) (key : Nat) : Kept s (State.pruneGates s key) :=
  .of_eq rfl
@[simp] theorem State.issueLoad_kept (s : State) (l : Land) (pieces : List (Int × Nat)) (n : Nat) (fin : Ending) (addr : Word) (ord : Ord) : Kept s (State.issueLoad s l pieces n fin addr ord) := .of_grows (by simp [State.issueLoad])
@[simp] theorem State.issueStore_kept (s : State) (l : Land) (pieces : List (Int × Nat)) (bs : List Byte) (ord : Ord) : Kept s (State.issueStore s l pieces bs ord) := .of_grows (by simp [State.issueStore])
@[simp] theorem State.issueCross_kept (s : State) (chip cp : Nat) (kind n : Nat) (sx : Bool) (cls : Nat) (args : List Nat) (ord : Ord) (oid : Option Nat) : Kept s (State.issueCross s chip cp kind n sx cls args ord oid) := by
  apply Kept.of_grows
  unfold State.issueCross
  (repeat' split) <;> simp

/-! ## LoadStore -/

@[simp] theorem State.ldScalar_kept (s : State) (t : BitVec 5) (p : Word) (o : Int) (w : BitVec 2) (sx : Bool) (ord : Ord) (plain : Bool) :
    Kept s (s.ldScalar t p o w sx ord plain) := by
  unfold State.ldScalar
  refine State.access_kept _ _ _ fun l => ?_
  (repeat' split) <;> simp
@[simp] theorem State.stScalar_kept (s : State) (t : BitVec 5) (p : Word) (o : Int) (w : BitVec 2) (ord : Ord) (plain : Bool) :
    Kept s (s.stScalar t p o w ord plain) := by
  unfold State.stScalar
  refine State.access_kept _ _ _ fun l => ?_
  (repeat' split) <;> simp
@[simp] theorem State.ldVec_kept (s : State) (v : BitVec 7) (p : Word) (o : Int) (pieces : List (Int × Nat)) : Kept s (s.ldVec v p o pieces) :=
  State.access_kept _ _ _ fun l => by split <;> simp
@[simp] theorem State.stVec_kept (s : State) (bs : List Byte) (p : Word) (o : Int) (pieces : List (Int × Nat)) : Kept s (s.stVec bs p o pieces) :=
  State.access_kept _ _ _ fun l => by split <;> simp
@[simp] theorem State.issuePlain_kept (s : State) (c : Cls) (fin : Ending) (cls n : Nat) (parts : List (Home × Act)) : Kept s (State.issuePlain s c fin cls n parts) := .of_grows (by simp [State.issuePlain])
@[simp] theorem execSegld_kept (g : BitVec 3) (a : BitVec 5) (s : State) : Kept s (outState (execSegld g a s) s) := .of_grows (by simp [execSegld])
@[simp] theorem execSegst_kept (g : BitVec 3) (a : BitVec 5) (s : State) : Kept s (outState (execSegst g a s) s) := .of_grows (by simp [execSegst])

/-! ## Atomics -/

@[simp] theorem State.atomicOp_kept (s : State) (major : Nat) (d b v : BitVec 5) (ty : BitVec 2) (o : BitVec 2) (g : BitVec 5) :
    Kept s (s.atomicOp major d b v ty o g) := by
  unfold State.atomicOp
  refine State.access_kept _ _ _ fun l => ?_
  (repeat' split) <;> simp

/-! ## Copies -/

@[simp] theorem State.issueEngine_kept (s : State) (op : Op) (c : Option Cls) (party : Party) (home : Home) (write : Bool) (root : Nat) (parts : List (Home × Act × List Gate × Nat)) : Kept s (s.issueEngine op c party home write root parts) := by
  apply Kept.of_grows
  unfold State.issueEngine
  (repeat' split) <;> simp
@[simp] theorem State.copyOp_kept (s : State) (pd pa : Word) (src dst : List (Int × Nat)) (single : Bool) (cp : BitVec 6) (cpe : BitVec 1) :
    Kept s (s.copyOp pd pa src dst single cp cpe) := by
  unfold State.copyOp
  refine State.access_kept _ _ _ fun ls => (State.access_kept _ _ _ fun ld => ?_).grows
  (repeat' split) <;> simp
theorem execFill_kept (d v n : BitVec 5) (w : BitVec 2) (c : BitVec 6) (e : BitVec 1) (s : State) : Kept s (outState (execFill d v n w c e s) s) :=
  State.access_kept _ _ _ fun l => by split <;> simp

/-! ## Pennants -/

@[simp] theorem State.penRemote_kept (s : State) (c : Cls) (fin : Ending) (res res2 : Word) (cls : Nat) (ord : Ord) (parts : List (Home × Act)) : Kept s (s.penRemote c fin res res2 cls ord parts) := .of_grows (by simp [State.penRemote])
@[simp] theorem State.sample_kept (s : State) (x : BitVec 1) (t : BitVec 6) (o : BitVec 2) (g : BitVec 5) (kind : Nat) (expect : BitVec 32)
    (put : State → Word × Word → State) (fin : Ending) (hp : ∀ r, s.pview.Grows (put s r).pview) : Kept s (s.sample x t o g kind expect put fin) := by
  unfold State.sample
  apply Kept.of_grows
  dsimp only
  (repeat' split) <;> simp [hp]
@[simp] theorem State.localWrite_kept (s : State) (idx : Nat) (act : PenAct) (e : Option (BitVec 5)) (oid : Option Nat) : Kept s (State.localWrite s idx act e oid) := .of_grows (by simp [State.localWrite])
@[simp] theorem execPwr_kept (x : BitVec 1) (v : BitVec 5) (t : BitVec 6) (o : BitVec 2) (g : BitVec 5) (s : State) : Kept s (outState (execPwr x v t o g s) s) := by
  apply Kept.of_grows
  unfold execPwr
  (repeat' split) <;> simp

@[simp] theorem execPadd_kept (x : BitVec 1) (e f : BitVec 5) (t : BitVec 6) (o : BitVec 2) (g : BitVec 5) (s : State) : Kept s (outState (execPadd x e f t o g s) s) := by
  apply Kept.of_grows
  unfold execPadd
  (repeat' split) <;> simp
@[simp] theorem execPmc_kept (b : BitVec 6) (v : BitVec 5) (o : BitVec 2) (g : BitVec 5) (s : State) : Kept s (outState (execPmc b v o g s) s) := by
  apply Kept.of_grows
  unfold execPmc
  (repeat' split) <;> simp
@[simp] theorem execPclr_kept (a : BitVec 5) (s : State) : Kept s (outState (execPclr a s) s) := .of_grows (by simp [execPclr])

/-! ## Walk -/

@[simp] theorem State.raiseEvent_kept (s : State) (pt : Nat) (w : Word) : Kept s (s.raiseEvent pt w) := .of_grows (by simp [State.raiseEvent])
@[simp] theorem State.raiseFault_kept (s : State) (pt slot va : Nat) : Kept s (State.raiseFault s pt slot va) := .of_grows (by simp [State.raiseFault])
@[simp] theorem State.raiseEviction_kept (s : State) (pt e slot reason cause : Nat) : Kept s (State.raiseEviction s pt e slot reason cause) := .of_grows (by simp [State.raiseEviction])
@[simp] theorem State.raiseDroop_kept (s : State) (pt row : Nat) : Kept s (State.raiseDroop s pt row) := .of_grows (by simp [State.raiseDroop])
@[simp] theorem State.raiseDrift_kept (s : State) (pt : Nat) : Kept s (State.raiseDrift s pt) := .of_grows (by simp [State.raiseDrift])
@[simp] theorem State.raiseTimeout_kept (s : State) (pt slot cp : Nat) : Kept s (State.raiseTimeout s pt slot cp) := .of_grows (by simp [State.raiseTimeout])
@[simp] theorem State.replay_kept (s : State) (p : Party) : Kept s (State.replay s p) := by
  apply Kept.of_grows
  unfold State.replay
  (repeat' split) <;> simp
@[simp] theorem State.enterHold_kept (s : State) (key : Nat) (h : Hold) : Kept s (State.enterHold s key h) := .of_grows (by simp [State.enterHold])

/-! ## System -/

@[simp] theorem State.waitFor_kept (s : State) (l : BitVec 24) (h : Hold) (f : State → State) (hf : ∀ t : State, (f t).pview = t.pview) :
    Kept s (s.waitFor l h f) := by
  unfold State.waitFor
  apply Kept.of_grows
  (repeat' split) <;> simp [hf]
@[simp] theorem State.writeSysreg_kept (s : State) (n : Nat) (v : Word) : Kept s (State.writeSysreg s n v) := by
  apply Kept.of_grows
  unfold State.writeSysreg
  (repeat' split) <;> simp
@[simp] theorem execSysw_kept (a : BitVec 5) (n : BitVec 12) (s : State) : Kept s (outState (execSysw a n s) s) := .of_grows (by simp [execSysw])
@[simp] theorem execSyswPer_kept (a : BitVec 5) (s : State) : Kept s (outState (execSyswPer a s) s) := .of_grows (by simp [execSyswPer])
@[simp] theorem execSyswPph_kept (a : BitVec 5) (s : State) : Kept s (outState (execSyswPph a s) s) := .of_grows (by simp [execSyswPph])
@[simp] theorem execEvack_kept (a : BitVec 5) (s : State) : Kept s (outState (execEvack a s) s) := .of_grows (by simp [execEvack])

@[simp] theorem execFence_kept (o : BitVec 3) (g : BitVec 5) (set : BitVec 4) (s : State) : Kept s (outState (execFence o g set s) s) := .of_grows (by simp [execFence])

/-! ## Context -/

@[simp] theorem State.issueLocal_kept (s : State) (c : Cls) (fin : Ending) (res : Word) : Kept s (State.issueLocal s c fin res) := .of_grows (by simp [State.issueLocal])
@[simp] theorem execEvict_kept (d a : BitVec 5) (s : State) : Kept s (outState (execEvict d a s) s) := by
  apply Kept.of_grows
  unfold execEvict
  (repeat' split) <;> simp
@[simp] theorem State.rekey_kept (s : State) (p q : Party) : Kept s (State.rekey s p q) :=
  .of_eq rfl
@[simp] theorem State.resumeInto_kept (s : State) (pt e slot : Nat) : Kept s (State.resumeInto s pt e slot) := .of_grows (by simp [State.resumeInto])
@[simp] theorem execResume_kept (d a : BitVec 5) (s : State) : Kept s (outState (execResume d a s) s) := by
  apply Kept.of_grows
  unfold execResume
  dsimp only
  (repeat' split) <;> simp
theorem execCtxsv_kept (a b : BitVec 5) (s : State) : Kept s (outState (execCtxsv a b s) s) :=
  .ite (fun _ => State.trap_kept s _ _) fun _ => .ite (fun _ => State.trap_kept s _ _) fun _ =>
    State.access_kept _ _ _ fun l => by split <;> simp
theorem execCtxld_kept (a b : BitVec 5) (s : State) : Kept s (outState (execCtxld a b s) s) :=
  .ite (fun _ => State.trap_kept s _ _) fun _ => .ite (fun _ => State.trap_kept s _ _) fun _ =>
    State.access_kept _ _ _ fun l => (State.access_kept _ _ _ fun l => by split <;> simp).grows

/-! ## Grids -/

theorem State.takeGrid_kept {s : State} {pt rcb id : Nat} {d : GridDesc} {t : State} {e : Nat} (h : s.takeGrid pt rcb id d = some (t, e)) :
    Kept s t := by
  unfold State.takeGrid at h
  apply Kept.of_grows
  (repeat' split at h) <;> cases h <;> simp
theorem execGbind_kept (g : BitVec 3) (a : BitVec 5) (s : State) : Kept s (outState (execGbind g a s) s) :=
  State.access_kept _ _ _ fun l => (State.access_kept _ _ _ fun l => by split <;> simp).grows
@[simp] theorem State.gridLoad_kept (s : State) (g : BitVec 3) (cw step : Word) (n : Nat → Nat) (chk : Option (BitVec 5)) (fin : Nat → Word → Bool → Ending) : Kept s (State.gridLoad s g cw step n chk fin) := by
  apply Kept.of_grows
  unfold State.gridLoad
  dsimp only
  (repeat' split) <;> simp
@[simp] theorem execGst_kept (d c : BitVec 5) (g : BitVec 3) (s : State) : Kept s (outState (execGst d c g s) s) := by
  apply Kept.of_grows
  unfold execGst
  dsimp only
  (repeat' split) <;> simp
@[simp] theorem execGstep_kept (g : BitVec 3) (a : BitVec 5) (s : State) : Kept s (outState (execGstep g a s) s) := .of_grows (by simp [execGstep])
@[simp] theorem execGqry_kept (d : BitVec 5) (g : BitVec 3) (b : BitVec 5) (s : State) : Kept s (outState (execGqry d g b s) s) := .of_grows (by simp [execGqry])

/-! ## TileOps -/

@[simp] theorem State.gridMap_kept (s : State) (k : Nat) (f : Nat → Nat → Nat → Nat × Flags) : Kept s (s.gridMap k f).1 := by
  unfold State.gridMap
  exact foldl_kept _ (fun _ _ => by simp) _ _
@[simp] theorem State.applyMop_kept (s : State) (o : TileOp) (neg : Bool) (mf : Nat) (a b : VReg) (qa qb : Wide) (kc : Nat) :
    Kept s (s.applyMop o neg mf a b qa qb kc).1 := s.gridMap_kept _ _
@[simp] theorem State.raiseFor_kept (s : State) (key : Nat) (f : Flags) : Kept s (State.raiseFor s key f) :=
  .of_eq rfl
@[simp] theorem State.tocDone_kept (s : State) (key : Nat) : Kept s (State.tocDone s key) :=
  .of_eq rfl
@[simp] theorem State.modOp_kept (s : State) (oid : Nat) (f : Op → Op) : Kept s (State.modOp s oid f) :=
  .of_eq rfl
@[simp] theorem State.raiseTile_kept (s : State) (key : Nat) (f : Flags) : Kept s (State.raiseTile s key f) :=
  .of_eq rfl
@[simp] theorem State.applyTile_kept (s : State) (o : TileOp) : Kept s (s.applyTile o) := by
  unfold State.applyTile
  extract_lets s0 mf regs mode
  have h0 : s0.pview = s.pview := rfl
  clear_value s0
  apply Kept.of_grows
  split
  · simp [h0]
  · simp [h0]
  · simp [h0]
  · simp [h0]
  · split
    · simp [h0]
    · dsimp only
      split <;> simp [h0]
  · simp [h0]
@[simp] theorem State.applyTiles_kept (s : State) (key : Nat) (n : Nat) : Kept s (s.applyTiles key n) := by
  induction n generalizing s with
  | zero => exact .refl s
  | succ n ih =>
    unfold State.applyTiles
    split
    · exact .refl s
    · exact .ite (fun _ => (State.applyTile_kept s _).trans (ih _)) (fun _ => .refl s)

/-! ## Flags -/

@[simp] theorem State.raise_kept (s : State) (f : Flags) : Kept s (State.raise s f) :=
  .of_eq rfl

/-! ## Operands -/

@[simp] theorem State.lagged_kept (s : State) : Kept s (State.lagged s) := .of_grows (by simp [State.lagged])
@[simp] theorem State.setLanes_kept (s : State) (v : BitVec 7) (n : Nat) (xs : List (Option Nat)) : Kept s (State.setLanes s v n xs) := .of_grows (by simp [State.setLanes])
@[simp] theorem State.mapLanes_kept (s : State) (d : BitVec 7) (n : Nat) (m : BitVec 1) (f : Nat → Nat × Flags) : Kept s (State.mapLanes s d n m f) := .of_grows (by simp [State.mapLanes])
@[simp] theorem State.mapInts_kept (s : State) (d : BitVec 7) (n : Nat) (m : BitVec 1) (f : Nat → Nat) : Kept s (State.mapInts s d n m f) := .of_grows (by simp [State.mapInts])

/-! ## Alu -/

@[simp] theorem State.result_kept (s : State) (d : BitVec 5) (v : Word) : Kept s (outState (State.result s d v) s) :=
  .of_eq rfl
@[simp] theorem execAddp_kept (d a b : BitVec 5) (s : State) : Kept s (outState (execAddp d a b s) s) := by
  apply Kept.of_grows
  unfold execAddp
  (repeat' split) <;> simp

/-! ## Control -/

@[simp] theorem State.branch_kept (s : State) (taken : Bool) (t : Word) : Kept s (State.branch s taken t) := .of_grows (by simp [State.branch])
@[simp] theorem execJr_kept (a : BitVec 5) (s : State) : Kept s (outState (execJr a s) s) := .of_grows (by simp [execJr])
@[simp] theorem execJalr_kept (d a : BitVec 5) (s : State) : Kept s (outState (execJalr d a s) s) := .of_grows (by simp [execJalr])
@[simp] theorem State.pend_kept (s : State) : Kept s (State.pend s) := .of_grows (by simp [State.pend])
@[simp] theorem execBkpt_kept (c : BitVec 16) (s : State) : Kept s (outState (execBkpt c s) s) := .of_grows (by simp [execBkpt])
@[simp] theorem execEret_kept (s : State) : Kept s (outState (execEret s) s) := .of_grows (by simp [execEret])

/-! ## Vector -/

@[simp] theorem State.lanes3_kept (s : State) (d a b : BitVec 7) (w : BitVec 2) (m : BitVec 1) (f : Nat → Nat → Nat → Nat → Nat) : Kept s (State.lanes3 s d a b w m f) := .of_grows (by simp [State.lanes3])

/-! ## VFloat -/

@[simp] theorem State.floats3_kept (s : State) (d a b : BitVec 7) (w : BitVec 2) (m : BitVec 1) (f : FFmt → Nat → Nat → Nat → Nat → Nat × Flags) : Kept s (State.floats3 s d a b w m f) := .of_grows (by simp [State.floats3])
@[simp] theorem State.floats1_kept (s : State) (d a : BitVec 7) (w : BitVec 2) (m : BitVec 1) (f : FFmt → Nat → Nat → Nat × Flags) : Kept s (State.floats1 s d a w m f) := .of_grows (by simp [State.floats1])
@[simp] theorem State.convertElems_kept (s : State) (d a : BitVec 7) (count n n' : Nat) (f : Nat → Nat × Flags) : Kept s (State.convertElems s d a count n n' f) := .of_grows (by simp [State.convertElems])

/-! ## Matrix -/

theorem State.gridOp_kept (s : State) (f : State → State) (h : s.pview.Grows (f s).pview) : Kept s (s.gridOp f) := by
  unfold State.gridOp
  exact .ite (fun _ => State.trap_kept s _ _) fun _ => .ite (fun _ => .of_grows (by simp)) fun _ => .of_grows (by simpa using h)
theorem State.drainMerge_kept (s : State) (m : BitVec 5) (g : BitVec 1) (p : Word) (dest : Option Land)
    (f : Option Land → State) (h : ∀ l, s.pview.Grows (f l).pview) : Kept s (s.drainMerge m g p dest f) := by
  unfold State.drainMerge
  apply Kept.of_grows
  dsimp only
  (repeat' split) <;> simp [h]
@[simp] theorem execModeM_kept (f : BitVec 4) (v : BitVec 7) (s : State) : Kept s (outState (execModeM f v s) s) := .of_grows (by simp [execModeM])
@[simp] theorem execModeV_kept (s : State) : Kept s (outState (execModeV s) s) := .of_grows (by simp [execModeV])
@[simp] theorem State.issueTile_kept (s : State) (kind : TileKind) (rm : Nat) : Kept s (State.issueTile s kind rm) := .of_grows (by simp [State.issueTile])
@[simp] theorem State.outer_kept (s : State) (neg : Bool) (a b : BitVec 7) (c d : BitVec 3) (f : BitVec 4) : Kept s (State.outer s neg a b c d f) := .of_grows (by simp [State.outer])
theorem execMzero_kept (s : State) : Kept s (outState (execMzero s) s) := by
  rw [execMzero, outState_next]
  exact State.gridOp_kept _ _ (by simp)
theorem execMtrn_kept (s : State) : Kept s (outState (execMtrn s) s) := by
  rw [execMtrn, outState_next]
  exact State.gridOp_kept _ _ (by simp)
theorem execMscale_kept (a : BitVec 5) (r : BitVec 3) (s : State) : Kept s (outState (execMscale a r s) s) := by
  rw [execMscale, outState_next]
  exact State.gridOp_kept _ _ (by simp)
@[simp] theorem State.issueDrain_kept (s : State) (df : BitVec 4) (reg : Option (BitVec 7)) (root : Nat) (stores merge : List (Home × Act)) :
    Kept s (s.issueDrain df reg root stores merge) := by
  unfold State.issueDrain
  extract_lets toid oid x kind t gates op
  have ht : Kept s t := State.issueTile_kept _ _ _
  clear_value t
  split
  · exact ht.trans (.ite (fun _ => .of_grows (by simp)) fun _ => .of_grows (by simp))
  · next t1 own proto t2 _ =>
    have h1 : Kept t t1 := .of_grows (by simp [t1])
    have h2 : Kept t1 t2 := State.postAll_kept _ _ _
    exact ((ht.trans h1).trans h2).trans (.of_grows (by simp))
theorem execMdrain_kept (d m : BitVec 5) (g : BitVec 1) (f : BitVec 4) (s : State) : Kept s (outState (execMdrain d m g f s) s) := by
  unfold execMdrain
  refine .ite (fun _ => State.trap_kept s _ _) fun _ => ?_
  split
  · exact State.trap_kept s _ _
  · exact State.drainMerge_kept _ _ _ _ _ _ fun l => by split <;> simp
theorem execMdrainReg_kept (m : BitVec 5) (g : BitVec 1) (f : BitVec 4) (v : BitVec 7) (s : State) :
    Kept s (outState (execMdrainReg m g f v s) s) :=
  .ite (fun _ => State.trap_kept s _ _) fun _ => .ite (fun _ => State.trap_kept s _ _) fun _ =>
    State.drainMerge_kept _ _ _ _ _ _ fun l => by split <;> simp

/-! ## FormatMem -/

theorem execVldf_kept (t : BitVec 7) (b : BitVec 5) (r : BitVec 3) (x : BitVec 1) (f : BitVec 5) (s : State) :
    Kept s (outState (execVldf t b r x f s) s) :=
  State.access_kept _ _ _ fun l => by split <;> simp
theorem execVldfScales_kept (t : BitVec 3) (b : BitVec 5) (r : BitVec 3) (x : BitVec 1) (s : State) :
    Kept s (outState (execVldfScales t b r x s) s) :=
  State.access_kept _ _ _ fun l => by split <;> simp
@[simp] theorem State.storeFlags_kept (s : State) (l : Land) (pieces : List (Int × Nat)) (bs : List Byte) (f : Flags) : Kept s (State.storeFlags s l pieces bs f) := .of_grows (by simp [State.storeFlags])

/-! ## Plot -/

@[simp] theorem State.wantPlot_kept (s : State) (x : Nat) : Kept s (s.wantPlot x) :=
  .of_eq rfl
theorem State.tensor_kept (s : State) (g : BitVec 3) (c : Word) (run : Nat → Run) (store crossOk : Bool)
    (eff : List CopyUse → State) (h : ∀ l, s.pview.Grows (eff l).pview) : Kept s (s.tensor g c run store crossOk eff) := by
  unfold State.tensor
  apply Kept.of_grows
  dsimp only
  (repeat' split) <;> simp [h]
@[simp] theorem State.tensorOp_kept (s : State) (c : Word) (k : Cls) (fin : Ending) (cls n : Nat) (us : List CopyUse) (hx : Nat) (parts : List (Home × Act)) : Kept s (State.tensorOp s c k fin cls n us hx parts) := .of_grows (by simp [State.tensorOp])
theorem execTld_kept (t c : BitVec 5) (g : BitVec 3) (s : State) : Kept s (outState (execTld t c g s) s) := by
  refine State.tensor_kept _ _ _ _ _ _ _ fun us => ?_
  dsimp only
  (repeat' split) <;> simp
theorem execTst_kept (t c : BitVec 5) (g : BitVec 3) (s : State) : Kept s (outState (execTst t c g s) s) := by
  refine State.tensor_kept _ _ _ _ _ _ _ fun us => ?_
  dsimp only
  (repeat' split) <;> simp
theorem execTldv_kept (v : BitVec 7) (c : BitVec 5) (g : BitVec 3) (s : State) : Kept s (outState (execTldv v c g s) s) := by
  refine State.tensor_kept _ _ _ _ _ _ _ fun us => ?_
  dsimp only
  (repeat' split) <;> simp
theorem execTstv_kept (v : BitVec 7) (c : BitVec 5) (g : BitVec 3) (s : State) : Kept s (outState (execTstv v c g s) s) := by
  refine State.tensor_kept _ _ _ _ _ _ _ fun us => ?_
  dsimp only
  (repeat' split) <;> simp
@[simp] theorem execTmap_kept (d a : BitVec 5) (g : BitVec 3) (s : State) : Kept s (outState (execTmap d a g s) s) := by
  apply Kept.of_grows
  unfold execTmap
  dsimp only
  (repeat' split) <;> simp
theorem execPlotw_kept (a b : BitVec 5) (s : State) : Kept s (outState (execPlotw a b s) s) := by
  unfold execPlotw
  extract_lets
  (repeat' refine .ite (fun _ => State.trap_kept s _ _) fun _ => ?_)
  refine State.access_kept _ _ _ fun l => ?_
  (repeat' split) <;> simp

/-! ## Tables -/

@[simp] theorem execScopew_kept (a b : BitVec 5) (s : State) : Kept s (outState (execScopew a b s) s) := .of_grows (by simp [execScopew])
theorem execBuntw_kept (a b : BitVec 5) (s : State) : Kept s (outState (execBuntw a b s) s) := by
  unfold execBuntw
  extract_lets
  (repeat' refine .ite (fun _ => State.trap_kept s _ _) fun _ => ?_)
  refine State.access_kept _ _ _ fun l => ?_
  (repeat' split) <;> simp
@[simp] theorem execRtset_kept (d a b : BitVec 5) (s : State) : Kept s (outState (execRtset d a b s) s) := .of_grows (by simp [execRtset])
@[simp] theorem execRtclr_kept (a : BitVec 5) (s : State) : Kept s (outState (execRtclr a s) s) := .of_grows (by simp [execRtclr])

/-! ## Messages -/

theorem execSend_kept (a : BitVec 5) (v : BitVec 7) (r : BitVec 1) (o : BitVec 4) (c : BitVec 6) (e : BitVec 1) (s : State) :
    Kept s (outState (execSend a v r o c e s) s) := by
  refine State.access_kept _ _ _ fun l => ?_
  (repeat' split) <;> simp
@[simp] theorem State.follow_kept (s : State) (oid : Nat) : Kept s (s.follow oid) := by
  unfold State.follow
  apply Kept.of_grows
  dsimp only
  split
  · simp
  · split
    · simp
    · split
      · split
        · split <;> simp
        · simp
      · simp
      · split <;> simp
      · simp
theorem execSpawn_kept (d a : BitVec 5) (s : State) : Kept s (outState (execSpawn d a s) s) := by
  refine State.access_kept _ _ _ fun l => ?_
  (repeat' split) <;> simp
theorem execTake_kept (d a : BitVec 5) (s : State) : Kept s (outState (execTake d a s) s) := by
  refine State.access_kept _ _ _ fun l => ?_
  (repeat' split) <;> simp
@[simp] theorem execTdone_kept (a : BitVec 5) (s : State) : Kept s (outState (execTdone a s) s) := .of_grows (by simp [execTdone])

/-! ## Parts -/

@[simp] theorem State.bindCommand_kept (s : State) (oid : Nat) : Kept s (State.bindCommand s oid) :=
  .of_eq rfl
@[simp] theorem State.bindPage_kept (s : State) (p : Part) : Kept s (State.bindPage s p) := by
  apply Kept.of_grows
  unfold State.bindPage
  (repeat' split) <;> simp
@[simp] theorem State.give_kept (s : State) (d : Option Nat) (m : List Nat) : Kept s (s.give d m) :=
  .of_eq rfl
@[simp] theorem State.sendAnswer_kept (s : State) (n : Nat) : Kept s (s.sendAnswer n) := by
  apply Kept.of_grows
  unfold State.sendAnswer
  (repeat' split) <;> simp
@[simp] theorem execPartDepart_kept (pid : Nat) (s : State) : Kept s (outState (execPartDepart pid s) s) := by
  apply Kept.of_grows
  unfold execPartDepart
  (repeat' split) <;> simp
@[simp] theorem execPartCarry_kept (pid : Nat) (s : State) : Kept s (outState (execPartCarry pid s) s) := by
  apply Kept.of_grows
  unfold execPartCarry
  (repeat' split) <;> simp
@[simp] theorem State.modSched_kept (s : State) (d : Nat) (f : Sched → Sched) : Kept s (State.modSched s d f) := .of_grows (by simp [State.modSched])
@[simp] theorem State.spawnAt_kept (s : State) (d : Nat) (oid : Nat) (r : Record) : Kept s (State.spawnAt s d oid r) := .of_grows (by simp [State.spawnAt])
@[simp] theorem State.takeAt_kept (s : State) (d : Nat) (oid rcb : Nat) : Kept s (State.takeAt s d oid rcb) := by
  apply Kept.of_grows
  unfold State.takeAt
  dsimp only
  (repeat' split) <;> simp
@[simp] theorem State.rtsetAt_kept (s : State) (pt oid i : Nat) (w : Word) (rcb : Nat) : Kept s (State.rtsetAt s pt oid i w rcb) := .of_grows (by simp [State.rtsetAt])
@[simp] theorem State.rtclrAt_kept (s : State) (pt i rcb : Nat) : Kept s (State.rtclrAt s pt i rcb) := .of_grows (by simp [State.rtclrAt])
@[simp] theorem execLocalWriteApply_kept (pt : Nat) (s : State) : Kept s (outState (execLocalWriteApply pt s) s) := by
  apply Kept.of_grows
  unfold execLocalWriteApply
  (repeat' split) <;> simp
@[simp] theorem execDeposit_kept (pt : Nat) (s : State) : Kept s (outState (execDeposit pt s) s) := by
  apply Kept.of_grows
  unfold execDeposit
  (repeat' split) <;> simp
@[simp] theorem execPwrRelEntry_kept (oid : Nat) (s : State) : Kept s (outState (execPwrRelEntry oid s) s) := by
  apply Kept.of_grows
  unfold execPwrRelEntry
  (repeat' split) <;> simp
@[simp] theorem State.applyFirst_kept (s : State) (key : Nat) (drain : Bool) : Kept s (State.applyFirst s key drain) := by
  apply Kept.of_grows
  unfold State.applyFirst
  (repeat' split) <;> simp

/-! ## WalkEvents -/

@[simp] theorem State.cacheLeaf_kept (s : State) (pt : Nat) (e : Leaf) : Kept s (State.cacheLeaf s pt e) := .of_grows (by simp [State.cacheLeaf])
@[simp] theorem State.parkPart_kept (s : State) (p : Part) (va : Nat) : Kept s (State.parkPart s p va) := by
  apply Kept.of_grows
  unfold State.parkPart
  dsimp only
  (repeat' split) <;> simp
@[simp] theorem execTranslationDrop_kept (pt i : Nat) (s : State) : Kept s (outState (execTranslationDrop pt i s) s) := .of_grows (by simp [execTranslationDrop])
@[simp] theorem execPlotCacheFill_kept (pt rcb x : Nat) (s : State) : Kept s (outState (execPlotCacheFill pt rcb x s) s) := by
  apply Kept.of_grows
  unfold execPlotCacheFill
  (repeat' split) <;> simp
@[simp] theorem execPlotCacheDrop_kept (pt i : Nat) (s : State) : Kept s (outState (execPlotCacheDrop pt i s) s) := .of_grows (by simp [execPlotCacheDrop])
@[simp] theorem State.seeReq_kept (s : State) (pt : Nat) : Kept s (State.seeReq s pt) := .of_grows (by simp [State.seeReq])
@[simp] theorem execHarvest_kept (pt : Nat) (s : State) : Kept s (outState (execHarvest pt s) s) := .of_grows (by simp [execHarvest])
@[simp] theorem State.dropLeaves_kept (s : State) : Kept s (State.dropLeaves s) := .of_grows (by simp [State.dropLeaves])
@[simp] theorem execFlush_kept (pt : Nat) (s : State) : Kept s (outState (execFlush pt s) s) := .of_grows (by simp [execFlush])

/-! ## Tasks -/

@[simp] theorem execStealRound_kept (die rcb : Nat) (s : State) : Kept s (outState (execStealRound die rcb s) s) := by
  apply Kept.of_grows
  unfold execStealRound
  (repeat' split) <;> simp
@[simp] theorem State.modSteal_kept (s : State) (id : Nat) (f : Steal → Option Steal) : Kept s (State.modSteal s id f) :=
  .of_eq rfl
@[simp] theorem execStealGrant_kept (id : Nat) (s : State) : Kept s (outState (execStealGrant id s) s) := by
  apply Kept.of_grows
  unfold execStealGrant
  dsimp only
  (repeat' split) <;> simp
@[simp] theorem execStealReceipt_kept (id : Nat) (s : State) : Kept s (outState (execStealReceipt id s) s) := by
  apply Kept.of_grows
  unfold execStealReceipt
  (repeat' split) <;> simp

end Sys2Proof.Machine
end

section
/-!
SUPPORT. The same under the events that write no memory; the tiles of a die that is lost start at 16 again.
-/
namespace Sys2Proof.Machine

/-! ## Complete -/

@[simp] theorem State.retire_kept (s : State) (o : Op) : Kept s (State.retire s o) := by
  apply Kept.of_grows
  unfold State.retire
  (repeat' split) <;> simp
@[simp] theorem State.bindGrid_kept (s : State) (key rcb : Nat) (g : BitVec 3) (id : Nat) (place : Option (Nat × Nat)) (bs : List Byte) :
    Kept s (s.bindGrid key rcb g id place bs) := by
  unfold State.bindGrid
  split
  · next t e h =>
    exact .ite (fun _ => .of_grows (by simp)) fun _ => (State.takeGrid_kept h).trans (.of_grows (by simp))
  · exact .of_grows (by simp)
@[simp] theorem State.finish_kept (s : State) (key : Nat) (o : Op) : Kept s (State.finish s key o) := by
  apply Kept.of_grows
  unfold State.finish
  (repeat' split) <;> simp
@[simp] theorem State.takeQuiet_kept (s : State) (key : Nat) (o : Op) : Kept s (State.takeQuiet s key o) := by
  apply Kept.of_grows
  unfold State.takeQuiet
  (repeat' split) <;> simp
@[simp] theorem execOperationComplete_kept (oid : Nat) (bad : Option (Nat × FaultUnit)) (s : State) : Kept s (outState (execOperationComplete oid bad s) s) := by
  apply Kept.of_grows
  unfold execOperationComplete
  (repeat' split) <;> simp
@[simp] theorem State.publish_kept (s : State) (o : Op) (pt : Nat) (v : Word) : Kept s (State.publish s o pt v) := by
  apply Kept.of_grows
  unfold State.publish
  (repeat' split) <;> simp
@[simp] theorem execCopyComplete_kept (oid : Nat) (s : State) : Kept s (outState (execCopyComplete oid s) s) := by
  apply Kept.of_grows
  unfold execCopyComplete
  (repeat' split) <;> simp
@[simp] theorem execSendComplete_kept (oid : Nat) (s : State) : Kept s (outState (execSendComplete oid s) s) := by
  apply Kept.of_grows
  unfold execSendComplete
  (repeat' split) <;> simp
@[simp] theorem State.parkRest_kept (s : State) (key : Nat) : Kept s (State.parkRest s key) :=
  .of_eq rfl
@[simp] theorem execEvictComplete_kept (pt slot : Nat) (s : State) : Kept s (outState (execEvictComplete pt slot s) s) := by
  apply Kept.of_grows
  unfold execEvictComplete
  dsimp only
  (repeat' split) <;> simp
@[simp] theorem execCtxsvComplete_kept (oid : Nat) (s : State) : Kept s (outState (execCtxsvComplete oid s) s) := by
  apply Kept.of_grows
  unfold execCtxsvComplete
  (repeat' split) <;> simp
@[simp] theorem State.readRest_kept (s : State) (o : Op) (n : Nat) : Kept s (s.readRest o n) := .of_grows (by simp [State.readRest])
@[simp] theorem execCtxldComplete_kept (oid : Nat) (s : State) : Kept s (outState (execCtxldComplete oid s) s) := by
  apply Kept.of_grows
  unfold execCtxldComplete
  (repeat' split) <;> simp

/-! ## GridEvents -/

@[simp] theorem State.queuePieces_kept (s : State) (l : List Piece) : Kept s (s.queuePieces l) := .of_grows (by simp [State.queuePieces])
@[simp] theorem State.sendPiece_kept (s : State) (src : Nat) (g : GridEntry) (q f : Nat) (step : BitVec 32) (cells : List (Nat × Word)) (all : Bool) : Kept s (State.sendPiece s src g q f step cells all) := by
  apply Kept.of_grows
  unfold State.sendPiece
  (repeat' split) <;> simp
@[simp] theorem State.modMirror_kept (s : State) (d : GridDesc) (rcb part id : Nat) (f : Mirror → Mirror) : Kept s (State.modMirror s d rcb part id f) := by
  apply Kept.of_grows
  unfold State.modMirror
  (repeat' split) <;> simp
@[simp] theorem State.depositRing_kept (s : State) (p : Piece) : Kept s (State.depositRing s p) := .of_grows (by simp [State.depositRing])
theorem State.crossTo_kept {s t : State} {a : Nat} {d : Option Nat} (h : s.crossTo a d = some t) : Kept s t := by
  unfold State.crossTo at h
  dsimp only at h
  apply Kept.of_grows
  (repeat' split at h) <;> simp at h <;> subst h <;> simp
theorem crossFold_kept {a : Nat} (l : List Nat) : ∀ {u : Option State} {t : State},
    l.foldl (fun (u : Option State) d => u.bind (fun t => t.crossTo a (some d))) u = some t → ∃ v, u = some v ∧ Kept v t := by
  induction l with
  | nil => exact fun {u t} h => ⟨t, h, .refl t⟩
  | cons d l ih =>
    intro u t h
    obtain ⟨w, hw, hk⟩ := ih h
    obtain ⟨v, hv, hc⟩ := Option.bind_eq_some_iff.mp hw
    exact ⟨v, hv, (State.crossTo_kept hc).trans hk⟩
theorem State.crossAll_kept {s t : State} {a : Nat} {l : List Nat} (h : s.crossAll a l = some t) : Kept s t := by
  obtain ⟨v, hv, hk⟩ := crossFold_kept l h
  exact Option.some.inj hv ▸ hk
theorem execMirrorCopy_kept (id : Nat) (s : State) : Kept s (outState (execMirrorCopy id s) s) := by
  unfold execMirrorCopy
  rw [outState_next]
  split
  · exact .refl s
  · dsimp only
    refine .ite (fun _ => .refl s) fun _ => ?_
    split
    · exact .refl s
    · next h => exact (Kept.of_eq rfl).trans ((State.crossTo_kept h).trans (.of_grows (by simp)))

/-! ## Regions -/

@[simp] theorem State.putRegion_kept (s : State) (r : Region) : Kept s (State.putRegion s r) :=
  .of_eq rfl
@[simp] theorem execBoundaryWake_kept (pt slot : Nat) (s : State) : Kept s (outState (execBoundaryWake pt slot s) s) := .of_grows (by simp [execBoundaryWake])
@[simp] theorem State.release_kept (s : State) (key : Nat) (l : BitVec 24) (pos : Word) (to' : RunState) : Kept s (State.release s key l pos to') := by
  apply Kept.of_grows
  unfold State.release
  dsimp only
  (repeat' split) <;> simp
@[simp] theorem execWaitRelease_kept (pt slot : Nat) (s : State) : Kept s (outState (execWaitRelease pt slot s) s) := by
  apply Kept.of_grows
  unfold execWaitRelease
  dsimp only
  (repeat' split) <;> simp
@[simp] theorem execHaltComplete_kept (pt slot : Nat) (s : State) : Kept s (outState (execHaltComplete pt slot s) s) := by
  apply Kept.of_grows
  unfold execHaltComplete
  dsimp only
  (repeat' split) <;> simp
@[simp] theorem execFenceRelease_kept (pt slot : Nat) (s : State) : Kept s (outState (execFenceRelease pt slot s) s) := by
  apply Kept.of_grows
  unfold execFenceRelease
  dsimp only
  (repeat' split) <;> simp
@[simp] theorem State.dropParty_kept (s : State) (p : Party) (key : Option Nat) : Kept s (State.dropParty s p key) :=
  .of_eq rfl
@[simp] theorem State.raiseQuiet_kept (s : State) (r : Region) (pt : Nat) : Kept s (State.raiseQuiet s r pt) := .of_grows (by simp [State.raiseQuiet])
@[simp] theorem execQuiescenceEvent_kept (rcb : Nat) (s : State) : Kept s (outState (execQuiescenceEvent rcb s) s) := by
  apply Kept.of_grows
  unfold execQuiescenceEvent
  (repeat' split) <;> simp
@[simp] theorem execPriorityPreemption_kept (pt slot rcb : Nat) (s : State) : Kept s (outState (execPriorityPreemption pt slot rcb s) s) := by
  apply Kept.of_grows
  unfold execPriorityPreemption
  dsimp only
  (repeat' split) <;> simp
@[simp] theorem execEventDeposit_kept (pt : Nat) (s : State) : Kept s (outState (execEventDeposit pt s) s) := by
  apply Kept.of_grows
  unfold execEventDeposit
  (repeat' split) <;> simp

/-! ## Panels -/

@[simp] theorem State.late_kept (s : State) (pt : Nat) : Kept s (State.late s pt) := .of_grows (by simp [State.late])
@[simp] theorem State.setTag_kept (s : State) (pt tag : Nat) (t : Tag) : Kept s (State.setTag s pt tag t) := .of_grows (by simp [State.setTag])
@[simp] theorem State.dropOp_kept (s : State) (o : Option Nat) : Kept s (State.dropOp s o) := by
  apply Kept.of_grows
  unfold State.dropOp
  (repeat' split) <;> simp
@[simp] theorem State.depositReply_kept (s : State) (pt cp : Nat) (v : Word × BitVec 32) : Kept s (State.depositReply s pt cp v) :=
  .of_eq rfl
@[simp] theorem execCrossPanelReply_kept (pt tag gen : Nat) (refused : Bool) (value : Word) (count : BitVec 32) (bytes : List Byte) (s : State) : Kept s (outState (execCrossPanelReply pt tag gen refused value count bytes s) s) := by
  apply Kept.of_grows
  unfold execCrossPanelReply
  dsimp only
  (repeat' split) <;> simp
@[simp] theorem execRequestTimeout_kept (pt tag : Nat) (s : State) : Kept s (outState (execRequestTimeout pt tag s) s) := by
  apply Kept.of_grows
  unfold execRequestTimeout
  dsimp only
  (repeat' split) <;> simp
@[simp] theorem State.answer_kept (s : State) (d : Option Nat) (v : Word) (count : Nat) (bs : List Byte) : Kept s (State.answer s d v count bs) :=
  .of_eq rfl
@[simp] theorem State.refuse_kept (s : State) (d : Option Nat) : Kept s (State.refuse s d) :=
  .of_eq rfl
@[simp] theorem State.remotePen_kept (s : State) (pt idx : Nat) (op : RemoteOp) : Kept s (State.remotePen s pt idx op) := by
  apply Kept.of_grows
  unfold State.remotePen
  (repeat' split) <;> simp
@[simp] theorem execPacingGrant_kept (src dst n : Nat) (s : State) : Kept s (outState (execPacingGrant src dst n s) s) := .of_grows (by simp [execPacingGrant])

/-! ## Power -/

@[simp] theorem execDriftChange_kept (pt d : Nat) (s : State) : Kept s (outState (execDriftChange pt d s) s) := .of_grows (by simp [execDriftChange])
@[simp] theorem execDriftAlarm_kept (pt : Nat) (s : State) : Kept s (outState (execDriftAlarm pt s) s) := .of_grows (by simp [execDriftAlarm])
@[simp] theorem execDroopDetect_kept (row : Nat) (s : State) : Kept s (outState (execDroopDetect row s) s) := .of_grows (by simp [execDroopDetect])
theorem execDrawRefresh_kept (die draw : Nat) (s : State) : Kept s (outState (execDrawRefresh die draw s) s) :=
  .ite (fun _ => .refl s) fun _ => .of_grows (by simp [State.modPower])
@[simp] theorem State.markSide_kept (s : State) (die : Nat) (dir : Dir) (v : Bool) : Kept s (State.markSide s die dir v) := by
  apply Kept.of_grows
  unfold State.markSide
  (repeat' split) <;> simp

/-! ## Faults -/

@[simp] theorem State.loseStrands_kept (s : State) (pt : Nat) : Kept s (State.loseStrands s pt) := .of_grows (by simp [State.loseStrands])
@[simp] theorem State.tellAll_kept (s : State) (rs : List Region) : Kept s (State.tellAll s rs) := .of_grows (by simp [State.tellAll])
@[simp] theorem State.markLost_kept (s : State) (rs : List Region) : Kept s (State.markLost s rs) := .of_grows (by simp [State.markLost])
@[simp] theorem State.dropRoutes_kept (s : State) (pt : Nat) : Kept s (s.dropRoutes pt) := by
  refine .of_eq ?_
  unfold State.dropRoutes
  refine PowerView.of_map_tiles _ ?_ _ _ _ _
  intro e
  dsimp only
  split <;> exact ⟨rfl, rfl, rfl, rfl, rfl⟩
@[simp] theorem State.setFaultPolicy_kept (s : State) (d n : Nat) : Kept s (s.setFaultPolicy d n) := .of_grows (by simp [State.setFaultPolicy])
@[simp] theorem State.choose_kept (s : State) (d n : Nat) : Kept s (s.choose d n) := .of_grows (by simp [State.choose])
@[simp] theorem State.lostParts_kept (s : State) (f : Nat) : Kept s (s.lostParts f) := by
  unfold State.lostParts
  extract_lets hit void s1
  have h1 : Kept s s1 := foldl_kept _ (fun t p => by split <;> simp) _ _
  exact h1.trans (.of_eq rfl)
@[simp] theorem PowerView.of_dropFrames (s : State) (f : Nat) (dies : SMap Die) (l : List Transfer) (k : Nat) :
    PowerView.of (s.dropFrames f).tiles dies l k = .of s.tiles dies l k := by
  simp [State.dropFrames]
@[simp] theorem State.dropFrames_kept (s : State) (f : Nat) : Kept s (s.dropFrames f) := .of_grows (by simp [State.dropFrames])
/-- The tiles of a die that is lost start at 16 again. -/
theorem State.loseDie_bounds (s : State) (f : Nat) : KeepsBounds s (s.loseDie f) := by
  unfold State.loseDie
  extract_lets s1 on
  have h1 : Kept s s1 := foldl_kept _ (fun _ _ => by simp) _ _
  have h2 : Kept s1 (s1.lostParts f) := State.lostParts_kept _ _
  clear_value s1 on
  refine h1.bounds.trans (.forget (fun k => !on k) (s1.dropFrames f).tiles s1.dies (s1.lostParts f).transfers (s1.lostParts f).nextId ?_ ?_)
  · simp [h2.transfers_eq, h2.nextId_eq]
  · rw [State.pview_mk, PowerView.of_map_dies]
    intro e
    dsimp only
    split <;> exact ⟨rfl, rfl, rfl, rfl⟩

@[simp] theorem State.nameBuddy_kept (s : State) (pt e die : Nat) : Kept s (s.nameBuddy pt e die) := .of_grows (by simp [State.nameBuddy])
@[simp] theorem State.loseBuddy_kept (s : State) (l : Nat) : Kept s (State.loseBuddy s l) := .of_grows (by simp [State.loseBuddy])
@[simp] theorem State.failLane_kept (s : State) (d dir : Nat) : Kept s (State.failLane s d dir) := .of_grows (by simp [State.failLane])
theorem State.corrected_kept (s : State) (d : Nat) (u : FaultUnit) : Kept s (s.corrected d u) := by
  have h1 : Kept s (match errorCount u with | some i => s.bump d i | none => s) := by
    split
    · exact State.bump_kept _ _ _
    · exact .refl s
  exact .ite (fun _ => h1.trans (State.startTest_kept _ _ _)) fun _ => .refl s
@[simp] theorem execSpareCopyEnd_kept (die g : Nat) (s : State) : Kept s (outState (execSpareCopyEnd die g s) s) := by
  apply Kept.of_grows
  unfold execSpareCopyEnd
  (repeat' split) <;> simp

end Sys2Proof.Machine
end

section
/-!
SUPPORT. The same under the operations and events that write memory.
-/
namespace Sys2Proof.Machine

/-! ## Boot -/

@[simp] theorem State.setPort_kept (s : State) (n : Nat) (down : Bool) : Kept s (s.setPort n down) :=
  .of_eq rfl
@[simp] theorem State.graftFailed_kept (s : State) (l : Nat) : Kept s (s.graftFailed l) := by
  apply Kept.of_grows
  unfold State.graftFailed
  (repeat' split) <;> simp
@[simp] theorem execPowerRegionEnergise_kept (s : State) : Kept s (outState (execPowerRegionEnergise s) s) := .of_grows (by simp [execPowerRegionEnergise])
theorem execImageCheck_kept (die : Nat) (s : State) : Kept s (outState (execImageCheck die s) s) := by
  unfold execImageCheck
  rw [outState_next]
  extract_lets t
  have ht : Kept s t := .of_grows (by simp [t])
  exact .ite (fun _ => .refl s) fun _ => .ite (fun _ => .of_eq rfl) fun _ => .ite (fun _ => ht.trans (.of_eq rfl)) fun _ => ht
@[simp] theorem State.setEnd_kept (s : State) (die : Nat) (dir : Dir) (ok : Bool) (out back : Nat) : Kept s (s.setEnd die dir ok out back) := .of_grows (by simp [State.setEnd])
theorem execLinkAuthentication_kept (die : Nat) (dir : Dir) (ok : Bool) (key : Nat) (s : State) :
    Kept s (outState (execLinkAuthentication die dir ok key s) s) := by
  unfold execLinkAuthentication
  rw [outState_next]
  refine .ite (fun _ => .refl s) fun _ => ?_
  split
  · exact .refl s
  · extract_lets out back t u
    have ht : Kept s t := by
      simp only [t]
      split
      · exact (State.setEnd_kept _ _ _ _ _ _).trans (State.setEnd_kept _ _ _ _ _ _)
      · exact (State.setEnd_kept _ _ _ _ _ _).trans (State.setEnd_kept _ _ _ _ _ _)
      · exact State.setEnd_kept _ _ _ _ _ _
    have hu : Kept s u := ht.trans (.ite (fun _ => .refl t) fun _ => .of_grows (by simp))
    exact .ite (fun _ => hu.trans (.of_eq rfl)) fun _ => hu
@[simp] theorem execGetMeasurements_kept (die : Nat) (s : State) : Kept s (outState (execGetMeasurements die s) s) := by
  apply Kept.of_grows
  unfold execGetMeasurements
  (repeat' split) <;> simp
@[simp] theorem State.trimPhase_kept (s : State) (d : List (Nat × Nat)) : Kept s (State.trimPhase s d) := .of_grows (by simp [State.trimPhase])

/-! ## Leaves -/

@[simp] theorem State.orLeaf_kept (s : State) (ldie off b : Nat) : Kept s (State.orLeaf s ldie off b) := by
  apply Kept.of_grows
  unfold State.orLeaf
  (repeat' split) <;> simp
theorem State.walkInto_kept {s : State} {pt root va : Nat} {w : Bool} {t : State} {e : Leaf} (h : s.walkInto pt root va w = some (t, e)) :
    Kept s t := by
  unfold State.walkInto at h
  split at h
  · cases h
  · cases h
    exact .of_grows (by simp)
@[simp] theorem State.prefetch_kept (s : State) (p : Word) (o : Int) : Kept s (s.prefetch p o) := by
  apply Kept.of_grows
  unfold State.prefetch
  (repeat' split) <;> simp
@[simp] theorem execPfx_kept (b x : BitVec 5) (d : BitVec 14) (s : State) : Kept s (outState (execPfx b x d s) s) := .of_grows (by simp [execPfx])

/-! ## Parts -/

@[simp] theorem State.scopewAt_kept (s : State) (rcb e : Nat) (w : Word) : Kept s (State.scopewAt s rcb e w) := by
  apply Kept.of_grows
  unfold State.scopewAt
  dsimp only
  (repeat' split) <;> simp
@[simp] theorem State.buntwAt_kept (s : State) (rcb slot : Nat) (bs : List Byte) : Kept s (State.buntwAt s rcb slot bs) := by
  apply Kept.of_grows
  unfold State.buntwAt
  (repeat' split) <;> simp
@[simp] theorem State.plotwAt_kept (s : State) (oid rcb x : Nat) (bs : List Byte) : Kept s (s.plotwAt oid rcb x bs) := by
  unfold State.plotwAt
  apply Kept.of_grows
  dsimp only
  split <;> simp

@[simp] theorem State.setRuns_kept (s : State) (gs : List Seg) (n x : Nat) : Kept s (s.setRuns gs n x) :=
  .of_eq rfl
@[simp] theorem State.act_kept (s : State) (p : Part) : Kept s (s.act p) := by
  unfold State.act
  apply Kept.of_grows
  dsimp only
  (repeat' split) <;> simp
@[simp] theorem State.logAppend_kept (s : State) (pt e : Nat) (used : Leaf → Bool) : Kept s (s.logAppend pt e used) :=
  .of_grows (by simp [State.logAppend])
@[simp] theorem State.noteReq_kept (s t : State) (a : Act) : Kept t (s.noteReq t a) := by
  unfold State.noteReq
  apply Kept.of_grows
  dsimp only
  (repeat' split) <;> simp
theorem execPartPerform_kept (pid : Nat) (s : State) : Kept s (outState (execPartPerform pid s) s) := by
  unfold execPartPerform
  rw [outState_next]
  split
  · exact .refl s
  · next p _ =>
    extract_lets s0 s1 s2
    refine .ite (fun _ => .refl s) fun _ => ?_
    have h1 : Kept s s1 := (Kept.of_eq rfl : Kept s s0).trans (.of_grows (by simp [s1]))
    have h2 : Kept s s2 := h1.trans (.of_grows (by simp only [s2]; (repeat' split) <;> simp))
    clear_value s2
    split
    · exact h2.trans (.of_grows (by simp))
    · exact h2.trans (.of_grows (by simp))
    · exact h2.trans (.of_grows (by simp))

/-! ## WalkEvents -/

@[simp] theorem State.mergeEntry_kept (s : State) (e : Nat) : Kept s (State.mergeEntry s e) := by
  apply Kept.of_grows
  unfold State.mergeEntry
  (repeat' split) <;> simp
@[simp] theorem State.walked_kept (s : State) (p : Part) : Kept s (s.walked p) :=
  .of_eq rfl
theorem State.walkPages_kept (p : Part) (l : List Nat) (s : State) : Kept s (s.walkPages p l).1 := by
  induction l generalizing s with
  | nil => exact .refl s
  | cons a r ih =>
    unfold State.walkPages
    split
    · exact .refl s
    · next h => exact (State.walkInto_kept h).trans (ih _)
theorem execPageWalk_kept (pid : Nat) (s : State) : Kept s (outState (execPageWalk pid s) s) := by
  unfold execPageWalk
  rw [outState_next]
  split
  · exact .refl s
  · next p _ =>
    refine .ite (fun _ => .refl s) fun _ => ?_
    split
    · refine .ite (fun _ => .of_eq rfl) fun _ => ?_
      split
      · exact State.parkPart_kept _ _ _
      · exact .refl s
    · split
      · exact .refl s
      · next u hu =>
        have h := (State.crossAll_kept hu).trans (State.walkPages_kept p (s.unwalked p) u)
        refine .ite (fun _ => h.trans (.of_eq rfl)) fun _ => ?_
        split
        · exact h.trans (State.parkPart_kept _ _ _)
        · exact h.trans (State.walked_kept _ _)
@[simp] theorem State.mergeNext_kept (s : State) (pt : Nat) : Kept s (s.mergeNext pt) := .of_grows (by simp [State.mergeNext])
@[simp] theorem State.mergeLog_kept (pt w0 n : Nat) (s : State) : Kept s (s.mergeLog pt w0 n) := by
  induction n generalizing s with
  | zero => exact .refl s
  | succ n ih => exact .ite (fun _ => .refl s) fun _ => (State.mergeNext_kept _ _).trans (ih _)
@[simp] theorem State.mergeGranted_kept (pt w0 n : Nat) (s : State) : Kept s (s.mergeGranted pt w0 n) := by
  induction n generalizing s with
  | zero => exact .refl s
  | succ n ih =>
    refine .ite (fun _ => .refl s) fun _ => ?_
    split
    · exact .refl s
    · next h => exact ((State.crossTo_kept h).trans (State.mergeNext_kept _ _)).trans (ih _)

theorem execLogMerge_kept (pt : Nat) (s : State) : Kept s (outState (execLogMerge pt s) s) := by
  rw [execLogMerge, outState_next]
  exact .ite (fun _ => State.mergeGranted_kept _ _ _ s) fun _ => .refl s
theorem execRequestComplete_kept (pt : Nat) (s : State) : Kept s (outState (execRequestComplete pt s) s) := by
  unfold execRequestComplete
  rw [outState_next]
  split
  · exact .refl s
  · exact .of_grows (by simp)

/-! ## GridEvents -/

/-! Grid cells -/

theorem State.cellKey_kept {s : State} {pt : Nat} {g : GridEntry} {k : Nat} {w : Bool} {t : State} {a : Nat}
    (h : s.cellKey pt g k w = some (t, a)) : Kept s t := by
  unfold State.cellKey at h
  dsimp only at h
  split at h
  · cases h
  · split at h
    · cases h; exact .refl s
    · split at h
      · cases h
      · next u e hw =>
        have hu : Kept s u := by
          split at hw
          · cases hw; exact .refl s
          · exact State.walkInto_kept hw
        split at h
        · split at h
          · cases h
          · exact (Prod.mk.inj (Option.some.inj h)).1 ▸ hu.trans (State.logAppend_kept _ _ _ _)
        · exact (Prod.mk.inj (Option.some.inj h)).1 ▸ hu
theorem State.putCells_kept (pt : Nat) (g : GridEntry) (l : List (Nat × Word)) : ∀ {s t : State}, s.putCells pt g l = some t → Kept s t := by
  induction l with
  | nil => intro s t h; cases h; exact .refl s
  | cons c r ih =>
    intro s t h
    unfold State.putCells at h
    split at h
    · exact ih h
    · split at h
      · cases h
      · next hk => exact ((State.cellKey_kept hk).trans (.of_grows (by simp))).trans (ih h)
theorem State.getCells_kept (pt : Nat) (g : GridEntry) (l : List Nat) : ∀ {s t : State} {vs : List Word},
    s.getCells pt g l = .ok (t, vs) → Kept s t := by
  induction l with
  | nil => intro s t vs h; cases h; exact .refl s
  | cons c r ih =>
    intro s t vs h
    unfold State.getCells at h
    split at h
    · cases h
    · next hk =>
      split at h
      · cases h
      · next hr => cases h; exact (State.cellKey_kept hk).trans (ih hr)
theorem State.landBuffer_kept {s : State} {p : Piece} {e : Nat} {t : State} (h : s.landBuffer p e = some t) : Kept s t := by
  unfold State.landBuffer at h
  dsimp only at h
  split at h
  · cases h; exact .refl s
  · split at h
    · cases h
    · obtain ⟨u, hu, rfl⟩ := Option.map_eq_some_iff.mp h
      exact (State.putCells_kept _ _ _ hu).trans (.of_grows (by simp))
theorem State.logCells_kept (pt : Nat) (g : GridEntry) (l : List (Nat × Word)) (s : State) : Kept s (s.logCells pt g l) := by
  induction l generalizing s with
  | nil => exact .refl s
  | cons c r ih =>
    unfold State.logCells
    refine .ite (fun _ => ih s) fun _ => ?_
    split
    · exact .refl s
    · next hk => exact (State.cellKey_kept hk).trans (ih _)
theorem State.pieceEntry_kept {s t : State} {p : Piece} {e : Option Nat} (h : s.pieceEntry p = some (t, e)) : Kept s t := by
  unfold State.pieceEntry at h
  split at h
  · cases h; exact .refl s
  · split at h
    · cases h
    · split at h
      · cases h; exact .refl s
      · obtain ⟨x, hx, hq⟩ := Option.map_eq_some_iff.mp h
        exact (Prod.mk.inj hq).1 ▸ (State.takeGrid_kept (t := x.1) (e := x.2) hx).trans (.of_grows (by simp))
theorem State.holdPiece_kept (s : State) (p : Piece) : Kept s (s.holdPiece p) := by
  unfold State.holdPiece
  split
  · next he => exact .ite (fun _ => .refl s) fun _ => (State.pieceEntry_kept he).trans (State.logCells_kept _ _ _ _)
  · exact .refl s
theorem State.depositPiece_kept {s : State} {p : Piece} {t : State} (h : s.depositPiece p = some t) : Kept s t := by
  unfold State.depositPiece at h
  split at h
  · cases h
  · next he => cases h; exact State.pieceEntry_kept he
  · next he => exact (State.pieceEntry_kept he).trans (State.landBuffer_kept h)
theorem Kept.getD {o : Option State} {s u : State} (h : Kept s u) (ho : ∀ t, o = some t → Kept s t) : Kept s (o.getD u) := by
  cases o with
  | none => exact h
  | some t => exact ho t rfl
theorem execGridPieceDeposit_kept (id : Nat) (s : State) : Kept s (outState (execGridPieceDeposit id s) s) := by
  unfold execGridPieceDeposit
  rw [outState_next]
  split
  · exact .refl s
  · dsimp only
    refine .ite (fun _ => .refl s) fun _ => ?_
    split
    · exact .refl s
    · split
      · exact .refl s
      · next t hc =>
        have ht : Kept s t := by
          refine Kept.trans ?_ (State.crossTo_kept hc)
          exact .of_eq rfl
        refine .ite (fun _ => .ite (fun _ => ht.trans (State.depositRing_kept _ _)) fun _ => ht) fun _ => ?_
        split
        · exact .refl s
        · next hw => exact .getD (State.holdPiece_kept s _) fun _ hd => ht.trans ((State.crossAll_kept hw).trans (State.depositPiece_kept hd))
@[simp] theorem State.putMapped_kept (s : State) (pt : Nat) (g : GridEntry) (l : List (Nat × Word)) : Kept s (s.putMapped pt g l) :=
  foldl_kept _ (fun t c => by
    have hu : Kept t (if t.logFull pt then t.mergeLog pt (t.logWR pt) 512 else t) := .ite (fun _ => State.mergeLog_kept _ _ _ t) fun _ => .refl t
    exact (Kept.getD hu fun _ hv => hu.trans (State.putCells_kept _ _ _ hv)).grows) _ _
@[simp] theorem State.restorePart_kept (s : State) (pt e : Nat) (g : GridEntry) (ring : Bool) : Kept s (s.restorePart pt e g ring) := by
  apply Kept.of_grows
  unfold State.restorePart
  (repeat' split) <;> simp
@[simp] theorem State.publishStep_kept (s : State) (o : Op) (pt e step : Nat) : Kept s (s.publishStep o pt e step) := by
  unfold State.publishStep
  extract_lets g d exchange copy specs val st
  split
  · exact .of_grows (by simp)
  · next t vs hg =>
    extract_lets t1 t2 u t3 ps t4
    have h1 : Kept s t1 := (State.getCells_kept _ _ _ hg).trans (.of_grows (by simp [t1]))
    have h2 : Kept s t2 := h1.trans (.of_grows (by simp [t2]))
    have hu : Kept s u := h2.trans (State.modMirror_kept _ _ _ _ _ _)
    have h3 : Kept s t3 := .ite (fun _ => hu.trans (.of_grows ⟨1, rfl⟩)) fun _ => h2
    have h4 : Kept s t4 := h3.trans (State.queuePieces_kept _ _)
    exact .ite (fun _ => h4.trans (.of_grows (by simp))) fun _ => h3
theorem execGstepProcess_kept (oid : Nat) (s : State) : Kept s (outState (execGstepProcess oid s) s) := by
  unfold execGstepProcess
  rw [outState_next]
  split
  · exact .refl s
  · split
    · refine .ite (fun _ => .refl s) fun _ => .getD (.refl s) fun u hu => ?_
      obtain ⟨v, hv, rfl⟩ := Option.map_eq_some_iff.mp hu
      exact (State.crossAll_kept hv).trans (State.publishStep_kept _ _ _ _ _)
    · exact .refl s

/-! ## Regions -/

@[simp] theorem State.writeStatus_kept (s : State) (rcb : Nat) (st : RegionSt) (cause : Nat) : Kept s (s.writeStatus rcb st cause) := by
  unfold State.writeStatus
  apply Kept.of_grows
  split <;> simp
theorem State.placeStrand_kept {s : State} {pt slot : Nat} {r : Region} {idx num : Nat} {c : Cadence} {rt : Bool} {t : State}
    (h : s.placeStrand pt slot r idx num c rt = some t) : Kept s t := by
  unfold State.placeStrand at h
  split at h
  · cases h
  · cases h
    exact .of_grows (by simp)
theorem State.placeCadence_kept {pt : Nat} {r : Region} {idx : Nat} {c : Cadence} (n : Nat) : ∀ {s t : State} {num : Nat},
    s.placeCadence pt r idx c n num = some t → Kept s t := by
  induction n with
  | zero => intro s t num h; cases h; exact .refl s
  | succ n ih =>
    intro s t num h
    unfold State.placeCadence at h
    split at h
    · cases h
    · split at h
      · cases h
      · next hp => exact (State.placeStrand_kept hp).trans (ih h)
theorem State.placeCadences_kept {pt : Nat} {r : Region} (l : List (Nat × Cadence)) : ∀ {s t : State},
    s.placeCadences pt r l = some t → Kept s t := by
  induction l with
  | nil => intro s t h; cases h; exact .refl s
  | cons c l ih =>
    intro s t h
    unfold State.placeCadences at h
    split at h
    · exact ih h
    · split at h
      · cases h
      · next hp => exact (State.placeCadence_kept _ hp).trans (ih h)
theorem State.placeTile_kept {s : State} {pt : Nat} {r : Region} {t : State} (h : s.placeTile pt r = some t) : Kept s t := by
  unfold State.placeTile at h
  dsimp only at h
  split at h
  · cases h
  · next u hu =>
    refine Kept.trans ?_ (State.placeCadences_kept _ h)
    split at hu
    · cases hu; exact .refl s
    · split at hu
      · exact State.placeStrand_kept hu
      · cases hu
theorem State.placeAll_kept {r : Region} (l : List Nat) : ∀ {s t : State}, s.placeAll r l = some t → Kept s t := by
  induction l with
  | nil => intro s t h; cases h; exact .refl s
  | cons p l ih =>
    intro s t h
    unfold State.placeAll at h
    split at h
    · cases h
    · next hp => exact (State.placeTile_kept hp).trans (ih h)

theorem keptOk_error (s : State) (c : Nat) (q : Region × State) (h : (Except.error c : Except Nat (Region × State)) = .ok q) : Kept s q.2 := by
  cases h
theorem keptOk_ite (s : State) (P : Prop) [Decidable P] {a b : Except Nat (Region × State)} (ha : ∀ q, a = .ok q → Kept s q.2)
    (hb : ∀ q, b = .ok q → Kept s q.2) : ∀ q, (if P then a else b) = .ok q → Kept s q.2 := by
  split
  · exact ha
  · exact hb
theorem State.admission_kept (s : State) (r : Region) (w : Nat) : ∀ q, s.admission r w = .ok q → Kept s q.2 := by
  unfold State.admission
  extract_lets
  refine keptOk_ite s _ (keptOk_error s _) ?_
  generalize s.setOf w = o
  cases o with
  | none => exact keptOk_error s _
  | some t =>
    dsimp -zeta only
    extract_lets
    iterate 5 (refine keptOk_ite s _ (keptOk_error s _) ?_)
    extract_lets
    iterate 2 (refine keptOk_ite s _ (keptOk_error s _) ?_)
    generalize hp : State.placeAll s _ _ = o
    cases o with
    | none => exact keptOk_error s _
    | some u =>
      iterate 2 (refine keptOk_ite s _ (keptOk_error s _) ?_)
      intro q hq
      cases hq
      exact State.placeAll_kept _ hp

@[simp] theorem State.placeImage_kept (s : State) (r : Region) (pt : Nat) : Kept s (s.placeImage r pt) :=
  .of_eq rfl
theorem State.takeScopes_kept (s : State) (base : Nat) : Kept s (s.takeScopes base).1 := by
  unfold State.takeScopes
  apply Kept.of_grows
  split <;> simp
theorem execRegionAdmission_kept (rcb : Nat) (img : Image) (s : State) : Kept s (outState (execRegionAdmission rcb img s) s) := by
  unfold execRegionAdmission
  rw [outState_next]
  dsimp only
  refine .ite (fun _ => .refl s) fun _ => ?_
  split
  · split
    · exact .of_grows (by simp)
    · next r u ha =>
      refine .ite (fun _ => .refl s) fun _ => ?_
      have hu : Kept s u := State.admission_kept _ _ _ _ ha
      exact (hu.trans (State.takeScopes_kept u r.scopeBase)).trans (.of_grows (by simp))
  · exact .refl s
@[simp] theorem State.startRegion_kept (s : State) (pt : Nat) (r : Region) : Kept s (s.startRegion pt r) := by
  unfold State.startRegion
  extract_lets t
  have ht : Kept s t := .of_grows (by simp [t])
  exact ht.trans (.ite (fun _ => .of_grows (by simp)) fun _ => .refl t)
@[simp] theorem freeTile_demands (rcb : Nat) (t : Tile) : (freeTile rcb t).turns = t.turns ∧ (freeTile rcb t).seen = t.seen ∧
    (freeTile rcb t).thermal = t.thermal ∧ (freeTile rcb t).droop = t.droop := ⟨rfl, rfl, rfl, rfl⟩
@[simp] theorem State.endRegion_kept (s : State) (rcb cause : Nat) : Kept s (s.endRegion rcb cause) := by
  unfold State.endRegion
  extract_lets r t1 t2 t3
  have h1 : Kept s t1 := .of_grows (by simp [t1])
  have h2 : Kept s t2 := h1.trans (.of_grows (by simp [t2]))
  have h3 : Kept s t3 := h2.trans (.of_grows (by simp [t3]))
  exact h3.trans (.of_grows (by simp))
@[simp] theorem State.endTree_kept (f : Nat) (s : State) (rcb cause : Nat) : Kept s (s.endTree f rcb cause) := by
  induction f generalizing s rcb cause with
  | zero => exact .refl s
  | succ f ih => exact (foldl_kept _ (fun t c => (ih t c 18).grows) _ s).trans (State.endRegion_kept _ _ _)

@[simp] theorem execStrandStart_kept (pt slot : Nat) (s : State) : Kept s (outState (execStrandStart pt slot s) s) := by
  apply Kept.of_grows
  unfold execStrandStart
  dsimp only
  (repeat' split) <;> simp
theorem execRegionEnd_kept (rcb : Nat) (s : State) : Kept s (outState (execRegionEnd rcb s) s) := by
  unfold execRegionEnd
  rw [outState_next]
  split
  · exact .refl s
  · exact .ite (fun _ => State.endTree_kept _ s _ _) fun _ => .refl s

/-! ## Panels -/

theorem State.walkRuns_kept (root : Nat) (w : Bool) (l : List (Nat × List Seg)) : ∀ {s t : State} {r : List (Home × List Seg)},
    s.walkRuns root w l = some (t, r) → Kept s t := by
  induction l with
  | nil => intro s t r h; cases h; exact .refl s
  | cons c l ih =>
    intro s t r h
    unfold State.walkRuns at h
    split at h
    · cases h
    · split at h
      · cases h
      · next hr => cases h; exact (State.orLeaf_kept _ _ _ _).trans (ih hr)
theorem State.spot_kept (s : State) (target : RemoteTarget) (n : Nat) (w st : Bool) : Kept s (s.spot target n w st).1 := by
  cases target with
  | virt root va =>
    rw [State.spot]
    split
    · exact .refl s
    · split
      · next hr => exact State.walkRuns_kept _ _ _ hr
      · exact .refl s
  | _ => exact .refl s
theorem State.spot_kept' {s t : State} {target : RemoteTarget} {n : Nat} {w st : Bool} {p : Spot} (h : s.spot target n w st = (t, p)) :
    Kept s t := by
  have hs := State.spot_kept s target n w st
  rw [h] at hs
  exact hs
@[simp] theorem State.arrive_kept (s : State) (die : Option Nat) (fin : Ending) (res : Word) (buf : List Byte) (acts : List (Home × Act)) :
    Kept s (s.arrive die fin res buf acts) :=
  (Kept.of_grows (by simp) : Kept s _).trans (foldl_kept _ (fun _ _ => by simp) _ _)
/-- A memory operation from outside ends in an answer, a refusal, or parts that arrive. -/
theorem spotGo_kept {die : Option Nat} {s : State} {target : RemoteTarget} {n : Nat} {w st : Bool} {missing : State}
    {f : State → List (Home × List Seg) → State} (hm : Kept s missing) (hf : ∀ t l, Kept t (f t l)) :
    Kept s (match s.spot target n w st with
      | (t, .here l) => f t l
      | (_, .miss) => missing
      | (_, .refused) => s.refuse die) := by
  split
  · next h => exact (State.spot_kept' h).trans (hf _ _)
  · exact hm
  · exact State.refuse_kept s _
@[simp] theorem State.remoteMem_kept (s : State) (target : RemoteTarget) (op : RemoteOp) : Kept s (s.remoteMem target op) := by
  cases op with
  | load n sx => exact spotGo_kept (State.answer_kept s _ _ _ _) fun t l => State.arrive_kept t _ _ _ _ _
  | copyOut n => exact spotGo_kept (State.answer_kept s _ _ _ _) fun t l => State.arrive_kept t _ _ _ _ _
  | store bs => exact spotGo_kept (State.answer_kept s _ _ _ _) fun t l => State.arrive_kept t _ _ _ _ _
  | nibble hi v => exact spotGo_kept (State.answer_kept s _ _ _ _) fun t l => State.arrive_kept t _ _ _ _ _
  | copyIn bs => exact spotGo_kept (State.answer_kept s _ _ _ _) fun t l => State.arrive_kept t _ _ _ _ _
  | atomic major ty v e => exact spotGo_kept (State.answer_kept s _ _ _ _) fun t l => State.arrive_kept t _ _ _ _ _
  | _ => exact State.refuse_kept s _
theorem execHostWrite_kept (target : RemoteTarget) (bytes : List Byte) (s : State) : Kept s (outState (execHostWrite target bytes s) s) := by
  unfold execHostWrite
  rw [outState_next]
  refine .ite (fun _ => .refl s) fun _ => ?_
  split
  · split
    · next h => exact (State.spot_kept' h).trans (State.arrive_kept _ _ _ _ _ _)
    · exact .refl s
  · split
    · exact .ite (fun _ => .of_eq rfl) fun _ => .refl s
    · exact .refl s
  · exact .refl s
theorem execRemoteRequest_kept (target : RemoteTarget) (op : RemoteOp) (s : State) : Kept s (outState (execRemoteRequest target op s) s) := by
  unfold execRemoteRequest
  rw [outState_next]
  refine .ite (fun _ => .refl s) fun _ => ?_
  split
  · split
    · exact .ite (fun _ => .refl s) fun _ => .ite (fun _ => State.remotePen_kept s _ _ _) fun _ => State.refuse_kept s _
    · exact State.answer_kept s _ _ _ _
  · split
    · exact .of_grows ⟨2, rfl⟩
    · exact .refl s
  · exact State.remoteMem_kept s _ _

/-! ## Faults -/

@[simp] theorem State.writeMap_kept (s : State) (d : Nat) : Kept s (s.writeMap d) := .of_grows (by simp [State.writeMap])
@[simp] theorem State.writeMaps_kept (s : State) : Kept s s.writeMaps := .of_grows (by simp [State.writeMaps])

theorem regions_kept (t : State) (rs : List Region) : Kept t { t with regions := rs } := .of_eq rfl
@[simp] theorem State.removeTile_kept (s : State) (pt : Nat) (dead : Bool) : Kept s (s.removeTile pt dead) := by
  unfold State.removeTile
  extract_lets d rs s1 s2 s3 s4
  clear_value d rs
  have h1 : Kept s s1 := .of_grows (by simp [s1])
  clear_value s1
  have h2 : Kept s s2 := h1.trans (.of_grows (by simp [s2]))
  clear_value s2
  have h3 : Kept s s3 := h2.trans (regions_kept _ _)
  clear_value s3
  have h4 : Kept s s4 := (h3.trans (.ite (fun _ => State.dropRoutes_kept s3 _) fun _ => .refl s3)).trans (State.markLost_kept _ _)
  clear_value s4
  exact h4.trans ((State.tellAll_kept _ _).trans (State.writeMap_kept _ _))
@[simp] theorem State.loseRouter_kept (s : State) (pt : Nat) : Kept s (s.loseRouter pt) := .of_grows (by simp [State.loseRouter])
@[simp] theorem State.graftGrid_kept (s : State) (pt e : Nat) (g : GridEntry) : Kept s (s.graftGrid pt e g) := by
  unfold State.graftGrid
  extract_lets s1 h fs
  have h1 : Kept s s1 := State.restorePart_kept _ _ _ _ _
  exact .ite (fun _ => .of_eq (s.report_pview _ _)) fun _ => .ite (fun _ => h1) fun _ => h1.trans (foldl_kept _ (fun t p =>
    (Kept.getD (State.queuePieces_kept t _) fun _ hd => State.depositPiece_kept hd).grows) _ _)
@[simp] theorem State.rearmRegion_kept (s : State) (r : Region) (pts : List (Option Nat)) : Kept s (s.rearmRegion r pts) := by
  refine foldl_kept _ (fun t pt => Kept.grows ?_) _ _
  cases pt with
  | none => exact State.markLost_kept t _
  | some pt =>
    have hi : Kept t (t.placeImage r pt) := State.placeImage_kept _ _ _
    exact .getD (hi.trans (State.markLost_kept _ _)) fun _ hu => hi.trans (State.placeTile_kept hu)
theorem State.graftOnto_bounds (s : State) (f l l' : Nat) : KeepsBounds s (s.graftOnto f l l') := by
  unfold State.graftOnto
  extract_lets rs grids rings t0 t t1 t2 t3 t4 t5
  have h0 : Kept s t0 := by
    refine Kept.trans ?_ (foldl_kept _ (fun u p => by (repeat' split) <;> simp) _ _)
    exact .of_eq rfl
  clear_value t0 t rings grids rs
  have h1 : Kept s t1 := h0.trans (.of_eq rfl)
  clear_value t1
  have h2 : KeepsBounds s t2 := (h1.bounds.trans (State.loseDie_bounds _ f)).trans (Kept.of_grows (by simp [t2])).bounds
  clear_value t2
  have h3 : Kept t2 t3 := regions_kept _ _
  clear_value t3
  have h4 : Kept t2 t4 := h3.trans (foldl_kept _ (fun u r => (State.rearmRegion_kept u r _).grows) _ _)
  clear_value t4
  have h5 : Kept t2 t5 := h4.trans (foldl_kept _ (fun u g => by split <;> simp) _ _)
  clear_value t5
  exact h2.trans (h5.trans ((State.tellAll_kept _ _).trans (State.writeMaps_kept _))).bounds

@[simp] theorem State.endAll17_kept (s : State) (rs : List Region) : Kept s (s.endAll17 rs) :=
  foldl_kept _ (fun u _ => (Kept.ite (fun _ => State.endTree_kept _ u _ _) fun _ => .refl u).grows) _ _
theorem vacate_bounds (s : State) (m : SMap (Nat × Nat)) (f l : Nat) :
    KeepsBounds s ((({ s with dmap := m } : State).loseDie f).loseBuddy l).writeMaps := by
  have h : Kept s { s with dmap := m } := .of_eq rfl
  exact (h.bounds.trans (State.loseDie_bounds _ f)).trans (Kept.of_grows (by simp)).bounds
theorem State.failDie_bounds (s : State) (f : Nat) : KeepsBounds s (s.failDie f) := by
  unfold State.failDie
  extract_lets t
  have ht : Kept s t := .of_grows (by simp [t])
  clear_value t
  split
  · exact ht.bounds
  · refine .ite (fun _ => ht.bounds.trans (vacate_bounds _ _ _ _)) fun _ => ?_
    split
    · exact ht.bounds.trans (State.graftOnto_bounds _ _ _ _)
    · exact (ht.trans (State.endAll17_kept _ _)).bounds.trans (vacate_bounds _ _ _ _)
theorem State.failTile_bounds (s : State) (d i : Nat) (dead : Bool) : KeepsBounds s (s.failTile d i dead) :=
  .ite (fun _ => (State.loseRouter_kept s _).bounds) fun _ => .ite (fun _ => .refl s) fun _ =>
    .ite (fun _ => State.failDie_bounds s _) fun _ => (State.removeTile_kept s _ _).bounds
theorem State.failChannel_bounds (s : State) (d ch : Nat) : KeepsBounds s (s.failChannel d ch) := by
  unfold State.failChannel
  exact .ite (fun _ => .refl s) fun _ => .ite (fun _ => State.failDie_bounds s _) fun _ =>
    .ite (fun _ => (Kept.of_grows (by simp)).bounds) fun _ => (Kept.of_grows (by simp)).bounds
theorem State.ladder_bounds (s : State) (d : Nat) (u : FaultUnit) (dead : Bool) : KeepsBounds s (s.ladder d u dead) := by
  unfold State.ladder
  split
  · exact State.failDie_bounds s _
  · exact .refl s
  · exact (State.endAll17_kept s _).bounds
  · split
    · exact State.failTile_bounds s _ _ _
    · exact State.failTile_bounds s _ _ _
    · exact State.failTile_bounds s _ _ _
    · exact State.failChannel_bounds s _ _
    · exact (State.failLane_kept s _ _).bounds
    · exact State.failDie_bounds s _
theorem execSelfTestResult_bounds (die : Nat) (u : FaultUnit) (pass dead : Bool) (s : State) :
    KeepsBounds s (outState (execSelfTestResult die u pass dead s) s) := by
  unfold execSelfTestResult
  rw [outState_next]
  extract_lets t
  have ht : Kept s t := .of_grows (by simp [t])
  exact .ite (fun _ => .refl s) fun _ => .ite (fun _ => (ht.trans (State.bump_kept _ _ _)).bounds) fun _ =>
    (ht.trans (State.bump_kept _ _ _)).bounds.trans (State.ladder_bounds _ _ _ _)
@[simp] theorem State.restoreAt_kept (s : State) (g : GridEntry) : Kept s (s.restoreAt g) := by
  apply Kept.of_grows
  unfold State.restoreAt
  (repeat' split) <;> simp
theorem State.rollBack_kept {s u : State} {r : Region} {gs : List (Nat × GridEntry)} (h : s.rollBack r gs = some u) : Kept s u := by
  unfold State.rollBack at h
  extract_lets t1 t2 t3 r' t4 t5 at h
  have h1 : Kept s t1 := foldl_kept _ (fun _ _ => by simp) _ _
  clear_value t1
  have h2 : Kept s t2 := h1.trans (foldl_kept _ (fun _ _ => by simp) _ _)
  clear_value t2
  have h3 : Kept s t3 := h2.trans (.of_grows (by simp [t3]))
  clear_value t3 r'
  have h4 : Kept s t4 := h3.trans (.of_grows (by simp [t4]))
  clear_value t4
  have h5 : Kept s t5 := h4.trans (foldl_kept _ (fun t pt => (State.placeImage_kept t _ _).grows) _ _)
  clear_value t5
  split at h
  · cases h
  · obtain ⟨v, hv, rfl⟩ := Option.map_eq_some_iff.mp h
    exact h5.trans ((State.placeAll_kept _ hv).trans (foldl_kept _ (fun t g => (State.restoreAt_kept t _).grows) _ _))
theorem State.rollback?_kept {s u : State} {rcb : Nat} (h : s.rollback? rcb = some u) : Kept s u := by
  unfold State.rollback? at h
  dsimp only at h
  split at h
  · exact (Kept.of_eq rfl : Kept s (s.answered rcb)).trans (State.rollBack_kept h)
  · cases h
theorem execFaultDomainTakedown_kept (rcb : Nat) (s : State) : Kept s (outState (execFaultDomainTakedown rcb s) s) := by
  unfold execFaultDomainTakedown
  exact .ite (fun _ => ((Kept.of_eq rfl : Kept s (s.answered rcb)).trans (State.choose_kept _ _ _)).trans (State.endTree_kept _ _ _ _)) fun _ => .refl s
theorem execRegionRollback_kept (rcb : Nat) (s : State) : Kept s (outState (execRegionRollback rcb s) s) := by
  unfold execRegionRollback
  refine .ite (fun _ => .refl s) fun _ => .getD (.refl s) fun u hu => ?_
  obtain ⟨v, hv, rfl⟩ := Option.map_eq_some_iff.mp hu
  exact (State.rollback?_kept hv).trans (State.choose_kept _ _ _)
theorem execTurnTableChange_kept (die : Nat) (tts : List Nat) (s : State) : Kept s (outState (execTurnTableChange die tts s) s) := by
  unfold execTurnTableChange
  exact .ite (fun _ => .refl s) fun _ => .of_grows (by simp)

/-! ## Boot -/

theorem gradeB_kept (t : State) (g : Bool) (n : Nat) : Kept t { t with gradeB := g, bootPhase := n } := .of_eq rfl
@[simp] theorem State.selfTestPhase_kept (s : State) (bad : List Nat) (grade : Nat) (pts fp : List (Nat × Nat × Nat)) :
    Kept s (s.selfTestPhase bad grade pts fp) := by
  unfold State.selfTestPhase
  extract_lets s1 s2 s3
  have h1 : Kept s s1 := foldl_kept _ (fun _ _ => by simp) _ _
  have h2 : Kept s s2 := h1.trans (foldl_kept _ (fun _ _ => by simp) _ _)
  have h3 : Kept s s3 := h2.trans (foldl_kept _ (fun _ _ => by simp) _ _)
  clear_value s3
  exact .ite (fun _ => .refl s) fun _ => h3.trans ((State.writeMaps_kept s3).trans (gradeB_kept _ _ _))
theorem bootPhase_kept (t : State) (n : Nat) : Kept t { t with bootPhase := n } := .of_eq rfl
@[simp] theorem State.configurePhase_kept (s : State) (chip : Nat) (dmap : List (Nat × Nat × Nat)) (csl : List (Nat × Nat)) (tmo threshold : Nat) :
    Kept s (s.configurePhase chip dmap csl tmo threshold) := by
  unfold State.configurePhase
  extract_lets t u v passed
  have h1 : Kept s u := (Kept.of_eq rfl : Kept s _).trans (foldl_kept _ (fun _ _ => by simp) _ _)
  clear_value u
  have h2 : Kept s v := h1.trans (foldl_kept _ (fun _ _ => by simp) _ _)
  clear_value v
  have h3 : Kept s ((List.range 128).foldl State.graftFailed v) := h2.trans (foldl_kept _ (fun t l => (State.graftFailed_kept t l).grows) _ _)
  exact .ite (fun _ => .refl s) fun _ => h3.trans ((State.writeMaps_kept _).trans (bootPhase_kept _ _))
@[simp] theorem State.setThreshold_kept (s : State) (n : Nat) : Kept s (s.setThreshold n) := .of_grows (by simp [State.setThreshold])
@[simp] theorem State.setPolicy_kept (s : State) (n : Nat) : Kept s (s.setPolicy n) := .of_grows (by simp [State.setPolicy])

end Sys2Proof.Machine
end

section
/-!
SUPPORT. The throttles keep E and the demands behind it in 1 to 16 (R231 to R233, R236, R238).
-/
namespace Sys2Proof.Machine

/-- E and the demands of a tile lie in 1 to 16. -/
def Tile.DemandsOk (t : Tile) : Prop :=
  1 ≤ t.turns ∧ t.turns ≤ 16 ∧ 1 ≤ t.seen ∧ t.seen ≤ 16 ∧ 1 ≤ t.thermal ∧ t.thermal ≤ 16 ∧ 1 ≤ t.droop ∧ t.droop ≤ 16
theorem turnsInRange_iff_tiles (s : State) :
    Safety.TurnsInRange s ↔ (∀ p, (s.tile p).DemandsOk) ∧ ∀ d, 1 ≤ (s.die d).budget ∧ (s.die d).budget ≤ 16 := .rfl

/-- A tile with its demands in range takes the place of one. -/
theorem State.setTile_bounds {s t : State} {p : Nat} {x : Tile} (h : KeepsBounds s t) (hx : Safety.TurnsInRange s → x.DemandsOk) :
    KeepsBounds s (t.setTile p x) := by
  refine ⟨fun hs => ?_, fun hs => h.quanta hs⟩
  obtain ⟨ht, hd⟩ := (turnsInRange_iff_tiles t).mp (h.turns hs)
  refine ⟨fun q => ?_, hd⟩
  by_cases hq : q = p
  · subst hq
    rw [State.tile_setTile]
    exact hx hs
  · rw [State.tile_setTile_other _ _ hq]
    exact ht q
theorem State.modTile_bounds (s : State) (p : Nat) (f : Tile → Tile) (hf : ∀ t : Tile, t.DemandsOk → (f t).DemandsOk) :
    KeepsBounds s (s.modTile p f) :=
  State.setTile_bounds (.refl s) fun hs => hf _ (((turnsInRange_iff_tiles s).mp hs).1 p)
/-- A die whose budget demand alone changes, within its range. -/
theorem State.modDie_bounds (s : State) (d : Nat) (f : Die → Die) (hp : ∀ x, (f x).power = x.power)
    (hf : 1 ≤ (s.die d).budget → (s.die d).budget ≤ 16 → 1 ≤ (f (s.die d)).budget ∧ (f (s.die d)).budget ≤ 16) : KeepsBounds s (s.modDie d f) := by
  refine ⟨fun ⟨ht, hd⟩ => ⟨ht, fun e => ?_⟩, fun hs => ?_⟩
  · by_cases he : e = d
    · subst he
      rw [State.die_modDie]
      exact hf (hd e).1 (hd e).2
    · rw [State.die_modDie_other _ _ he]
      exact hd e
  · have hpow : ∀ e, ((s.modDie d f).die e).power = (s.die e).power := fun e => by
      by_cases he : e = d
      · subst he; rw [State.die_modDie, hp]
      · rw [State.die_modDie_other _ _ he]
    simp only [Safety.QuantaInRange, hpow]
    exact hs

theorem thermalNext_range (t : Tile) (temp : Int) (threshold inlet now : Nat) (h1 : 1 ≤ t.thermal) (h2 : t.thermal ≤ 16) :
    1 ≤ thermalNext t temp threshold inlet now ∧ thermalNext t temp threshold inlet now ≤ 16 := by
  unfold thermalNext
  (repeat' split) <;> omega
theorem State.thermalStep_bounds (s : State) (pt : Nat) : KeepsBounds s (s.thermalStep pt) := by
  refine s.modTile_bounds pt _ fun t ht => ?_
  obtain ⟨h1, h2, h3, h4, h5, h6, h7, h8⟩ := ht
  obtain ⟨h, h'⟩ := thermalNext_range t t.temp.toInt s.threshold s.inlet s.refNs h5 h6
  exact ⟨h1, h2, h3, h4, h, h', h7, h8⟩
theorem execThermalThrottle_bounds (pt : Nat) (temp : BitVec 16) (s : State) : KeepsBounds s (outState (execThermalThrottle pt temp s) s) :=
  (s.modTile_bounds pt (fun t => { t with temp := temp }) fun _ ht => ht).trans (State.thermalStep_bounds _ pt)
theorem State.droopFallStep_bounds (s : State) (row : Nat) : KeepsBounds s (s.droopFallStep row) := by
  refine .ite (fun _ => .refl s) fun _ => (Kept.of_eq (s.modRow_pview row _)).bounds.trans (foldl_bounds _ (fun t pt => ?_) _ _)
  refine t.modTile_bounds pt _ fun y hy => ?_
  simp only [Tile.DemandsOk, droopFall] at hy ⊢
  omega
theorem execDroopRecovery_bounds (row : Nat) (s : State) : KeepsBounds s (outState (execDroopRecovery row s) s) := by
  have hfold : ∀ (l : List Nat) (t : State), KeepsBounds s t →
      KeepsBounds s (l.foldl (fun (t : State) pt => t.setTile pt { s.tile pt with droop := min 16 ((s.tile pt).droop + 1) }) t) := by
    intro l
    induction l with
    | nil => exact fun _ h => h
    | cons p r ih =>
      intro t h
      refine ih _ (State.setTile_bounds h fun hs => ?_)
      have hp := ((turnsInRange_iff_tiles s).mp hs).1 p
      simp only [Tile.DemandsOk] at hp ⊢
      omega
  exact .ite (fun _ => hfold _ _ (Kept.of_eq (s.modRow_pview row _)).bounds) fun _ => .refl s
theorem State.budgetStep_bounds (s : State) (die : Nat) : KeepsBounds s (s.budgetStep die) := by
  unfold State.budgetStep
  dsimp only
  refine .ite (fun _ => .refl s) fun _ => .ite (fun h => ?_) fun _ => .ite (fun h => ?_) fun _ => .refl s
  · refine s.modDie_bounds die _ (fun _ => rfl) fun _ _ => ?_
    dsimp only
    omega
  · refine s.modDie_bounds die _ (fun _ => rfl) fun _ _ => ?_
    dsimp only
    omega
theorem State.throttles_bounds (s : State) : KeepsBounds s s.throttles :=
  (foldl_bounds _ State.thermalStep_bounds _ s).trans (foldl_bounds _ State.budgetStep_bounds _ _)
theorem execTurnsChange_bounds (pt rise : Nat) (s : State) : KeepsBounds s (outState (execTurnsChange pt rise s) s) := by
  refine .ite (fun _ => State.setTile_bounds (.refl s) fun hs => ?_) fun _ => .ite (fun h => State.setTile_bounds (.refl s) fun hs => ?_) fun _ => .refl s
  · obtain ⟨_, _, h3, h4, hr⟩ := ((turnsInRange_iff_tiles s).mp hs).1 pt
    exact ⟨h3, h4, h3, h4, hr⟩
  · obtain ⟨h1, _, h3, h4, hr⟩ := ((turnsInRange_iff_tiles s).mp hs).1 pt
    simp only [Bool.and_eq_true, decide_eq_true_eq] at h
    exact ⟨Nat.le_add_left 1 _, by dsimp only; omega, h3, h4, hr⟩
/-- The demand that a cycle leaves a tile with is the smallest of three in range. -/
theorem State.noteDemand_bounds (s : State) (pt : Nat) : KeepsBounds s (s.noteDemand pt) := by
  refine State.setTile_bounds (.refl s) fun hs => ?_
  obtain ⟨ht, hd⟩ := (turnsInRange_iff_tiles s).mp hs
  have hp := ht pt
  have hb := hd (pt / 144)
  simp only [Tile.DemandsOk, State.turnDemand] at hp hb ⊢
  omega

end Sys2Proof.Machine
end

section
/-!
SUPPORT. Quanta are held by dies or carried by sidebands, and no event of theirs makes or loses any (R24, R234, R235).
-/
namespace Sys2Proof.Machine

theorem dieAt_lt {a b : Nat} {dir : Dir} (h : dieAt a dir = some b) (ha : a < 128) : b < 128 := by
  cases dir <;> simp only [dieAt] at h <;> split at h <;> cases h <;> omega

/-! ## What the sidebands carry -/

/-- What of a transfer its sideband carries. -/
def Transfer.aboard (x : Transfer) : Nat := if x.stage = 1 then 0 else x.q
theorem carried_cons (x : Transfer) (l : List Transfer) : carried (x :: l) = x.aboard + carried l := by
  by_cases h : x.stage = 1 <;> simp [carried, Transfer.aboard, h]
theorem carried_append (l m : List Transfer) : carried (l ++ m) = carried l + carried m := by
  simp [carried]
theorem carried_filter_absent {l : List Transfer} {i : Nat} (h : i ∉ l.map Transfer.id) : l.filter (fun x => x.id != i) = l :=
  List.filter_eq_self.mpr fun _ hx => bne_iff_ne.mpr fun e => h (e ▸ List.mem_map_of_mem hx)
/-- A transfer taken off the list takes off it what it carried. -/
theorem carried_drop {l : List Transfer} {x : Transfer} (hn : (l.map Transfer.id).Nodup) (hx : x ∈ l) :
    carried (l.filter (fun y => y.id != x.id)) + x.aboard = carried l := by
  induction l with
  | nil => cases hx
  | cons y r ih =>
    obtain ⟨hy, hr⟩ := List.nodup_cons.mp hn
    rcases List.mem_cons.mp hx with rfl | hx
    · rw [List.filter_cons_of_neg (by simp), carried_filter_absent hy, carried_cons]
      exact Nat.add_comm _ _
    · have hne : y.id ≠ x.id := fun e => hy (e ▸ List.mem_map_of_mem hx)
      rw [List.filter_cons_of_pos (by simpa using hne), carried_cons, carried_cons, ← ih hr hx, Nat.add_assoc]
/-- The list with a transfer at another stage. -/
def atStage (l : List Transfer) (i n : Nat) : List Transfer := l.map (fun x => if x.id == i then { x with stage := n } else x)
theorem atStage_absent {l : List Transfer} {i : Nat} (n : Nat) (h : i ∉ l.map Transfer.id) : atStage l i n = l := by
  refine (List.map_congr_left fun x hx => ?_).trans (List.map_id l)
  rw [if_neg]
  · rfl
  · exact fun e => h (beq_iff_eq.mp e ▸ List.mem_map_of_mem hx)
theorem atStage_ids (l : List Transfer) (i n : Nat) : (atStage l i n).map Transfer.id = l.map Transfer.id := by
  rw [atStage, List.map_map]
  refine List.map_congr_left fun x _ => ?_
  simp only [Function.comp_apply]
  split <;> rfl
theorem mem_atStage {l : List Transfer} {i n : Nat} {y : Transfer} (h : y ∈ atStage l i n) :
    ∃ x ∈ l, y.id = x.id ∧ y.src = x.src ∧ y.dir = x.dir := by
  obtain ⟨x, hx, rfl⟩ := List.mem_map.mp h
  refine ⟨x, hx, ?_⟩
  split <;> exact ⟨rfl, rfl, rfl⟩
theorem carried_atStage {l : List Transfer} {x : Transfer} (n : Nat) (hn : (l.map Transfer.id).Nodup) (hx : x ∈ l) :
    carried (atStage l x.id n) + x.aboard = carried l + ({ x with stage := n } : Transfer).aboard := by
  induction l with
  | nil => cases hx
  | cons y r ih =>
    obtain ⟨hy, hr⟩ := List.nodup_cons.mp hn
    rcases List.mem_cons.mp hx with rfl | hx
    · have h : atStage (x :: r) x.id n = { x with stage := n } :: atStage r x.id n := by simp [atStage]
      rw [h, atStage_absent n hy, carried_cons, carried_cons]
      omega
    · have hne : y.id ≠ x.id := fun e => hy (e ▸ List.mem_map_of_mem hx)
      have h : atStage (y :: r) x.id n = y :: atStage r x.id n := by simp [atStage, hne]
      have := ih hr hx
      rw [h, carried_cons, carried_cons]
      omega

/-! ## Quanta of the dies -/

/-- A sum in which one term changes. -/
theorem sum_range_changed {f g : Nat → Nat} (n : Nat) {d : Nat} (hd : d < n) (h : ∀ e, e ≠ d → g e = f e) :
    ((List.range n).map g).sum + f d = ((List.range n).map f).sum + g d := by
  induction n with
  | zero => omega
  | succ n ih =>
    simp only [List.range_succ, List.map_append, List.sum_append, List.map_cons, List.map_nil, List.sum_cons, List.sum_nil]
    by_cases hn : d = n
    · subst hn
      rw [List.map_congr_left fun e he => h e (Nat.ne_of_lt (List.mem_range.mp he))]
      omega
    · rw [h n (Ne.symm hn)]
      have := ih (by omega)
      omega

/-- The rules of the transfers' numbers and ends. -/
def TransfersOk (l : List Transfer) (ids : Nat) : Prop :=
  (l.map Transfer.id).Nodup ∧ ∀ x, x ∈ l → x.id < ids ∧ x.src < 128 ∧ dieAt x.src x.dir ≠ none
theorem TransfersOk.of_ids {l m : List Transfer} {i j : Nat} (h : TransfersOk l i) (hm : (m.map Transfer.id).Nodup)
    (hs : ∀ y ∈ m, ∃ x ∈ l, y.id = x.id ∧ y.src = x.src ∧ y.dir = x.dir) (hj : i ≤ j) : TransfersOk m j := by
  refine ⟨hm, fun y hy => ?_⟩
  obtain ⟨x, hx, h1, h2, h3⟩ := hs y hy
  obtain ⟨hi, hr⟩ := h.2 x hx
  exact ⟨h1 ▸ Nat.lt_of_lt_of_le hi hj, h2 ▸ h3 ▸ hr⟩
theorem TransfersOk.atStage {l : List Transfer} {i : Nat} (h : TransfersOk l i) (id n : Nat) : TransfersOk (atStage l id n) i :=
  h.of_ids (by rw [atStage_ids]; exact h.1) (fun _ hy => mem_atStage hy) (Nat.le_refl i)
theorem TransfersOk.filter {l : List Transfer} {i : Nat} (h : TransfersOk l i) (p : Transfer → Bool) : TransfersOk (l.filter p) i :=
  h.of_ids (h.1.sublist (List.filter_sublist.map _)) (fun y hy => ⟨y, (List.mem_filter.mp hy).1, rfl, rfl, rfl⟩) (Nat.le_refl i)

/-! ## The named updates -/

theorem State.power_modPower (s : State) (d : Nat) (f : Power → Power) : ((s.modPower d f).die d).power = f (s.die d).power := by
  simp [State.modPower]
theorem State.power_modPower_other (s : State) {d e : Nat} (f : Power → Power) (h : e ≠ d) : (s.modPower d f).die e = s.die e :=
  s.die_modDie_other _ h
theorem State.modPower_turns (s : State) (d : Nat) (f : Power → Power) (h : Safety.TurnsInRange s) : Safety.TurnsInRange (s.modPower d f) := by
  refine ⟨h.1, fun e => ?_⟩
  by_cases he : e = d
  · subst he
    have hb : ((s.modPower e f).die e).budget = (s.die e).budget := by simp [State.modPower]
    rw [hb]
    exact h.2 e
  · rw [State.power_modPower_other _ _ he]
    exact h.2 e

/-- A state whose dies are those of s with one die's registers of R235 replaced. -/
structure PowerStep (s t : State) (d : Nat) (f : Power → Power) : Prop where
  tiles : t.tiles = s.tiles
  dies  : t.dies = (s.modPower d f).dies
theorem PowerStep.die_eq {s t : State} {d : Nat} {f : Power → Power} (h : PowerStep s t d f) (e : Nat) : t.die e = (s.modPower d f).die e := by
  simp only [State.die, h.dies]
theorem PowerStep.turns {s t : State} {d : Nat} {f : Power → Power} (h : PowerStep s t d f) (hs : Safety.TurnsInRange s) : Safety.TurnsInRange t := by
  obtain ⟨h1, h2⟩ := s.modPower_turns d f hs
  refine ⟨fun p => ?_, fun e => h.die_eq e ▸ h2 e⟩
  rw [show t.tile p = s.tile p by simp only [State.tile, h.tiles]]
  exact h1 p
/-- Quanta move between the die and the sidebands. -/
theorem PowerStep.quanta {s t : State} {d : Nat} {f : Power → Power} (h : PowerStep s t d f) (hs : Safety.QuantaInRange s) (hd : d < 128)
    (hset : (f (s.die d).power).set ≤ (f (s.die d).power).held) (hheld : (f (s.die d).power).held ≤ 440)
    (hsum : (f (s.die d).power).held + carried t.transfers = (s.die d).power.held + carried s.transfers)
    (ht : TransfersOk t.transfers t.nextId) : Safety.QuantaInRange t := by
  obtain ⟨h1, h2, _⟩ := hs
  have hpow : (t.die d).power = f (s.die d).power := by rw [h.die_eq, State.power_modPower]
  have hother : ∀ e, e ≠ d → t.die e = s.die e := fun e he => by rw [h.die_eq, State.power_modPower_other _ _ he]
  refine ⟨fun e => ?_, ?_, ht⟩
  · by_cases he : e = d
    · rw [he, hpow]
      exact ⟨hset, hheld⟩
    · rw [hother e he]
      exact h1 e
  · have := sum_range_changed (f := fun e => (s.die e).power.held) (g := fun e => (t.die e).power.held) 128 hd
      fun e he => by simp only [hother e he]
    simp only [carried, hpow] at hsum this
    omega
theorem PowerStep.bounds {s t : State} {d : Nat} {f : Power → Power} (h : PowerStep s t d f)
    (hq : Safety.QuantaInRange s → d < 128 ∧ (f (s.die d).power).set ≤ (f (s.die d).power).held ∧ (f (s.die d).power).held ≤ 440 ∧
      (f (s.die d).power).held + carried t.transfers = (s.die d).power.held + carried s.transfers ∧ TransfersOk t.transfers t.nextId) :
    KeepsBounds s t := by
  refine ⟨h.turns, fun hs => ?_⟩
  obtain ⟨hd, hset, hheld, hsum, ht⟩ := hq hs
  exact h.quanta hs hd hset hheld hsum ht
/-- Transfers change, and the sidebands carry what they did. -/
theorem quanta_carried {s : State} {l : List Transfer} (hs : Safety.QuantaInRange s) (hsum : carried l = carried s.transfers)
    (ht : TransfersOk l s.nextId) : Safety.QuantaInRange { s with transfers := l } := by
  obtain ⟨h1, h2, _⟩ := hs
  refine ⟨h1, ?_, ht⟩
  simp only [carried] at hsum
  rw [hsum]
  exact h2

theorem State.transfer?_some {s : State} {id n : Nat} {t : Transfer} (h : s.transfer? id n = some t) :
    t ∈ s.transfers ∧ t.id = id ∧ t.stage = n := by
  have hp := List.find?_some h
  simp only [Bool.and_eq_true, beq_iff_eq] at hp
  exact ⟨List.mem_of_find?_eq_some h, hp⟩

/-! ## The events -/

theorem TransfersOk.send {l : List Transfer} {i : Nat} (h : TransfersOk l i) {x : Transfer} (hi : x.id = i) (hs : x.src < 128)
    (hd : dieAt x.src x.dir ≠ none) : TransfersOk (l ++ [x]) (i + 1) := by
  obtain ⟨hn, hl⟩ := h
  refine ⟨?_, fun y hy => ?_⟩
  · rw [List.map_append, List.nodup_append]
    refine ⟨hn, List.nodup_singleton _, fun a ha b hb => ?_⟩
    obtain ⟨y, hy, rfl⟩ := List.mem_map.mp ha
    rw [List.mem_singleton.mp hb, hi]
    exact Nat.ne_of_lt (hl y hy).1
  · rcases List.mem_append.mp hy with hy | hy
    · exact ⟨Nat.lt_succ_of_lt (hl y hy).1, (hl y hy).2⟩
    · rw [List.mem_singleton.mp hy, hi]
      exact ⟨Nat.lt_succ_self i, hs, hd⟩

/-- A die sends no more than it holds beside what it has set aside. -/
theorem mayQuanta_held {s : State} {die q kind : Nat} {dir : Dir} (h : s.mayQuanta die dir q kind = true)
    (hr : (s.die die).power.set ≤ (s.die die).power.held) :
    q ≤ (s.die die).power.held ∧
      (if kind = 2 then (s.die die).power.set - q else (s.die die).power.set) ≤ (s.die die).power.held - q := by
  simp only [State.mayQuanta, Bool.and_eq_true, decide_eq_true_eq] at h
  obtain ⟨_, hk⟩ := h
  split at hk
  · obtain ⟨hq, _⟩ := of_decide_eq_true hk
    simp only [Power.usable] at hq
    rw [if_neg (by decide)]
    omega
  · obtain ⟨hq, _⟩ := of_decide_eq_true hk
    simp only [Power.usable] at hq
    rw [if_neg (by decide)]
    omega
  · obtain ⟨hq, hq', _⟩ := of_decide_eq_true hk
    rw [if_pos rfl]
    omega
  · cases hk
theorem mayQuanta_link {s : State} {die q kind : Nat} {dir : Dir} (h : s.mayQuanta die dir q kind = true) :
    die < 128 ∧ dieAt die dir ≠ none := by
  simp only [State.mayQuanta, Bool.and_eq_true, decide_eq_true_eq] at h
  obtain ⟨⟨⟨⟨hd, hn⟩, _⟩, _⟩, _⟩ := h
  exact ⟨hd, fun e => by rw [e] at hn; cases hn⟩

theorem execQuantaSend_bounds (die : Nat) (dir : Dir) (q kind : Nat) (s : State) : KeepsBounds s (outState (execQuantaSend die dir q kind s) s) := by
  refine .ite (fun _ => .refl s) fun hm => ?_
  rw [Bool.not_eq_true', Bool.not_eq_false] at hm
  refine PowerStep.bounds (d := die)
    (f := fun p => { p with held := p.held - q, out := up dir q p.out, set := if kind = 2 then p.set - q else p.set }) ⟨rfl, rfl⟩ fun h => ?_
  obtain ⟨hd, hn⟩ := mayQuanta_link hm
  obtain ⟨h1, h2⟩ := h.1 die
  obtain ⟨hq, hr⟩ := mayQuanta_held hm h1
  refine ⟨hd, hr, by dsimp only; omega, ?_, TransfersOk.send h.2.2 rfl hd hn⟩
  have hone (i : Nat) : carried [{ id := i, src := die, dir := dir, q := q, kind := kind, stage := 0 }] = q := rfl
  rw [State.fresh_transfers, carried_append, hone]
  dsimp only [State.modPower, State.modDie_transfers]
  omega

/-! A transfer of the list at another stage, or taken off it -/

theorem State.setStage_quanta {s : State} {t : Transfer} (n : Nat) (h : Safety.QuantaInRange s) (ht : t ∈ s.transfers)
    (hn : t.aboard = ({ t with stage := n } : Transfer).aboard) : Safety.QuantaInRange (s.setStage t.id n) := by
  refine quanta_carried h ?_ (TransfersOk.atStage h.2.2 t.id n)
  have hc : carried (atStage s.transfers t.id n) + _ = _ := carried_atStage n h.2.2.1 ht
  rw [hn] at hc
  exact Nat.add_right_cancel hc
theorem State.dropTransfer_quanta {s : State} {t : Transfer} (h : Safety.QuantaInRange s) (ht : t ∈ s.transfers) (hst : t.stage = 1) :
    Safety.QuantaInRange (s.dropTransfer t.id) := by
  refine quanta_carried h ?_ (TransfersOk.filter h.2.2 _)
  have hc := carried_drop h.2.2.1 ht
  rw [show t.aboard = 0 from if_pos hst] at hc
  exact hc

theorem execQuantaReceipt_bounds (id : Nat) (s : State) : KeepsBounds s (outState (execQuantaReceipt id s) s) := by
  unfold execQuantaReceipt
  rw [outState_next]
  split
  · exact .refl s
  · next t ht =>
    obtain ⟨hmem, rfl, hst⟩ := State.transfer?_some ht
    have ha : t.aboard = t.q := by simp [Transfer.aboard, hst]
    split
    · exact .refl s
    · next b hb =>
      refine .ite (fun _ => ⟨fun h => h, fun h => State.setStage_quanta 2 h hmem ha⟩) fun hq => ?_
      refine PowerStep.bounds (d := b) (f := fun p => { p with held := p.held + t.q }) ⟨rfl, rfl⟩ fun h => ?_
      have hc := carried_atStage 1 h.2.2.1 hmem
      have hz : ({ t with stage := 1 } : Transfer).aboard = 0 := rfl
      refine ⟨dieAt_lt hb (h.2.2.2 t hmem).2.1, Nat.le_add_right_of_le (h.1 b).1, Nat.le_of_not_lt hq, ?_, TransfersOk.atStage h.2.2 t.id 1⟩
      show (s.die b).power.held + t.q + carried (atStage s.transfers t.id 1) = _
      omega
theorem execQuantaRecall_bounds (die : Nat) (dir : Dir) (q : Nat) (s : State) : KeepsBounds s (outState (execQuantaRecall die dir q s) s) := by
  unfold execQuantaRecall
  rw [outState_next]
  split
  · exact .refl s
  · next b hb =>
    refine .ite (fun _ => .refl s) fun hq => ?_
    obtain ⟨_, hset, hdie⟩ := not_or.mp hq |>.imp_right not_or.mp
    exact PowerStep.bounds (d := b) (f := fun p => { p with set := p.set + q, recalled := up (backDir dir) q p.recalled }) ⟨rfl, rfl⟩ fun h =>
      ⟨dieAt_lt hb (Nat.lt_of_not_le hdie), Nat.le_of_not_lt hset, (h.1 b).2, rfl, h.2.2⟩

/-! A transfer settled, and one given back -/

@[simp] theorem State.modPower_pview (s : State) (d : Nat) (f : Power → Power) (hf : ∀ p, (f p).held = p.held ∧ (f p).set = p.set) :
    (s.modPower d f).pview = s.pview :=
  s.modDie_pview d _ fun x => ⟨rfl, hf x.power⟩
/-- A transfer that was taken is settled: it leaves the list, and no die holds more or less. -/
theorem State.settle_kept (s : State) (t : Transfer) : ∃ u, Kept s u ∧ s.settle t = u.dropTransfer t.id := by
  refine ⟨_, ?_, rfl⟩
  split <;> exact .of_eq (by simp)
theorem State.giveBack_cases (s : State) (t : Transfer) : s.giveBack t = s.setStage t.id 2 ∨
    (s.die t.src).power.held + t.q ≤ 440 ∧ (s.giveBack t).transfers = s.transfers.filter (fun x => x.id != t.id) ∧
      (s.giveBack t).nextId = s.nextId ∧ PowerStep s (s.giveBack t) t.src
      (fun p => { p with held := p.held + t.q, out := down t.dir t.q p.out, set := if t.kind = 2 then p.set + t.q else p.set }) := by
  unfold State.giveBack
  split
  · exact .inl rfl
  · next h => exact .inr ⟨Nat.le_of_not_lt h, rfl, rfl, rfl, rfl⟩
theorem State.giveBack_quanta {s : State} {t : Transfer} (h : Safety.QuantaInRange s) (ht : t ∈ s.transfers) (hst : t.stage ≠ 1) :
    Safety.QuantaInRange (s.giveBack t) := by
  have ha : t.aboard = t.q := if_neg hst
  rcases s.giveBack_cases t with he | ⟨hq, htr, hid, hp⟩
  · rw [he]
    exact State.setStage_quanta 2 h ht ha
  · have hc := carried_drop h.2.2.1 ht
    obtain ⟨h1, h2⟩ := h.1 t.src
    refine hp.quanta h (h.2.2.2 t ht).2.1 ?_ hq ?_ ?_
    · dsimp only
      split <;> omega
    · rw [htr]
      dsimp only
      omega
    · rw [htr, hid]
      exact TransfersOk.filter h.2.2 _
/-- The end of a transfer: it is settled where it was taken, else given back. -/
def State.endTransfer (s : State) (t : Transfer) : State := if t.stage = 1 then s.settle t else s.giveBack t
theorem State.endTransfer_turns (s : State) (t : Transfer) (h : Safety.TurnsInRange s) : Safety.TurnsInRange (s.endTransfer t) := by
  unfold State.endTransfer
  split
  · obtain ⟨u, hu, he⟩ := s.settle_kept t
    rw [he]
    exact hu.bounds.turns h
  · rcases s.giveBack_cases t with he | ⟨_, _, _, hp⟩
    · rw [he]
      exact h
    · exact hp.turns h
theorem State.endTransfer_quanta {s : State} {t : Transfer} (h : Safety.QuantaInRange s) (ht : t ∈ s.transfers) :
    Safety.QuantaInRange (s.endTransfer t) := by
  unfold State.endTransfer
  split
  · next hst =>
    obtain ⟨u, hu, he⟩ := s.settle_kept t
    rw [he]
    exact State.dropTransfer_quanta (hu.bounds.quanta h) (hu.transfers_eq ▸ ht) hst
  · next hst => exact State.giveBack_quanta h ht hst
/-- Transfers of other numbers stay. -/
theorem State.mem_endTransfer {s : State} {t x : Transfer} (hx : x ∈ s.transfers) (hne : x.id ≠ t.id) : x ∈ (s.endTransfer t).transfers := by
  unfold State.endTransfer
  split
  · obtain ⟨u, hu, he⟩ := s.settle_kept t
    rw [he]
    exact List.mem_filter.mpr ⟨hu.transfers_eq ▸ hx, bne_iff_ne.mpr hne⟩
  · rcases s.giveBack_cases t with he | ⟨_, htr, _⟩
    · rw [he]
      exact List.mem_map.mpr ⟨x, hx, if_neg (by simpa using hne)⟩
    · rw [htr]
      exact List.mem_filter.mpr ⟨hx, bne_iff_ne.mpr hne⟩
theorem execQuantaAck_bounds (id : Nat) (s : State) : KeepsBounds s (outState (execQuantaAck id s) s) := by
  unfold execQuantaAck
  rw [outState_next]
  split
  · exact .refl s
  · next t ht =>
    obtain ⟨hmem, _, hst⟩ := State.transfer?_some ht
    rw [show s.settle t = s.endTransfer t from (if_pos hst).symm]
    exact ⟨s.endTransfer_turns t, fun h => State.endTransfer_quanta h hmem⟩
theorem execQuantaReturn_bounds (id : Nat) (s : State) : KeepsBounds s (outState (execQuantaReturn id s) s) := by
  unfold execQuantaReturn
  rw [outState_next]
  split
  · exact .refl s
  · next t ht =>
    obtain ⟨hmem, _, hst⟩ := State.transfer?_some ht
    rw [show s.giveBack t = s.endTransfer t from (if_neg (by omega)).symm]
    exact ⟨s.endTransfer_turns t, fun h => State.endTransfer_quanta h hmem⟩

/-! A sideband fails: every transfer on it ends -/

theorem endTransfers_turns (l : List Transfer) : ∀ s : State, Safety.TurnsInRange s → Safety.TurnsInRange (l.foldl State.endTransfer s) := by
  induction l with
  | nil => exact fun _ h => h
  | cons t r ih => exact fun s h => ih _ (s.endTransfer_turns t h)
theorem endTransfers_quanta (l : List Transfer) : ∀ s : State, Safety.QuantaInRange s → (l.map Transfer.id).Nodup →
    (∀ t ∈ l, t ∈ s.transfers) → Safety.QuantaInRange (l.foldl State.endTransfer s) := by
  induction l with
  | nil => exact fun _ h _ _ => h
  | cons t r ih =>
    intro s h hn hm
    obtain ⟨ht, hr⟩ := List.nodup_cons.mp hn
    refine ih _ (State.endTransfer_quanta h (hm t List.mem_cons_self)) hr fun x hx => ?_
    exact State.mem_endTransfer (hm x (List.mem_cons_of_mem _ hx)) fun e => ht (e ▸ List.mem_map_of_mem hx)
theorem execSidebandFailure_bounds (die : Nat) (dir : Dir) (s : State) : KeepsBounds s (outState (execSidebandFailure die dir s) s) := by
  refine .ite (fun _ => .refl s) fun _ => KeepsBounds.trans (t := (s.onSide die dir).foldl State.endTransfer s) ?_ (State.markSide_kept _ _ _ _).bounds
  refine ⟨endTransfers_turns _ s, fun h => endTransfers_quanta _ s h ?_ fun _ ht => (List.mem_filter.mp ht).1⟩
  exact h.2.2.1.sublist (List.filter_sublist.map _)

/-! ## The restart -/

theorem State.restart_power (s : State) (d : Nat) : (s.restart.die d).power = {} ∧ (s.restart.die d).budget = 16 := by
  have h (l : SMap Die) : ∀ m : SMap Die, m = l.map (fun e => (e.1, { fuse := e.2.fuse })) →
      (SMap.get m d {}).power = {} ∧ (SMap.get m d {}).budget = 16 := by
    induction l with
    | nil => rintro _ rfl; exact ⟨rfl, rfl⟩
    | cons e r ih =>
      rintro _ rfl
      simp only [List.map_cons, SMap.get]
      split
      · exact ⟨rfl, rfl⟩
      · exact ih _ rfl
  exact h _ _ rfl
theorem Tile.demandsOk_new : ({} : Tile).DemandsOk := by
  unfold Tile.DemandsOk
  decide
/-- A panel that restarts is in range, whatever it was. -/
theorem State.restart_bounds (s t : State) : KeepsBounds s t.restart := by
  have hd : ∀ d, (t.restart.die d).power = {} ∧ (t.restart.die d).budget = 16 := t.restart_power
  refine ⟨fun _ => ⟨fun p => ?_, fun d => ?_⟩, fun _ => ⟨fun d => ?_, ?_, List.nodup_nil, fun _ hx => nomatch hx⟩⟩
  · exact Tile.demandsOk_new
  · rw [(hd d).2]
    decide
  · rw [(hd d).1]
    decide
  · simp only [hd]
    exact (by decide +kernel : ((List.range 128).map fun _ => 360).sum + 0 = 46080)
theorem flash_kept (t : State) (i : FwImage) : Kept t { t with flash := i } := .of_eq rfl

end Sys2Proof.Machine
end

section
namespace Sys2Proof.Machine

theorem exec_bounds (i : Instr) (s : State) : KeepsBounds s (outState (exec i s) s) := by
  cases i with
  | add d a b => exact .of_eq rfl
  | sub d a b => exact .of_eq rfl
  | addp d a b => exact (execAddp_kept d a b s).bounds
  | mul d a b => exact .of_eq rfl
  | mulhu d a b => exact .of_eq rfl
  | mulhs d a b => exact .of_eq rfl
  | divu d a b => exact .of_eq rfl
  | divs d a b => exact .of_eq rfl
  | remu d a b => exact .of_eq rfl
  | rems d a b => exact .of_eq rfl
  | and d a b => exact .of_eq rfl
  | or d a b => exact .of_eq rfl
  | xor d a b => exact .of_eq rfl
  | andn d a b => exact .of_eq rfl
  | shl d a b => exact .of_eq rfl
  | shr d a b => exact .of_eq rfl
  | sha d a b => exact .of_eq rfl
  | rotl d a b => exact .of_eq rfl
  | clz d a => exact .of_eq rfl
  | ctz d a => exact .of_eq rfl
  | popc d a => exact .of_eq rfl
  | mins d a b => exact .of_eq rfl
  | minu d a b => exact .of_eq rfl
  | maxs d a b => exact .of_eq rfl
  | maxu d a b => exact .of_eq rfl
  | slt d a b => exact .of_eq rfl
  | sltu d a b => exact .of_eq rfl
  | seq d a b => exact .of_eq rfl
  | mad d a b c => exact .of_eq rfl
  | sel d a b c => exact .of_eq rfl
  | bfx d a p n => exact .of_eq rfl
  | bfi d a p n => exact .of_eq rfl
  | lil d i0 => exact .of_eq rfl
  | lih d h i0 => exact .of_eq rfl
  | tld t c g => exact (execTld_kept t c g s).bounds
  | tst t c g => exact (execTst_kept t c g s).bounds
  | tldv v c g => exact (execTldv_kept v c g s).bounds
  | tstv v c g => exact (execTstv_kept v c g s).bounds
  | addi d a i0 => exact .of_eq rfl
  | andi d a i0 => exact .of_eq rfl
  | ori d a i0 => exact .of_eq rfl
  | xori d a i0 => exact .of_eq rfl
  | shli d a n => exact .of_eq rfl
  | shri d a n => exact .of_eq rfl
  | shai d a n => exact .of_eq rfl
  | slti d a i0 => exact .of_eq rfl
  | b c a b o => exact .of_grows (by simp [exec, execB])
  | bz a o => exact .of_grows (by simp [exec, execBz])
  | bnz a o => exact .of_grows (by simp [exec, execBnz])
  | loop a o => exact .of_grows (by simp [exec, execLoop])
  | jmp o => exact .of_eq rfl
  | jal o => exact .of_eq rfl
  | nop => exact .of_eq rfl
  | pend => exact .of_grows (by simp [exec, execPend])
  | eret => exact (execEret_kept s).bounds
  | halt => exact .of_grows (by simp [exec, execHalt])
  | trap c => exact .of_grows (by simp [exec, execTrap])
  | bkpt c => exact (execBkpt_kept c s).bounds
  | jr a => exact (execJr_kept a s).bounds
  | jalr d a => exact (execJalr_kept d a s).bounds
  | spawn d a => exact (execSpawn_kept d a s).bounds
  | take d a => exact (execTake_kept d a s).bounds
  | tdone a => exact (execTdone_kept a s).bounds
  | rtset d a b => exact (execRtset_kept d a b s).bounds
  | rtclr a => exact (execRtclr_kept a s).bounds
  | segld g a => exact (execSegld_kept g a s).bounds
  | segst g a => exact (execSegst_kept g a s).bounds
  | gbind g a => exact (execGbind_kept g a s).bounds
  | gstep g a => exact (execGstep_kept g a s).bounds
  | gqry d g b => exact (execGqry_kept d g b s).bounds
  | tmap d a g => exact (execTmap_kept d a g s).bounds
  | tqry d a => exact .of_eq rfl
  | evack a => exact (execEvack_kept a s).bounds
  | evict d a => exact (execEvict_kept d a s).bounds
  | resume d a => exact (execResume_kept d a s).bounds
  | ctxsv a b => exact (execCtxsv_kept a b s).bounds
  | ctxld a b => exact (execCtxld_kept a b s).bounds
  | scopew a b => exact (execScopew_kept a b s).bounds
  | buntw a b => exact (execBuntw_kept a b s).bounds
  | plotw a b => exact (execPlotw_kept a b s).bounds
  | pclr a => exact (execPclr_kept a s).bounds
  | ld t b w x d => exact .of_grows (by simp [exec, execLd])
  | ldIndex t b x w s0 d => exact .of_grows (by simp [exec, execLdIndex])
  | ldAcq t b w x g => exact .of_grows (by simp [exec, execLdAcq])
  | st t b w d => exact .of_grows (by simp [exec, execSt])
  | stIndex t b x w d => exact .of_grows (by simp [exec, execStIndex])
  | stRel t b w g => exact .of_grows (by simp [exec, execStRel])
  | pfx b x d => exact (execPfx_kept b x d s).bounds
  | fill d v n w c e => exact (execFill_kept d v n w c e s).bounds
  | ldv v b x d => exact .of_grows (by simp [exec, execLdv])
  | stv v b x d => exact .of_grows (by simp [exec, execStv])
  | ldvs v b s0 w => exact .of_grows (by simp [exec, execLdvs])
  | stvs v b s0 w => exact .of_grows (by simp [exec, execStvs])
  | ldvx v b i0 w => exact .of_grows (by simp [exec, execLdvx])
  | stvx v b i0 w => exact .of_grows (by simp [exec, execStvx])
  | vldf t b r s0 f => exact (execVldf_kept t b r s0 f s).bounds
  | vldfScales t b r s0 => exact (execVldfScales_kept t b r s0 s).bounds
  | vstf t b r s0 f => exact (State.access_kept s _ _ fun l => by simp).bounds
  | vstfScales t b r s0 => exact (State.access_kept s _ _ fun l => by simp).bounds
  | aadd d b v y o g => exact .of_grows (by simp [exec, execAadd])
  | amin d b v y o g => exact .of_grows (by simp [exec, execAmin])
  | amax d b v y o g => exact .of_grows (by simp [exec, execAmax])
  | afmax d b v y o g => exact .of_grows (by simp [exec, execAfmax])
  | aand d b v y o g => exact .of_grows (by simp [exec, execAand])
  | aor d b v y o g => exact .of_grows (by simp [exec, execAor])
  | axor d b v y o g => exact .of_grows (by simp [exec, execAxor])
  | aswp d b v y o g => exact .of_grows (by simp [exec, execAswp])
  | acas d b v y o g => exact .of_grows (by simp [exec, execAcas])
  | fence o g s0 => exact (execFence_kept o g s0 s).bounds
  | wait a b c d => exact .of_grows (by simp [exec, execWait])
  | cpy d a n p e => exact .of_grows (by simp [exec, execCpy])
  | cpys d a n p e => exact .of_grows (by simp [exec, execCpys])
  | send a v r o p e => exact (execSend_kept a v r o p e s).bounds
  | sysr d n => exact .of_eq rfl
  | sysw a n => exact (execSysw_kept a n s).bounds
  | syswPer a => exact (execSyswPer_kept a s).bounds
  | syswPph a => exact (execSyswPph_kept a s).bounds
  | syswFcsr a => exact .of_eq rfl
  | pwr x v t o g => exact (execPwr_kept x v t o g s).bounds
  | prd x e f t o g => exact .of_grows (by simp [exec, execPrd])
  | psame x e f t o g => exact .of_grows (by simp [exec, execPsame])
  | padd x e f t o g => exact (execPadd_kept x e f t o g s).bounds
  | pmc b v o g => exact (execPmc_kept b v o g s).bounds
  | pstamp x e t o g => exact .of_grows (by simp [exec, execPstamp])
  | gld d c s0 g k => exact .of_grows (by simp [exec, execGld])
  | gst d c g => exact (execGst_kept d c g s).bounds
  | gldv v c s0 g k => exact .of_grows (by simp [exec, execGldv])
  | vadd d a b w m => exact .of_grows (by simp [exec, execVadd])
  | vsub d a b w m => exact .of_grows (by simp [exec, execVsub])
  | vmul d a b w m => exact .of_grows (by simp [exec, execVmul])
  | vmulhSigned d a b w m => exact .of_grows (by simp [exec, execVmulhSigned])
  | vmulhUnsigned d a b w m => exact .of_grows (by simp [exec, execVmulhUnsigned])
  | vmad d a b w m => exact .of_grows (by simp [exec, execVmad])
  | vand d a b w m => exact .of_grows (by simp [exec, execVand])
  | vor d a b w m => exact .of_grows (by simp [exec, execVor])
  | vxor d a b w m => exact .of_grows (by simp [exec, execVxor])
  | vshl d a b w m => exact .of_grows (by simp [exec, execVshl])
  | vshr d a b w m => exact .of_grows (by simp [exec, execVshr])
  | vsha d a b w m => exact .of_grows (by simp [exec, execVsha])
  | vminSigned d a b w m => exact .of_grows (by simp [exec, execVminSigned])
  | vminUnsigned d a b w m => exact .of_grows (by simp [exec, execVminUnsigned])
  | vmaxSigned d a b w m => exact .of_grows (by simp [exec, execVmaxSigned])
  | vmaxUnsigned d a b w m => exact .of_grows (by simp [exec, execVmaxUnsigned])
  | vcmp k a b c w => exact .of_eq rfl
  | vsel d a k w => exact .of_grows (by simp [exec, execVsel])
  | vmov d a m => exact .of_grows (by simp [exec, execVmov])
  | vabs d a w m => exact .of_grows (by simp [exec, execVabs])
  | vfsqrt d a w m => exact .of_grows (by simp [exec, execVfsqrt])
  | vfrcp d a w m => exact .of_grows (by simp [exec, execVfrcp])
  | vfrsq d a w m => exact .of_grows (by simp [exec, execVfrsq])
  | vfclass d a w m => exact .of_grows (by simp [exec, execVfclass])
  | viota d w m => exact .of_grows (by simp [exec, execViota])
  | vperm d a b w m => exact .of_grows (by simp [exec, execVperm])
  | vrot d a n w m => exact .of_grows (by simp [exec, execVrot])
  | vbcast d s0 w m => exact .of_grows (by simp [exec, execVbcast])
  | vext d a n w x => exact .of_eq rfl
  | vins d s0 n w => exact .of_grows (by simp [exec, execVins])
  | vred d a o x w m => exact .of_eq rfl
  | vfred d a o w m => exact .of_eq rfl
  | vcompress d a k w => exact .of_grows (by simp [exec, execVcompress])
  | kand d a b => exact .of_eq rfl
  | kor d a b => exact .of_eq rfl
  | kxor d a b => exact .of_eq rfl
  | knot d a => exact .of_eq rfl
  | kpop a d => exact .of_eq rfl
  | vpack d a b w s0 => exact .of_grows (by simp [exec, execVpack])
  | vunpack d a h w x => exact .of_grows (by simp [exec, execVunpack])
  | vscale d a q w r s0 => exact .of_grows (by simp [exec, execVscale])
  | vfadd d a b w m => exact .of_grows (by simp [exec, execVfadd])
  | vfsub d a b w m => exact .of_grows (by simp [exec, execVfsub])
  | vfmul d a b w m => exact .of_grows (by simp [exec, execVfmul])
  | vfma d a b w m => exact .of_grows (by simp [exec, execVfma])
  | vfms d a b w m => exact .of_grows (by simp [exec, execVfms])
  | vfnma d a b w m => exact .of_grows (by simp [exec, execVfnma])
  | vfdiv d a b w m => exact .of_grows (by simp [exec, execVfdiv])
  | vfmin d a b w m => exact .of_grows (by simp [exec, execVfmin])
  | vfmax d a b w m => exact .of_grows (by simp [exec, execVfmax])
  | vfcmp k a b c w => exact .of_eq rfl
  | vfsgn d a b w m => exact .of_grows (by simp [exec, execVfsgn])
  | vcvt d a i0 x r s0 => exact .of_grows (by simp [exec, execVcvt])
  | vcvti d a f t r s0 => exact .of_grows (by simp [exec, execVcvti])
  | vcvtf d a f t r s0 => exact .of_grows (by simp [exec, execVcvtf])
  | fadd d a b f r => exact .of_eq rfl
  | fsub d a b f r => exact .of_eq rfl
  | fmul d a b f r => exact .of_eq rfl
  | fma d a b f r => exact .of_eq rfl
  | fdiv d a b f r => exact .of_eq rfl
  | fsqrt d a f r => exact .of_eq rfl
  | fmin d a b f => exact .of_eq rfl
  | fmax d a b f => exact .of_eq rfl
  | fclass d a f => exact .of_eq rfl
  | fcmp d a b f c => exact .of_eq rfl
  | fcvt d a t s0 r x => exact .of_eq rfl
  | modeM f v => exact (execModeM_kept f v s).bounds
  | modeV => exact (execModeV_kept s).bounds
  | mop a b c d f => exact .of_grows (by simp [exec, execMop])
  | mopn a b c d f => exact .of_grows (by simp [exec, execMopn])
  | mdrain d m g f => exact (execMdrain_kept d m g f s).bounds
  | mdrainReg m g f v => exact (execMdrainReg_kept m g f v s).bounds
  | mscale a r => exact (execMscale_kept a r s).bounds
  | mzero => exact (execMzero_kept s).bounds
  | mtrn => exact (execMtrn_kept s).bounds
  | mqry d => exact .of_eq rfl
  | regionAdmission rcb img => exact (execRegionAdmission_kept rcb img s).bounds
  | strandStart pt slot => exact (execStrandStart_kept pt slot s).bounds
  | boundaryWake pt slot => exact (execBoundaryWake_kept pt slot s).bounds
  | waitRelease pt slot => exact (execWaitRelease_kept pt slot s).bounds
  | fenceRelease pt slot => exact (execFenceRelease_kept pt slot s).bounds
  | haltComplete pt slot => exact (execHaltComplete_kept pt slot s).bounds
  | regionEnd rcb => exact (execRegionEnd_kept rcb s).bounds
  | quiescenceEvent rcb => exact (execQuiescenceEvent_kept rcb s).bounds
  | priorityPreemption pt slot rcb => exact (execPriorityPreemption_kept pt slot rcb s).bounds
  | stealRound die rcb => exact (execStealRound_kept die rcb s).bounds
  | stealGrant id => exact (execStealGrant_kept id s).bounds
  | stealReceipt id => exact (execStealReceipt_kept id s).bounds
  | partDepart pid => exact (execPartDepart_kept pid s).bounds
  | partCarry pid => exact (execPartCarry_kept pid s).bounds
  | partPerform pid => exact (execPartPerform_kept pid s).bounds
  | operationComplete oid bad => exact (execOperationComplete_kept oid bad s).bounds
  | deposit pt => exact (execDeposit_kept pt s).bounds
  | pwrRelEntry oid => exact (execPwrRelEntry_kept oid s).bounds
  | tileOpApply pt slot => exact .of_grows (by simp [exec, execTileOpApply])
  | mdrainApply pt slot => exact .of_grows (by simp [exec, execMdrainApply])
  | copyComplete oid => exact (execCopyComplete_kept oid s).bounds
  | sendComplete oid => exact (execSendComplete_kept oid s).bounds
  | gstepProcess oid => exact (execGstepProcess_kept oid s).bounds
  | gridPieceDeposit id => exact (execGridPieceDeposit_kept id s).bounds
  | mirrorCopy id => exact (execMirrorCopy_kept id s).bounds
  | pageWalk pid => exact (execPageWalk_kept pid s).bounds
  | translationDrop pt i0 => exact (execTranslationDrop_kept pt i0 s).bounds
  | plotCacheFill pt rcb x => exact (execPlotCacheFill_kept pt rcb x s).bounds
  | plotCacheDrop pt i0 => exact (execPlotCacheDrop_kept pt i0 s).bounds
  | logMerge pt => exact (execLogMerge_kept pt s).bounds
  | harvest pt => exact (execHarvest_kept pt s).bounds
  | flush pt => exact (execFlush_kept pt s).bounds
  | requestComplete pt => exact (execRequestComplete_kept pt s).bounds
  | eventDeposit pt => exact (execEventDeposit_kept pt s).bounds
  | evictComplete pt slot => exact (execEvictComplete_kept pt slot s).bounds
  | ctxsvComplete oid => exact (execCtxsvComplete_kept oid s).bounds
  | ctxldComplete oid => exact (execCtxldComplete_kept oid s).bounds
  | crossPanelReply pt tag gen refused value count bytes => exact (execCrossPanelReply_kept pt tag gen refused value count bytes s).bounds
  | requestTimeout pt tag => exact (execRequestTimeout_kept pt tag s).bounds
  | remoteRequest target op => exact (execRemoteRequest_kept target op s).bounds
  | hostWrite target bytes => exact (execHostWrite_kept target bytes s).bounds
  | pacingGrant src dst n => exact (execPacingGrant_kept src dst n s).bounds
  | driftAlarm pt => exact (execDriftAlarm_kept pt s).bounds
  | thermalThrottle pt temp => exact execThermalThrottle_bounds pt temp s
  | droopDetect row => exact (execDroopDetect_kept row s).bounds
  | droopRecovery row => exact execDroopRecovery_bounds row s
  | budgetThrottle die => exact s.budgetStep_bounds die
  | turnsChange pt rise => exact execTurnsChange_bounds pt rise s
  | drawRefresh die draw => exact (execDrawRefresh_kept die draw s).bounds
  | statusBlockRefresh die => exact .of_grows (by simp [exec, execStatusBlockRefresh])
  | quantaSend die dir q kind => exact execQuantaSend_bounds die dir q kind s
  | quantaReceipt id => exact execQuantaReceipt_bounds id s
  | quantaAck id => exact execQuantaAck_bounds id s
  | quantaReturn id => exact execQuantaReturn_bounds id s
  | quantaRecall die dir q => exact execQuantaRecall_bounds die dir q s
  | sidebandFailure die dir => exact execSidebandFailure_bounds die dir s
  | correctedError die u => exact (s.corrected_kept die u).bounds
  | selfTestResult die u pass dead => exact execSelfTestResult_bounds die u pass dead s
  | spareCopyEnd die g => exact (execSpareCopyEnd_kept die g s).bounds
  | flitTagFailure die link => exact (s.corrected_kept die _).bounds
  | panelReset => exact State.restart_bounds s s
  | powerRegionEnergise => exact (execPowerRegionEnergise_kept s).bounds
  | imageCheck die => exact (execImageCheck_kept die s).bounds
  | recoveryImage img => exact .ite (fun _ => .refl s) fun _ => (State.restart_bounds s s).trans (flash_kept _ _).bounds
  | linkAuthentication die dir ok key => exact (execLinkAuthentication_kept die dir ok key s).bounds
  | getMeasurements die => exact (execGetMeasurements_kept die s).bounds
  | inletOvertemp temp => exact .ite (fun _ => State.restart_bounds s _) fun _ => KeepsBounds.of_eq rfl
  | localWriteApply pt => exact (execLocalWriteApply_kept pt s).bounds
  | driftChange pt d => exact (execDriftChange_kept pt d s).bounds
  | sidebandRestore die dir => exact .of_grows (by simp [exec, execSidebandRestore])
  | faultDomainTakedown rcb => exact (execFaultDomainTakedown_kept rcb s).bounds
  | regionRollback rcb => exact (execRegionRollback_kept rcb s).bounds
  | turnTableChange die tts => exact (execTurnTableChange_kept die tts s).bounds
  | dccRestart die => exact .refl s

end Sys2Proof.Machine
end

section
/-!
SUPPORT. A step of the panel keeps the bounds: one issue, the passing of a cycle, and the order of steps.
-/
namespace Sys2Proof.Machine

/-- Whatever state an outcome goes on with meets the bounds that s meets. -/
def OutBounds (s : State) (o : Out) : Prop := ∀ t, o = .next t → KeepsBounds s t
theorem OutBounds.next {s t : State} (h : KeepsBounds s t) : OutBounds s (.next t) := by
  rintro _ ⟨⟩
  exact h
theorem OutBounds.after {s t : State} {o : Out} (h : KeepsBounds s t) (g : OutBounds t o) : OutBounds s o :=
  fun u hu => h.trans (g u hu)
theorem OutBounds.ite {P : Prop} [Decidable P] {s : State} {a b : Out} (h : P → OutBounds s a) (g : ¬P → OutBounds s b) :
    OutBounds s (if P then a else b) := by
  split
  · exact h ‹_›
  · exact g ‹_›
theorem OutBounds.refl (s : State) : OutBounds s (.next s) := .next (.refl s)
theorem OutBounds.of_iss {s : State} {i : Issue} {o : Out} (h : OutBounds { s with iss := i } o) : OutBounds s o :=
  .after (t := { s with iss := i }) (.of_eq rfl) h
theorem exec_out (i : Instr) (s : State) : OutBounds s (exec i s) := fun t h => by
  have hb := exec_bounds i s
  rw [h] at hb
  exact hb

/-! ## Issue -/

theorem State.runWord_out (s : State) (i : Instr) : OutBounds s (s.runWord i) := by
  unfold State.runWord
  split
  · exact exec_out i s
  · exact .ite (fun _ => .next (.of_grows (by simp))) fun _ => exec_out i s
theorem State.loneWord_out (s : State) (w : IWord) : OutBounds s (s.loneWord w) := by
  unfold State.loneWord
  split
  · exact .next (.of_grows (by simp))
  · exact .ite (fun _ => .next (.of_grows (by simp))) fun _ => s.runWord_out _
theorem State.completeAll_bounds (l : List Nat) (s : State) : KeepsBounds s (s.completeAll l) := by
  induction l generalizing s with
  | nil => exact .refl s
  | cons o r ih => exact (exec_bounds (.operationComplete o none) s).trans (ih _)
theorem State.atWord_bounds (s : State) (i : Issue) (early : List Nat) : KeepsBounds s (s.atWord i early) := by
  unfold State.atWord
  exact .ite (fun _ => .of_eq rfl) fun _ => (s.completeAll_bounds early).trans (.of_eq rfl)
theorem State.commit_out (s : State) (x : Strand) (i j : Instr) : OutBounds s (s.commit x i j) := by
  unfold State.commit
  split
  · next t h => exact .after (exec_out i s t h) (.of_iss (exec_out j _))
  · exact exec_out i s
theorem State.pairWords_out (s : State) (i j : Instr) : OutBounds s (s.pairWords i j) := by
  unfold State.pairWords
  dsimp only
  have hi := s.runWord_out i
  have hj := s.runWord_out j
  split
  · next t u ht hu =>
    refine .ite (fun _ => .next (.of_eq rfl)) fun _ => .ite (fun _ => .next (hj u hu)) fun _ => ?_
    split
    · split
      · next v hv => exact .ite (fun _ => .next (hi t ht)) fun _ => .next (s.commit_out _ _ _ v hv)
      · exact s.commit_out _ _ _
    · exact .ite (fun _ => .next (hi t ht)) fun _ => s.commit_out _ _ _
  · exact hj
  · exact hi
theorem State.pair_out (s : State) (w0 w1 : IWord) : OutBounds s (s.pair w0 w1) := by
  unfold State.pair
  refine .ite (fun _ => .next (.of_grows (by simp))) fun _ => ?_
  split
  · exact .next (.of_grows (by simp))
  · exact .next (.of_grows (by simp))
  · exact .ite (fun _ => .next (.of_grows (by simp))) fun _ => s.pairWords_out _ _
theorem State.attempt_out (s : State) (pt slot lag : Nat) (bad : Option Nat) (early : List Nat) (fetch : Bool) :
    OutBounds s (s.attempt pt slot lag bad early fetch) := by
  unfold State.attempt
  extract_lets key x pos base b w0 w1 i t
  have ht : KeepsBounds s t := s.atWord_bounds i early
  clear_value t
  refine .after ht (.ite (fun _ => .next (.of_grows (by simp [State.evenPc]))) fun _ => .ite (fun _ => .next (.of_grows (by simp [State.evenPc]))) fun _ =>
    .ite (fun _ => .ite (fun _ => ?_) fun _ => .next (.of_grows (by simp))) fun _ => .ite (fun _ => ?_) fun _ =>
    .ite (fun _ => .next (.of_grows (by simp))) fun _ => ?_)
  · exact .of_iss (State.loneWord_out _ _)
  · exact .of_iss (State.loneWord_out _ _)
  · exact .of_iss (State.pair_out _ _ _)
theorem State.endIssue_kept (s : State) (pt slot : Nat) (t : State) : Kept t (s.endIssue pt slot t) := by
  apply Kept.of_grows
  simp [State.endIssue]
theorem State.issueTurn_out (s : State) (pt slot lag : Nat) (bad : Option Nat) (early : List Nat) (fetch : Bool) :
    OutBounds s (s.issueTurn pt slot lag bad early fetch) := by
  unfold State.issueTurn
  refine .ite (fun _ => ?_) fun _ => .refl s
  have ha := s.attempt_out pt slot lag bad early fetch
  split
  · next t h => exact .next (.ite (fun _ => .refl s) fun _ => (ha t h).trans (s.endIssue_kept pt slot t).bounds)
  · exact ha

/-! ## The passing of a cycle -/

theorem State.leaveCycle_kept (s : State) (pt : Nat) : Kept s (s.leaveCycle pt) := .of_grows (by simp [State.leaveCycle])
theorem State.addSkew_kept (s : State) (pts : List Nat) (d : Int) : Kept s (s.addSkew pts d) := by
  unfold State.addSkew
  exact foldl_kept _ (fun _ _ => by simp) _ _
theorem State.noteClock_kept (s : State) (pt : Nat) : Kept s (s.noteClock pt) := by
  unfold State.noteClock
  refine .of_eq (s.modTile_pview pt _ fun t => ?_)
  split <;> exact ⟨rfl, rfl, rfl, rfl⟩
theorem State.settleDues_kept (s : State) (moving : List Nat) : Kept s (s.settleDues moving) := by
  refine .of_eq (PowerView.of_map_tiles _ ?_ _ _ _ _)
  intro e
  split <;> exact ⟨rfl, rfl, rfl, rfl, rfl⟩
theorem Tile.tickPhase_demands (slow : Bool) (t : Tile) : (t.tickPhase slow).turns = t.turns ∧ (t.tickPhase slow).seen = t.seen ∧
    (t.tickPhase slow).thermal = t.thermal ∧ (t.tickPhase slow).droop = t.droop := ⟨rfl, rfl, rfl, rfl⟩
theorem State.tick_kept (s : State) (n : Nat) (slow : Nat → Bool) :
    Kept s { s with ticks := n, tiles := s.tiles.map (fun (e : Nat × Tile) => (e.1, e.2.tickPhase (slow e.1))) } := by
  refine .of_eq (PowerView.of_map_tiles _ ?_ _ _ _ _)
  exact fun e => ⟨rfl, Tile.tickPhase_demands _ _⟩
theorem State.pass_bounds (s : State) (tick : Bool) (slow fast : List Nat) (offs : List (Nat × Nat)) (temps : List (Nat × BitVec 16)) :
    KeepsBounds s (s.pass tick slow fast offs temps) := by
  unfold State.pass
  extract_lets moving s0 s1 s2 s3 s4
  have h0 : Kept s s0 := foldl_kept _ (fun t pt => (t.leaveCycle_kept pt).grows) _ _
  clear_value s0
  have h1 : Kept s s1 := h0.trans (.ite (fun _ => (s0.tick_kept _ slow.contains).trans (State.addSkew_kept _ _ _)) fun _ => foldl_kept _ (fun _ _ => by simp) _ _)
  clear_value s1
  have h2 : Kept s s2 := h1.trans (foldl_kept _ (fun _ _ => by simp) _ _)
  clear_value s2
  have h3 : KeepsBounds s s3 := h2.bounds.trans ((foldl_kept _ (fun _ _ => by simp) _ _).bounds.trans (State.throttles_bounds _))
  clear_value s3
  have h4 : KeepsBounds s s4 := h3.trans ((foldl_bounds _ State.noteDemand_bounds _ _).trans
    ((foldl_kept _ (fun t pt => (t.noteClock_kept pt).grows) _ _).trans (State.settleDues_kept _ _)).bounds)
  exact .ite (fun _ => .refl s) fun _ => .ite (fun _ => h4) fun _ => .refl s

/-! ## The order of steps -/

theorem State.runTurn_out (s : State) (t : Turn) : OutBounds s (s.runTurn t) := by
  cases t with
  | issue pt slot lag bad early fetch => exact s.issueTurn_out pt slot lag bad early fetch
  | event i => exact .ite (fun _ => .refl s) fun _ => exec_out i s
  | pass tick slow fast offs temps => exact .next (s.pass_bounds tick slow fast offs temps)
  | selfTest bad grade pts fp => exact .next (s.selfTestPhase_kept bad grade pts fp).bounds
  | trim d => exact .next (s.trimPhase_kept d).bounds
  | threshold n => exact .next (s.setThreshold_kept n).bounds
  | policy n => exact .next (s.setPolicy_kept n).bounds
  | faultPolicy domain n => exact .next (s.setFaultPolicy_kept domain n).bounds
  | droopFall row => exact .next (s.droopFallStep_bounds row)
  | port n down => exact .next (s.setPort_kept n down).bounds
  | buddy pt entry die => exact .next (s.nameBuddy_kept pt entry die).bounds
  | answer n => exact .next (s.sendAnswer_kept n).bounds
  | configure chip dmap csl tmo threshold => exact .next (s.configurePhase_kept chip dmap csl tmo threshold).bounds

/-- Each step of a list keeps the bounds. -/
def AllBound (l : List (State → Out)) : Prop := ∀ f ∈ l, ∀ s, OutBounds s (f s)
theorem allBound_nil : AllBound [] := fun _ h => nomatch h
theorem allBound_append {l m : List (State → Out)} (hl : AllBound l) (hm : AllBound m) : AllBound (l ++ m) := fun f hf =>
  (List.mem_append.mp hf).elim (hl f) (hm f)
theorem allBound_cons {f : State → Out} {l : List (State → Out)} (hf : ∀ s, OutBounds s (f s)) (hl : AllBound l) : AllBound (f :: l) := by
  rintro g hg
  rcases List.mem_cons.mp hg with rfl | hg
  · exact hf
  · exact hl g hg
theorem allBound_map {α : Type} {l : List α} {g : α → State → Out} (h : ∀ a s, OutBounds s (g a s)) : AllBound (l.map g) := by
  intro f hf
  obtain ⟨a, _, rfl⟩ := List.mem_map.mp hf
  exact h a
theorem allBound_filterMap {α : Type} {l : List α} {g : α → Option (State → Out)} (h : ∀ a f, g a = some f → ∀ s, OutBounds s (f s)) :
    AllBound (l.filterMap g) := by
  intro f hf
  obtain ⟨a, _, ha⟩ := List.mem_filterMap.mp hf
  exact h a f ha
theorem allBound_flatMap {α : Type} {l : List α} {g : α → List (State → Out)} (h : ∀ a, AllBound (g a)) : AllBound (l.flatMap g) := by
  intro f hf
  obtain ⟨a, _, ha⟩ := List.mem_flatMap.mp hf
  exact h a f ha
/-- A step that some value, where it is there, chooses. -/
theorem allBound_pick {α β : Type} {l : List α} {o : α → Option β} {g : α → β → State → Out} (h : ∀ a b s, OutBounds s (g a b s)) :
    AllBound (l.filterMap fun a => (o a).map (g a)) := by
  refine allBound_filterMap fun a f hf => ?_
  obtain ⟨b, _, rfl⟩ := Option.map_eq_some_iff.mp hf
  exact h a b

end Sys2Proof.Machine
end

section
namespace Sys2Proof.Machine

theorem State.trafficSteps_bound (s : State) : AllBound s.trafficSteps := by
  have hg (a b n : Nat) (t : State) : OutBounds t (execPacingGrant a b n t) := exec_out (.pacingGrant a b n) t
  unfold State.trafficSteps
  repeat' refine allBound_append ?_ ?_
  · exact allBound_map fun p t => exec_out (.partDepart p.pid) t
  · exact allBound_map fun p t => exec_out (.pageWalk p.pid) t
  · exact allBound_map fun p t => exec_out (.partCarry p.pid) t
  · exact allBound_pick fun p d t => hg _ d 1 t
  · exact allBound_pick fun p d t => hg _ d 1 t
  · exact allBound_flatMap fun p => allBound_map fun d t => hg _ d 1 t
  · exact allBound_flatMap fun p => allBound_map fun d t => hg _ d 1 t
  · exact allBound_flatMap fun o => allBound_map fun d t => hg _ d 1 t
  · exact allBound_pick fun j d t => hg _ d 1 t
  · exact allBound_pick fun e d t => hg _ d 1 t
  · exact allBound_map fun p t => exec_out (.partPerform p.pid) t
  · refine allBound_flatMap fun o => ?_
    split
    · exact allBound_cons (fun t => exec_out (.copyComplete o.oid) t) allBound_nil
    · exact allBound_cons (fun t => exec_out (.sendComplete o.oid) t) allBound_nil
    · exact allBound_cons (fun t => exec_out (.gstepProcess o.oid) t) allBound_nil
    · exact allBound_cons (fun t => exec_out (.ctxsvComplete o.oid) t) allBound_nil
    · exact allBound_cons (fun t => exec_out (.ctxldComplete o.oid) t) allBound_nil
    · exact allBound_nil
    · exact allBound_cons (fun t => exec_out (.operationComplete o.oid none) t) allBound_nil
  · refine allBound_filterMap fun o f hf => ?_
    split at hf
    · cases hf
      exact fun t => exec_out (.operationComplete o.oid none) t
    · cases hf
  · exact allBound_map fun l t => exec_out (.localWriteApply l.pt) t
  · exact allBound_map fun d t => exec_out (.deposit d.pt) t
  · exact allBound_map fun r t => exec_out (.pwrRelEntry r.oid) t
  · exact allBound_flatMap fun o => allBound_cons (fun t => exec_out (.tileOpApply (o.key / 16) (o.key % 16)) t)
      (allBound_cons (fun t => exec_out (.mdrainApply (o.key / 16) (o.key % 16)) t) allBound_nil)
  · exact allBound_map fun p t => exec_out (.gridPieceDeposit p.id) t
  · exact allBound_map fun j t => exec_out (.mirrorCopy j.id) t
  · exact allBound_map fun n t => .next (t.sendAnswer_kept n).bounds
theorem State.strandSteps_bound (s : State) : AllBound s.strandSteps := by
  unfold State.strandSteps
  refine allBound_append (allBound_flatMap fun e => ?_) (allBound_flatMap fun e => ?_)
  · dsimp only
    split
    · exact allBound_cons (fun t => exec_out (.strandStart _ _) t) allBound_nil
    · exact allBound_cons (fun t => exec_out (.boundaryWake _ _) t) allBound_nil
    · exact allBound_cons (fun t => exec_out (.waitRelease _ _) t) (allBound_cons (fun t => exec_out (.fenceRelease _ _) t)
        (allBound_cons (fun t => exec_out (.haltComplete _ _) t) allBound_nil))
    · exact allBound_nil
  · repeat' refine allBound_append ?_ ?_
    · exact allBound_map fun c t => exec_out (.evictComplete e.1 c.2.slot) t
    · exact allBound_map fun i t => exec_out (.plotCacheDrop e.1 i) t
    · split
      · exact allBound_nil
      · exact allBound_cons (fun t => exec_out (.eventDeposit e.1) t) allBound_nil
    · exact allBound_map fun i t => exec_out (.requestTimeout e.1 i) t
theorem State.systemSteps_bound (s : State) : AllBound s.systemSteps := by
  unfold State.systemSteps
  repeat' refine allBound_append ?_ ?_
  · refine allBound_flatMap fun r => allBound_append (allBound_cons (fun t => exec_out (.regionEnd r.rcb) t)
      (allBound_cons (fun t => exec_out (.quiescenceEvent r.rcb) t) allBound_nil)) ?_
    refine allBound_flatMap fun pt => allBound_filterMap fun i f hf => ?_
    split at hf
    · obtain ⟨x, _, rfl⟩ := Option.map_eq_some_iff.mp hf
      exact fun t => exec_out (.plotCacheFill pt r.rcb x) t
    · cases hf
  · exact allBound_flatMap fun e => allBound_cons (fun t => exec_out (.logMerge e.1) t) (allBound_cons (fun t => exec_out (.harvest e.1) t)
      (allBound_cons (fun t => exec_out (.flush e.1) t) (allBound_cons (fun t => exec_out (.requestComplete e.1) t)
      (allBound_cons (fun t => exec_out (.driftAlarm e.1) t) (allBound_cons (fun t => exec_out (.turnsChange e.1 0) t) allBound_nil)))))
  · exact allBound_flatMap fun e => allBound_map fun q t => exec_out (.stealRound e.1 q.1) t
  · exact allBound_map fun e t => .next (t.droopFallStep_bounds e.1)
  · exact allBound_map fun e t => exec_out (.droopRecovery e.1) t
  · exact allBound_flatMap fun x => allBound_cons (fun t => exec_out (.stealGrant x.id) t)
      (allBound_cons (fun t => exec_out (.stealReceipt x.id) t) allBound_nil)
  · exact allBound_flatMap fun x => allBound_cons (fun t => exec_out (.quantaReceipt x.id) t)
      (allBound_cons (fun t => exec_out (.quantaAck x.id) t) (allBound_cons (fun t => exec_out (.quantaReturn x.id) t) allBound_nil))

theorem State.useful_bounds {s t : State} {f : State → Out} (hf : OutBounds s (f s)) (h : s.useful f = some t) : KeepsBounds s t := by
  unfold State.useful at h
  split at h
  · next u hu =>
    split at h
    · cases h
    · cases h
      exact hf _ hu
  · cases h
theorem State.bootStep_out (s : State) : OutBounds s s.bootStep := by
  have hp : KeepsBounds s (s.pass true [] [] [] []) := s.pass_bounds _ _ _ _ _
  unfold State.bootStep
  split
  · refine .next ?_
    cases hu : s.useful execPowerRegionEnergise with
    | none => exact hp
    | some t => exact State.useful_bounds (exec_out .powerRegionEnergise s) hu
  · exact exec_out (.imageCheck _) s
  · exact .next (s.selfTestPhase_kept _ _ _ _).bounds
  · exact .next (s.trimPhase_kept _).bounds
  · split
    · exact exec_out (.linkAuthentication _ _ _ _) s
    · exact .refl s
  · exact .next (s.configurePhase_kept _ _ _ _ _).bounds
  · exact .next hp
theorem State.defaultStep_out (s : State) : OutBounds s s.defaultStep := by
  unfold State.defaultStep
  refine .ite (fun _ => s.bootStep_out) fun _ => ?_
  split
  · exact s.issueTurn_out _ _ _ _ _ _
  · split
    · next t ht =>
      obtain ⟨f, hf, hu⟩ := List.exists_of_findSome?_eq_some ht
      have hall := allBound_append (allBound_append s.trafficSteps_bound s.strandSteps_bound) s.systemSteps_bound
      exact .next (State.useful_bounds (hall f hf s) hu)
    · exact .next (s.pass_bounds _ _ _ _ _)
theorem State.turn_out (s : State) : OutBounds s s.turn := by
  unfold State.turn
  split
  · next t r _ => exact .after (t := { s with agenda := r }) (.of_eq rfl) (State.runTurn_out _ t)
  · exact s.defaultStep_out
/-- A step that goes on meets the bounds that the state before it met. -/
theorem step_keepsBounds {s t : State} (h : step s = .next t) : KeepsBounds s t := s.turn_out t h

end Sys2Proof.Machine

namespace Sys2Proof.Safety
open Sys2Proof.Machine

/-- Settles O13: no operation, event or turn takes a demand out of 1 to 16, and quanta move between dies and sidebands alone. -/
theorem turnsAndQuantaStayInRange : Obligations.TurnsAndQuantaStayInRange :=
  ⟨fun _ _ ht h => (step_keepsBounds h).turns ht, fun _ _ hq h => (step_keepsBounds h).quanta hq⟩

end Sys2Proof.Safety
end

section
/-!
SUPPORT. What the events of drift, throttles and the status block do (R22, R209, R232 to R239), said once for each.
-/
namespace Sys2Proof.Safety
open Sys2Proof.Machine

/-- Tile pt becomes y, and nothing else of the panel changes. -/
def OnlyTile (s t : State) (pt : Nat) (y : Tile) : Prop :=
  t.tile pt = y ∧ (∀ k, k ≠ pt → t.tile k = s.tile k) ∧ t = { s with tiles := t.tiles }
theorem onlyTile_setTile (s : State) (pt : Nat) (y : Tile) : OnlyTile s (s.setTile pt y) pt y :=
  ⟨s.tile_setTile pt y, fun _ hk => s.tile_setTile_other y hk, rfl⟩
theorem onlyTile_modTile (s : State) (pt : Nat) (f : Tile → Tile) : OnlyTile s (s.modTile pt f) pt (f (s.tile pt)) := onlyTile_setTile s pt _
/-- Die d becomes y, and nothing else of the panel changes. -/
def OnlyDie (s t : State) (d : Nat) (y : Die) : Prop :=
  t.die d = y ∧ (∀ k, k ≠ d → t.die k = s.die k) ∧ t = { s with dies := t.dies }
theorem onlyDie_modDie (s : State) (d : Nat) (f : Die → Die) : OnlyDie s (s.modDie d f) d (f (s.die d)) :=
  ⟨s.die_modDie d f, fun _ hk => s.die_modDie_other f hk, rfl⟩
theorem setTile_setTile (s : State) (pt : Nat) (x y : Tile) : (s.setTile pt x).setTile pt y = s.setTile pt y := by
  simp only [State.setTile, put_put]

/-! ## Events of a tile -/

theorem eventKind_eventWord {kind : Nat} (hk : kind < 256) (detail : Nat) : eventKind (eventWord kind 0 0 detail) = kind := by
  simp only [eventKind, eventWord, bitsOf, word, BitVec.toNat_ofNat, Nat.reducePow]
  omega
theorem raise_droop (T : Tile) (c row : Nat) :
    T.raise c (eventWord 3 0 0 row) = { raisedTile T c T.dp (eventWord 3 0 0 row) with dp := true } := by
  have hp : ∀ i, pending T 3 i = T.dp := fun _ => rfl
  have hs : ∀ i, setPending T 3 i = { T with dp := true } := fun _ => rfl
  simp only [Tile.raise, eventKind_eventWord (by decide : 3 < 256), hp, hs, Tile.raisedIn, raisedTile]
  cases T.dp <;> rfl
theorem raise_drift (T : Tile) (c d : Nat) :
    T.raise c (eventWord 4 0 0 d) = { raisedTile T c T.ap (eventWord 4 0 0 d) with ap := true } := by
  have hp : ∀ i, pending T 4 i = T.ap := fun _ => rfl
  have hs : ∀ i, setPending T 4 i = { T with ap := true } := fun _ => rfl
  simp only [Tile.raise, eventKind_eventWord (by decide : 4 < 256), hp, hs, Tile.raisedIn, raisedTile]
  cases T.ap <;> rfl

/-! ## Drift -/

theorem driftChange_waits {s : State} {d : Nat} (pt : Nat) (h : s.bootPhase < 4 ∨ 500 < d) : exec (.driftChange pt d) s = .next s :=
  congrArg Host.Outcome.next (if_pos h)
theorem driftChange_stores {s : State} {d : Nat} (pt : Nat) (hb : 4 ≤ s.bootPhase) (hd : d ≤ 500) :
    ∃ t, exec (.driftChange pt d) s = .next t ∧ OnlyTile s t pt { s.tile pt with
      drift := BitVec.ofNat 10 d, alarmDue := (s.tile pt).alarmDue + (if (s.tile pt).drift.toNat ≤ 400 ∧ 400 < d then 1 else 0) } := by
  refine ⟨_, congrArg Host.Outcome.next (if_neg (by omega)), ?_⟩
  convert onlyTile_modTile s pt _ using 2
  simp only [and_comm]
  split <;> rfl
theorem driftAlarm_waits {s : State} {pt : Nat} (h : (s.tile pt).alarmDue = 0) : exec (.driftAlarm pt) s = .next s :=
  congrArg Host.Outcome.next (if_neg (by omega))
theorem driftAlarm_raises {s : State} {pt : Nat} (h : (s.tile pt).alarmDue ≠ 0) :
    ∃ t, exec (.driftAlarm pt) s = .next t ∧
      t.tile pt = { raisedTile (s.tile pt) (s.cycle pt) (s.tile pt).ap (eventWord 4 0 0 (s.tile pt).drift.toNat) with
        alarmDue := (s.tile pt).alarmDue - 1, ap := true } ∧ (∀ k, k ≠ pt → t.tile k = s.tile k) ∧
      (let x := (s.die (pt / 144)).errs[10]
       (t.die (pt / 144)).errs[10] = if x = 0xFFFFFFFF then x else x + 1) ∧ t = { s with tiles := t.tiles, dies := t.dies } := by
  have hc : (s.modTile pt fun t => { t with alarmDue := t.alarmDue - 1 }).cycle pt = s.cycle pt := by
    simp only [State.cycle, State.tile_modTile]
    rfl
  refine ⟨_, congrArg Host.Outcome.next (if_pos (by omega)), ?_, fun k hk => ?_, ?_, rfl⟩
  · rw [State.bump, State.tile_modDie, State.raiseDrift, State.raiseEvent, State.tile_modTile, hc, State.tile_modTile]
    exact raise_drift _ _ _
  · rw [State.bump, State.tile_modDie, State.raiseDrift, State.raiseEvent, State.tile_modTile_other _ _ hk, State.tile_modTile_other _ _ hk]
  · dsimp only
    rw [State.bump, State.die_modDie]
    simp [bump32, State.raiseDrift, State.raiseEvent]

/-! ## Throttles -/

theorem thermalThrottle_follows (s : State) (pt : Nat) (temp : BitVec 16) :
    ∃ t, exec (.thermalThrottle pt temp) s = .next t ∧ OnlyTile s t pt { s.tile pt with
      temp := temp, thermal := thermalNext (s.tile pt) temp.toInt s.threshold s.inlet s.refNs
      thermalAt := if thermalNext (s.tile pt) temp.toInt s.threshold s.inlet s.refNs = (s.tile pt).thermal then (s.tile pt).thermalAt else s.refNs } := by
  refine ⟨_, rfl, ?_⟩
  rw [State.thermalStep, State.modTile, State.tile_modTile, State.modTile, setTile_setTile]
  exact onlyTile_setTile s pt _
theorem thermalNext_hot {t : Tile} {temp : Int} {threshold inlet now : Nat} (h : temp < 1680) (hot : (16 * threshold : Nat) ≤ temp ∨ 45 < inlet) :
    thermalNext t temp threshold inlet now = if t.thermalAt + 10000 ≤ now then max 1 (t.thermal - 1) else t.thermal := by
  rw [thermalNext, if_neg (by omega), if_pos hot]
theorem thermalNext_cool {t : Tile} {temp : Int} {threshold inlet now : Nat} (h : temp < 1680) (hot : ¬((16 * threshold : Nat) ≤ temp ∨ 45 < inlet))
    (cool : temp + 80 ≤ (16 * threshold : Nat)) :
    thermalNext t temp threshold inlet now = if t.thermalAt + 100000 ≤ now then min 16 (t.thermal + 1) else t.thermal := by
  rw [thermalNext, if_neg (by omega), if_neg hot, if_pos cool]
theorem thermalNext_between {t : Tile} {temp : Int} {threshold inlet now : Nat} (h : temp < 1680) (hot : ¬((16 * threshold : Nat) ≤ temp ∨ 45 < inlet))
    (warm : (16 * threshold : Nat) < temp + 80) : thermalNext t temp threshold inlet now = t.thermal := by
  rw [thermalNext, if_neg (by omega), if_neg hot, if_neg (by omega)]

/-- The active tiles of a power region are listed once each. -/
theorem rowTiles_nodup (s : State) (row : Nat) : (s.rowTiles row).Nodup := by
  have hl : ∀ d, (s.ltp d).Nodup ∧ ∀ i ∈ s.ltp d, i < 144 := fun d =>
    ⟨List.nodup_range.filter _, fun i hi => List.mem_range.mp (List.mem_filter.mp hi).1⟩
  refine List.nodup_flatMap.mpr ⟨fun c _ => (hl _).1.map fun i j h => by simpa using h, List.nodup_range.pairwise_of_forall_ne ?_⟩
  intro a _ b _ hab x ha hb
  obtain ⟨i, hi, rfl⟩ := List.mem_map.mp ha
  obtain ⟨j, hj, h⟩ := List.mem_map.mp hb
  have := (hl _).2 i hi
  have := (hl _).2 j hj
  omega
/-- Each tile of a list becomes what f makes of it, f looking at nothing else that changes. -/
theorem foldl_setTile {f : State → Nat → Tile} (hf : ∀ t u p, u = { t with tiles := u.tiles } → u.tile p = t.tile p → f u p = f t p) {l : List Nat}
    (hl : l.Nodup) (s : State) : let t := l.foldl (fun (t : State) p => t.setTile p (f t p)) s
    t = { s with tiles := t.tiles } ∧ (∀ q, q ∉ l → t.tile q = s.tile q) ∧ ∀ q, q ∈ l → t.tile q = f s q := by
  induction l generalizing s with
  | nil => exact ⟨rfl, fun _ _ => rfl, fun _ h => nomatch h⟩
  | cons p r ih =>
    obtain ⟨hp, hr⟩ := List.nodup_cons.mp hl
    obtain ⟨h1, h2, h3⟩ := ih hr (s.setTile p (f s p))
    refine ⟨h1.trans rfl, fun q hq => ?_, fun q hq => ?_⟩
    · exact (h2 q fun h => hq (List.mem_cons_of_mem p h)).trans (s.tile_setTile_other _ fun e => hq (e ▸ List.mem_cons_self))
    · rcases List.mem_cons.mp hq with rfl | hq
      · exact (h2 q hp).trans (s.tile_setTile _ _)
      · have hne : q ≠ p := fun e => hp (e ▸ hq)
        exact (h3 q hq).trans (hf s _ q rfl (s.tile_setTile_other _ hne))

/-- The tiles of a power region change, and the region. -/
def RowChanges (s t : State) (row : Nat) (R : PowerRegion) (f : Nat → Tile) : Prop :=
  t.row row = R ∧ (∀ k, k ≠ row → t.row k = s.row k) ∧ (∀ q, q ∉ s.rowTiles row → t.tile q = s.tile q) ∧
  (∀ q, q ∈ s.rowTiles row → t.tile q = f q) ∧ t = { s with tiles := t.tiles, rows := t.rows }
theorem rowChanges_fold (s : State) (row : Nat) (g : PowerRegion → PowerRegion) (f : State → Nat → Tile)
    (hf : ∀ t u p, u = { t with tiles := u.tiles } → u.tile p = t.tile p → f u p = f t p) :
    RowChanges s ((s.rowTiles row).foldl (fun (t : State) p => t.setTile p (f t p)) (s.modRow row g)) row (g (s.row row)) (f (s.modRow row g)) := by
  obtain ⟨h1, h2, h3⟩ := foldl_setTile hf (rowTiles_nodup s row) (s.modRow row g)
  generalize (s.rowTiles row).foldl (fun (t : State) p => t.setTile p (f t p)) (s.modRow row g) = t at h1 h2 h3
  have hrow : ∀ k, t.row k = (s.modRow row g).row k := fun k => by rw [h1]; rfl
  refine ⟨(hrow row).trans (s.row_modRow row g), fun k hk => (hrow k).trans (s.row_modRow_other g hk), h2, h3, ?_⟩
  rw [h1]
  rfl

theorem droopDetect_waits {s : State} {row : Nat} (h : 16 ≤ row) : exec (.droopDetect row) s = .next s := congrArg Host.Outcome.next (if_pos h)
theorem droopDetect_fires {s : State} {row : Nat} (h : row < 16) :
    ∃ t, exec (.droopDetect row) s = .next t ∧ RowChanges s t row
      { s.row row with count := min 65535 ((s.row row).count + 1), clearAt := s.refNs, fallBy := some ((s.row row).fallBy.getD (s.refNs + 100)) }
      (fun q => { raisedTile (s.tile q) (s.cycle q) (s.tile q).dp (eventWord 3 0 0 row) with dp := true }) := by
  refine ⟨_, congrArg Host.Outcome.next (if_neg (Nat.not_le.mpr h)), ?_⟩
  have hg : (s.row row).fallBy.getD (s.refNs + 100) = (s.row row).fallBy.elim (s.refNs + 100) id := by
    cases (s.row row).fallBy <;> rfl
  rw [hg, funext fun q => (raise_droop (s.tile q) (s.cycle q) row).symm]
  refine rowChanges_fold s row (fun r => { r with count := min 65535 (r.count + 1), clearAt := s.refNs, fallBy := some (r.fallBy.elim (s.refNs + 100) id) })
    (fun t p => (t.tile p).raise (t.cycle p) (eventWord 3 0 0 row)) fun t u p hu hp => ?_
  rw [State.cycle, State.cycle, hp, hu]
theorem droopFall_waits {s : State} {row : Nat} (h : (s.row row).fallBy = none) : s.droopFallStep row = s := by
  rw [State.droopFallStep, h]
  rfl
theorem droopFall_falls {s : State} {row : Nat} (h : (s.row row).fallBy ≠ none) :
    RowChanges s (s.droopFallStep row) row { s.row row with fallBy := none } (fun q => { s.tile q with droop := min (s.tile q).droop (min 8 (s.tile q).turns) }) := by
  have hn : (s.row row).fallBy.isNone ≠ true := fun e => h (Option.isNone_iff_eq_none.mp e)
  rw [State.droopFallStep, if_neg hn]
  refine rowChanges_fold s row (fun r => { r with fallBy := none }) (fun t p => { t.tile p with droop := droopFall (t.tile p) }) fun t u p _ hp => ?_
  rw [hp]
/-- The demands on a power region may rise: no fall is due, one of them is below 16, and a microsecond has passed. -/
def DroopRises (s : State) (row : Nat) : Prop :=
  (s.row row).fallBy = none ∧ (∃ q, q ∈ s.rowTiles row ∧ (s.tile q).droop < 16) ∧ (s.row row).clearAt + 1000 ≤ s.refNs
theorem droopRises_iff (s : State) (row : Nat) : ((s.row row).fallBy.isNone && (s.rowTiles row).any (fun pt => decide ((s.tile pt).droop < 16)) &&
    decide ((s.row row).clearAt + 1000 ≤ s.refNs)) = true ↔ DroopRises s row := by
  simp [DroopRises, and_assoc]
theorem droopRecovery_waits {s : State} {row : Nat} (h : ¬DroopRises s row) : exec (.droopRecovery row) s = .next s :=
  congrArg Host.Outcome.next (if_neg (mt (droopRises_iff s row).mp h))
theorem droopRecovery_rises {s : State} {row : Nat} (h : DroopRises s row) :
    ∃ t, exec (.droopRecovery row) s = .next t ∧ RowChanges s t row { s.row row with clearAt := s.refNs }
      (fun q => { s.tile q with droop := min 16 ((s.tile q).droop + 1) }) :=
  ⟨_, congrArg Host.Outcome.next (if_pos ((droopRises_iff s row).mpr h)),
    rowChanges_fold s row (fun r => { r with clearAt := s.refNs }) (fun _ p => { s.tile p with droop := min 16 ((s.tile p).droop + 1) }) fun _ _ _ _ _ => rfl⟩

/-! ## Budget and turns -/

/-- The budget demand of a die falls, or rises. -/
def BudgetFalls (s : State) (die : Nat) : Prop :=
  (s.die die).power.held - (s.die die).power.set < (s.die die).power.draw ∧ 1 < (s.die die).budget
def BudgetClimbs (s : State) (die : Nat) : Prop :=
  (s.die die).power.draw + (s.row (die / 8)).csl < (s.die die).power.held - (s.die die).power.set ∧ (s.die die).budget < 16
theorem budgetThrottle_waits {s : State} {die : Nat} (h : s.refNs < (s.die die).budgetAt + 1000 ∨ (¬BudgetFalls s die ∧ ¬BudgetClimbs s die)) :
    exec (.budgetThrottle die) s = .next s := by
  refine congrArg Host.Outcome.next ?_
  unfold State.budgetStep
  rcases h with h | ⟨hf, hc⟩
  · exact if_pos h
  · dsimp only
    split
    · rfl
    · exact (if_neg hf).trans (if_neg hc)
theorem budgetThrottle_falls {s : State} {die : Nat} (ha : (s.die die).budgetAt + 1000 ≤ s.refNs) (h : BudgetFalls s die) :
    ∃ t, exec (.budgetThrottle die) s = .next t ∧ OnlyDie s t die { s.die die with budget := (s.die die).budget - 1, budgetAt := s.refNs } := by
  refine ⟨_, congrArg Host.Outcome.next ((if_neg (Nat.not_lt.mpr ha)).trans (if_pos h)), onlyDie_modDie s die _⟩
theorem budgetThrottle_climbs {s : State} {die : Nat} (ha : (s.die die).budgetAt + 1000 ≤ s.refNs) (h : BudgetClimbs s die) :
    ∃ t, exec (.budgetThrottle die) s = .next t ∧ OnlyDie s t die { s.die die with budget := (s.die die).budget + 1, budgetAt := s.refNs } := by
  have hf : ¬BudgetFalls s die := fun hf => by
    obtain ⟨h1, _⟩ := h
    obtain ⟨h2, _⟩ := hf
    omega
  exact ⟨_, congrArg Host.Outcome.next ((if_neg (Nat.not_lt.mpr ha)).trans ((if_neg hf).trans (if_pos h))), onlyDie_modDie s die _⟩

/-- A frame starts on the tile in which E has not changed. -/
def FrameStarts (s : State) (pt : Nat) : Prop := s.cycle pt % 16 = 0 ∧ (s.tile pt).turnsAt ≠ some (s.cycle pt / 16)
theorem frameStart_iff (s : State) (pt : Nat) : s.frameStart pt = true ↔ FrameStarts s pt := by
  simp [State.frameStart, FrameStarts]
theorem fallDue_iff (s : State) (pt : Nat) : s.fallDue pt = true ↔ FrameStarts s pt ∧ (s.tile pt).seen < (s.tile pt).turns := by
  rw [State.fallDue, Bool.and_eq_true, frameStart_iff, decide_eq_true_eq]
theorem climbDue_iff (s : State) (pt rise : Nat) : (s.frameStart pt && decide ((s.tile pt).turns < (s.tile pt).seen ∧ rise < (s.row (rowOf pt)).csl)) = true ↔
    FrameStarts s pt ∧ (s.tile pt).turns < (s.tile pt).seen ∧ rise < (s.row (pt / 144 / 8)).csl := by
  rw [Bool.and_eq_true, frameStart_iff, decide_eq_true_eq]
  rfl
theorem turnsChange_waits {s : State} {pt rise : Nat} (h : ¬FrameStarts s pt ∨ ((s.tile pt).turns ≤ (s.tile pt).seen ∧
    ¬((s.tile pt).turns < (s.tile pt).seen ∧ rise < (s.row (pt / 144 / 8)).csl))) : exec (.turnsChange pt rise) s = .next s := by
  have hf : ¬s.fallDue pt = true := fun e => by
    obtain ⟨hs, hlt⟩ := (fallDue_iff s pt).mp e
    exact h.elim (· hs) fun h => absurd hlt (Nat.not_lt.mpr h.1)
  have hc := mt (climbDue_iff s pt rise).mp fun ⟨hs, hc⟩ => h.elim (· hs) fun h => h.2 hc
  exact congrArg Host.Outcome.next ((if_neg hf).trans (if_neg hc))
theorem turnsChange_falls {s : State} {pt : Nat} (rise : Nat) (hs : FrameStarts s pt) (h : (s.tile pt).seen < (s.tile pt).turns) :
    ∃ t, exec (.turnsChange pt rise) s = .next t ∧ OnlyTile s t pt { s.tile pt with turns := (s.tile pt).seen, turnsAt := some (s.cycle pt / 16) } :=
  ⟨_, congrArg Host.Outcome.next (if_pos ((fallDue_iff s pt).mpr ⟨hs, h⟩)), onlyTile_setTile s pt _⟩
theorem turnsChange_climbs {s : State} {pt rise : Nat} (hs : FrameStarts s pt) (h : (s.tile pt).turns < (s.tile pt).seen ∧ rise < (s.row (pt / 144 / 8)).csl) :
    ∃ t, exec (.turnsChange pt rise) s = .next t ∧ OnlyTile s t pt { s.tile pt with turns := (s.tile pt).turns + 1, turnsAt := some (s.cycle pt / 16) } := by
  have hf : ¬s.fallDue pt = true := fun e => absurd ((fallDue_iff s pt).mp e).2 (Nat.not_lt.mpr (Nat.le_of_lt h.1))
  exact ⟨_, congrArg Host.Outcome.next ((if_neg hf).trans (if_pos ((climbDue_iff s pt rise).mpr ⟨hs, h⟩))), onlyTile_setTile s pt _⟩

/-! ## Draw and the status block -/

theorem drawRefresh_waits {s : State} {d : Nat} (die : Nat) (h : 1023 < d) : exec (.drawRefresh die d) s = .next s := congrArg Host.Outcome.next (if_pos h)
theorem drawRefresh_stores {s : State} {d : Nat} (die : Nat) (h : d ≤ 1023) : ∃ t, exec (.drawRefresh die d) s = .next t ∧
    OnlyDie s t die { s.die die with power := { (s.die die).power with draw := d } } :=
  ⟨_, congrArg Host.Outcome.next (if_neg (Nat.not_lt.mpr h)), onlyDie_modDie s die _⟩

end Sys2Proof.Safety
end

section
/-!
SUPPORT. Numbers in a stored run of bytes, and the fields of the status block (R239).
-/
namespace Sys2Proof.Machine

/-! ## Numbers in a stored run -/

theorem flatMap_toBytes_length (n : Nat) (l : List Nat) : (l.flatMap (toBytes n)).length = n * l.length := by
  induction l with
  | nil => rfl
  | cons x r ih =>
    rw [List.flatMap_cons, List.length_append, toBytes_length, ih, List.length_cons]
    ring
/-- Number i of numbers of n bytes each, stored behind the bytes a. -/
theorem memNat_putBytes_at (m : List Host.Cell) (k n : Nat) (a c : List Byte) (l : List Nat) {i : Nat} (hi : i < l.length) :
    memNat (memPutBytes m k (a ++ l.flatMap (toBytes n) ++ c)) (k + (a.length + n * i)) n = l.getD i 0 % 256 ^ n := by
  have hl : l = l.take i ++ l.getD i 0 :: l.drop (i + 1) := by
    rw [List.getD_eq_getElem _ _ hi, ← List.drop_eq_getElem_cons hi, List.take_append_drop]
  have hb : a ++ l.flatMap (toBytes n) ++ c =
      (a ++ (l.take i).flatMap (toBytes n)) ++ (toBytes n (l.getD i 0) ++ ((l.drop (i + 1)).flatMap (toBytes n) ++ c)) := by
    conv_lhs => rw [hl]
    simp only [List.flatMap_append, List.flatMap_cons, List.append_assoc]
  have hlen : (a ++ (l.take i).flatMap (toBytes n)).length = a.length + n * i := by
    rw [List.length_append, flatMap_toBytes_length, List.length_take, Nat.min_eq_left (Nat.le_of_lt hi)]
  rw [memNat, hb, ← hlen, memBytes_putBytes_part _ _ _ _ _ (by simp only [List.length_append, toBytes_length]; omega), List.drop_left, List.take_left' (toBytes_length _ _), ofBytes_toBytes]

theorem getD_middle (a b c : List Nat) {k : Nat} (hk : k < b.length) : (a ++ (b ++ c)).getD (a.length + k) 0 = b.getD k 0 := by
  rw [List.getD_append_right _ _ _ _ (Nat.le_add_right _ _), Nat.add_sub_cancel_left, List.getD_append _ _ _ _ hk]

/-! ## The status block (R239) -/

/-- The 16-bit fields of the status block. -/
def statusFields (x : Die) (r : PowerRegion) : List Nat :=
  [x.power.held, x.power.usable, x.power.draw] ++ x.power.out ++ x.power.lent ++ x.power.owed ++ [r.csl, r.count]
theorem statusBytes_eq (seq rtc : Nat) (x : Die) (r : PowerRegion) :
    statusBytes seq rtc x r = [seq, rtc].flatMap (toBytes 8) ++ (statusFields x r).flatMap (toBytes 2) ++ zeros 14 ++
      (x.errs.toList.map BitVec.toNat).flatMap (toBytes 4) := by
  simp [statusBytes, statusFields, List.flatMap_map]

theorem statusBytes_header (seq rtc : Nat) (x : Die) (r : PowerRegion) (m : List Host.Cell) (k : Nat) :
    memNat (memPutBytes m k (statusBytes seq rtc x r)) k 8 = seq % 256 ^ 8 ∧
    memNat (memPutBytes m k (statusBytes seq rtc x r)) (k + 8) 8 = rtc % 256 ^ 8 := by
  have h (i : Nat) (hi : i < 2) := memNat_putBytes_at m k 8 [] ((statusFields x r).flatMap (toBytes 2) ++ (zeros 14 ++
      (x.errs.toList.map BitVec.toNat).flatMap (toBytes 4))) [seq, rtc] (i := i) hi
  rw [statusBytes_eq]
  simp only [List.append_assoc]
  exact ⟨h 0 (by decide), h 1 (by decide)⟩

section
variable {x : Die} (r : PowerRegion) (ho : x.power.out.length = 4) (hl : x.power.lent.length = 4) (hw : x.power.owed.length = 4)
include ho hl hw

theorem statusFields_length : (statusFields x r).length = 17 := by
  simp [statusFields, ho, hl, hw]
theorem statusFields_getD {k : Nat} (hk : k < 4) : (statusFields x r).getD (3 + k) 0 = x.power.out.getD k 0 ∧
    (statusFields x r).getD (7 + k) 0 = x.power.lent.getD k 0 ∧ (statusFields x r).getD (11 + k) 0 = x.power.owed.getD k 0 := by
  have h7 : ([x.power.held, x.power.usable, x.power.draw] ++ x.power.out).length = 7 := by simp [ho]
  have h11 : ([x.power.held, x.power.usable, x.power.draw] ++ x.power.out ++ x.power.lent).length = 11 := by simp [ho, hl]
  refine ⟨?_, ?_, ?_⟩
  · rw [statusFields, List.append_assoc, List.append_assoc, List.append_assoc]
    exact getD_middle _ _ _ (ho.symm ▸ hk)
  · rw [statusFields, List.append_assoc, List.append_assoc (bs := x.power.lent), ← h7]
    exact getD_middle _ _ _ (hl.symm ▸ hk)
  · rw [statusFields, List.append_assoc, ← h11]
    exact getD_middle _ _ _ (hw.symm ▸ hk)
theorem statusFields_getD_row : (statusFields x r).getD 15 0 = r.csl ∧ (statusFields x r).getD 16 0 = r.count := by
  have h15 : ([x.power.held, x.power.usable, x.power.draw] ++ x.power.out ++ x.power.lent ++ x.power.owed).length = 15 := by simp [ho, hl, hw]
  have h (k : Nat) : (statusFields x r).getD (15 + k) 0 = [r.csl, r.count].getD k 0 := by
    rw [statusFields, List.getD_append_right _ _ _ _ (by omega), h15, Nat.add_sub_cancel_left]
  exact ⟨h 0, h 1⟩
theorem statusBytes_length (seq rtc : Nat) : (statusBytes seq rtc x r).length = 108 := by
  rw [statusBytes_eq]
  simp only [List.length_append, flatMap_toBytes_length, statusFields_length r ho hl hw]
  simp [zeros]
theorem statusBytes_field (seq rtc : Nat) (m : List Host.Cell) (k : Nat) {i : Nat} (hi : i < 17) :
    memNat (memPutBytes m k (statusBytes seq rtc x r)) (k + (16 + 2 * i)) 2 = (statusFields x r).getD i 0 % 2 ^ 16 := by
  have h := memNat_putBytes_at m k 2 ([seq, rtc].flatMap (toBytes 8)) (zeros 14 ++ (x.errs.toList.map BitVec.toNat).flatMap (toBytes 4))
    (statusFields x r) (i := i) (by rw [statusFields_length r ho hl hw]; exact hi)
  rw [statusBytes_eq, List.append_assoc]
  exact h
theorem statusBytes_error (seq rtc : Nat) (m : List Host.Cell) (k : Nat) (i : Fin 11) :
    memNat (memPutBytes m k (statusBytes seq rtc x r)) (k + (64 + 4 * i.val)) 4 = x.errs[i].toNat := by
  have hlen : ([seq, rtc].flatMap (toBytes 8) ++ (statusFields x r).flatMap (toBytes 2) ++ zeros 14).length = 64 := by
    simp only [List.length_append, flatMap_toBytes_length, statusFields_length r ho hl hw]
    simp [zeros]
  have h := memNat_putBytes_at m k 4 ([seq, rtc].flatMap (toBytes 8) ++ (statusFields x r).flatMap (toBytes 2) ++ zeros 14) []
    (x.errs.toList.map BitVec.toNat) (i := i.val) (by simp)
  rw [hlen, List.append_nil, ← statusBytes_eq] at h
  rw [h, List.getD_eq_getElem _ _ (by simp)]
  simpa using x.errs[i].isLt
end

end Sys2Proof.Machine
end

section
/-!
SUPPORT. What a refresh of the status block leaves, and O52.
-/
namespace Sys2Proof.Safety
open Sys2Proof.Machine

/-- A die changes and a run of bytes is written. -/
theorem setBytes_modDie (s : State) (d : Nat) (f : Die → Die) (k : Nat) (bs : List Byte) : let t := (s.modDie d f).setBytes k bs
    t.die d = f (s.die d) ∧ (∀ e, e ≠ d → t.die e = s.die e) ∧ t = { s with mem := t.mem, dies := t.dies } ∧ t.mem = memPutBytes s.mem k bs :=
  ⟨s.die_modDie d f, fun _ he => s.die_modDie_other f he, rfl, rfl⟩
theorem memKeptBut_putBytes {s t : State} {k n : Nat} {bs : List Byte} (hm : t.mem = memPutBytes s.mem k bs) (hn : bs.length = n) : MemKeptBut s t k n := by
  subst hn
  intro a ha
  rw [hm]
  exact ha.elim (fun h => memGet_putBytes_below bs _ _ h) fun h => memGet_putBytes_above bs _ _ h
/-- What the block of a die reads after its refresh. -/
theorem statusBlock_fields {m₀ m : List Host.Cell} {seq : Word} {now : Nat} {x : Die} {R : PowerRegion} {b : Nat} (ho : x.power.out.length = 4)
    (hl : x.power.lent.length = 4) (hw : x.power.owed.length = 4) (hm : m = memPutBytes m₀ b (statusBytes seq.toNat now x R)) :
    let at2 (o : Nat) : Nat := memNat m (b + o) 2
    memNat m b 8 = seq.toNat ∧ memNat m (b + 8) 8 = now % 2 ^ 64 ∧
    at2 16 = x.power.held % 2 ^ 16 ∧ at2 18 = (x.power.held - x.power.set) % 2 ^ 16 ∧ at2 20 = x.power.draw % 2 ^ 16 ∧
    (∀ k, k < 4 → at2 (22 + 2 * k) = x.power.out.getD k 0 % 2 ^ 16 ∧ at2 (30 + 2 * k) = x.power.lent.getD k 0 % 2 ^ 16 ∧
      at2 (38 + 2 * k) = x.power.owed.getD k 0 % 2 ^ 16) ∧
    at2 46 = R.csl % 2 ^ 16 ∧ at2 48 = R.count % 2 ^ 16 ∧ ∀ i : Fin 11, memNat m (b + 64 + 4 * i.val) 4 = x.errs[i].toNat := by
  intro at2
  subst hm
  obtain ⟨hseq, hnow⟩ := statusBytes_header seq.toNat now x R m₀ b
  obtain ⟨hcsl, hcount⟩ := statusFields_getD_row R ho hl hw
  have hfield (i : Nat) (hi : i < 17) : at2 (16 + 2 * i) = (statusFields x R).getD i 0 % 2 ^ 16 := statusBytes_field R ho hl hw seq.toNat now m₀ b hi
  refine ⟨hseq.trans (Nat.mod_eq_of_lt seq.isLt), hnow, hfield 0 (by decide), hfield 1 (by decide), hfield 2 (by decide), fun k hk => ?_,
    hcsl ▸ hfield 15 (by decide), hcount ▸ hfield 16 (by decide), fun i => ?_⟩
  · obtain ⟨hout, hlent, howed⟩ := statusFields_getD R ho hl hw hk
    rw [show 22 + 2 * k = 16 + 2 * (3 + k) by omega, show 30 + 2 * k = 16 + 2 * (7 + k) by omega, show 38 + 2 * k = 16 + 2 * (11 + k) by omega,
      hfield _ (by omega), hfield _ (by omega), hfield _ (by omega), hout, hlent, howed]
    exact ⟨rfl, rfl, rfl⟩
  · rw [Nat.add_assoc]
    exact statusBytes_error R ho hl hw seq.toNat now m₀ b i
/-- Settles O52, event by event. -/
theorem powerEvents : Obligations.PowerEvents := by
  unfold Obligations.PowerEvents
  intro s pt d row die rise temp r
  dsimp only
  refine ⟨driftChange_waits pt, driftChange_stores pt, driftAlarm_waits, driftAlarm_raises, ?_, droopDetect_waits, droopDetect_fires, ?_,
    ⟨droopRecovery_rises, droopRecovery_waits⟩, ⟨budgetThrottle_waits, budgetThrottle_falls, budgetThrottle_climbs⟩,
    ⟨turnsChange_waits, turnsChange_falls rise, turnsChange_climbs⟩, drawRefresh_waits die, drawRefresh_stores die, ?_⟩
  · obtain ⟨t, ht, hy⟩ := thermalThrottle_follows s pt temp
    exact ⟨t, _, ht, hy, fun h => if_pos h, fun h hot => thermalNext_hot h hot, fun h hot => thermalNext_cool h hot, fun h hot => thermalNext_between h hot⟩
  · intro ha
    have hs : step s = .next (({ s with agenda := r } : State).droopFallStep row) := by
      simp only [step, State.turn, ha, State.runTurn]
    refine ⟨fun h => hs.trans (congrArg _ (droopFall_waits h)), fun h => ⟨_, hs, ?_⟩⟩
    exact droopFall_falls (s := { s with agenda := r }) h
  · intro ho hl hw
    obtain ⟨hd, hother, he, hm⟩ := setBytes_modDie s die (fun x => { x with statSeq := x.statSeq + 2 }) (dieKey die Config.statusBlockOff)
      (statusBytes ((s.die die).statSeq + 2).toNat s.refNs (s.die die) (s.row (die / 8)))
    refine ⟨_, rfl, hd, hother, he, memKeptBut_putBytes hm (statusBytes_length _ ho hl hw _ _),
      statusBlock_fields ho hl hw hm⟩

end Sys2Proof.Safety
end

section
/-!
SUPPORT. What reset, boot, trust and the module's events do (R15, R18, R22, R374 to R378, R382), said once for each.
-/
namespace Sys2Proof.Safety
open Sys2Proof.Machine

/-! ## Dies under changes of other registers -/

/-- A register of the dies that a change of one die leaves. -/
theorem die_modDie_proj {α : Type} (φ : Die → α) {f : Die → Die} (hf : ∀ x, φ (f x) = φ x) (s : State) (e d : Nat) :
    φ ((s.modDie e f).die d) = φ (s.die d) := by
  by_cases h : d = e
  · subst h
    rw [State.die_modDie, hf]
  · rw [State.die_modDie_other _ _ h]
theorem foldl_die_proj {α β : Type} (φ : Die → α) {step : State → β → State} (h : ∀ (t : State) b d, φ ((step t b).die d) = φ (t.die d)) (l : List β)
    (s : State) (d : Nat) : φ ((l.foldl step s).die d) = φ (s.die d) := by
  induction l generalizing s with
  | nil => rfl
  | cons b r ih => exact (ih _).trans (h s b d)
theorem die_setBytes (s : State) (k : Nat) (bs : List Byte) (d : Nat) : (s.setBytes k bs).die d = s.die d := rfl
theorem writeMaps_die_proj {α : Type} (φ : Die → α) (h : ∀ x q r, φ { x with mapSeq := q, mapRtc := r } = φ x) (s : State) (d : Nat) :
    φ (s.writeMaps.die d) = φ (s.die d) := by
  unfold State.writeMaps
  refine foldl_die_proj φ (fun t e d => ?_) _ s d
  unfold State.writeMap
  dsimp only
  rw [die_setBytes]
  exact die_modDie_proj φ (fun _ => h _ _ _) t e d
/-- Every die of a list below 128 changed once, a register of it as f says. -/
theorem foldl_modDie_mem {α : Type} (φ : Die → α) (f : Die → Die) {l : List Nat} (hl : l.Nodup) (s : State) (d : Nat) :
    φ ((l.foldl (fun (t : State) e => t.modDie e f) s).die d) = if d ∈ l then φ (f (s.die d)) else φ (s.die d) := by
  induction l generalizing s with
  | nil => rfl
  | cons e r ih =>
    obtain ⟨he, hr⟩ := List.nodup_cons.mp hl
    rw [List.foldl_cons, ih hr]
    by_cases h : d = e
    · subst h
      rw [if_neg he, if_pos List.mem_cons_self, State.die_modDie]
    · simp only [List.mem_cons, h, false_or, State.die_modDie_other _ _ h]
theorem active_congr {s t : State} {d : Nat} (h : (t.die d).pts = (s.die d).pts) : t.active d = s.active d := by
  simp only [State.active, State.ltp, State.pts, h]

/-! ## Restart -/

/-- The panel starts over with flash and the inlet as given, and keeps the fuses of its dies and the state of its ports. -/
def StartsOver (s t : State) (flash : FwImage) (inlet : Nat) : Prop :=
  t.mem = [] ∧ t.strands = [] ∧ t.vregs = [] ∧ t.pens = [] ∧ t.tiles = [] ∧
  t.rows = [] ∧ t.regions = [] ∧ t.ops = [] ∧ t.posts = [] ∧ t.chan = [] ∧ t.arrived = [] ∧ t.dmap = [] ∧ t.ticks = 0 ∧ t.reports = [] ∧
  t.bootPhase = 0 ∧ t.energised = 0 ∧ t.attest = none ∧ t.recovery = false ∧ t.flash = flash ∧ t.inlet = inlet ∧ t.portsDown = s.portsDown ∧ t.domains = [] ∧
  ((s.dies.map Prod.fst).Nodup → ∀ d, t.die d = { fuse := (s.die d).fuse })
theorem get_absent {α : Type} {m : SMap α} {k : Nat} (d : α) (h : k ∉ m.map Prod.fst) : SMap.get m k d = d := by
  induction m with
  | nil => rfl
  | cons e r ih =>
    rw [SMap.get, if_neg (by rintro rfl; exact h List.mem_cons_self)]
    exact ih fun hk => h (List.mem_cons_of_mem _ hk)
/-- The fuses of each die stay, and a die without a fuse blown is a new one. -/
theorem get_fuses {m : SMap Die} (h : (m.map Prod.fst).Nodup) (d : Nat) :
    SMap.get ((m.filter (fun e => e.2.fuse != 0)).map (fun e => (e.1, ({ fuse := e.2.fuse } : Die)))) d {} = { fuse := (SMap.get m d {}).fuse } := by
  induction m with
  | nil => rfl
  | cons e r ih =>
    obtain ⟨k, x⟩ := e
    obtain ⟨hk, hr⟩ := List.nodup_cons.mp h
    by_cases hf : x.fuse = 0
    · rw [List.filter_cons_of_neg (by simp [hf]), ih hr, SMap.get]
      split
      · next he =>
        subst he
        rw [get_absent _ hk, hf]
      · rfl
    · rw [List.filter_cons_of_pos (by simp [hf]), List.map_cons, SMap.get, SMap.get]
      split
      · rfl
      · exact ih hr
theorem restart_startsOver (s : State) : StartsOver s s.restart s.flash s.inlet :=
  ⟨rfl, rfl, rfl, rfl, rfl, rfl, rfl, rfl, rfl, rfl, rfl, rfl, rfl, rfl, rfl, rfl, rfl, rfl, rfl, rfl, rfl, rfl, fun h d => get_fuses h d⟩
theorem panelReset_startsOver (s : State) : ∃ t, exec .panelReset s = .next t ∧ StartsOver s t s.flash s.inlet := ⟨_, rfl, restart_startsOver s⟩
theorem inletOvertemp_cold {s : State} {temp : Nat} (h : temp < 55) : exec (.inletOvertemp temp) s = .next { s with inlet := temp } :=
  congrArg Host.Outcome.next (if_neg (Nat.not_le.mpr h))
theorem inletOvertemp_hot {s : State} {temp : Nat} (h : 55 ≤ temp) : ∃ t, exec (.inletOvertemp temp) s = .next t ∧ StartsOver s t s.flash temp :=
  ⟨_, congrArg Host.Outcome.next (if_pos h), restart_startsOver { s with inlet := temp }⟩

/-! ## Power and trust -/

theorem powerRegionEnergise_waits {s : State} (h : s.bootPhase ≠ 0 ∨ s.recovery = true ∨ 55 ≤ s.inlet ∨ (s.energised ≠ 0 ∧ s.refNs < s.energisedAt + 1000000)) :
    exec .powerRegionEnergise s = .next s := congrArg Host.Outcome.next (if_pos h)
theorem powerRegionEnergise_next {s : State} (hb : s.bootPhase = 0) (hr : s.recovery = false) (hi : s.inlet < 55)
    (he : s.energised = 0 ∨ s.energisedAt + 1000000 ≤ s.refNs) : exec .powerRegionEnergise s =
      .next { s with energised := s.energised + 1, energisedAt := s.refNs, bootPhase := if s.energised < 15 then 0 else 1 } := by
  refine congrArg Host.Outcome.next (if_neg ?_)
  rintro (h | h | h | ⟨h, h'⟩)
  · exact h hb
  · rw [hr] at h
    cases h
  · omega
  · omega

/-- The image passes both checks of a die's boot ROM. -/
def Passes (s : State) (die : Nat) (i : FwImage) : Prop := i.sigOk = true ∧ (s.die die).fuse ≤ i.version
theorem imageOk_iff (s : State) (die : Nat) (i : FwImage) : s.imageOk die i = true ↔ Passes s die i := by
  simp [State.imageOk, Passes]
theorem imageCheck_waits {s : State} {die : Nat} (h : s.bootPhase ≠ 1 ∨ s.recovery = true ∨ 128 ≤ die) : exec (.imageCheck die) s = .next s :=
  congrArg Host.Outcome.next (if_pos h)
theorem imageCheck_due {s : State} {die : Nat} (hb : s.bootPhase = 1) (hr : s.recovery = false) (hd : die < 128) :
    ¬(s.bootPhase ≠ 1 ∨ s.recovery = true ∨ Config.dies ≤ die) := by
  rintro (h | h | h)
  · exact h hb
  · rw [hr] at h
    cases h
  · exact absurd h (Nat.not_le.mpr hd)
theorem imageCheck_fails {s : State} {die : Nat} (hb : s.bootPhase = 1) (hr : s.recovery = false) (hd : die < 128) (h : ¬Passes s die s.flash) :
    exec (.imageCheck die) s = .next { s with recovery := true } := by
  refine congrArg Host.Outcome.next ((if_neg (imageCheck_due hb hr hd)).trans (if_pos ?_))
  rw [Bool.not_eq_true', Bool.eq_false_iff]
  exact mt (imageOk_iff s die s.flash).mp h
theorem imageCheck_passes {s : State} {die : Nat} (hb : s.bootPhase = 1) (hr : s.recovery = false) (hd : die < 128) (h : Passes s die s.flash) :
    ∃ t, exec (.imageCheck die) s = .next t ∧ t.die die = { s.die die with digestOk := true } ∧ (∀ k, k ≠ die → t.die k = s.die k) ∧
      t = { s with dies := t.dies, bootPhase := t.bootPhase, attest := t.attest } ∧
      ((∀ d, d < 128 → d ≠ die → (s.die d).digestOk = true) → t.bootPhase = 2 ∧ t.attest = some (Config.attestKey Config.fusedSecret)) ∧
      ((∃ d, d < 128 ∧ d ≠ die ∧ (s.die d).digestOk = false) → t.bootPhase = 1 ∧ t.attest = s.attest) := by
  have hok : ¬(!s.imageOk die s.flash) = true := by
    rw [Bool.not_eq_true', (imageOk_iff s die s.flash).mpr h]
    decide
  have hself := s.die_modDie die fun x => { x with digestOk := true }
  have hother : ∀ k, k ≠ die → (s.modDie die fun x => { x with digestOk := true }).die k = s.die k := fun k hk => s.die_modDie_other _ hk
  have hall : ((List.range 128).all fun d => ((s.modDie die fun x => { x with digestOk := true }).die d).digestOk) = true ↔
      ∀ d, d < 128 → d ≠ die → (s.die d).digestOk = true := by
    rw [List.all_eq_true]
    refine ⟨fun h d hd hne => by simpa only [hother d hne] using h d (List.mem_range.mpr hd), fun h d hd => ?_⟩
    by_cases he : d = die
    · rw [he, hself]
    · rw [hother d he]
      exact h d (List.mem_range.mp hd) he
  refine ⟨_, congrArg Host.Outcome.next ((if_neg (imageCheck_due hb hr hd)).trans (if_neg hok)), ?_⟩
  dsimp only
  split
  · next ha =>
    refine ⟨hself, hother, rfl, fun _ => ⟨rfl, rfl⟩, fun ⟨d, hd, hne, hf⟩ => ?_⟩
    rw [hall.mp ha d hd hne] at hf
    cases hf
  · next ha => exact ⟨hself, hother, rfl, fun h => absurd (hall.mpr h) ha, fun _ => ⟨hb, rfl⟩⟩

/-- The dies that carry ports, and the path of a recovery image. -/
def Edge (die : Nat) : Prop := die < 8 ∨ (120 ≤ die ∧ die < 128)
def Path (s : State) (die : Nat) (mgmt : Bool) : Prop :=
  if mgmt then ∀ k, k < 64 → k ∈ s.portsDown else 4 * (if die < 8 then die else die - 112) ∉ s.portsDown
theorem isEdge_iff (die : Nat) : isEdge die = true ↔ Edge die := by
  simp [isEdge, Edge]
theorem recoveryPath_iff (s : State) (die : Nat) (img : FwImage) (mgmt : Bool) : s.recoveryPath ⟨die, img, mgmt⟩ = true ↔ Path s die mgmt := by
  cases mgmt <;> simp [State.recoveryPath, Path, portZero]
theorem recoveryImage_taken_iff (s : State) (die : Nat) (img : FwImage) (mgmt : Bool) :
    ¬(!s.recovery || !isEdge die || !s.recoveryPath ⟨die, img, mgmt⟩ || !s.imageOk die img) = true ↔
      s.recovery = true ∧ Edge die ∧ Path s die mgmt ∧ Passes s die img := by
  rw [← isEdge_iff, ← recoveryPath_iff s die img, ← imageOk_iff]
  simp [and_assoc]
theorem recoveryImage_waits {s : State} {die : Nat} {img : FwImage} {mgmt : Bool}
    (h : s.recovery = false ∨ ¬Edge die ∨ ¬Path s die mgmt ∨ ¬Passes s die img) : exec (.recoveryImage ⟨die, img, mgmt⟩) s = .next s := by
  refine congrArg Host.Outcome.next (if_pos ?_)
  by_contra hn
  obtain ⟨hr, he, hp, hi⟩ := (recoveryImage_taken_iff s die img mgmt).mp hn
  rcases h with h | h | h | h
  · rw [hr] at h
    cases h
  · exact h he
  · exact h hp
  · exact h hi
theorem recoveryImage_taken {s : State} {die : Nat} {img : FwImage} {mgmt : Bool} (hr : s.recovery = true) (he : Edge die) (hp : Path s die mgmt)
    (hi : Passes s die img) : ∃ t, exec (.recoveryImage ⟨die, img, mgmt⟩) s = .next t ∧ StartsOver s t img s.inlet := by
  refine ⟨{ s.restart with flash := img }, congrArg Host.Outcome.next (if_neg ((recoveryImage_taken_iff s die img mgmt).mpr ⟨hr, he, hp, hi⟩)), ?_⟩
  exact ⟨rfl, rfl, rfl, rfl, rfl, rfl, rfl, rfl, rfl, rfl, rfl, rfl, rfl, rfl, rfl, rfl, rfl, rfl, rfl, rfl, rfl, rfl, fun h d => get_fuses h d⟩

theorem getMeasurements_waits {s : State} {die : Nat} (h : ¬Edge die ∨ s.attest = none) : exec (.getMeasurements die) s = .next s := by
  refine congrArg Host.Outcome.next ?_
  cases ha : s.attest with
  | none => rfl
  | some a =>
    rcases h with h | h
    · exact if_neg (mt (isEdge_iff die).mp h)
    · rw [ha] at h
      cases h
theorem getMeasurements_reports {s : State} {die a : Nat} (he : Edge die) (ha : s.attest = some a) :
    ∃ m, exec (.getMeasurements die) s = .next { s with answers := s.answers ++ [(some die, 4 :: die :: (m ++ [Config.sign a m]))] } ∧
      m.length = 4 ∧ m[0]? = some (Config.shake256 [Config.bootRom]) ∧ m[1]? = some (Config.shake256 [s.flash.digest, s.flash.version]) := by
  refine ⟨s.measurements, congrArg Host.Outcome.next ?_, rfl, rfl, rfl⟩
  split
  · next k hk =>
    cases hk.symm.trans ha
    exact if_pos ((isEdge_iff die).mpr he)
  · next hk => cases hk.symm.trans ha

end Sys2Proof.Safety
end

section
/-!
SUPPORT. The phases of boot that run the self-test, the trim of the oscillators and the authentication of links (R15, R18, R374, R376).
-/
namespace Sys2Proof.Safety
open Sys2Proof.Machine

/-- One turn of the agenda is what it says. -/
theorem step_turn {s : State} {a : Turn} {r : List Turn} (h : s.agenda = a :: r) : step s = State.runTurn { s with agenda := r } a := by
  simp only [step, State.turn, h]

/-! ## Self-test -/

/-- Every FP of the self-test's list is one of R252. -/
def Fits (fp : List (Nat × Nat × Nat)) : Prop := ∀ e, e ∈ fp → e.2.2 ≤ 19 ∨ e.2.2 = 31
theorem fits_iff (fp : List (Nat × Nat × Nat)) : ¬fp.any (fun e => decide (19 < e.2.2 ∧ e.2.2 ≠ 31)) = true ↔ Fits fp := by
  rw [Fits, List.any_eq_true, not_exists]
  refine forall_congr' fun e => ?_
  rw [decide_eq_true_eq, not_and]
  refine imp_congr_right fun _ => ?_
  omega
theorem selfTest_waits {s : State} {bad : List Nat} {grade : Nat} {pts fp : List (Nat × Nat × Nat)} (h : s.bootPhase ≠ 2 ∨ ¬Fits fp) :
    s.selfTestPhase bad grade pts fp = s :=
  if_pos (h.imp id fun h => not_not.mp (mt (fits_iff fp).mp h))

/-- What the self-test finds of the tiles, of the channels and of failed dies. -/
def testTiles (s : State) (pts : List (Nat × Nat × Nat)) : State :=
  pts.foldl (fun (t : State) e => t.modDie e.1 (fun x => { x with pts := SMap.put x.pts e.2.1 (e.2.2 % 3) })) s
def testChannels (s : State) (fp : List (Nat × Nat × Nat)) : State :=
  fp.foldl (fun (t : State) e => t.modDie e.1 (fun x =>
    { x with chspare := Vector.ofFn (fun i : Fin 8 => if i.val = e.2.1 then BitVec.ofNat 8 e.2.2 else x.chspare[i]) })) s
def testDies (s : State) (bad : List Nat) : State :=
  ((List.range 128).filter (fun d => bad.contains d || decide (s.active d < 136))).foldl
    (fun (t : State) d => t.modDie d (fun x => { x with failed := true })) s
theorem selfTest_runs {s : State} (bad : List Nat) (grade : Nat) (pts : List (Nat × Nat × Nat)) {fp : List (Nat × Nat × Nat)} (hb : s.bootPhase = 2)
    (h : Fits fp) : let t := testDies (testChannels (testTiles s pts) fp) bad
    s.selfTestPhase bad grade pts fp =
      { t.writeMaps with gradeB := grade == 1 || !(List.range 128).all (fun d => t.active d == 144), bootPhase := 3 } :=
  if_neg fun hn => hn.elim (fun hn => hn hb) ((fits_iff fp).mpr h)

theorem testTiles_chspare (s : State) (pts : List (Nat × Nat × Nat)) (d : Nat) : ((testTiles s pts).die d).chspare = (s.die d).chspare :=
  foldl_die_proj Die.chspare (fun t e d => die_modDie_proj Die.chspare (fun _ => by rfl) t e.1 d) pts s d
theorem testChannels_chspare (s : State) (d g k : Nat) (j : Fin 8) :
    ((testChannels s [(d, g, k)]).die d).chspare[j] = if j.val = g then BitVec.ofNat 8 k else (s.die d).chspare[j] := by
  rw [testChannels, List.foldl_cons, List.foldl_nil, State.die_modDie]
  simp
theorem testDies_proj {α : Type} (φ : Die → α) (h : ∀ x, φ { x with failed := true } = φ x) (s : State) (bad : List Nat) (d : Nat) :
    φ ((testDies s bad).die d) = φ (s.die d) :=
  foldl_die_proj φ (fun t e d => die_modDie_proj φ h t e d) _ s d
theorem testDies_failed {s : State} {bad : List Nat} {d : Nat} (hd : d < 128) (h : d ∈ bad ∨ s.active d < 136) : ((testDies s bad).die d).failed = true := by
  rw [testDies, foldl_modDie_mem Die.failed _ (List.nodup_range.filter _), if_pos]
  simpa [hd] using h
theorem writeMaps_active (s : State) (d : Nat) : s.writeMaps.active d = s.active d := active_congr (writeMaps_die_proj Die.pts (fun _ _ _ => rfl) s d)
/-- The registers that end phase 3 are no dies'. -/
theorem die_phase3 (t : State) (g : Bool) (d : Nat) : ({ t with gradeB := g, bootPhase := 3 } : State).die d = t.die d := rfl
theorem active_phase3 (t : State) (g : Bool) (d : Nat) : ({ t with gradeB := g, bootPhase := 3 } : State).active d = t.active d := rfl
theorem selfTest_builds {s : State} (bad : List Nat) (grade : Nat) (pts : List (Nat × Nat × Nat)) {fp : List (Nat × Nat × Nat)} (hb : s.bootPhase = 2)
    (h : Fits fp) : ∃ t, s.selfTestPhase bad grade pts fp = t ∧ t.bootPhase = 3 ∧
      (∀ d g k, fp = [(d, g, k)] → ∀ j : Fin 8, (t.die d).chspare[j] = if j.val = g then BitVec.ofNat 8 k else (s.die d).chspare[j]) ∧
      (∀ d, d < 128 → (d ∈ bad ∨ t.active d < 136) → (t.die d).failed = true) ∧
      (t.gradeB = false → grade ≠ 1 ∧ ∀ d, d < 128 → t.active d = 144) := by
  refine ⟨_, selfTest_runs bad grade pts hb h, rfl, ?_, ?_, ?_⟩
  · rintro d g k rfl j
    rw [die_phase3, writeMaps_die_proj Die.chspare (fun _ _ _ => rfl), testDies_proj Die.chspare (fun _ => rfl), testChannels_chspare, testTiles_chspare]
  · intro d hd hf
    rw [active_phase3, writeMaps_active, active_congr (testDies_proj Die.pts (fun _ => rfl) _ bad d)] at hf
    rw [die_phase3, writeMaps_die_proj Die.failed fun _ _ _ => rfl]
    exact testDies_failed hd hf
  · intro hg
    obtain ⟨hne, hall⟩ := Bool.or_eq_false_iff.mp hg
    refine ⟨by simpa using hne, fun d hd => ?_⟩
    rw [active_phase3, writeMaps_active]
    rw [Bool.not_eq_false', List.all_eq_true] at hall
    exact beq_iff_eq.mp (hall d (List.mem_range.mpr hd))

/-! ## Trim -/

theorem trimmed_iff (l : List (Nat × Nat)) : l.any (fun e => decide (200 < e.2)) = true ↔ ∃ e, e ∈ l ∧ 200 < e.2 := by
  simp only [List.any_eq_true, decide_eq_true_eq]
theorem trim_waits {s : State} {l : List (Nat × Nat)} (h : s.bootPhase ≠ 3 ∨ ∃ e, e ∈ l ∧ 200 < e.2) : s.trimPhase l = s :=
  if_pos (h.imp id (trimmed_iff l).mpr)
theorem trim_drift_le {d : Nat} (h : d ≤ 200) : (BitVec.ofNat 10 d).toNat ≤ 200 := by
  rw [BitVec.toNat_ofNat]
  exact (Nat.mod_le _ _).trans h
theorem trim_sets {s : State} {l : List (Nat × Nat)} (hb : s.bootPhase = 3) (h : ∀ e, e ∈ l → e.2 ≤ 200) :
    ∃ t, s.trimPhase l = t ∧ t.bootPhase = 4 ∧ ∀ p, (t.tile p).drift.toNat ≤ 200 ∨ (t.tile p).drift = (s.tile p).drift := by
  have hn : ¬(s.bootPhase ≠ 3 ∨ l.any (fun e => decide (200 < e.2)) = true) := fun hn => hn.elim (fun hn => hn hb) fun hn => by
    obtain ⟨e, he, hlt⟩ := (trimmed_iff l).mp hn
    exact absurd (h e he) (Nat.not_le.mpr hlt)
  refine ⟨_, if_neg hn, rfl, fun p => ?_⟩
  refine List.foldlRecOn (motive := fun t : State => (t.tile p).drift.toNat ≤ 200 ∨ (t.tile p).drift = (s.tile p).drift) l
    (fun (t : State) e => t.modTile e.1 (fun x => { x with drift := BitVec.ofNat 10 e.2 })) (.inr rfl) fun t ht e he => ?_
  by_cases hp : p = e.1
  · rw [hp, State.tile_modTile]
    exact .inl (trim_drift_le (h e he))
  · rwa [State.tile_modTile_other _ _ hp]

/-! ## Links -/

/-- A die after the authentication of its link in direction i. -/
def linkEnd (ok : Bool) (x : Die) (i out back : Nat) : Die :=
  { x with linkTried := x.linkTried.set i true, linkUp := x.linkUp.set i ok, linkKey := if ok then x.linkKey.set i out else x.linkKey, baseKey := if ok then x.baseKey.set i back else x.baseKey }
theorem setEnd_die (s : State) (die : Nat) (dir : Dir) (ok : Bool) (out back : Nat) :
    (s.setEnd die dir ok out back).die die = linkEnd ok (s.die die) (dirNo dir) out back := s.die_modDie die _
theorem setEnd_die_other (s : State) {die k : Nat} (dir : Dir) (ok : Bool) (out back : Nat) (h : k ≠ die) :
    (s.setEnd die dir ok out back).die k = s.die k := s.die_modDie_other _ h
theorem dieAt_ne {die b : Nat} {dir : Dir} (h : dieAt die dir = some b) : b ≠ die := by
  cases dir
  all_goals
    obtain ⟨hd, he⟩ := Option.ite_none_right_eq_some.mp h
    cases he
    omega
theorem linkAuthentication_waits {s : State} {die : Nat} {dir : Dir} (ok : Bool) (key : Nat)
    (h : s.bootPhase ≠ 4 ∨ 128 ≤ die ∨ (s.die die).linkTried.getD (dirNo dir) false = true ∨ dieAt die dir = none) :
    exec (.linkAuthentication die dir ok key) s = .next s := by
  refine congrArg Host.Outcome.next ?_
  split
  · rfl
  · next hn =>
    have hd : dieAt die dir = none := by
      rcases h with h | h | h | h
      · exact absurd (.inl h) hn
      · exact absurd (.inr (.inl h)) hn
      · exact absurd (.inr (.inr h)) hn
      · exact h
    rw [hd]

/-- The pair of ends of a link: two dies north and south of each other, or a die and its base die. -/
def linkEnds (s : State) (die b : Nat) (dir : Dir) (ok : Bool) (key : Nat) : State :=
  match dir with
  | .n => (s.setEnd die dir ok (key % 2 ^ 256) 0).setEnd b .s ok (key / 2 ^ 256) 0
  | .s => (s.setEnd die dir ok (key % 2 ^ 256) 0).setEnd b .n ok (key / 2 ^ 256) 0
  | _ => s.setEnd die dir ok (key % 2 ^ 256) (key / 2 ^ 256)
/-- The die that the event names fails where its link does. -/
def linkFails (t : State) (die : Nat) (ok : Bool) : State := if ok then t else t.modDie die (fun x => { x with failed := true })
def phase5 (t : State) : State := if t.allTried then { t with bootPhase := 5 } else t
theorem linkAuthentication_due {s : State} {die b : Nat} {dir : Dir} (ok : Bool) (key : Nat) (hb : s.bootPhase = 4) (hd : die < 128)
    (ht : (s.die die).linkTried.getD (dirNo dir) false = false) (h : dieAt die dir = some b) :
    exec (.linkAuthentication die dir ok key) s = .next (phase5 (linkFails (linkEnds s die b dir ok key) die ok)) := by
  refine congrArg Host.Outcome.next ((if_neg ?_).trans ?_)
  · rintro (h | h | h)
    · exact h hb
    · exact absurd h (Nat.not_le.mpr hd)
    · rw [ht] at h
      cases h
  · rw [h]
    cases dir <;> rfl
theorem linkEnds_frame (s : State) (die b : Nat) (dir : Dir) (ok : Bool) (key : Nat) :
    linkEnds s die b dir ok key = { s with dies := (linkEnds s die b dir ok key).dies } := by
  cases dir <;> rfl
theorem linkFails_frame (t : State) (die : Nat) (ok : Bool) : linkFails t die ok = { t with dies := (linkFails t die ok).dies } := by
  cases ok <;> rfl
theorem linkFails_die (t : State) (die : Nat) (ok : Bool) :
    (linkFails t die ok).die die = { t.die die with failed := (t.die die).failed || !ok } := by
  cases ok
  · rw [linkFails, if_neg Bool.false_ne_true, State.die_modDie, Bool.not_false, Bool.or_true]
  · rw [linkFails, if_pos rfl, Bool.not_true, Bool.or_false]
theorem linkFails_die_other (t : State) {die k : Nat} (ok : Bool) (h : k ≠ die) : (linkFails t die ok).die k = t.die k := by
  cases ok
  · rw [linkFails, if_neg Bool.false_ne_true, State.die_modDie_other _ _ h]
  · rfl
theorem linkEnds_across {s : State} {die b : Nat} {dir : Dir} (ok : Bool) (key : Nat) (hv : dir = .n ∨ dir = .s) (hb : b ≠ die) :
    let t := linkEnds s die b dir ok key
    t.die die = linkEnd ok (s.die die) (dirNo dir) (key % 2 ^ 256) 0 ∧ t.die b = linkEnd ok (s.die b) (dirNo (backDir dir)) (key / 2 ^ 256) 0 ∧
    ∀ j, j ≠ die → j ≠ b → t.die j = s.die j := by
  have h : linkEnds s die b dir ok key = (s.setEnd die dir ok (key % 2 ^ 256) 0).setEnd b (backDir dir) ok (key / 2 ^ 256) 0 := by
    rcases hv with rfl | rfl <;> rfl
  dsimp only
  rw [h]
  refine ⟨?_, ?_, fun j hj hjb => ?_⟩
  · rw [setEnd_die_other _ _ _ _ _ hb.symm, setEnd_die]
  · rw [setEnd_die, setEnd_die_other _ _ _ _ _ hb]
  · rw [setEnd_die_other _ _ _ _ _ hjb, setEnd_die_other _ _ _ _ _ hj]
theorem linkEnds_base {s : State} {die : Nat} {dir : Dir} (b : Nat) (ok : Bool) (key : Nat) (hh : dir = .e ∨ dir = .w) :
    let t := linkEnds s die b dir ok key
    t.die die = linkEnd ok (s.die die) (dirNo dir) (key % 2 ^ 256) (key / 2 ^ 256) ∧ ∀ j, j ≠ die → t.die j = s.die j := by
  have h : linkEnds s die b dir ok key = s.setEnd die dir ok (key % 2 ^ 256) (key / 2 ^ 256) := by
    rcases hh with rfl | rfl <;> rfl
  dsimp only
  rw [h]
  exact ⟨setEnd_die _ _ _ _ _ _, fun j hj => setEnd_die_other _ _ _ _ _ hj⟩

/-- Every end of a link has run its authentication. -/
def AllTried (t : State) : Prop := ∀ d x, d < 128 → dieAt d x ≠ none → (t.die d).linkTried.getD (dirNo x) false = true
theorem allTried_iff (t : State) : t.allTried = true ↔ AllTried t := by
  simp only [State.allTried, AllTried, List.all_eq_true, List.mem_range, Bool.or_eq_true, Option.isNone_iff_eq_none]
  refine ⟨fun h d x hd hn => ?_, fun h d hd x _ => ?_⟩
  · exact (h d hd x (by cases x <;> decide)).resolve_left hn
  · exact or_iff_not_imp_left.mpr (h d x hd)
theorem phase5_die (t : State) (d : Nat) : (phase5 t).die d = t.die d := by
  unfold phase5
  split <;> rfl
theorem phase5_frame (t : State) : phase5 t = { t with bootPhase := (phase5 t).bootPhase } := by
  unfold phase5
  split <;> rfl
theorem phase5_all {t : State} (h : AllTried (phase5 t)) : (phase5 t).bootPhase = 5 := by
  have h' : AllTried t := by simpa only [AllTried, phase5_die] using h
  rw [phase5, if_pos ((allTried_iff t).mpr h')]
theorem phase5_some {t : State} (h : ¬AllTried (phase5 t)) : (phase5 t).bootPhase = t.bootPhase := by
  have h' : ¬AllTried t := by simpa only [AllTried, phase5_die] using h
  rw [phase5, if_neg (mt (allTried_iff t).mp h')]
/-- Authentication of a link: its ends, the die that fails, and the end of phase 5. -/
theorem linkAuthentication_ends {s : State} {die b : Nat} {dir : Dir} (ok : Bool) (key : Nat) (hb : s.bootPhase = 4) (hd : die < 128)
    (ht : (s.die die).linkTried.getD (dirNo dir) false = false) (h : dieAt die dir = some b) :
    ∃ t, exec (.linkAuthentication die dir ok key) s = .next t ∧ t = { s with dies := t.dies, bootPhase := t.bootPhase } ∧
      (dir = .n ∨ dir = .s → t.die die = { linkEnd ok (s.die die) (dirNo dir) (key % 2 ^ 256) 0 with failed := (s.die die).failed || !ok } ∧
        t.die b = linkEnd ok (s.die b) (dirNo (backDir dir)) (key / 2 ^ 256) 0 ∧ ∀ j, j ≠ die → j ≠ b → t.die j = s.die j) ∧
      (dir = .e ∨ dir = .w → t.die die = { linkEnd ok (s.die die) (dirNo dir) (key % 2 ^ 256) (key / 2 ^ 256) with failed := (s.die die).failed || !ok } ∧
        ∀ j, j ≠ die → t.die j = s.die j) ∧
      (AllTried t → t.bootPhase = 5) ∧ (¬AllTried t → t.bootPhase = 4) := by
  have hne := dieAt_ne h
  refine ⟨_, linkAuthentication_due ok key hb hd ht h, ?_, fun hv => ?_, fun hh => ?_, phase5_all, fun hn => ?_⟩
  · rw [phase5_frame, linkFails_frame, linkEnds_frame]
  · obtain ⟨h1, h2, h3⟩ := linkEnds_across (s := s) ok key hv hne
    refine ⟨?_, ?_, fun j hj hjb => ?_⟩
    · rw [phase5_die, linkFails_die, h1]
      rfl
    · rw [phase5_die, linkFails_die_other _ _ hne, h2]
    · rw [phase5_die, linkFails_die_other _ _ hj, h3 j hj hjb]
  · obtain ⟨h1, h2⟩ := linkEnds_base (s := s) b ok key hh
    refine ⟨?_, fun j hj => ?_⟩
    · rw [phase5_die, linkFails_die, h1]
      rfl
    · rw [phase5_die, linkFails_die_other _ _ hj, h2 j hj]
  · rw [phase5_some hn, linkFails_frame, linkEnds_frame]
    exact hb

end Sys2Proof.Safety
end

section
/-!
SUPPORT. Phase 6 of boot (R374): die positions, the graft of failed dies onto spare ones, and what firmware sets.
-/
namespace Sys2Proof.Safety
open Sys2Proof.Machine

/-! ## Positions each on a die of its own -/

theorem eraseDups_length_le {α : Type} [BEq α] (l : List α) : l.eraseDups.length ≤ l.length := by
  induction h : l.length using Nat.strong_induction_on generalizing l with
  | _ n ih =>
    cases l with
    | nil => exact Nat.zero_le _
    | cons a r =>
      have hr := List.length_filter_le (fun b => !b == a) r
      have := ih _ (by rw [← h, List.length_cons]; omega) (r.filter fun b => !b == a) rfl
      rw [List.eraseDups_cons, List.length_cons]
      rw [List.length_cons] at h
      omega
theorem eraseDups_length_iff (l : List Nat) : l.eraseDups.length = l.length ↔ l.Nodup := by
  induction l with
  | nil => simp
  | cons a r ih =>
    have hle := eraseDups_length_le (r.filter fun b => !b == a)
    have hr := List.length_filter_le (fun b => !b == a) r
    have hmem : (r.filter fun b => !b == a).length = r.length ↔ a ∉ r := by
      rw [List.length_filter_eq_length_iff]
      refine ⟨fun h hm => by simpa using h a hm, fun h b hb => ?_⟩
      have : b ≠ a := by
        rintro rfl
        exact h hb
      simpa using this
    rw [List.eraseDups_cons, List.length_cons, List.length_cons, List.nodup_cons, ← hmem, ← ih]
    constructor
    · intro h
      have hl : (r.filter fun b => !b == a).length = r.length := by omega
      have he := List.length_filter_eq_length_iff.mp hl
      rw [List.filter_eq_self.mpr he] at h
      exact ⟨hl, by omega⟩
    · rintro ⟨hl, h⟩
      rw [List.filter_eq_self.mpr (List.length_filter_eq_length_iff.mp hl), h]
theorem dmapOk_iff (s : State) : s.dmapOk = true ↔ (∀ l, l < 128 → (s.dmapOf l).2 < 2 ∧ (s.dmapOf l).1 < 128) ∧
    ∀ k l, k < 128 → l < 128 → (s.dmapOf k).1 = (s.dmapOf l).1 → k = l := by
  simp only [State.dmapOk, Bool.and_eq_true, decide_eq_true_eq, List.all_eq_true, List.mem_range, eraseDups_length_iff,
    List.nodup_map_iff_inj_on List.nodup_range]
  exact and_congr_right fun _ => ⟨fun h k l hk hl => h k hk l hl, fun h k hk l hl => h k l hk hl⟩

/-! ## The first of a range -/

theorem findFrom_holds {p : Nat → Bool} {a n j : Nat} (h : findFrom p a n = some j) : p j = true := by
  induction n generalizing a with
  | zero => cases h
  | succ n ih =>
    rw [findFrom] at h
    split at h
    · next hp =>
      cases h
      exact hp
    · exact ih h
theorem findFrom_none {p : Nat → Bool} {a n : Nat} (h : ∀ k, a ≤ k → k < a + n → p k = false) : findFrom p a n = none := by
  induction n generalizing a with
  | zero => rfl
  | succ n ih =>
    rw [findFrom, h a le_rfl (by omega), if_neg Bool.false_ne_true]
    exact ih fun k hk hlt => h k (by omega) (by omega)
theorem findFrom_first {p : Nat → Bool} {a n j : Nat} (ha : a ≤ j) (hj : j < a + n) (hp : p j = true) (h : ∀ k, a ≤ k → k < j → p k = false) :
    findFrom p a n = some j := by
  induction n generalizing a with
  | zero => omega
  | succ n ih =>
    by_cases he : a = j
    · rw [findFrom, he, if_pos hp]
    · rw [findFrom, h a le_rfl (by omega), if_neg Bool.false_ne_true]
      exact ih (by omega) (by omega) fun k hk hlt => h k (by omega) hlt

/-! ## Failed dies -/

/-- The position's die failed. -/
def Lost (s : State) (l : Nat) : Prop := (s.die (s.dmapOf l).1).failed = true
/-- A position is set, in DMAP alone. -/
def setPosition (s : State) (l : Nat) (x : Nat × Nat) : State := { s with dmap := SMap.put s.dmap l x }
@[simp] theorem dmapOf_setPosition (s : State) (l : Nat) (x : Nat × Nat) : (setPosition s l x).dmapOf l = x := SMap.get_put_self _ _ _ _
theorem dmapOf_setPosition_other (s : State) {l k : Nat} (x : Nat × Nat) (h : k ≠ l) : (setPosition s l x).dmapOf k = s.dmapOf k := SMap.get_put_other _ _ _ h
@[simp] theorem die_setPosition (s : State) (l : Nat) (x : Nat × Nat) (d : Nat) : (setPosition s l x).die d = s.die d := rfl
/-- A failed die is marked vacant at its position; its position goes onto the die of a spare position, which takes the failed one. -/
def vacated (s : State) (l : Nat) : State := setPosition s l ((s.dmapOf l).1, 2)
def grafted (s : State) (l j : Nat) : State := setPosition (setPosition s l ((s.dmapOf j).1, 0)) j ((s.dmapOf l).1, 2)
/-- The position is spare, and its die did not fail. -/
def spare (s : State) (k : Nat) : Bool := (s.dmapOf k).2 == 1 && !(s.die (s.dmapOf k).1).failed
theorem graftFailed_sound {s : State} {l : Nat} (h : ¬Lost s l) : s.graftFailed l = s := by
  rw [State.graftFailed]
  exact if_pos (by simpa [Lost] using h)
theorem graftFailed_lost {s : State} {l : Nat} (h : Lost s l) : s.graftFailed l =
    match if (s.dmapOf l).2 = 0 then findFrom (spare s) 0 128 else none with
    | some j => grafted s l j
    | none => vacated s l := by
  rw [State.graftFailed]
  refine if_neg ?_
  rw [show (s.die (s.dmapOf l).1).failed = true from h]
  decide
theorem graftFailed_cases (s : State) (l : Nat) :
    (¬Lost s l ∧ s.graftFailed l = s) ∨ (Lost s l ∧ s.graftFailed l = vacated s l) ∨ ∃ j, spare s j = true ∧ Lost s l ∧ s.graftFailed l = grafted s l j := by
  by_cases h : Lost s l
  · refine .inr ?_
    rw [graftFailed_lost h]
    split
    · next j hj =>
      split at hj
      · exact .inr ⟨j, findFrom_holds hj, h, rfl⟩
      · cases hj
    · exact .inl ⟨h, rfl⟩
  · exact .inl ⟨h, graftFailed_sound h⟩
theorem graftFailed_vacated {s : State} {l : Nat} (h : Lost s l) (hs : (s.dmapOf l).2 ≠ 0 ∨ ∀ j, j < 128 → (s.dmapOf j).2 ≠ 1) :
    s.graftFailed l = vacated s l := by
  have hn : (if (s.dmapOf l).2 = 0 then findFrom (spare s) 0 128 else none) = none := by
    split
    · next h0 =>
      refine findFrom_none fun k _ hk => ?_
      have := hs.resolve_left (not_not.mpr h0) k (by omega)
      simp [spare, this]
    · rfl
  rw [graftFailed_lost h, hn]
theorem graftFailed_grafted {s : State} {l j : Nat} (h : Lost s l) (h0 : (s.dmapOf l).2 = 0) (hj : j < 128) (h1 : spare s j = true)
    (hk : ∀ k, k < j → (s.dmapOf k).2 ≠ 1) : s.graftFailed l = grafted s l j := by
  have hn : findFrom (spare s) 0 128 = some j := findFrom_first (Nat.zero_le j) (by omega) h1 fun k _ hlt => by simp [spare, hk k hlt]
  rw [graftFailed_lost h, if_pos h0, hn]
theorem graftFailed_frame (s : State) (l : Nat) : ∃ dmap, s.graftFailed l = { s with dmap := dmap } := by
  rcases graftFailed_cases s l with ⟨_, h⟩ | ⟨_, h⟩ | ⟨j, _, _, h⟩
  · exact ⟨s.dmap, h⟩
  · exact ⟨_, h⟩
  · exact ⟨_, h⟩
theorem graftFailed_die (s : State) (l d : Nat) : (s.graftFailed l).die d = s.die d := by
  obtain ⟨dmap, h⟩ := graftFailed_frame s l
  rw [h]
  rfl

/-- A list of positions grafted one after another. -/
def graftList (s : State) (ls : List Nat) : State := ls.foldl State.graftFailed s
theorem graftList_cons (s : State) (l : Nat) (ls : List Nat) : graftList s (l :: ls) = graftList (s.graftFailed l) ls := rfl
theorem graftList_append (s : State) (a b : List Nat) : graftList s (a ++ b) = graftList (graftList s a) b := List.foldl_append
theorem graftList_frame (s : State) (ls : List Nat) : ∃ dmap, graftList s ls = { s with dmap := dmap } := by
  refine List.foldlRecOn (motive := fun t : State => ∃ dmap, t = { s with dmap := dmap }) ls State.graftFailed ⟨s.dmap, rfl⟩ fun t ht l _ => ?_
  obtain ⟨dmap, rfl⟩ := ht
  obtain ⟨dmap', h⟩ := graftFailed_frame { s with dmap := dmap } l
  exact ⟨dmap', h⟩
theorem graftList_die (s : State) (ls : List Nat) (d : Nat) : (graftList s ls).die d = s.die d := by
  obtain ⟨dmap, h⟩ := graftList_frame s ls
  rw [h]
  rfl
theorem graftList_sound {s : State} {ls : List Nat} (h : ∀ l, l ∈ ls → ¬Lost s l) : graftList s ls = s := by
  induction ls with
  | nil => rfl
  | cons l r ih =>
    rw [graftList_cons, graftFailed_sound (h l List.mem_cons_self)]
    exact ih fun k hk => h k (List.mem_cons_of_mem l hk)

/-- The position is vacant, or its die did not fail. -/
def Settled (s : State) (l : Nat) : Prop := (s.dmapOf l).2 ≠ 2 → ¬Lost s l
theorem settled_setPosition {s : State} {l k : Nat} {x : Nat × Nat} (hk : k ≠ l → Settled s k) (hx : x.2 ≠ 2 → (s.die x.1).failed = false) :
    Settled (setPosition s l x) k := by
  by_cases h : k = l
  · subst h
    simp only [Settled, Lost, dmapOf_setPosition, die_setPosition]
    intro h2 hf
    exact Bool.false_ne_true ((hx h2).symm.trans hf)
  · simpa only [Settled, Lost, dmapOf_setPosition_other s x h, die_setPosition] using hk h
theorem graftFailed_settles {s : State} {l k : Nat} (hk : k ≠ l → Settled s k) : Settled (s.graftFailed l) k := by
  rcases graftFailed_cases s l with ⟨hs, h⟩ | ⟨_, h⟩ | ⟨j, hj, _, h⟩
  · rw [h]
    by_cases he : k = l
    · exact fun _ => he ▸ hs
    · exact hk he
  · rw [h]
    exact settled_setPosition hk fun h2 => absurd rfl h2
  · rw [h]
    have hd : (s.die (s.dmapOf j).1).failed = false := by
      simp only [spare, Bool.and_eq_true, Bool.not_eq_true'] at hj
      exact hj.2
    exact settled_setPosition (fun _ => settled_setPosition hk fun _ => hd) fun h2 => absurd rfl h2
theorem graftList_settles {s : State} {ls : List Nat} {k : Nat} (hk : k ∉ ls → Settled s k) : Settled (graftList s ls) k := by
  induction ls generalizing s with
  | nil => exact hk List.not_mem_nil
  | cons l r ih =>
    rw [graftList_cons]
    exact ih fun hr => graftFailed_settles fun hne => hk fun hm => (List.mem_cons.mp hm).elim hne hr
/-- A position that is settled stays as it is. -/
theorem graftFailed_settled {s : State} {l : Nat} (h : Settled s l) (i : Nat) : (s.graftFailed l).dmapOf i = s.dmapOf i := by
  by_cases hl : Lost s l
  · have h2 : (s.dmapOf l).2 = 2 := by
      by_contra h2
      exact h h2 hl
    rw [graftFailed_vacated hl (.inl (by omega)), vacated]
    by_cases hi : i = l
    · rw [hi, dmapOf_setPosition]
      exact Prod.ext rfl h2.symm
    · rw [dmapOf_setPosition_other _ _ hi]
  · rw [graftFailed_sound hl]
theorem settled_congr {s t : State} (hm : ∀ i, t.dmapOf i = s.dmapOf i) (hd : ∀ d, t.die d = s.die d) (k : Nat) : Settled t k ↔ Settled s k := by
  simp only [Settled, Lost, hm, hd]
theorem graftList_settled {s : State} {ls : List Nat} (h : ∀ l, l ∈ ls → Settled s l) (i : Nat) : (graftList s ls).dmapOf i = s.dmapOf i := by
  induction ls generalizing s with
  | nil => rfl
  | cons l r ih =>
    have hl := graftFailed_settled (h l List.mem_cons_self)
    rw [graftList_cons, ih fun k hk => (settled_congr hl (graftFailed_die s l) k).mpr (h k (List.mem_cons_of_mem l hk)), hl]
/-- Where the die of one position alone failed, the list comes to the graft of that position. -/
theorem graftList_one {s : State} {ls : List Nat} {l : Nat} (hls : ls.Nodup) (hl : l ∈ ls) (h : ∀ k, k ∈ ls → k ≠ l → ¬Lost s k) (i : Nat) :
    (graftList s ls).dmapOf i = (s.graftFailed l).dmapOf i := by
  obtain ⟨a, b, rfl⟩ := List.append_of_mem hl
  obtain ⟨_, hb, hab⟩ := List.nodup_append.mp hls
  have ha : ∀ k, k ∈ a → ¬Lost s k := fun k hk => h k (List.mem_append_left _ hk) (hab k hk l List.mem_cons_self)
  rw [graftList_append, graftList_sound ha, graftList_cons]
  refine graftList_settled (fun k hk => graftFailed_settles fun hne _ => ?_) i
  exact h k (List.mem_append_right _ (List.mem_cons_of_mem l hk)) hne

/-- Every failed die is vacant or grafted, and DMAP stays where none failed. -/
theorem graftRange_vacant (s : State) {l : Nat} (hl : l < 128) (h : ((graftList s (List.range 128)).dmapOf l).2 ≠ 2) :
    (s.die ((graftList s (List.range 128)).dmapOf l).1).failed = false := by
  have hs : Settled (graftList s (List.range 128)) l := graftList_settles fun hn => absurd (List.mem_range.mpr hl) hn
  have := hs h
  rwa [Lost, graftList_die, Bool.not_eq_true] at this
theorem graftRange_vacates {s : State} {l : Nat} (hl : l < 128) (hf : Lost s l) (h : ∀ k, k < 128 → k ≠ l → ¬Lost s k)
    (hn : (s.dmapOf l).2 ≠ 0 ∨ ∀ j, j < 128 → (s.dmapOf j).2 ≠ 1) : let t := graftList s (List.range 128)
    t.dmapOf l = ((s.dmapOf l).1, 2) ∧ ∀ k, k ≠ l → t.dmapOf k = s.dmapOf k := by
  have hone := graftList_one List.nodup_range (List.mem_range.mpr hl) fun k hk => h k (List.mem_range.mp hk)
  rw [graftFailed_vacated hf hn] at hone
  exact ⟨(hone l).trans (dmapOf_setPosition s l _), fun k hk => (hone k).trans (dmapOf_setPosition_other s _ hk)⟩
theorem graftRange_grafts {s : State} {l j : Nat} (hl : l < 128) (hf : Lost s l) (h : ∀ k, k < 128 → k ≠ l → ¬Lost s k) (h0 : (s.dmapOf l).2 = 0)
    (hj : j < 128) (h1 : (s.dmapOf j).2 = 1) (hk : ∀ k, k < j → (s.dmapOf k).2 ≠ 1) : let t := graftList s (List.range 128)
    t.dmapOf l = ((s.dmapOf j).1, 0) ∧ t.dmapOf j = ((s.dmapOf l).1, 2) ∧ ∀ k, k ≠ l → k ≠ j → t.dmapOf k = s.dmapOf k := by
  have hone := graftList_one List.nodup_range (List.mem_range.mpr hl) fun k hk => h k (List.mem_range.mp hk)
  have hne : l ≠ j := by
    rintro rfl
    omega
  have hs : spare s j = true := by
    have := h j hj hne.symm
    rw [Lost, Bool.not_eq_true] at this
    simp [spare, h1, this]
  rw [graftFailed_grafted hf h0 hj hs hk] at hone
  refine ⟨(hone l).trans ?_, (hone j).trans (dmapOf_setPosition _ j _), fun k hkl hkj => (hone k).trans ?_⟩
  · rw [grafted, dmapOf_setPosition_other _ _ hne, dmapOf_setPosition]
  · rw [grafted, dmapOf_setPosition_other _ _ hkj, dmapOf_setPosition_other _ _ hkl]

end Sys2Proof.Safety
end

section
/-!
SUPPORT. What phase 6 sets (R374, R375), what firmware sets after it (R378, R382), and O55.
-/
namespace Sys2Proof.Safety
open Sys2Proof.Machine

/-! ## Configuration -/

/-- The state with the die positions that firmware names. -/
def positioned (s : State) (dmap : List (Nat × Nat × Nat)) : State :=
  { s with dmap := dmap.foldl (fun m (e : Nat × (Nat × Nat)) => SMap.put m e.1 e.2) s.dmap }
/-- What firmware sets is within its ranges. -/
def Fine (s : State) (dmap : List (Nat × Nat × Nat)) (csl : List (Nat × Nat)) (tmo th : Nat) : Prop :=
  let m := positioned s dmap
  s.bootPhase = 5 ∧ (∀ l, l < 128 → (m.dmapOf l).2 < 2 ∧ (m.dmapOf l).1 < 128) ∧
    (∀ k l, k < 128 → l < 128 → (m.dmapOf k).1 = (m.dmapOf l).1 → k = l) ∧ (∀ e, e ∈ csl → 1 ≤ e.2 ∧ e.2 ≤ 1023) ∧ 10000 ≤ tmo ∧ tmo ≤ 1000000000 ∧ th ≤ 95
theorem cslRange_iff (csl : List (Nat × Nat)) : ¬csl.any (fun e => decide (e.2 = 0 ∨ 1023 < e.2)) = true ↔ ∀ e, e ∈ csl → 1 ≤ e.2 ∧ e.2 ≤ 1023 := by
  rw [List.any_eq_true, not_exists]
  refine forall_congr' fun e => ?_
  rw [decide_eq_true_eq, not_and]
  refine imp_congr_right fun _ => ?_
  omega
theorem fine_iff (s : State) (dmap : List (Nat × Nat × Nat)) (csl : List (Nat × Nat)) (tmo th : Nat) :
    ¬(s.bootPhase ≠ 5 ∨ (!(positioned s dmap).dmapOk) = true ∨ csl.any (fun e => decide (e.2 = 0 ∨ 1023 < e.2)) = true ∨ tmo < 10000 ∨ 1000000000 < tmo ∨
      95 < th) ↔ Fine s dmap csl tmo th := by
  rw [not_or, not_or, not_or, not_or, not_or, cslRange_iff, not_not, Bool.not_eq_true', Bool.not_eq_false, dmapOk_iff, not_lt, not_lt, not_lt, and_assoc]
  rfl

/-- The registers of phase 6, the limits of power regions and the fuses of dies. -/
def configured (s : State) (chip : Nat) (csl : List (Nat × Nat)) (tmo th : Nat) : State :=
  csl.foldl (fun (t : State) e => t.modRow e.1 (fun r => { r with csl := e.2 })) { s with chip := BitVec.ofNat 22 chip, tmo := tmo, threshold := th }
def fused (s : State) (v : Nat) : State := (List.range 128).foldl (fun (t : State) d => t.modDie d (fun x => { x with fuse := max x.fuse v })) s
/-- The state before the grafts: the registers are set, DMAP is as firmware names it, and the failed dies are as before. -/
def readied (s : State) (chip : Nat) (dmap : List (Nat × Nat × Nat)) (csl : List (Nat × Nat)) (tmo th : Nat) : State :=
  fused (configured (positioned s dmap) chip csl tmo th) s.flash.version
def soundDies (s : State) : Nat := ((List.range 128).filter (fun d => !(s.die d).failed)).length
theorem configure_waits {s : State} (chip : Nat) {dmap : List (Nat × Nat × Nat)} {csl : List (Nat × Nat)} {tmo th : Nat} (h : ¬Fine s dmap csl tmo th) :
    s.configurePhase chip dmap csl tmo th = s :=
  if_pos (not_not.mp (mt (fine_iff s dmap csl tmo th).mp h))
theorem configure_runs {s : State} (chip : Nat) {dmap : List (Nat × Nat × Nat)} {csl : List (Nat × Nat)} {tmo th : Nat} (h : Fine s dmap csl tmo th) :
    let v := readied s chip dmap csl tmo th
    s.configurePhase chip dmap csl tmo th = { (graftList v (List.range 128)).writeMaps with bootPhase := if soundDies v < 126 then 6 else 7 } :=
  if_neg ((fine_iff s dmap csl tmo th).mpr h)
theorem configured_frame (s : State) (chip : Nat) (csl : List (Nat × Nat)) (tmo th : Nat) :
    ∃ rows, configured s chip csl tmo th = { s with chip := BitVec.ofNat 22 chip, tmo := tmo, threshold := th, rows := rows } := by
  refine List.foldlRecOn (motive := fun t : State => ∃ rows, t = { s with chip := BitVec.ofNat 22 chip, tmo := tmo, threshold := th, rows := rows }) csl
    (fun (t : State) e => t.modRow e.1 (fun r => { r with csl := e.2 })) ⟨_, rfl⟩ fun t ht e _ => ?_
  obtain ⟨rows, rfl⟩ := ht
  exact ⟨_, rfl⟩
theorem fused_frame (s : State) (v : Nat) : ∃ dies, fused s v = { s with dies := dies } := by
  refine List.foldlRecOn (motive := fun t : State => ∃ dies, t = { s with dies := dies }) (List.range 128)
    (fun (t : State) d => t.modDie d (fun x => { x with fuse := max x.fuse v })) ⟨_, rfl⟩ fun t ht e _ => ?_
  obtain ⟨dies, rfl⟩ := ht
  exact ⟨_, rfl⟩
theorem writeMaps_frame (s : State) : ∃ mem dies, s.writeMaps = { s with mem := mem, dies := dies } := by
  refine List.foldlRecOn (motive := fun t : State => ∃ mem dies, t = { s with mem := mem, dies := dies }) (List.range 128)
    (fun (t : State) d => t.writeMap d) ⟨_, _, rfl⟩ fun t ht e _ => ?_
  obtain ⟨mem, dies, rfl⟩ := ht
  unfold State.writeMap
  exact ⟨_, _, rfl⟩
theorem fused_die (s : State) (v : Nat) {d : Nat} (hd : d < 128) : ((fused s v).die d).fuse = max (s.die d).fuse v := by
  rw [fused, foldl_modDie_mem Die.fuse _ List.nodup_range, if_pos (List.mem_range.mpr hd)]
theorem fused_failed (s : State) (v d : Nat) : ((fused s v).die d).failed = (s.die d).failed :=
  foldl_die_proj Die.failed (fun t e d => die_modDie_proj Die.failed (fun _ => by rfl) t e d) _ s d
theorem soundDies_congr {s t : State} (h : ∀ d, (t.die d).failed = (s.die d).failed) : soundDies t = soundDies s := by
  simp only [soundDies, h]

theorem readied_frame (s : State) (chip : Nat) (dmap : List (Nat × Nat × Nat)) (csl : List (Nat × Nat)) (tmo th : Nat) :
    ∃ rows dies, readied s chip dmap csl tmo th =
      { positioned s dmap with chip := BitVec.ofNat 22 chip, tmo := tmo, threshold := th, rows := rows, dies := dies } := by
  obtain ⟨rows, hr⟩ := configured_frame (positioned s dmap) chip csl tmo th
  obtain ⟨dies, hd⟩ := fused_frame (configured (positioned s dmap) chip csl tmo th) s.flash.version
  rw [readied, hd, hr]
  exact ⟨rows, dies, rfl⟩
theorem readied_sets (s : State) (chip : Nat) (dmap : List (Nat × Nat × Nat)) (csl : List (Nat × Nat)) (tmo th : Nat) : let v := readied s chip dmap csl tmo th
    v.chip = BitVec.ofNat 22 chip ∧ v.tmo = tmo ∧ v.threshold = th ∧ v.dmap = (positioned s dmap).dmap := by
  obtain ⟨rows, dies, h⟩ := readied_frame s chip dmap csl tmo th
  dsimp only
  rw [h]
  exact ⟨rfl, rfl, rfl, rfl⟩
theorem readied_dmapOf (s : State) (chip : Nat) (dmap : List (Nat × Nat × Nat)) (csl : List (Nat × Nat)) (tmo th l : Nat) :
    (readied s chip dmap csl tmo th).dmapOf l = (positioned s dmap).dmapOf l := by
  obtain ⟨_, _, _, h⟩ := readied_sets s chip dmap csl tmo th
  rw [State.dmapOf, h, State.dmapOf]
theorem configured_die (s : State) (chip : Nat) (dmap : List (Nat × Nat × Nat)) (csl : List (Nat × Nat)) (tmo th d : Nat) :
    (configured (positioned s dmap) chip csl tmo th).die d = s.die d := by
  obtain ⟨rows, h⟩ := configured_frame (positioned s dmap) chip csl tmo th
  rw [h]
  rfl
theorem readied_fuse (s : State) (chip : Nat) (dmap : List (Nat × Nat × Nat)) (csl : List (Nat × Nat)) (tmo th : Nat) {d : Nat} (hd : d < 128) :
    ((readied s chip dmap csl tmo th).die d).fuse = max (s.die d).fuse s.flash.version := by
  rw [readied, fused_die _ _ hd, configured_die]
theorem readied_failed (s : State) (chip : Nat) (dmap : List (Nat × Nat × Nat)) (csl : List (Nat × Nat)) (tmo th d : Nat) :
    ((readied s chip dmap csl tmo th).die d).failed = (s.die d).failed := by
  unfold readied
  exact (fused_failed _ _ d).trans (congrArg Die.failed (configured_die s chip dmap csl tmo th d))
theorem readied_lost (s : State) (chip : Nat) (dmap : List (Nat × Nat × Nat)) (csl : List (Nat × Nat)) (tmo th l : Nat) :
    Lost (readied s chip dmap csl tmo th) l ↔ (s.die ((positioned s dmap).dmapOf l).1).failed = true := by
  rw [Lost, readied_failed, readied_dmapOf]

/-- The end of a phase changes no other register. -/
theorem bootPhase_leaves (t : State) (n : Nat) : let u : State := { t with bootPhase := n }
    u.chip = t.chip ∧ u.tmo = t.tmo ∧ u.threshold = t.threshold ∧ u.dmap = t.dmap ∧ (∀ d, u.die d = t.die d) ∧ u.bootPhase = n :=
  ⟨rfl, rfl, rfl, rfl, fun _ => rfl, rfl⟩
theorem writeMaps_leaves (s : State) : s.writeMaps.chip = s.chip ∧ s.writeMaps.tmo = s.tmo ∧ s.writeMaps.threshold = s.threshold ∧
    s.writeMaps.dmap = s.dmap := by
  obtain ⟨mem, dies, h⟩ := writeMaps_frame s
  rw [h]
  exact ⟨rfl, rfl, rfl, rfl⟩
theorem writeMaps_fuse (s : State) (d : Nat) : (s.writeMaps.die d).fuse = (s.die d).fuse ∧ (s.writeMaps.die d).failed = (s.die d).failed :=
  ⟨writeMaps_die_proj Die.fuse (fun _ _ _ => rfl) s d, writeMaps_die_proj Die.failed (fun _ _ _ => rfl) s d⟩
theorem graftList_leaves (s : State) (ls : List Nat) : (graftList s ls).chip = s.chip ∧ (graftList s ls).tmo = s.tmo ∧ (graftList s ls).threshold = s.threshold := by
  obtain ⟨dmap, h⟩ := graftList_frame s ls
  rw [h]
  exact ⟨rfl, rfl, rfl⟩
/-- What phase 6 leaves: DMAP is that of the grafts, and the rest that of the state before them. -/
theorem configure_leaves {s : State} (chip : Nat) {dmap : List (Nat × Nat × Nat)} {csl : List (Nat × Nat)} {tmo th : Nat} (h : Fine s dmap csl tmo th) :
    let v := readied s chip dmap csl tmo th
    ∃ t, s.configurePhase chip dmap csl tmo th = t ∧ t.chip = BitVec.ofNat 22 chip ∧ t.tmo = tmo ∧ t.threshold = th ∧
      t.dmap = (graftList v (List.range 128)).dmap ∧
      (∀ d, (t.die d).fuse = (v.die d).fuse ∧ (t.die d).failed = (v.die d).failed) ∧ t.bootPhase = if soundDies v < 126 then 6 else 7 := by
  intro v
  obtain ⟨vchip, vtmo, vth, _⟩ := readied_sets s chip dmap csl tmo th
  obtain ⟨gchip, gtmo, gth⟩ := graftList_leaves v (List.range 128)
  have gdie := graftList_die v (List.range 128)
  have hruns := configure_runs chip h
  dsimp only at hruns
  rw [hruns]
  change v.chip = _ at vchip
  change v.tmo = _ at vtmo
  change v.threshold = _ at vth
  change ∃ t, ({ (graftList v (List.range 128)).writeMaps with bootPhase := if soundDies v < 126 then 6 else 7 } : State) = t ∧ _
  clear_value v
  generalize graftList v (List.range 128) = g at *
  obtain ⟨wchip, wtmo, wth, wdmap⟩ := writeMaps_leaves g
  have wdie := writeMaps_fuse g
  generalize g.writeMaps = w at *
  obtain ⟨pchip, ptmo, pth, pdmap, pdie, pphase⟩ := bootPhase_leaves w (if soundDies v < 126 then 6 else 7)
  refine ⟨_, rfl, pchip.trans (wchip.trans (gchip.trans vchip)), ptmo.trans (wtmo.trans (gtmo.trans vtmo)), pth.trans (wth.trans (gth.trans vth)),
    pdmap.trans wdmap, fun d => ?_, pphase⟩
  rw [pdie, ← gdie]
  exact wdie d
theorem configure_sets {s : State} (chip : Nat) {dmap : List (Nat × Nat × Nat)} {csl : List (Nat × Nat)} {tmo th : Nat} (h : Fine s dmap csl tmo th) :
    let m := positioned s dmap
    let bad (p : Nat × Nat) : Bool := (s.die p.1).failed
    ∃ t, s.configurePhase chip dmap csl tmo th = t ∧ t.chip = BitVec.ofNat 22 chip ∧ t.tmo = tmo ∧ t.threshold = th ∧
      (∀ l, l < 128 → (t.dmapOf l).2 ≠ 2 → bad (t.dmapOf l) = false) ∧ ((∀ l, l < 128 → bad (m.dmapOf l) = false) → t.dmap = m.dmap) ∧
      (∀ l, l < 128 → bad (m.dmapOf l) = true → (∀ k, k < 128 → k ≠ l → bad (m.dmapOf k) = false) →
        ((m.dmapOf l).2 = 1 ∨ (∀ j, j < 128 → (m.dmapOf j).2 ≠ 1) → t.dmapOf l = ((m.dmapOf l).1, 2) ∧ ∀ k, k ≠ l → t.dmapOf k = m.dmapOf k) ∧
        (∀ j, (m.dmapOf l).2 = 0 → j < 128 → (m.dmapOf j).2 = 1 → (∀ k, k < j → (m.dmapOf k).2 ≠ 1) →
          t.dmapOf l = ((m.dmapOf j).1, 0) ∧ t.dmapOf j = ((m.dmapOf l).1, 2) ∧ ∀ k, k ≠ l → k ≠ j → t.dmapOf k = m.dmapOf k)) ∧
      (∀ d, d < 128 → (t.die d).fuse = max (s.die d).fuse s.flash.version ∧ (t.die d).failed = (s.die d).failed) ∧
      t.bootPhase = if ((List.range 128).filter (fun d => !(s.die d).failed)).length < 126 then 6 else 7 := by
  intro m bad
  obtain ⟨t, ht, hchip, htmo, hth, hdmap, hdie, hphase⟩ := configure_leaves chip h
  have hof : ∀ l, t.dmapOf l = (graftList (readied s chip dmap csl tmo th) (List.range 128)).dmapOf l := fun l => by
    rw [State.dmapOf, hdmap]
    rfl
  have hm : ∀ l, m.dmapOf l = (readied s chip dmap csl tmo th).dmapOf l := fun l => (readied_dmapOf s chip dmap csl tmo th l).symm
  have hlost : ∀ l, Lost (readied s chip dmap csl tmo th) l ↔ bad (m.dmapOf l) = true := readied_lost s chip dmap csl tmo th
  have hsound : ∀ l, bad (m.dmapOf l) = false → ¬Lost (readied s chip dmap csl tmo th) l := fun l hb hl => Bool.false_ne_true (hb.symm.trans ((hlost l).mp hl))
  obtain ⟨_, _, _, hv⟩ := readied_sets s chip dmap csl tmo th
  refine ⟨t, ht, hchip, htmo, hth, fun l hl h2 => ?_, fun hall => ?_, fun l hl hbad hone => ⟨fun hn => ?_, fun j h0 hj h1 hk => ?_⟩, fun d hd => ?_, ?_⟩
  · rw [hof] at h2 ⊢
    exact (readied_failed s chip dmap csl tmo th _).symm.trans (graftRange_vacant _ hl h2)
  · rw [hdmap, graftList_sound fun l hl => hsound l (hall l (List.mem_range.mp hl))]
    exact hv
  · simp only [hof, hm] at hn ⊢
    exact graftRange_vacates hl ((hlost l).mpr hbad) (fun k hk hne => hsound k (hone k hk hne)) (hn.imp (fun h => by omega) id)
  · simp only [hof, hm] at h0 h1 hk ⊢
    exact graftRange_grafts hl ((hlost l).mpr hbad) (fun k hk' hne => hsound k (hone k hk' hne)) h0 hj h1 hk
  · obtain ⟨hfuse, hfailed⟩ := hdie d
    exact ⟨hfuse.trans (readied_fuse s chip dmap csl tmo th hd), hfailed.trans (readied_failed s chip dmap csl tmo th d)⟩
  · rw [hphase, soundDies_congr (readied_failed s chip dmap csl tmo th)]
    rfl

/-! ## What firmware sets later -/

theorem setThreshold_high {s : State} {n : Nat} (h : 95 < n) : s.setThreshold n = s := if_pos h
theorem setThreshold_low {s : State} {n : Nat} (h : n ≤ 95) : s.setThreshold n = { s with threshold := n } := if_neg (Nat.not_lt.mpr h)
theorem setPolicy_high {s : State} {n : Nat} (h : 4 < n) : s.setPolicy n = s := if_pos h
theorem setPolicy_low {s : State} {n : Nat} (h : n ≤ 4) : s.setPolicy n = { s with policy := n } := if_neg (Nat.not_lt.mpr h)
theorem setPort_downs (s : State) (n : Nat) (down : Bool) : s.setPort n down =
    { s with portsDown := s.portsDown.filter (fun j => j != n) ++ (if down && decide (n < 64) then [n] else []) } := by
  rw [State.setPort]
  split
  · rfl
  · rw [List.append_nil]

/-- Settles O55, event by event. -/
theorem bootEvents : Obligations.BootEvents := by
  unfold Obligations.BootEvents
  intro s die key temp n img dir ok mgmt r
  dsimp only
  refine ⟨panelReset_startsOver s, powerRegionEnergise_waits, powerRegionEnergise_next, imageCheck_waits,
    fun hb hr hd => ⟨imageCheck_fails hb hr hd, imageCheck_passes hb hr hd⟩, recoveryImage_waits, recoveryImage_taken, ?_, ?_,
    linkAuthentication_waits ok key, ?_, ?_, ?_, ?_, ?_, getMeasurements_waits, fun a he ha => getMeasurements_reports he ha, inletOvertemp_cold, inletOvertemp_hot⟩
  · intro bad grade pts fp ha
    refine ⟨fun h => (step_turn ha).trans (congrArg Host.Outcome.next (selfTest_waits h)), fun hb hf => ?_⟩
    obtain ⟨t, ht, h⟩ := selfTest_builds (s := { s with agenda := r }) bad grade pts hb hf
    exact ⟨t, (step_turn ha).trans (congrArg Host.Outcome.next ht), h⟩
  · intro l ha
    refine ⟨fun h => (step_turn ha).trans (congrArg Host.Outcome.next (trim_waits h)), fun hb hl => ?_⟩
    obtain ⟨t, ht, h⟩ := trim_sets (s := { s with agenda := r }) hb hl
    exact ⟨t, (step_turn ha).trans (congrArg Host.Outcome.next ht), h⟩
  · intro b hb hd ht h
    obtain ⟨t, he, hframe, hacross, hbase, hall, hsome⟩ := linkAuthentication_ends ok key hb hd ht h
    refine ⟨t, he, hframe, hacross, hbase, hall, fun ⟨d, x, hd, hx, hf⟩ => hsome fun hall => ?_⟩
    rw [hall d x hd hx] at hf
    cases hf
  · intro chip dmap csl tmo th ha
    refine ⟨fun h => (step_turn ha).trans (congrArg Host.Outcome.next (configure_waits (s := { s with agenda := r }) chip h)), fun h => ?_⟩
    obtain ⟨t, ht, h⟩ := configure_sets (s := { s with agenda := r }) chip h
    exact ⟨t, (step_turn ha).trans (congrArg Host.Outcome.next ht), h⟩
  · exact fun ha => ⟨fun h => (step_turn ha).trans (congrArg Host.Outcome.next (setThreshold_high h)),
      fun h => (step_turn ha).trans (congrArg Host.Outcome.next (setThreshold_low h))⟩
  · exact fun ha => ⟨fun h => (step_turn ha).trans (congrArg Host.Outcome.next (setPolicy_high h)),
      fun h => (step_turn ha).trans (congrArg Host.Outcome.next (setPolicy_low h))⟩
  · exact fun down ha => (step_turn ha).trans (congrArg Host.Outcome.next (setPort_downs _ n down))

end Sys2Proof.Safety
end

section
/-!
SUPPORT. The state that panel reset leaves (R57, R243, R329), and O58.
-/
namespace Sys2Proof.Safety
open Sys2Proof.Machine

theorem strand_reset (k : Nat) : State.reset.strand k = {} := rfl
theorem tile_reset (p : Nat) : State.reset.tile p = {} := rfl
theorem die_reset (d : Nat) : State.reset.die d = {} := rfl
theorem count_fresh (c : Cls) : ({} : Strand).count c = 0 := by
  cases c <;> rfl
theorem reg_fresh (r : BitVec 5) : ({} : Strand).reg r = 0 := by
  simp [Strand.reg]
theorem mask_fresh (r : BitVec 3) : ({} : Strand).mask r = if r = 0 then BitVec.allOnes 64 else 0 := by
  revert r
  decide

/-- Nothing is in flight at reset, so that no counter counts anything. -/
theorem reset_countsInRange : CountsInRange State.reset := by
  refine ⟨fun k c => ?_, fun _ _ => Nat.zero_le _⟩
  rw [strand_reset, count_fresh]
  cases c <;> exact ⟨Nat.zero_le _, Nat.zero_le _⟩
theorem reset_turnsInRange : TurnsInRange State.reset := by
  simp [TurnsInRange, tile_reset, die_reset]
/-- 128 dies hold 360 quanta each. -/
theorem reset_quantaInRange : QuantaInRange State.reset := by
  refine ⟨by simp [die_reset], ?_, List.nodup_nil, fun _ h => absurd h List.not_mem_nil⟩
  have hq : (List.range 128).map (fun d => (State.reset.die d).power.held) = List.replicate 128 360 := by
    simp only [die_reset, List.map_const', List.length_range]
  rw [hq, List.sum_replicate]
  rfl
theorem memGet_reset (a : Nat) : memGet State.reset.mem a =
    if a < 2 ^ 43 ∧ Config.mapBlockOff + 576 ≤ a % 2 ^ 36 ∧ a % 2 ^ 36 < Config.mapBlockOff + 720 then 0x5F else 0 := by
  simp only [State.reset, memGet, memDefault, isTurnTable, decide_eq_true_eq]

/-- Settles O58: a table without an entry reads as its reset value. -/
theorem resetState : Obligations.ResetState := by
  rintro s rfl
  refine ⟨rfl, reset_countsInRange, reset_turnsInRange, reset_quantaInRange, memGet_reset, fun _ => ?_, fun _ _ => rfl, fun _ _ => rfl, fun _ => ?_,
    fun _ => ?_, fun _ => rfl, rfl, rfl, rfl, rfl, rfl, rfl, rfl, rfl, rfl, rfl, rfl⟩
  · exact ⟨rfl, reg_fresh, mask_fresh, fun i => Vector.getElem_replicate i.isLt, rfl, rfl, rfl, rfl, rfl, rfl, rfl, rfl, rfl, rfl, rfl, rfl, count_fresh, rfl⟩
  · refine ⟨rfl, rfl, rfl, rfl, rfl, rfl, rfl, rfl, rfl, fun _ => rfl, fun _ => ⟨rfl, rfl, rfl, rfl, fun z hz => ?_⟩, fun _ => rfl, fun _ => rfl⟩
    rw [List.eq_of_mem_replicate hz]
  · exact ⟨rfl, rfl, rfl, rfl, rfl, rfl, fun i => Vector.getElem_replicate i.isLt, fun i => Vector.getElem_replicate i.isLt, rfl, rfl, rfl⟩

end Sys2Proof.Safety
end

section
/-!
SUPPORT. What a strand's turn does with the bundle at its position (R56, R67 to R72), said once for each shape of bundle, and O59.
-/
namespace Sys2Proof.Safety
open Sys2Proof.Machine

/-- What the words of a bundle run in: the state with the issue of a strand's turn. -/
def atBundle (u : State) (pt slot lag : Nat) (fetch : Bool) (w : IWord) (next : Nat) (pair : Bool) : State :=
  let x := u.strand (pt * 16 + slot)
  { u with iss := { pt := pt, slot := slot, pos := x.pc, base := word (x.pc.toNat / 8 * 8), next := word next
                    bundle := u.bundleAt (pt * 16 + slot) x.pc.toNat, word := w, lag := lag, bad := none, fetch := fetch, paired := pair } }
/-- The state that a turn leaves: the one before where a word blocks, else with the issue remembered. -/
def turnEnd (u : State) (pt slot : Nat) (t : State) : State := if t.iss.res = .blocked then u else u.endIssue pt slot t
/-- A word stands for an instruction that the strand may run. -/
def Reads (x : Strand) (w : IWord) (i : Instr) : Prop :=
  decodeWord w = some i ∧ (mustBeLone i = true → wordLone w = true) ∧ ∀ n, n ∈ vNames i → n < x.vlim.toNat

theorem instr?_of_reads {x : Strand} {w : IWord} {i : Instr} (h : Reads x w i) : x.instr? w = some i := by
  obtain ⟨hd, hl, hv⟩ := h
  unfold Strand.instr?
  rw [hd]
  refine if_neg ?_
  rw [Bool.not_eq_true, Bool.or_eq_false_iff, Bool.and_eq_false_imp, List.any_eq_false]
  exact ⟨fun hm => by rw [hl hm]; rfl, fun n hn => by simpa using hv n hn⟩
theorem instr?_of_undecoded (x : Strand) {w : IWord} (h : decodeWord w = none) : x.instr? w = none := by
  unfold Strand.instr?
  rw [h]
theorem sameDest_of_reads {x : Strand} {w0 w1 : IWord} {i j : Instr} (hi : Reads x w0 i) (hj : Reads x w1 j)
    (hd : ∀ d, d ∈ dests x i → d ∉ dests x j) : x.sameDest w0 w1 = false := by
  unfold Strand.sameDest
  rw [instr?_of_reads hi, instr?_of_reads hj]
  simpa using hd

/-! ## Words -/

theorem loneWord_full {m : State} {w : IWord} {i : Instr} (hi : Reads m.me w i) (hf : m.counterFull i = true) : m.loneWord w = .next m.block := by
  unfold State.loneWord
  rw [instr?_of_reads hi]
  exact if_pos hf
theorem runWord_good {m : State} {i : Instr} (hb : m.iss.bad = none) : m.runWord i = exec i m := by
  unfold State.runWord
  rw [hb]
theorem loneWord_runs {m : State} {w : IWord} {i : Instr} (hi : Reads m.me w i) (hb : m.iss.bad = none) (hf : m.counterFull i = false) :
    m.loneWord w = exec i m := by
  unfold State.loneWord
  rw [instr?_of_reads hi, ← runWord_good hb]
  exact if_neg (by simp [hf])
theorem loneWord_undecoded (m : State) {w : IWord} (h : decodeWord w = none) : m.loneWord w = .next (m.trap 1 (w.setWidth 64)) := by
  unfold State.loneWord
  rw [instr?_of_undecoded _ h]
  rfl
theorem pair_full {m : State} {w0 w1 : IWord} {i j : Instr} (hi : Reads m.me w0 i) (hj : Reads m.me w1 j)
    (hd : ∀ d, d ∈ dests m.me i → d ∉ dests m.me j) (hf : m.counterFull i = true ∨ m.counterFull j = true) : m.pair w0 w1 = .next m.block := by
  unfold State.pair
  simp only [sameDest_of_reads hi hj hd, instr?_of_reads hi, instr?_of_reads hj]
  rw [if_neg Bool.false_ne_true, if_pos (by simpa using hf)]
/-- A pair whose words both go on runs word 0 and then word 1, both reading the strand as the bundle found it (R69). -/
theorem pair_runs {m t v k : State} {w0 w1 : IWord} {i j : Instr} (hi : Reads m.me w0 i) (hj : Reads m.me w1 j)
    (hd : ∀ d, d ∈ dests m.me i → d ∉ dests m.me j) (hw : ∀ a b c d, i ≠ .wait a b c d) (hb : m.iss.bad = none) (ho : m.iss.old = none)
    (hfi : m.counterFull i = false) (hfj : m.counterFull j = false) (ht : exec i m = .next t) (htd : t.iss.res = .done)
    (hv : exec j m = .next v) (hvd : v.iss.res = .done) (hk : exec j { t with iss := { m.iss with old := some m.me, next := t.me.pc } } = .next k) :
    m.pair w0 w1 = .next k := by
  have hsrc : m.src = m.me := by
    unfold State.src
    rw [ho]
    rfl
  have hpair : m.pairWords i j = m.commit m.me i j := by
    unfold State.pairWords
    simp only [runWord_good hb, ht, hv, htd, hvd, hsrc]
    cases i with
    | wait a b c d => exact absurd rfl (hw a b c d)
    | _ => rfl
  unfold State.pair
  simp only [sameDest_of_reads hi hj hd, instr?_of_reads hi, instr?_of_reads hj, hfi, hfj]
  exact hpair.trans (by simp only [State.commit, ht, hk])

/-! ## Turns -/

section
variable {u : State} {pt slot lag : Nat} {fetch : Bool}

theorem issueTurn_closed (h : ¬(u.turnOpen pt = true ∧ u.nextSlot pt = some slot)) : u.issueTurn pt slot lag none [] fetch = .next u :=
  if_neg (by simpa using h)
theorem issueTurn_open {t : State} (h : u.turnOpen pt = true ∧ u.nextSlot pt = some slot) (ha : u.attempt pt slot lag none [] fetch = .next t) :
    u.issueTurn pt slot lag none [] fetch = .next (turnEnd u pt slot t) := by
  unfold State.issueTurn
  rw [if_pos (by simpa using h), ha]
  rfl
/-- Whether or not the turn may be taken, words that block leave the state as it is. -/
theorem issueTurn_blocked {m : State} (ha : u.attempt pt slot lag none [] fetch = .next m.block) : u.issueTurn pt slot lag none [] fetch = .next u := by
  by_cases h : u.turnOpen pt = true ∧ u.nextSlot pt = some slot
  · exact issueTurn_open h ha
  · exact issueTurn_closed h

section
variable {w0 w1 : IWord} {x : Strand} {p : Nat} (hx : u.strand (pt * 16 + slot) = x) (hpc : x.pc.toNat = p)
  (hp : p < (u.region x.rcbp.toNat).textLen) (ho : x.oddPc = false) (h0 : bundleWord0 (u.bundleAt (pt * 16 + slot) p) = w0)
  (h1 : bundleWord1 (u.bundleAt (pt * 16 + slot) p) = w1)
include hx hpc hp ho h0 h1

/-- Position 0 of a bundle of two lone words. -/
theorem attempt_first (h8 : p % 8 = 0) (hl0 : wordLone w0 = true) (hl1 : wordLone w1 = true) :
    u.attempt pt slot lag none [] fetch = (atBundle u pt slot lag fetch w0 (p + 4) false).loneWord w0 := by
  have hb : p / 8 * 8 + 4 = p + 4 := by omega
  have h4 : p % 4 = 0 := by omega
  unfold State.attempt atBundle
  simp only [hx, hpc, h0, h1, hl0, hl1, ho, h8, h4, Nat.not_le.mpr hp, ← hb]
  rfl
/-- Position 4 of a bundle of two lone words. -/
theorem attempt_second (h8 : p % 8 = 4) (hl0 : wordLone w0 = true) (hl1 : wordLone w1 = true) :
    u.attempt pt slot lag none [] fetch = (atBundle u pt slot lag fetch w1 (p + 4) false).loneWord w1 := by
  have hb : p / 8 * 8 + 8 = p + 4 := by omega
  have h4 : p % 4 = 0 := by omega
  unfold State.attempt atBundle
  simp only [hx, hpc, h0, h1, hl0, hl1, ho, h8, h4, Nat.not_le.mpr hp, ← hb]
  rfl
/-- A pair. -/
theorem attempt_pair (h8 : p % 8 = 0) (hl0 : wordLone w0 = false) (hl1 : wordLone w1 = false) (ha0 : wordIsA w0 = false)
    (ha1 : wordIsA w1 = true) :
    u.attempt pt slot lag none [] fetch = (atBundle u pt slot lag fetch w0 (p + 8) true).pair w0 w1 := by
  have hb : p / 8 * 8 + 8 = p + 8 := by omega
  have h4 : p % 4 = 0 := by omega
  unfold State.attempt atBundle
  simp only [hx, hpc, h0, h1, hl0, hl1, ha0, ha1, ho, h8, h4, Nat.not_le.mpr hp, ← hb]
  rfl
end

/-- A word that decodes runs: it holds the strand back where its counter is full, else its outcome ends the turn. -/
theorem issueTurn_lone {m : State} {w : IWord} {k : Instr} (ha : u.attempt pt slot lag none [] fetch = m.loneWord w) (hr : Reads m.me w k)
    (hb : m.iss.bad = none) : (m.counterFull k = true → u.issueTurn pt slot lag none [] fetch = .next u) ∧
      (u.turnOpen pt = true ∧ u.nextSlot pt = some slot → m.counterFull k = false → ∀ t, exec k m = .next t →
        u.issueTurn pt slot lag none [] fetch = .next (turnEnd u pt slot t)) :=
  ⟨fun hf => issueTurn_blocked (ha.trans (loneWord_full hr hf)),
    fun hg hf _ ht => issueTurn_open hg (ha.trans ((loneWord_runs hr hb hf).trans ht))⟩
end

/-- Settles O59: `issueTurn` at the three shapes of a bundle that the statement speaks of. -/
theorem stepRunsTheDecodedWord : Obligations.StepRunsTheDecodedWord := by
  intro s r pt slot lag fetch i j hag u key x p R b w0 w1 at' ends reads goes runs
  have hs : step s = u.issueTurn pt slot lag none [] fetch := by
    simp only [step, State.turn, hag, State.runTurn, u]
  simp only [runs, hs]
  refine ⟨issueTurn_closed, fun hp ho => ⟨fun h8 hl0 hl1 => ?_, fun h8 hl0 hl1 hr => ?_, fun h8 hl0 hl1 ha0 ha1 hi hj hd hw => ?_⟩⟩
  · have ha := attempt_first (lag := lag) (fetch := fetch) rfl rfl hp ho rfl rfl h8 hl0 hl1
    exact ⟨fun hr => issueTurn_lone ha hr rfl, fun hg hn => issueTurn_open hg (ha.trans (loneWord_undecoded _ hn))⟩
  · exact issueTurn_lone (attempt_second (lag := lag) (fetch := fetch) rfl rfl hp ho rfl rfl h8 hl0 hl1) hr rfl
  · have ha := attempt_pair (lag := lag) (fetch := fetch) rfl rfl hp ho rfl rfl h8 hl0 hl1 ha0 ha1
    exact ⟨fun hf => issueTurn_blocked (ha.trans (pair_full hi hj hd hf)), fun hg hfi hfj t v k ht htd hv hvd hk =>
      issueTurn_open hg (ha.trans (pair_runs hi hj hd hw rfl rfl hfi hfj ht htd hv hvd hk))⟩

end Sys2Proof.Safety
end

section
/-!
SUPPORT. The lattice of boundaries of a periodic strand (R53 to R55), and O9 and O18.
-/
namespace Sys2Proof.Safety
open Sys2Proof.Machine

/-! ## Boundaries -/

theorem boundary_moved (x y : Strand) (b n : Nat) (hp : y.pph = x.pph) (hr : y.per = x.per) (hc : y.c0 = x.c0 + 64 * x.per.toNat * n) :
    boundary y b = boundary x (b + n) := by
  unfold boundary
  rw [hp, hr, hc]
  push_cast
  ring
/-- The boundaries after cycle c are those from the quotient of the distance by the period up. -/
theorem lt_boundary_iff {x : Strand} (hp : x.per ≠ 0) (c : Int) (b : Nat) :
    c < boundary x b ↔ ((c - x.c0 - 64 * (x.pph.toNat : Int)) / (64 * (x.per.toNat : Int)) + 1).toNat ≤ b := by
  have hper : 0 < x.per.toNat := by
    rw [Nat.pos_iff_ne_zero]
    exact fun h => hp (BitVec.eq_of_toNat_eq h)
  have hb : c < boundary x b ↔ c - x.c0 - 64 * (x.pph.toNat : Int) < b * (64 * (x.per.toNat : Int)) := by
    unfold boundary
    push_cast
    constructor <;> intro h <;> linarith
  rw [hb, ← Int.ediv_lt_iff_lt_mul (by omega)]
  omega

/-! ## PEND -/

/-- PEND takes the least body above PIDX whose boundary is still ahead (R54). -/
theorem nextBody_least {x : Strand} (hp : x.per ≠ 0) (c : Nat) : x.pidx.toNat < nextBody x c ∧ (c : Int) < boundary x (nextBody x c) ∧
    ∀ b, x.pidx.toNat < b → (c : Int) < boundary x b → nextBody x c ≤ b := by
  simp only [lt_boundary_iff hp, ← Nat.succ_le_iff]
  exact ⟨le_max_left _ _, le_max_right _ _, fun _ hb hc => max_le hb hc⟩
theorem pend_free {s : State} (h : s.me.per = 0) : exec .pend s = .next s.done :=
  congrArg Host.Outcome.next (if_pos h)
/-- The origin of a lattice whose index has wrapped (R53, R227). -/
def wrappedC0 (x : Strand) (b : Nat) : Int := if b < 2 ^ 64 then x.c0 else x.c0 + 64 * x.per.toNat * 2 ^ 64
theorem boundary_wrapped (x : Strand) {b : Nat} (h : 2 ^ 64 ≤ b) : boundary { x with c0 := wrappedC0 x b } (b - 2 ^ 64) = boundary x b := by
  have hz : wrappedC0 x b = x.c0 + 64 * x.per.toNat * (2 ^ 64 : Nat) := if_neg (Nat.not_lt.mpr h)
  rw [boundary_moved x { x with c0 := wrappedC0 x b } _ (2 ^ 64) rfl rfl hz, Nat.sub_add_cancel h]
theorem pend_periodic {s : State} (h : s.me.per ≠ 0) : exec .pend s =
    (let x := s.me
     let b := nextBody x (s.cycle s.pt)
     let z := wrappedC0 x b
     .next (s.setMe { x with ovr := addOvr x.ovr (b - x.pidx.toNat - 1), pidx := word b, c0 := z, due := x.due.map (fun n => (n.1, n.2 + x.c0 - z))
                             st := .idle, quiet := if x.busy then x.quiet else x.quiet + 1, busy := false }).done) :=
  congrArg Host.Outcome.next (if_neg h)
/-- Settles O9. -/
theorem pendWaitsForItsBoundary : Obligations.PendWaitsForItsBoundary := by
  intro s x c
  refine ⟨fun h => ⟨_, pend_free h, moves_done s⟩, fun h => ?_⟩
  obtain ⟨hlt, hc, hleast⟩ := nextBody_least h (s.cycle s.pt)
  exact ⟨_, nextBody x (s.cycle s.pt), wrappedC0 x (nextBody x (s.cycle s.pt)), pend_periodic h, hlt, hc, hleast, fun hb => if_pos hb,
    boundary_wrapped x, performed_done s _⟩

/-! ## SYSW of PER and PPH -/

theorem boundary_movedC0 (x y : Strand) (v : BitVec 24) (c : Nat) (hp : y.pph = x.pph) (hr : y.per = v) (hc : y.c0 = movedC0 x v c) :
    boundary y x.pidx.toNat = if x.per = 0 then (c : Int) else boundary x x.pidx.toNat := by
  rw [boundary, hp, hr, hc, movedC0]
  exact Int.sub_add_cancel _ _
section
variable {s : State} {a : BitVec 5} {v : BitVec 24} (hv : (s.rs a).setWidth 24 = v)
include hv

/-- The period may not be written (R46, R55). -/
def PeriodBad (s : State) (v : BitVec 24) : Prop :=
  v.toNat < (s.region s.me.rcbp.toNat).permin ∨ (s.region s.me.rcbp.toNat).permax < v.toNat ∨ (v ≠ 0 ∧ v.toNat ≤ s.me.pph.toNat)
theorem syswPer_traps (h : PeriodBad s v) : exec (.syswPer a) s = .next (s.trap 3 0x010) := by
  subst hv
  exact congrArg Host.Outcome.next (if_pos h)
theorem syswPer_zero (h : ¬PeriodBad s v) (h0 : v = 0) : exec (.syswPer a) s = .next (s.setMe { s.me with per := 0, due := none }).done := by
  subst hv
  exact congrArg Host.Outcome.next ((if_neg h).trans (if_pos h0))
theorem syswPer_period (h : ¬PeriodBad s v) (h0 : v ≠ 0) : exec (.syswPer a) s =
    (let x := s.me
     let z := movedC0 x v (s.cycle s.pt)
     .next (s.setMe { x with per := v, c0 := z, due := x.due.map (fun n => (n.1, n.2 + x.c0 - z)), busy := x.busy && x.per != 0 }).done) := by
  subst hv
  exact congrArg Host.Outcome.next ((if_neg h).trans (if_neg h0))
theorem syswPph_traps (h : s.me.per ≠ 0 ∧ s.me.per.toNat ≤ v.toNat) : exec (.syswPph a) s = .next (s.trap 3 0x011) := by
  subst hv
  exact congrArg Host.Outcome.next (if_pos h)
theorem syswPph_writes (h : ¬(s.me.per ≠ 0 ∧ s.me.per.toNat ≤ v.toNat)) : exec (.syswPph a) s = .next (s.setMe { s.me with pph := v }).done := by
  subst hv
  exact congrArg Host.Outcome.next (if_neg h)
end

/-- Settles O18. -/
theorem periodWrites : Obligations.PeriodWrites := by
  intro s a x v r bad
  refine ⟨fun h => ⟨_, syswPer_traps rfl h, traps_trap _ _ _ _⟩, fun h h0 => ⟨_, syswPer_zero rfl h h0, performed_done s _⟩, fun h h0 => ?_,
    fun h => ⟨_, syswPph_traps rfl h, traps_trap _ _ _ _⟩, fun h => ⟨_, syswPph_writes rfl h, performed_done s _⟩⟩
  exact ⟨_, _, syswPer_period rfl h h0, performed_done s _, rfl, boundary_movedC0 x _ v (s.cycle s.pt) rfl rfl rfl⟩

end Sys2Proof.Safety
end

section
/-!
SUPPORT. O45 and O46 fail in states that no run reaches: two operations under one number, and an eviction notice of a reason that its
field does not hold.
-/
namespace Sys2Proof.Safety
open Sys2Proof.Machine

/-! ## Two operations under one number -/

/-- A TAKE that has nothing still to post. -/
def lateTake : Op := { oid := 0, party := .strand 0, rcb := 0, cls := none, fin := .take 0 }
/-- A store of no bytes at its home. -/
def emptyStore : Part := { pid := 0, oid := 0, party := .strand 0, src := 0, home := .absent, lane := 2, gates := [], cls := 0, act := .write [] }
/-- The store has come to its home, and a second operation bears its operation's number and still has a read to post. -/
def sharedNumber : State := { State.reset with ops := [lateTake, { lateTake with later := [(.absent, .read [])] }], arrived := [emptyStore] }
/-- What follows a performed part is done of every operation of its number: the second loses its read, though a store changes no operation. -/
theorem sharedNumber_performs : exec (.partPerform 0) sharedNumber = .next { sharedNumber with ops := [lateTake, lateTake], arrived := [] } := rfl

/-- Refutes O45: the operations do not stay as they were where a second one bears the number of a store's. -/
theorem not_partEvents : ¬ Obligations.PartEvents := by
  intro h
  obtain ⟨-, -, -, -, hperform⟩ := h sharedNumber 0 emptyStore
  obtain ⟨-, -, hacts, -⟩ := hperform rfl
  obtain ⟨-, hwrite, -⟩ := hacts (by decide) (by decide) lateTake rfl rfl (fun _ _ _ _ => nofun)
  obtain ⟨t, ht, hops, -⟩ := hwrite [] rfl
  cases sharedNumber_performs.symm.trans ht
  exact absurd hops (by decide)

/-! ## A reason beyond its field -/

/-- Strand 0 of tile 0 waits in entry 0 to be saved, and the notice is to give reason 256, which reaches into the field of the kind (R209). -/
def wideReason : State := { State.reset with tiles := [(0, { cache := [(0, { st := .loading, strand := { st := .evicted }, reason := 256 })] })] }
/-- The event word is of kind 7, so that no bit of EVP is set. -/
theorem wideReason_completes : ∃ t, exec (.evictComplete 0 0) wideReason = .next t ∧ (t.tile 0).evp = 0 := ⟨_, rfl, rfl⟩

/-- Refutes O46: the bit of the entry in EVP stays clear where the reason of the notice does not fit its field. -/
theorem not_completions : ¬ Obligations.Completions := by
  intro h
  obtain ⟨-, -, -, -, -, -, -, -, -, -, -, -, -, -, -, -, -, -, -, -, -, -, -, -, -, -, -, -, hevict, -⟩ := h wideReason 0 0 0 0 lateTake
  obtain ⟨-, hdrained, -⟩ := hevict 0 rfl (by decide)
  obtain ⟨t, ht, ⟨-, -, -, -, -, hset, -⟩, -⟩ := hdrained rfl rfl
  obtain ⟨u, hu, hclear⟩ := wideReason_completes
  cases hu.symm.trans ht
  rw [hclear] at hset
  exact absurd hset (by decide)

end Sys2Proof.Safety
end

section
/-!
SUPPORT. Wakes, releases and starts of strands (R49, R53, R54, R57, R206, R208, R224, R347), said once for each, and O43.
-/
namespace Sys2Proof.Safety
open Sys2Proof.Machine

/-- One strand becomes y, and nothing else of the panel changes. -/
def StrandBecomes (s t : State) (key : Nat) (y : Strand) : Prop :=
  t.strand key = y ∧ StrandsKeptBut s t key ∧ MemKept s t ∧ t = { s with strands := t.strands }
theorem setStrand_becomes (s : State) (key : Nat) (y : Strand) : StrandBecomes s (s.setStrand key y) key y :=
  ⟨State.strand_setStrand _ _ _, fun _ hk => State.strand_setStrand_other _ _ hk, .of_eq rfl, rfl⟩

/-! ## Regions and their STATUS (R315) -/

theorem region?_rcb {s : State} {n : Nat} {r : Region} (h : s.region? n = some r) : r.rcb = n :=
  beq_iff_eq.mp (List.find?_some (p := fun q : Region => q.rcb == n) h)
/-- A change of a region that keeps its number is found under it. -/
theorem region?_modRegion (s : State) (n : Nat) {f : Region → Region} (hf : ∀ q, (f q).rcb = q.rcb) :
    (s.modRegion n f).region? n = (s.region? n).map f := by
  have hp : ((fun q : Region => q.rcb == n) ∘ fun q => if q.rcb == n then f q else q) = fun q => q.rcb == n := by
    funext q
    simp only [Function.comp_apply, apply_ite Region.rcb, hf, ite_self]
  unfold State.region? State.modRegion
  rw [List.find?_map, hp]
  cases hq : s.regions.find? (fun q => q.rcb == n) with
  | none => rfl
  | some q => exact congrArg some (if_pos (List.find?_some (p := fun q : Region => q.rcb == n) hq))

/-- Only memory and the regions change. -/
theorem writeStatus_rest (s : State) (rcb : Nat) (st : RegionSt) (cause : Nat) :
    s.writeStatus rcb st cause = { s with mem := (s.writeStatus rcb st cause).mem } := by
  unfold State.writeStatus
  split <;> rfl
theorem region?_writeStatus (s : State) (rcb : Nat) (st : RegionSt) (cause n : Nat) : (s.writeStatus rcb st cause).region? n = s.region? n := by
  rw [writeStatus_rest]
  rfl
theorem strand_writeStatus (s : State) (rcb : Nat) (st : RegionSt) (cause k : Nat) : (s.writeStatus rcb st cause).strand k = s.strand k := by
  rw [writeStatus_rest]
  rfl
theorem statusCode_lt (st : RegionSt) : statusCode st < 5 := by cases st <;> decide
/-- STATUS reads as written, and no other byte changes. -/
theorem writeStatus_mem (s : State) (rcb : Nat) (st : RegionSt) {cause k : Nat} (hc : cause < 256) (hk : s.panelKey rcb = some k) :
    memNat (s.writeStatus rcb st cause).mem k 8 = statusCode st + cause * 256 ∧ MemKeptBut s (s.writeStatus rcb st cause) k 8 := by
  have hs := statusCode_lt st
  have hw : (s.writeStatus rcb st cause).mem = memPutBytes s.mem k (toBytes 8 (statusCode st + cause * 256)) := by
    simp only [State.writeStatus, hk]
    rfl
  rw [hw]
  refine ⟨(memNat_putBytes_self _ _ _ _).trans (Nat.mod_eq_of_lt (by omega)), fun a ha => ?_⟩
  rw [hw]
  exact ha.elim (fun h => memGet_putBytes_below _ _ _ h) fun h => memGet_putBytes_above _ _ _ (by simpa using h)

/-! ## Wakes and releases -/

section
variable {s : State} {pt slot : Nat}

theorem boundaryWake_wakes (h : (s.strand (pt * 16 + slot)).st = .idle ∧
      boundary (s.strand (pt * 16 + slot)) (s.strand (pt * 16 + slot)).pidx.toNat ≤ (s.cycle pt : Nat)) :
    exec (.boundaryWake pt slot) s = .next (s.setStrand (pt * 16 + slot) { s.strand (pt * 16 + slot) with st := .running }) :=
  congrArg Host.Outcome.next (if_pos h)
theorem boundaryWake_waits (h : ¬((s.strand (pt * 16 + slot)).st = .idle ∧
      boundary (s.strand (pt * 16 + slot)) (s.strand (pt * 16 + slot)).pidx.toNat ≤ (s.cycle pt : Nat))) : exec (.boundaryWake pt slot) s = .next s :=
  congrArg Host.Outcome.next (if_neg h)

/-- The limits of a WAIT as its four fields. -/
theorem covered_passed (x : Strand) (u : Nat) (l : BitVec 24) :
    x.covered u l = passed x u (l.extractLsb' 18 6) (l.extractLsb' 12 6) (l.extractLsb' 0 6) := by
  have hf (lo : Nat) : bitsOf lo 6 l.toNat = (l.extractLsb' lo 6).toNat := by
    rw [BitVec.extractLsb'_toNat, Nat.shiftRight_eq_div_pow]
    rfl
  have hz (f : BitVec 6) : f.toNat = 0 ↔ f = 0 := ⟨fun h => BitVec.eq_of_toNat_eq h, fun h => by rw [h]; rfl⟩
  have hm (f : BitVec 6) : f.toNat = 63 ↔ f = 63 := ⟨fun h => BitVec.eq_of_toNat_eq h, fun h => by rw [h]; rfl⟩
  unfold Strand.covered passed
  simp only [limitOf, hf, hz, hm]

/-- A release with no uncorrectable load recorded. -/
theorem release_clean {key : Nat} (l : BitVec 24) (pos : Word) (st : RunState) (hb : (s.strand key).badLoads = []) :
    s.release key l pos st = s.setStrand key { (s.strand key).covered (s.unapplied key) l with
      st := st, hold := .none, freed := some (s.cycle (key / 16)) } := by
  unfold State.release
  dsimp only
  split
  · rfl
  next h => exact absurd (hb.symm.trans h) (by simp)
/-- A release that finds one traps with its address (R206). -/
theorem release_bad {key : Nat} (l : BitVec 24) (pos : Word) (st : RunState) {a : Word} {r : List Word} (hb : (s.strand key).badLoads = a :: r) :
    s.release key l pos st = (s.setStrand key { s.strand key with
      st := .running, hold := .none, freed := some (s.cycle (key / 16)), badLoads := [] }).trapAt key pos 13 pos a := by
  unfold State.release
  simp only [hb]
  rfl
theorem slot_tile (hs : slot < 16) : (pt * 16 + slot) / 16 = pt := by omega

/-- How a release ends that the statement of O43 speaks of: for a strand of the tile whose counts meet the limits. -/
theorem release_ends {i : Instr} {l : BitVec 24} {pos : Word} {st : RunState} (hi : exec i s = .next (s.release (pt * 16 + slot) l pos st))
    (hs : slot < 16) :
    ((s.strand (pt * 16 + slot)).badLoads = [] → ∃ t, exec i s = .next t ∧ StrandBecomes s t (pt * 16 + slot)
      { passed (s.strand (pt * 16 + slot)) (s.unapplied (pt * 16 + slot)) (l.extractLsb' 18 6) (l.extractLsb' 12 6) (l.extractLsb' 0 6) with
        st := st, hold := .none, freed := some (s.cycle pt) }) ∧
    (∀ a r, (s.strand (pt * 16 + slot)).badLoads = a :: r → ∃ t, exec i s = .next t ∧
      t = (s.setStrand (pt * 16 + slot) { s.strand (pt * 16 + slot) with
        st := .running, hold := .none, freed := some (s.cycle pt), badLoads := [] }).trapAt (pt * 16 + slot) pos 13 pos a) := by
  refine ⟨fun hb => ⟨_, hi, ?_⟩, fun a r hb => ⟨_, hi, ?_⟩⟩
  · rw [release_clean l pos st hb, slot_tile hs, covered_passed]
    exact setStrand_becomes _ _ _
  · rw [release_bad l pos st hb, slot_tile hs]

theorem waitRelease_eq {l : BitVec 24} {pos : Word} {p : Bool} (h : (s.strand (pt * 16 + slot)).st = .held)
    (hh : (s.strand (pt * 16 + slot)).hold = .wait l pos p) : exec (.waitRelease pt slot) s =
      .next (if (s.strand (pt * 16 + slot)).meets l then s.release (pt * 16 + slot) l pos .running else s) := by
  simp only [exec, execWaitRelease, h, hh]
theorem haltComplete_eq {pos : Word} (h : (s.strand (pt * 16 + slot)).st = .held) (hh : (s.strand (pt * 16 + slot)).hold = .halt pos) :
    exec (.haltComplete pt slot) s = .next (if (s.strand (pt * 16 + slot)).meets 0 then s.release (pt * 16 + slot) 0 pos .halted else s) := by
  simp only [exec, execHaltComplete, h, hh]
theorem fenceRelease_eq {gs : List Gate} {pos : Word} {p : Bool} (h : (s.strand (pt * 16 + slot)).st = .held)
    (hh : (s.strand (pt * 16 + slot)).hold = .fence gs pos p) : exec (.fenceRelease pt slot) s =
      .next (if gs.any s.gateWaits then s
        else s.setStrand (pt * 16 + slot) { s.strand (pt * 16 + slot) with st := .running, hold := .none, freed := some (s.cycle pt) }) := by
  simp only [exec, execFenceRelease, h, hh]
theorem releases_wait (h : (s.strand (pt * 16 + slot)).st ≠ .held) : exec (.waitRelease pt slot) s = .next s ∧
    exec (.haltComplete pt slot) s = .next s ∧ exec (.fenceRelease pt slot) s = .next s := by
  simp only [exec, execWaitRelease, execHaltComplete, execFenceRelease]
  cases hs : (s.strand (pt * 16 + slot)).st with
  | held => exact absurd hs h
  | _ => exact ⟨rfl, rfl, rfl⟩

/-! ## Starts -/

theorem strandStart_unarmed (h : (s.strand (pt * 16 + slot)).st ≠ .armed) : exec (.strandStart pt slot) s = .next s :=
  congrArg Host.Outcome.next (if_pos (.inl h))
theorem strandStart_eq {r : Region} (h : (s.strand (pt * 16 + slot)).st = .armed) (hs : slot < 16)
    (hr : s.region? (s.strand (pt * 16 + slot)).rcbp.toNat = some r) : exec (.strandStart pt slot) s = .next (
      if !(s.strand (pt * 16 + slot)).started && !s.startDue pt r then s
      else
        let t := if (s.strand (pt * 16 + slot)).started then s else s.startRegion pt r
        let y := t.strand (pt * 16 + slot)
        if boundary y 0 ≤ s.cycle pt then t.setStrand (pt * 16 + slot) { y with st := .running } else t) := by
  simp only [exec, execStrandStart, h, hr, ne_eq, not_true_eq_false, false_or, Nat.not_le.mpr hs, if_false]

/-- An armed strand of the region on a tile takes the start cycle as its C0 (R49). -/
def startStrand (r : Region) (c : Int) (x : Strand) : Strand :=
  if x.st == .armed && !x.started && x.rcbp == word r.rcb then { x with started := true, c0 := c } else x
/-- Every strand of a tile changed. -/
theorem foldl_modStrand (f : Strand → Strand) (pt : Nat) : ∀ (n : Nat) (s : State), n ≤ 16 → ∀ k,
    ((List.range n).foldl (fun (t : State) i => t.modStrand (pt * 16 + i) f) s).strand k =
      if pt * 16 ≤ k ∧ k < pt * 16 + n then f (s.strand k) else s.strand k := by
  intro n
  induction n with
  | zero => intro s _ k; simp
  | succ n ih =>
    intro s hn k
    rw [List.range_succ, List.foldl_append, List.foldl_cons, List.foldl_nil]
    by_cases hk : k = pt * 16 + n
    · subst hk
      rw [State.strand_modStrand, ih s (by omega), if_neg (by omega), if_pos (by omega)]
    · rw [State.strand_modStrand_other _ _ hk, ih s (by omega)]
      congr 1
      simp only [eq_iff_iff]
      omega
/-- Only the strands change. -/
theorem foldl_modStrand_rest (f : Strand → Strand) (g : Nat → Nat) : ∀ (l : List Nat) (s : State),
    l.foldl (fun (t : State) i => t.modStrand (g i) f) s = { s with strands := (l.foldl (fun (t : State) i => t.modStrand (g i) f) s).strands }
  | [], _ => rfl
  | a :: l, s => by
    rw [List.foldl_cons, foldl_modStrand_rest f g l (s.modStrand (g a) f)]
    rfl

/-- The tile's part of the start of a region: its strands take their C0. -/
def startStrands (s : State) (pt : Nat) (r : Region) : State :=
  (List.range 16).foldl (fun (t : State) i => t.modStrand (pt * 16 + i) (startStrand r (s.cycle pt : Nat))) s
theorem startStrands_rest (r : Region) : startStrands s pt r = { s with strands := (startStrands s pt r).strands } := foldl_modStrand_rest _ _ _ _
theorem startRegion_eq (r : Region) : s.startRegion pt r = if r.st = .admitted
    then ((startStrands s pt r).modRegion r.rcb (fun q => { q with st := .running })).writeStatus r.rcb .running 0 else startStrands s pt r := rfl
theorem startRegion_strand (r : Region) (k : Nat) : (s.startRegion pt r).strand k =
    if pt * 16 ≤ k ∧ k < pt * 16 + 16 then startStrand r (s.cycle pt : Nat) (s.strand k) else s.strand k := by
  rw [← foldl_modStrand (startStrand r (s.cycle pt : Nat)) pt 16 s (Nat.le_refl 16) k, startRegion_eq]
  split
  · exact strand_writeStatus _ _ _ _ _
  · rfl
/-- A region that was not admitted anew only gives its strands their start. -/
theorem startRegion_started {r : Region} (h : r.st ≠ .admitted) : (s.startRegion pt r).mem = s.mem ∧ (s.startRegion pt r).regions = s.regions := by
  rw [startRegion_eq, if_neg h, startStrands_rest]
  exact ⟨rfl, rfl⟩
/-- The first start makes the region running, in STATUS too. -/
theorem startRegion_admitted {r : Region} (h : r.st = .admitted) (hr : s.region? r.rcb = some r) :
    (((s.startRegion pt r).region? r.rcb).map Region.st) = some .running ∧
    ∀ k, s.panelKey r.rcb = some k → memNat (s.startRegion pt r).mem k 8 = 2 ∧ MemKeptBut s (s.startRegion pt r) k 8 := by
  rw [startRegion_eq, if_pos h, startStrands_rest]
  generalize (startStrands s pt r).strands = x
  refine ⟨?_, fun k hk => writeStatus_mem _ _ _ (by decide) hk⟩
  rw [region?_writeStatus, region?_modRegion]
  · exact congrArg (fun q => (q.map fun q : Region => { q with st := .running }).map Region.st) hr
  · exact fun _ => rfl

theorem boundary_started (x : Strand) (c : Int) : boundary { x with started := true, c0 := c } 0 ≤ c ↔ x.pph = 0 := by
  have hz : x.pph.toNat = 0 ↔ x.pph = 0 := ⟨fun h => BitVec.eq_of_toNat_eq h, fun h => by rw [h]; rfl⟩
  rw [← hz]
  simp only [boundary]
  omega
theorem startStrand_eq {r : Region} (c : Int) (x z : Strand) (hr : r.rcb = x.rcbp.toNat) : startStrand r c z =
    if z.st = .armed ∧ z.started = false ∧ z.rcbp = x.rcbp then { z with started := true, c0 := c } else z := by
  have hw : word r.rcb = x.rcbp := by rw [hr, word, BitVec.ofNat_toNat, BitVec.setWidth_eq]
  unfold startStrand
  simp only [hw, Bool.and_eq_true, beq_iff_eq, Bool.not_eq_true', and_assoc]
/-- A start that is due (R49). -/
theorem strandStart_due {r : Region} (h : (s.strand (pt * 16 + slot)).st = .armed) (hs : slot < 16)
    (hr : s.region? (s.strand (pt * 16 + slot)).rcbp.toNat = some r) (hn : (s.strand (pt * 16 + slot)).started = false) (hd : s.startDue pt r = true) :
    exec (.strandStart pt slot) s = .next (if (s.strand (pt * 16 + slot)).pph = 0
      then (s.startRegion pt r).setStrand (pt * 16 + slot) { s.strand (pt * 16 + slot) with started := true, c0 := (s.cycle pt : Nat), st := .running }
      else s.startRegion pt r) := by
  have hy : (s.startRegion pt r).strand (pt * 16 + slot) = { s.strand (pt * 16 + slot) with started := true, c0 := (s.cycle pt : Nat) } := by
    rw [startRegion_strand, if_pos ⟨by omega, by omega⟩, startStrand_eq _ _ _ (region?_rcb hr), if_pos ⟨h, hn, rfl⟩]
  rw [strandStart_eq h hs hr]
  simp only [hn, hd, hy, boundary_started, Bool.not_false, Bool.not_true, Bool.and_false, Bool.false_eq_true, if_false]
end

/-- Settles O43, event by event. -/
theorem strandEvents : Obligations.StrandEvents := by
  unfold Obligations.StrandEvents
  intro s pt slot
  dsimp only
  refine ⟨fun hi hb => ⟨_, boundaryWake_wakes ⟨hi, hb⟩, setStrand_becomes _ _ _⟩, boundaryWake_waits, fun l pos p hh hw => ⟨fun hm hs => ?_, fun hm => ?_⟩,
    fun pos hh hw => ⟨fun hm hs => ?_, fun hm => ?_⟩, fun gs pos p hh hw => ⟨fun hg => ?_, fun ⟨g, hg, hgw⟩ => ?_⟩, releases_wait, strandStart_unarmed,
    fun r ha hs hr => ⟨fun hst => ⟨fun hb => ?_, fun hb => ?_⟩, fun hst hd => ?_, fun hst hd => ⟨_, strandStart_due ha hs hr hst hd, ?_⟩⟩⟩
  · exact release_ends ((waitRelease_eq hh hw).trans (by rw [if_pos hm])) hs
  · rw [waitRelease_eq hh hw, hm]
    rfl
  · exact release_ends ((haltComplete_eq hh hw).trans (by rw [if_pos hm])) hs
  · rw [haltComplete_eq hh hw, hm]
    rfl
  · refine ⟨_, (fenceRelease_eq hh hw).trans (by rw [if_neg]; simpa using hg), setStrand_becomes _ _ _⟩
  · rw [fenceRelease_eq hh hw, if_pos (List.any_eq_true.mpr ⟨g, hg, hgw⟩)]
  · refine ⟨_, (strandStart_eq ha hs hr).trans ?_, setStrand_becomes _ _ _⟩
    simp only [hst, Bool.not_true, Bool.false_and, Bool.false_eq_true, if_false, if_true, hb]
  · rw [strandStart_eq ha hs hr]
    simp only [hst, Bool.not_true, Bool.false_and, Bool.false_eq_true, if_false, if_true, Int.not_le.mpr hb]
  · rw [strandStart_eq ha hs hr]
    simp only [hst, hd, Bool.not_false, Bool.and_self, if_true]
  · have hx := (startRegion_strand (s := s) (pt := pt) r (pt * 16 + slot)).trans (if_pos ⟨by omega, by omega⟩)
    rw [startStrand_eq _ _ _ (region?_rcb hr), if_pos ⟨ha, hst, rfl⟩] at hx
    have ho (i : Nat) (hi : i < 16) := (startRegion_strand (s := s) (pt := pt) r (pt * 16 + i)).trans (if_pos ⟨by omega, by omega⟩)
    simp only [startStrand_eq _ _ _ (region?_rcb hr)] at ho
    have hk (k : Nat) (hk : k / 16 ≠ pt) := (startRegion_strand (s := s) (pt := pt) r k).trans (if_neg fun h => hk (by omega))
    split
    · next hp =>
      exact ⟨State.strand_setStrand _ _ _, fun i hi hn => (State.strand_setStrand_other _ _ (by omega)).trans (ho i hi),
        fun k h => (State.strand_setStrand_other _ _ fun he => h (by omega)).trans (hk k h),
        fun hn => ⟨.of_eq (startRegion_started hn).1, (startRegion_started hn).2⟩,
        fun hn => region?_rcb hr ▸ startRegion_admitted hn (by rw [region?_rcb hr]; exact hr)⟩
    · next hp =>
      exact ⟨hx.trans (by rw [← ha]), fun i hi hn => ho i hi, hk, fun hn => ⟨.of_eq (startRegion_started hn).1, (startRegion_started hn).2⟩,
        fun hn => region?_rcb hr ▸ startRegion_admitted hn (by rw [region?_rcb hr]; exact hr)⟩
end Sys2Proof.Safety
end

section
/-!
SUPPORT. Transfers of quanta (R234, R235), event by event.
-/
namespace Sys2Proof.Safety
open Sys2Proof.Machine

/-! ## Dies and their neighbours -/

/-- Back over a link one comes to the die it leaves, if to any. -/
theorem dieAt_back {a b c : Nat} {dir : Dir} (h : dieAt a dir = some b) (hc : dieAt b (backDir dir) = some c) : c = a := by
  cases dir <;> simp only [dieAt, backDir, Option.ite_none_right_eq_some, Option.some.injEq] at h hc <;> omega

/-- A die with other registers of R235. -/
def withPower (x : Die) (p : Power) : Die := { x with power := p }
theorem die_modPower (s : State) (d : Nat) (f : Power → Power) : (s.modPower d f).die d = withPower (s.die d) (f (s.die d).power) := by
  simp only [State.modPower, State.die_modDie]
  rfl
/-- A change of the registers of one die leaves the others. -/
theorem die_modPower_notIn (s : State) {d e : Nat} (f : Power → Power) {l : List Nat} (hd : d ∈ l) (h : e ∉ l) : (s.modPower d f).die e = s.die e :=
  s.power_modPower_other f fun he => h (he ▸ hd)

/-- Changes at two dies. -/
theorem die_modPower_two (s : State) {a b : Nat} (h : b ≠ a) (f g : Power → Power) :
    ((s.modPower a f).modPower b g).die a = withPower (s.die a) (f (s.die a).power) ∧
    ((s.modPower a f).modPower b g).die b = withPower (s.die b) (g (s.die b).power) := by
  rw [State.power_modPower_other _ _ h.symm, die_modPower, die_modPower, State.power_modPower_other _ _ h]
  exact ⟨rfl, rfl⟩

/-! ## Sends, receipts, returns and recalls -/

section
variable {s : State} {die q kind id : Nat} {dir : Dir}

theorem mayQuanta_iff : s.mayQuanta die dir q kind = true ↔ die < 128 ∧ dieAt die dir ≠ none ∧ (s.die die).sideDown.getD (dirNo dir) false = false ∧
    0 < q ∧ q + (s.die die).power.out.getD (dirNo dir) 0 ≤ 440 ∧
    ((kind = 0 ∧ q + (s.die die).power.draw ≤ (s.die die).power.held - (s.die die).power.set ∧
        q + (s.die die).power.out.getD (dirNo dir) 0 + (s.die die).power.lent.getD (dirNo dir) 0 ≤ 440) ∨
      (kind = 1 ∧ q + (s.die die).power.draw ≤ (s.die die).power.held - (s.die die).power.set ∧
        q + s.repaying die dir ≤ (s.die die).power.owed.getD (dirNo dir) 0) ∨
      (kind = 2 ∧ q ≤ (s.die die).power.set ∧ q ≤ (s.die die).power.held ∧
        q + s.repaying die dir ≤ (s.die die).power.owed.getD (dirNo dir) 0)) := by
  have hdie : decide (die < Config.dies) = true ↔ die < 128 := decide_eq_true_iff
  unfold State.mayQuanta Power.usable
  dsimp only
  simp only [Bool.and_eq_true, hdie, Option.isSome_iff_ne_none, Bool.not_eq_true', decide_eq_true_eq, and_assoc]
  rcases kind with _ | _ | _ | k <;> simp

/-- A send that passes its check (R235). -/
theorem quantaSend_sends (h : s.mayQuanta die dir q kind = true) : exec (.quantaSend die dir q kind) s = .next (State.fresh
    { s.modPower die (fun p => { p with held := p.held - q, out := up dir q p.out, set := if kind = 2 then p.set - q else p.set }) with
      transfers := s.transfers ++ [{ id := s.nextId, src := die, dir := dir, q := q, kind := kind, stage := 0 }] }) :=
  congrArg Host.Outcome.next (if_neg (by rw [h]; decide))
theorem quantaSend_waits (h : ¬s.mayQuanta die dir q kind = true) : exec (.quantaSend die dir q kind) s = .next s :=
  congrArg Host.Outcome.next (if_pos (by simpa using h))
theorem quantaReceipt_eq {x : Transfer} {b : Nat} (hx : s.transfer? id 0 = some x) (hb : dieAt x.src x.dir = some b) :
    exec (.quantaReceipt id) s = .next (if 440 < (s.die b).power.held + x.q then s.setStage id 2
      else (s.modPower b (fun p => { p with held := p.held + x.q })).setStage id 1) := by
  simp only [exec, execQuantaReceipt, hx, hb]
theorem quantaAck_eq {x : Transfer} (hx : s.transfer? id 1 = some x) : exec (.quantaAck id) s = .next (s.settle x) := by
  simp only [exec, execQuantaAck, hx]
theorem quantaReturn_eq {x : Transfer} (hx : s.transfer? id 2 = some x) : exec (.quantaReturn id) s = .next (s.giveBack x) := by
  simp only [exec, execQuantaReturn, hx]
/-- No transfer at the stage that an event needs. -/
theorem transfer_waits : (s.transfer? id 0 = none → exec (.quantaReceipt id) s = .next s) ∧
    (s.transfer? id 1 = none → exec (.quantaAck id) s = .next s) ∧ (s.transfer? id 2 = none → exec (.quantaReturn id) s = .next s) := by
  simp +contextual only [exec, execQuantaReceipt, execQuantaAck, execQuantaReturn, implies_true, and_self]
theorem quantaRecall_eq {b : Nat} (hb : dieAt die dir = some b) : exec (.quantaRecall die dir q) s = .next (
    if (s.die die).power.lent.getD (dirNo dir) 0 < q + (s.die b).power.recalled.getD (dirNo (backDir dir)) 0 ∨
      (s.die b).power.held < (s.die b).power.set + q ∨ 128 ≤ die then s
    else s.modPower b (fun p => { p with set := p.set + q, recalled := up (backDir dir) q p.recalled })) := by
  simp only [exec, execQuantaRecall, hb]
  rfl

theorem die_fresh_transfers (l : List Transfer) (d : Nat) : (State.fresh { s with transfers := l }).die d = s.die d := rfl
theorem die_setStage (i n d : Nat) : (s.setStage i n).die d = s.die d := rfl
theorem die_dropTransfer (i d : Nat) : (s.dropTransfer i).die d = s.die d := rfl
/-- A grant that was taken is lent by the one and owed by the other. -/
theorem settle_grant {x : Transfer} {b : Nat} (hb : dieAt x.src x.dir = some b) (hk : x.kind = 0) :
    (s.settle x).die x.src = withPower (s.die x.src) { (s.die x.src).power with
      out := down x.dir x.q (s.die x.src).power.out, lent := up x.dir x.q (s.die x.src).power.lent } ∧
    (s.settle x).die b = withPower (s.die b) { (s.die b).power with owed := up (backDir x.dir) x.q (s.die b).power.owed } := by
  have hne := dieAt_ne hb
  have hs : s.settle x = (((s.modPower x.src (fun p => { p with out := down x.dir x.q p.out })).modPower x.src
      (fun p => { p with lent := up x.dir x.q p.lent })).modPower b (fun p => { p with owed := up (backDir x.dir) x.q p.owed })).dropTransfer x.id := by
    simp only [State.settle, hk, hb, Option.getD_some, if_true]
  rw [hs, die_dropTransfer, die_dropTransfer, (die_modPower_two _ hne _ _).1, (die_modPower_two _ hne _ _).2, die_modPower,
    State.power_modPower_other _ _ hne]
  exact ⟨rfl, rfl⟩
/-- A repayment that was taken is neither owed nor lent any more. -/
theorem settle_repayment {x : Transfer} {b : Nat} (hb : dieAt x.src x.dir = some b) (hk : x.kind ≠ 0) :
    (s.settle x).die x.src = withPower (s.die x.src) { (s.die x.src).power with
      out := down x.dir x.q (s.die x.src).power.out, owed := down x.dir x.q (s.die x.src).power.owed
      recalled := if x.kind = 2 then down x.dir x.q (s.die x.src).power.recalled else (s.die x.src).power.recalled } ∧
    (s.settle x).die b = withPower (s.die b) { (s.die b).power with lent := down (backDir x.dir) x.q (s.die b).power.lent } := by
  have hne := dieAt_ne hb
  have hs : s.settle x = (((s.modPower x.src (fun p => { p with out := down x.dir x.q p.out })).modPower x.src
      (fun p => { p with owed := down x.dir x.q p.owed, recalled := if x.kind = 2 then down x.dir x.q p.recalled else p.recalled })).modPower b
        (fun p => { p with lent := down (backDir x.dir) x.q p.lent })).dropTransfer x.id := by
    simp only [State.settle, hk, hb, Option.getD_some, if_false]
  rw [hs, die_dropTransfer, die_dropTransfer, (die_modPower_two _ hne _ _).1, (die_modPower_two _ hne _ _).2, die_modPower,
    State.power_modPower_other _ _ hne]
  exact ⟨rfl, rfl⟩
end

/-! ## The end of a transfer -/

/-- Only registers of R235 of dies of a list change, and transfers. -/
structure PowersMoved (s t : State) (l : List Nat) : Prop where
  rest  : t = { s with dies := t.dies, transfers := t.transfers }
  other : ∀ d, d ∉ l → t.die d = s.die d
  power : ∀ d, t.die d = withPower (s.die d) (t.die d).power
theorem PowersMoved.refl (s : State) (l : List Nat) : PowersMoved s s l := ⟨rfl, fun _ _ => rfl, fun _ => rfl⟩
theorem PowersMoved.trans {s t u : State} {l : List Nat} (h : PowersMoved s t l) (k : PowersMoved t u l) : PowersMoved s u l :=
  ⟨k.rest.trans (by rw [h.rest]), fun d hd => (k.other d hd).trans (h.other d hd), fun d => (k.power d).trans (by rw [h.power d]; rfl)⟩
theorem PowersMoved.modPower (s : State) {d : Nat} (f : Power → Power) {l : List Nat} (hd : d ∈ l) : PowersMoved s (s.modPower d f) l := by
  refine ⟨rfl, fun e he => die_modPower_notIn s f hd he, fun e => ?_⟩
  by_cases he : e = d
  · rw [he, die_modPower]
    rfl
  · rw [State.power_modPower_other _ _ he]
    rfl
/-- Transfers may change as they like. -/
theorem PowersMoved.transfers {s t : State} {l : List Nat} (h : PowersMoved s t l) (x : List Transfer) : PowersMoved s { t with transfers := x } l :=
  ⟨by rw [h.rest], h.other, h.power⟩
theorem PowersMoved.settle (s : State) (x : Transfer) {l : List Nat} (hx : x.src ∈ l) (hb : (dieAt x.src x.dir).getD x.src ∈ l) :
    PowersMoved s (s.settle x) l := by
  refine PowersMoved.transfers (s := s) (t := ite _ _ _) ?_ _
  split
  · exact ((PowersMoved.modPower s _ hx).trans (.modPower _ _ hx)).trans (.modPower _ _ hb)
  · exact ((PowersMoved.modPower s _ hx).trans (.modPower _ _ hx)).trans (.modPower _ _ hb)
theorem PowersMoved.giveBack (s : State) (x : Transfer) {l : List Nat} (hx : x.src ∈ l) : PowersMoved s (s.giveBack x) l := by
  unfold State.giveBack
  split
  · exact (PowersMoved.refl s l).transfers _
  · exact (PowersMoved.modPower s _ hx).transfers _
theorem PowersMoved.endTransfer (s : State) (x : Transfer) {l : List Nat} (hx : x.src ∈ l) (hb : (dieAt x.src x.dir).getD x.src ∈ l) :
    PowersMoved s (s.endTransfer x) l := by
  unfold State.endTransfer
  split
  · exact .settle s x hx hb
  · exact .giveBack s x hx
theorem PowersMoved.endTransfers {l : List Nat} : ∀ (xs : List Transfer) (s : State),
    (∀ x ∈ xs, x.src ∈ l ∧ (dieAt x.src x.dir).getD x.src ∈ l) → PowersMoved s (xs.foldl State.endTransfer s) l
  | [], s, _ => .refl s l
  | x :: xs, s, h => by
    obtain ⟨hx, hb⟩ := h x List.mem_cons_self
    exact .trans (.endTransfer s x hx hb) (endTransfers xs _ fun y hy => h y (List.mem_cons_of_mem _ hy))

/-- What a transfer's end leaves of the transfers: the others, and it itself on the sideband where it does not fit. -/
theorem mem_endTransfer_cases {s : State} {t x : Transfer} (h : x ∈ (s.endTransfer t).transfers) :
    (x ∈ s.transfers ∧ x.id ≠ t.id) ∨ ∃ y ∈ s.transfers, y.id = t.id ∧ x = { y with stage := 2 } := by
  have hdrop (u : List Transfer) (hu : u = s.transfers) (h : x ∈ u.filter (fun y => y.id != t.id)) : x ∈ s.transfers ∧ x.id ≠ t.id :=
    ⟨hu ▸ (List.mem_filter.mp h).1, bne_iff_ne.mp (List.mem_filter.mp h).2⟩
  unfold State.endTransfer at h
  split at h
  · obtain ⟨u, hu, he⟩ := s.settle_kept t
    rw [he] at h
    exact .inl (hdrop _ hu.transfers_eq h)
  · rcases s.giveBack_cases t with he | ⟨_, htr, _⟩
    · rw [he] at h
      obtain ⟨y, hy, rfl⟩ := List.mem_map.mp h
      split
      · next hi => exact .inr ⟨y, hy, beq_iff_eq.mp hi, rfl⟩
      · next hi => exact .inl ⟨hy, fun he => hi (beq_iff_eq.mpr he)⟩
    · rw [htr] at h
      exact .inl (hdrop _ rfl h)
/-- After the end of the transfers of a list none of theirs is left but those that went back and did not fit. -/
theorem mem_endTransfers {x : Transfer} : ∀ (l : List Transfer) (s : State), (l.map Transfer.id).Nodup →
    (∀ z ∈ s.transfers, ∀ y ∈ l, z.id = y.id → z = y) → x ∈ (l.foldl State.endTransfer s).transfers →
    (x ∈ s.transfers ∧ x ∉ l) ∨ ∃ y ∈ l, x = { y with stage := 2 }
  | [], _, _, _, hx => .inl ⟨hx, List.not_mem_nil⟩
  | t :: l, s, hn, hs, hx => by
    obtain ⟨ht, hl⟩ := List.nodup_cons.mp hn
    have hne {y : Transfer} (hy : y ∈ l) : t.id ≠ y.id := fun he => ht (he ▸ List.mem_map_of_mem hy)
    have hrest : ∀ z ∈ (s.endTransfer t).transfers, ∀ y ∈ l, z.id = y.id → z = y := by
      intro z hz y hy hi
      rcases mem_endTransfer_cases hz with ⟨hz, _⟩ | ⟨w, hw, hwt, rfl⟩
      · exact hs z hz y (List.mem_cons_of_mem _ hy) hi
      · exact absurd (hwt.symm.trans hi) (hne hy)
    rcases mem_endTransfers l (s.endTransfer t) hl hrest hx with ⟨hx, hxl⟩ | ⟨y, hy, rfl⟩
    · rcases mem_endTransfer_cases hx with ⟨hx, hxt⟩ | ⟨w, hw, hwt, rfl⟩
      · refine .inl ⟨hx, fun hm => ?_⟩
        rcases List.mem_cons.mp hm with rfl | hm
        · exact hxt rfl
        · exact hxl hm
      · exact .inr ⟨t, List.mem_cons_self, by rw [hs w hw t List.mem_cons_self hwt]⟩
    · exact .inr ⟨y, List.mem_cons_of_mem _ hy, rfl⟩
theorem held_modPower (s : State) (d e : Nat) {f : Power → Power} (hf : ∀ p, (f p).held = p.held) :
    ((s.modPower d f).die e).power.held = (s.die e).power.held := by
  by_cases he : e = d
  · rw [he, s.power_modPower, hf]
  · rw [State.power_modPower_other _ _ he]
/-- What the sender holds after the end of a transfer. -/
theorem endTransfer_held (s : State) (x : Transfer) : ((s.endTransfer x).die x.src).power.held =
    (s.die x.src).power.held + if x.stage = 1 ∨ 440 < (s.die x.src).power.held + x.q then 0 else x.q := by
  unfold State.endTransfer
  by_cases hst : x.stage = 1
  · rw [if_pos hst, if_pos (.inl hst)]
    unfold State.settle
    rw [die_dropTransfer]
    split
    · rw [held_modPower, held_modPower, held_modPower, Nat.add_zero]
      all_goals exact fun _ => rfl
    · rw [held_modPower, held_modPower, held_modPower, Nat.add_zero]
      all_goals exact fun _ => rfl
  · rw [if_neg hst]
    unfold State.giveBack
    by_cases hq : 440 < (s.die x.src).power.held + x.q
    · rw [if_pos hq, if_pos (.inr hq)]
      rfl
    · rw [if_neg hq, if_neg (not_or_intro hst hq), die_dropTransfer, s.power_modPower]

/-! ## The sidebands -/

section
variable {s : State} {die b : Nat} {dir : Dir}

/-- A die whose sideband in a direction is marked. -/
def withSide (x : Die) (dir : Dir) (v : Bool) : Die := { x with sideDown := x.sideDown.set (dirNo dir) v }
theorem markSide_marks (hb : dieAt die dir = some b) (v : Bool) : s.markSide die dir v = { s with dies := (s.markSide die dir v).dies } ∧
    (s.markSide die dir v).die die = withSide (s.die die) dir v ∧ (s.markSide die dir v).die b = withSide (s.die b) (backDir dir) v ∧
    ∀ k, k ∉ [die, b] → (s.markSide die dir v).die k = s.die k := by
  have hm : s.markSide die dir v = (s.modDie die (withSide · dir v)).modDie b (withSide · (backDir dir) v) := by
    simp only [State.markSide, hb]
    rfl
  have hne := dieAt_ne hb
  rw [hm]
  refine ⟨rfl, ?_, ?_, fun k hk => ?_⟩
  · rw [State.die_modDie_other _ _ hne.symm, State.die_modDie]
  · rw [State.die_modDie, State.die_modDie_other _ _ hne]
  · simp only [List.mem_cons, List.not_mem_nil, or_false, not_or] at hk
    rw [State.die_modDie_other _ _ hk.2, State.die_modDie_other _ _ hk.1]
theorem sidebandFailure_eq (hb : dieAt die dir = some b) :
    exec (.sidebandFailure die dir) s = .next (((s.onSide die dir).foldl State.endTransfer s).markSide die dir true) :=
  congrArg Host.Outcome.next (if_neg (by rw [hb]; exact Bool.false_ne_true))
/-- Events at the edge of the panel. -/
theorem edge_waits (q : Nat) (h : dieAt die dir = none) : exec (.quantaRecall die dir q) s = .next s ∧ exec (.sidebandFailure die dir) s = .next s := by
  simp only [exec, execQuantaRecall, execSidebandFailure, h, Option.isNone_none, if_true, and_self]
/-- A transfer on a sideband goes from the one end to the other. -/
theorem onSide_ends (hb : dieAt die dir = some b) {x : Transfer} (hx : x ∈ s.onSide die dir) :
    x.src ∈ [die, b] ∧ (dieAt x.src x.dir).getD x.src ∈ [die, b] := by
  have h := (List.mem_filter.mp hx).2
  simp only [hb, Bool.or_eq_true, Bool.and_eq_true, beq_iff_eq, Option.some.injEq] at h
  rcases h with ⟨rfl, rfl⟩ | ⟨rfl, hd⟩
  · rw [hb]
    simp
  · rw [hd]
    cases hc : dieAt x.src (backDir dir) with
    | none => simp
    | some c => simp [dieAt_back hb hc]

/-- The failure of a sideband (R235): what was taken is settled, the rest goes back where it fits. -/
theorem sidebandFailure_fails (hb : dieAt die dir = some b) : ∃ t, exec (.sidebandFailure die dir) s = .next t ∧
    (∀ k, k ∉ [die, b] → t.die k = s.die k) ∧ t = { s with dies := t.dies, transfers := t.transfers } ∧
    (t.die die).sideDown = (s.die die).sideDown.set (dirNo dir) true ∧ (t.die b).sideDown = (s.die b).sideDown.set (dirNo (backDir dir)) true ∧
    ((s.transfers.map Transfer.id).Nodup → ∀ x, x ∈ t.transfers → (x ∈ s.transfers ∧ x ∉ s.onSide die dir) ∨
      (x.stage = 2 ∧ ∃ y, y ∈ s.onSide die dir ∧ x = { y with stage := 2 })) ∧
    (∀ x, s.onSide die dir = [x] → (t.die x.src).power.held =
      (s.die x.src).power.held + if x.stage = 1 ∨ 440 < (s.die x.src).power.held + x.q then 0 else x.q) ∧
    (s.onSide die dir = [] → t.transfers = s.transfers ∧ (t.die die).power = (s.die die).power ∧ (t.die b).power = (s.die b).power) := by
  have hu := PowersMoved.endTransfers (l := [die, b]) (s.onSide die dir) s fun x hx => onSide_ends hb hx
  obtain ⟨hrest, hdie, hback, hother⟩ := markSide_marks (s := (s.onSide die dir).foldl State.endTransfer s) hb true
  have htr := congrArg State.transfers hrest
  have hpow (k : Nat) : ((((s.onSide die dir).foldl State.endTransfer s).markSide die dir true).die k).power =
      (((s.onSide die dir).foldl State.endTransfer s).die k).power := by
    by_cases hk : k ∈ [die, b]
    · rcases List.mem_cons.mp hk with rfl | hk
      · rw [hdie]
        rfl
      · rw [List.mem_singleton.mp hk, hback]
        rfl
    · rw [hother k hk]
  refine ⟨_, sidebandFailure_eq hb, fun k hk => (hother k hk).trans (hu.other k hk), ?_, ?_, ?_, fun hn x hx => ?_, fun x hx => ?_, fun hx => ?_⟩
  · rw [hrest, hu.rest]
  · rw [hdie, hu.power]
    rfl
  · rw [hback, hu.power]
    rfl
  · rw [htr] at hx
    have hsub : ((s.onSide die dir).map Transfer.id).Nodup := hn.sublist (List.filter_sublist.map _)
    rcases mem_endTransfers _ _ hsub (fun z hz y hy hi => List.inj_on_of_nodup_map hn hz (List.mem_filter.mp hy).1 hi) hx with h | ⟨y, hy, rfl⟩
    · exact .inl h
    · exact .inr ⟨rfl, y, hy, rfl⟩
  · rw [hpow, hx]
    exact endTransfer_held s x
  · rw [htr, hpow, hpow, hx]
    exact ⟨rfl, rfl, rfl⟩
end

/-! ## Steals (R60, R61) -/

/-- The youngest record that can be stolen at the lowest priority that holds one. -/
theorem gift_spec (Q : Sched) (rcb : Nat) : (Q.gift rcb = none → Q.stealable rcb = []) ∧
    ∀ r, Q.gift rcb = some r → r ∈ Q.stealable rcb ∧ (∀ y ∈ Q.stealable rcb, ctlPrio r.ctl ≤ ctlPrio y.ctl) ∧
      ((Q.stealable rcb).filter (fun y => ctlPrio y.ctl == ctlPrio r.ctl)).getLast? = some r := by
  have hp (y : Record) : ctlPrio y.ctl ∈ [0, 1, 2, 3] := by
    have h : ctlPrio y.ctl < 4 := Nat.mod_lt _ (by decide)
    simp only [List.mem_cons, List.not_mem_nil, or_false]
    omega
  have hnone {p : Nat} (h : ((Q.stealable rcb).filter (fun r => ctlPrio r.ctl == p)).getLast? = none) : ∀ y ∈ Q.stealable rcb, ctlPrio y.ctl ≠ p := by
    intro y hy he
    have hm : y ∈ (Q.stealable rcb).filter (fun r => ctlPrio r.ctl == p) := List.mem_filter.mpr ⟨hy, beq_iff_eq.mpr he⟩
    rw [List.getLast?_eq_none_iff.mp h] at hm
    exact List.not_mem_nil hm
  refine ⟨fun h => List.eq_nil_iff_forall_not_mem.mpr fun y hy => hnone (List.findSome?_eq_none_iff.mp h _ (hp y)) y hy rfl, fun r h => ?_⟩
  obtain ⟨l, a, m, hl, ha, hbelow⟩ := List.findSome?_eq_some_iff.mp h
  obtain ⟨hr, hra⟩ := List.mem_filter.mp (List.mem_of_getLast? ha)
  have hra : ctlPrio r.ctl = a := beq_iff_eq.mp hra
  have hsorted : (l ++ a :: m).Pairwise (· < ·) := hl ▸ (by decide : [0, 1, 2, 3].Pairwise (· < ·))
  refine ⟨hr, fun y hy => ?_, hra ▸ ha⟩
  rw [hra]
  rcases List.mem_append.mp (hl ▸ hp y) with hm | hm
  · exact absurd rfl (hnone (hbelow _ hm) y hy)
  · rcases List.mem_cons.mp hm with he | hm
    · exact Nat.le_of_eq he.symm
    · exact Nat.le_of_lt (List.rel_of_pairwise_cons (List.pairwise_append.mp hsorted).2.1 hm)

/-- The steal of a number, under a further condition. -/
theorem find_steal_and {id : Nat} {p q : Steal → Bool} : ∀ (l : List Steal) {x : Steal}, (l.map Steal.id).Nodup →
    l.find? (fun y => y.id == id && p y) = some x → l.find? (fun y => y.id == id && p y && q y) = if q x then some x else none
  | y :: l, x, hn, h => by
    obtain ⟨hy, hl⟩ := List.nodup_cons.mp hn
    rw [List.find?_cons] at h ⊢
    cases hc : (y.id == id && p y) with
    | false =>
      rw [hc] at h
      simp only [Bool.false_and]
      exact find_steal_and l hl h
    | true =>
      rw [hc] at h
      cases h
      cases hq : q y with
      | true => rfl
      | false =>
        have hid : y.id = id := beq_iff_eq.mp (Bool.and_eq_true _ _ ▸ hc).1
        simp only [Bool.and_false, Bool.false_eq_true, if_false]
        refine List.find?_eq_none.mpr fun z hz hzp => hy ?_
        simp only [Bool.and_eq_true, beq_iff_eq] at hzp
        exact hid ▸ hzp.1.1 ▸ List.mem_map_of_mem hz
theorem find_steal_none {id : Nat} {p q : Steal → Bool} {l : List Steal} (h : l.find? (fun y => y.id == id && p y) = none) :
    l.find? (fun y => y.id == id && p y && q y) = none :=
  List.find?_eq_none.mpr fun z hz hzp => List.find?_eq_none.mp h z hz (Bool.and_eq_true _ _ ▸ hzp).1

theorem die_modSteal (s : State) (i d : Nat) (f : Steal → Option Steal) : (s.modSteal i f).die d = s.die d := rfl
/-- A steal after a change of those of its number. -/
theorem mem_modSteal {s : State} {id : Nat} {f : Steal → Option Steal} {y : Steal} :
    y ∈ (s.modSteal id f).steals ↔ ∃ z ∈ s.steals, (if z.id == id then f z else some z) = some y := List.mem_filterMap

section
variable {s : State} {die rcb id : Nat}

/-- A round is due (R61). -/
def roundDue (s : State) (die rcb : Nat) : Prop :=
  (∀ r, r ∈ (s.die die).sched.ready → r.region = rcb → (s.die die).sched.eligible r = false) ∧
  (∃ e, e ∈ (s.die die).sched.empties ∧ e.1 = rcb ∧ s.refNs ≤ e.2 + 1000) ∧ ∀ e, e ∈ (s.die die).sched.rounds → e.1 = rcb → e.2 + 1000 ≤ s.refNs
theorem roundDue_iff : (!(s.die die).sched.ready.any (fun r => r.region == rcb && (s.die die).sched.eligible r) &&
    (s.die die).sched.empties.any (fun e => e.1 == rcb && decide (s.refNs ≤ e.2 + 1000)) &&
    !(s.die die).sched.rounds.any (fun e => e.1 == rcb && decide (s.refNs < e.2 + 1000))) = true ↔ roundDue s die rcb := by
  simp only [roundDue, Bool.and_eq_true, Bool.not_eq_true', List.any_eq_false, List.any_eq_true, beq_iff_eq, decide_eq_true_eq, not_and,
    Bool.not_eq_true, Nat.not_lt, and_assoc, Prod.exists]
theorem stealRound_waits (h : ¬roundDue s die rcb ∨ s.logDie die = none) : exec (.stealRound die rcb) s = .next s := by
  simp only [exec, execStealRound]
  cases hl : s.logDie die with
  | none => rfl
  | some l =>
    have hn := roundDue_iff.not.mpr (h.resolve_right (by simp [hl]))
    simp only [hn, Bool.not_false, if_true]
/-- A round asks the neighbours in their order. -/
theorem stealRound_asks {l : Nat} (h : roundDue s die rcb) (hl : s.logDie die = some l) : exec (.stealRound die rcb) s = .next (
    let t := s.modSched die (fun q => { q with rounds := SMap.put q.rounds rcb s.refNs })
    match (s.logNeighbours l).filterMap s.physDie with
    | [] => t
    | a :: r => State.fresh { t with
        steals := t.steals ++ [{ id := t.nextId, rcb := rcb, thief := die, asked := a, left := r, stage := 0, task := none }] }) := by
  have hd := roundDue_iff.mpr h
  simp only [exec, execStealRound, hl, hd, Bool.not_true, Bool.false_eq_true, if_false] <;> rfl
/-- The neighbours of a die inside the grid, where no die was exchanged. -/
theorem neighbours_inside (hm : s.dmap = []) {l : Nat} (h8 : 8 ≤ l) (h120 : l < 120) (hw : 0 < l % 8) (he : l % 8 < 7) :
    (s.logNeighbours l).filterMap s.physDie = [l - 8, l + 1, l + 8, l - 1] := by
  have hd (k : Nat) : s.dmapOf k = (k, 0) := by rw [State.dmapOf, hm]; rfl
  have hp (k : Nat) (hk : k < 128) : s.physDie k = some k := by simp [State.physDie, hd, hk]
  have hl : s.logNeighbours l = [l - 8, l + 1, l + 8, l - 1] := by
    simp [State.logNeighbours, hd, h8, h120, hw, he]
  rw [hl]
  simp only [List.filterMap_cons, List.filterMap_nil, hp (l - 8) (by omega), hp (l + 1) (by omega), hp (l + 8) (by omega), hp (l - 1) (by omega)]
/-- A die whose queue remembers a round. -/
def withRound (x : Die) (rcb now : Nat) : Die := { x with sched := { x.sched with rounds := SMap.put x.sched.rounds rcb now } }
theorem stealRound_rounds {l : Nat} (h : roundDue s die rcb) (hl : s.logDie die = some l) : ∃ t N, exec (.stealRound die rcb) s = .next t ∧
    N = (s.logNeighbours l).filterMap s.physDie ∧ t.die die = withRound (s.die die) rcb s.refNs ∧ (∀ k, k ∉ [die] → t.die k = s.die k) ∧
    t = { s with dies := t.dies, steals := t.steals, nextId := t.nextId } ∧
    (s.dmap = [] → 8 ≤ l → l < 120 → 0 < l % 8 → l % 8 < 7 → N = [l - 8, l + 1, l + 8, l - 1]) ∧ (N = [] → t.steals = s.steals) ∧
    ∀ a r, N = a :: r → t.steals = s.steals ++ [{ id := s.nextId, rcb := rcb, thief := die, asked := a, left := r, stage := 0, task := none }] := by
  have hdie := s.die_modDie die (withRound · rcb s.refNs)
  have hother (k : Nat) (hk : k ∉ [die]) := s.die_modDie_other (withRound · rcb s.refNs) (List.mem_singleton.not.mp hk)
  refine ⟨_, _, stealRound_asks h hl, rfl, ?_⟩
  have hinside := fun hm h8 h120 hw he => neighbours_inside (s := s) hm (l := l) h8 h120 hw he
  cases hN : (s.logNeighbours l).filterMap s.physDie with
  | nil => exact ⟨hdie, hother, rfl, hN ▸ hinside, fun _ => rfl, fun _ _ h => nomatch h⟩
  | cons a r =>
    refine ⟨hdie, hother, rfl, hN ▸ hinside, fun h => absurd h (List.cons_ne_nil _ _), fun _ _ h => ?_⟩
    cases h
    rfl

/-- The next die of a steal is asked, if there is one. -/
def askNext (x : Steal) : Option Steal := match x.left with | [] => none | a :: r => some { x with asked := a, left := r }
/-- What a die asked does (log 78). -/
theorem stealGrant_eq {x : Steal} (hx : s.steals.find? (fun y => y.id == id && y.stage == 0) = some x) (hn : (s.steals.map Steal.id).Nodup)
    (hc : s.cutOff x.thief x.asked = false) : exec (.stealGrant id) s = .next (
    let q := (s.die x.asked).sched
    if (q.stealable x.rcb).length < 2 then s.modSteal id askNext
    else match q.gift x.rcb with
      | none => s.modSteal id askNext
      | some r =>
        if !r.stolen ∧ 4096 ≤ q.out.length then s.modSteal id askNext
        else (s.modSched x.asked (fun q' => { q' with ready := q'.ready.erase r, out := if r.stolen then q.out else q.out ++ [(x.rcb, r.token)] })).modSteal id
          (fun x => some { x with stage := 1, task := some { r with stolen := true } })) := by
  have hf := find_steal_and (q := fun x => !s.cutOff x.thief x.asked) _ hn hx
  simp only [hc, Bool.not_false, if_true] at hf
  simp only [exec, execStealGrant, hf]
  rfl
/-- A die without two records to steal, or without room for the token of any, refuses. -/
theorem stealGrant_refuses {x : Steal} (hx : s.steals.find? (fun y => y.id == id && y.stage == 0) = some x) (hn : (s.steals.map Steal.id).Nodup)
    (hc : s.cutOff x.thief x.asked = false) (h : ((s.die x.asked).sched.stealable x.rcb).length < 2 ∨
      (4096 ≤ (s.die x.asked).sched.out.length ∧ ∀ y, y ∈ (s.die x.asked).sched.stealable x.rcb → y.stolen = false)) :
    exec (.stealGrant id) s = .next (s.modSteal id askNext) := by
  rw [stealGrant_eq hx hn hc]
  dsimp only
  by_cases h2 : ((s.die x.asked).sched.stealable x.rcb).length < 2
  · rw [if_pos h2]
  · obtain ⟨hout, hst⟩ := h.resolve_left h2
    rw [if_neg h2]
    cases hg : (s.die x.asked).sched.gift x.rcb with
    | none => rfl
    | some r =>
      dsimp only
      rw [if_pos ⟨by rw [hst r ((gift_spec _ _).2 r hg).1]; rfl, hout⟩]
/-- A die that has two gives one (R61). -/
theorem stealGrant_gives {x : Steal} (hx : s.steals.find? (fun y => y.id == id && y.stage == 0) = some x) (hn : (s.steals.map Steal.id).Nodup)
    (hc : s.cutOff x.thief x.asked = false) (h2 : 2 ≤ ((s.die x.asked).sched.stealable x.rcb).length)
    (h : (s.die x.asked).sched.out.length < 4096 ∨ ∀ y, y ∈ (s.die x.asked).sched.stealable x.rcb → y.stolen = true) :
    ∃ r, (s.die x.asked).sched.gift x.rcb = some r ∧ exec (.stealGrant id) s = .next ((s.modSched x.asked (fun q' => { q' with
      ready := q'.ready.erase r
      out := if r.stolen then (s.die x.asked).sched.out else (s.die x.asked).sched.out ++ [(x.rcb, r.token)] })).modSteal id
        (fun x => some { x with stage := 1, task := some { r with stolen := true } })) := by
  rw [stealGrant_eq hx hn hc]
  dsimp only
  rw [if_neg (Nat.not_lt.mpr h2)]
  cases hg : (s.die x.asked).sched.gift x.rcb with
  | none =>
    rw [(gift_spec _ _).1 hg] at h2
    exact absurd h2 (by decide)
  | some r =>
    refine ⟨r, rfl, congrArg Host.Outcome.next (if_neg fun ⟨hr, hout⟩ => ?_)⟩
    rcases h with h | h
    · omega
    · rw [h r ((gift_spec _ _).2 r hg).1] at hr
      exact Bool.false_ne_true hr
/-- A steal waits at a link that is down, and where none is at its stage (log 83). -/
theorem stealGrant_cutOff {x : Steal} (hx : s.steals.find? (fun y => y.id == id && y.stage == 0) = some x) (hn : (s.steals.map Steal.id).Nodup)
    (hc : s.cutOff x.thief x.asked = true) : exec (.stealGrant id) s = .next s := by
  have hf := find_steal_and (q := fun x => !s.cutOff x.thief x.asked) _ hn hx
  simp only [hc, Bool.not_true, Bool.false_eq_true, if_false] at hf
  simp only [exec, execStealGrant, hf]
theorem steal_waits : (s.steals.find? (fun x => x.id == id && x.stage == 0) = none → exec (.stealGrant id) s = .next s) ∧
    (s.steals.find? (fun x => x.id == id && x.stage == 1) = none → exec (.stealReceipt id) s = .next s) := by
  constructor
  · intro h
    simp only [exec, execStealGrant, find_steal_none h]
  · intro h
    simp only [exec, execStealReceipt, find_steal_none h]
theorem stealReceipt_cutOff {x : Steal} (hx : s.steals.find? (fun y => y.id == id && y.stage == 1) = some x) (hn : (s.steals.map Steal.id).Nodup)
    (hc : s.cutOff x.asked x.thief = true) : exec (.stealReceipt id) s = .next s := by
  have hf := find_steal_and (q := fun x => !s.cutOff x.asked x.thief) _ hn hx
  simp only [hc, Bool.not_true, Bool.false_eq_true, if_false] at hf
  simp only [exec, execStealReceipt, hf]
/-- The thief appends the record once its queue has room (log 78). -/
theorem stealReceipt_eq {x : Steal} {r : Record} (hx : s.steals.find? (fun y => y.id == id && y.stage == 1) = some x)
    (hn : (s.steals.map Steal.id).Nodup) (hr : x.task = some r) (hc : s.cutOff x.asked x.thief = false) : exec (.stealReceipt id) s = .next (
      if 4096 ≤ (s.die x.thief).sched.ready.length then s
      else (s.modSched x.thief (fun q => { q with ready := q.ready ++ [r], seq := (q.seq + 1) % 2 ^ 24 })).modSteal id (fun _ => none)) := by
  have hf := find_steal_and (q := fun x => !s.cutOff x.asked x.thief) _ hn hx
  simp only [hc, Bool.not_false, if_true] at hf
  simp only [exec, execStealReceipt, hf, hr]
  rfl
/-- The steal of a number is the only one of it. -/
theorem steal_unique {x z : Steal} {n : Nat} (hx : s.steals.find? (fun y => y.id == id && y.stage == n) = some x) (hn : (s.steals.map Steal.id).Nodup)
    (hz : z ∈ s.steals) (hi : (z.id == id) = true) : z = x := by
  have h := List.find?_some hx
  simp only [Bool.and_eq_true, beq_iff_eq] at h
  exact List.inj_on_of_nodup_map hn hz (List.mem_of_find?_eq_some hx) ((beq_iff_eq.mp hi).trans h.1.symm)
theorem steal_changed {x y : Steal} {n : Nat} {f : Steal → Option Steal} (hx : s.steals.find? (fun y => y.id == id && y.stage == n) = some x)
    (hf : f x = some y) : y ∈ (s.modSteal id f).steals := by
  have h := List.find?_some hx
  simp only [Bool.and_eq_true] at h
  exact mem_modSteal.mpr ⟨x, List.mem_of_find?_eq_some hx, (if_pos h.1).trans hf⟩
theorem steal_ends {x y : Steal} {n : Nat} {f : Steal → Option Steal} (hx : s.steals.find? (fun y => y.id == id && y.stage == n) = some x)
    (hn : (s.steals.map Steal.id).Nodup) (hf : f x = none) (hy : y ∈ (s.modSteal id f).steals) : y.id ≠ id := by
  obtain ⟨z, hz, hzy⟩ := mem_modSteal.mp hy
  split at hzy
  · next hi =>
    rw [steal_unique hx hn hz hi, hf] at hzy
    cases hzy
  · next hi =>
    cases hzy
    exact fun he => hi (beq_iff_eq.mpr he)
end

/-- Settles O53, event by event. -/
theorem quantaAndSteals : Obligations.QuantaAndSteals := by
  unfold Obligations.QuantaAndSteals
  intro s die dir q kind id rcb
  dsimp only
  have hmay := mayQuanta_iff (s := s) (die := die) (dir := dir) (q := q) (kind := kind)
  obtain ⟨hw0, hw1, hw2⟩ := transfer_waits (s := s) (id := id)
  refine ⟨fun h => quantaSend_waits (hmay.not.mpr h), fun h => ⟨_, quantaSend_sends (hmay.mpr h), ?_⟩, hw0, hw1, hw2, fun x b hb => ?_, edge_waits q,
    fun b hb => ?_, ?_, steal_waits.1, fun x hx hn => ⟨stealGrant_cutOff hx hn, fun hc => ⟨fun h => ?_, fun h2 h => ?_⟩⟩, steal_waits.2,
    fun x r hx hn hr => ⟨stealReceipt_cutOff hx hn, fun hc => ⟨fun h => ?_, fun h => ?_⟩⟩⟩
  · exact ⟨(die_fresh_transfers _ _).trans (die_modPower _ _ _),
      fun k hk => (die_fresh_transfers _ _).trans (die_modPower_notIn s _ List.mem_cons_self hk), rfl⟩
  · refine ⟨fun hx hq => ?_, fun hx hq => ?_, fun hx hi => ⟨_, quantaAck_eq hx, ?_⟩, fun hx hi hq => ?_, fun hx hi hq => ?_⟩
    · rw [quantaReceipt_eq hx hb, if_pos hq]
      rfl
    · refine ⟨_, (quantaReceipt_eq hx hb).trans (congrArg _ (if_neg (Nat.not_lt.mpr hq))), ?_⟩
      exact ⟨(die_setStage _ _ _).trans (die_modPower _ _ _),
        fun k hk => (die_setStage _ _ _).trans (die_modPower_notIn s _ List.mem_cons_self hk), rfl⟩
    · have hm := PowersMoved.settle (l := [b, x.src]) s x (by simp) (by simp [hb])
      have ht : (s.settle x).transfers = s.transfers.filter (fun y => y.id != id) := by
        obtain ⟨u, hu, he⟩ := s.settle_kept x
        rw [he, hi, ← hu.transfers_eq]
        rfl
      exact ⟨hm.other, by rw [← ht]; exact hm.rest, settle_grant hb, settle_repayment hb⟩
    · rw [quantaReturn_eq hx, State.giveBack, if_pos hq, hi]
      rfl
    · rw [quantaReturn_eq hx, State.giveBack, if_neg (Nat.not_lt.mpr hq), hi]
      exact ⟨_, rfl, fun k hk => (die_dropTransfer _ _).trans (die_modPower_notIn s _ List.mem_cons_self hk), rfl,
        (die_dropTransfer _ _).trans (die_modPower _ _ _)⟩
  · refine ⟨fun h => (quantaRecall_eq hb).trans (congrArg _ (if_pos h)), fun hl hh hd => ⟨_, (quantaRecall_eq hb).trans (congrArg _ (if_neg ?_)), ?_⟩,
      ?_, sidebandFailure_fails hb⟩
    · omega
    · exact ⟨fun k hk => die_modPower_notIn s _ List.mem_cons_self hk, die_modPower _ _ _, rfl⟩
    · obtain ⟨hrest, hdie, hback, hother⟩ := markSide_marks (s := s) hb false
      exact ⟨_, rfl, hother, hrest, hdie, hback⟩
  · exact ⟨stealRound_waits, fun l h hl => stealRound_rounds h hl⟩
  · refine ⟨_, stealGrant_refuses hx hn hc h, rfl, fun hl y hy => ?_, fun a r hl => ?_⟩
    · exact steal_ends hx hn (by simp only [askNext, hl]) hy
    · exact steal_changed hx (by simp only [askNext, hl])
  · obtain ⟨r, hg, he⟩ := stealGrant_gives hx hn hc h2 h
    obtain ⟨hr, hlow, hlast⟩ := (gift_spec _ _).2 r hg
    have hp := (List.mem_filter.mp hr).2
    simp only [Bool.and_eq_true, Bool.not_eq_true'] at hp
    obtain ⟨⟨⟨_, hany⟩, _⟩, hbar⟩ := hp
    have hd := s.die_modDie x.asked fun z => { z with sched := { z.sched with
      ready := z.sched.ready.erase r, out := if r.stolen then (s.die x.asked).sched.out else (s.die x.asked).sched.out ++ [(x.rcb, r.token)] } }
    have hsched := congrArg Die.sched hd
    exact ⟨_, r, he, rfl, fun k hk => (die_modSteal _ _ _ _).trans (s.die_modDie_other _ (List.mem_singleton.not.mp hk)), hr, hlow, hlast,
      hany, hbar, congrArg Sched.ready hsched,
      steal_changed hx rfl, congrArg Sched.out hsched⟩
  · rw [stealReceipt_eq hx hn hr hc, if_pos h]
  · refine ⟨_, (stealReceipt_eq hx hn hr hc).trans (congrArg _ (if_neg (Nat.not_le.mpr h))), ?_⟩
    exact ⟨fun k hk => (die_modSteal _ _ _ _).trans (s.die_modDie_other _ (List.mem_singleton.not.mp hk)),
      (die_modSteal _ _ _ _).trans (s.die_modDie _ _), fun y hy => steal_ends hx hn rfl hy, rfl⟩
end Sys2Proof.Safety
end

section
/-!
SUPPORT. The placement of a region's strands (R50 to R52, R200): only free slots are armed.
-/
namespace Sys2Proof.Safety
open Sys2Proof.Machine

/-! ## Slots that are armed -/

/-- Strands of a region were armed in slots that were free; every other strand, and the rest of the panel but vectors and
operations, is as it was. -/
structure Arms (s t : State) (rcb : Nat) : Prop where
  strands : ∀ k, t.strand k = s.strand k ∨ ((s.strand k).st = .unarmed ∧ (t.strand k).st = .armed ∧ (t.strand k).rcbp = word rcb)
  rest    : t = { s with vregs := t.vregs, ops := t.ops, posts := t.posts, tileOps := t.tileOps, heldRels := t.heldRels, strands := t.strands }
theorem Arms.refl (s : State) (rcb : Nat) : Arms s s rcb := ⟨fun _ => .inl rfl, rfl⟩
theorem Arms.trans {s t u : State} {rcb : Nat} (h : Arms s t rcb) (k : Arms t u rcb) : Arms s u rcb := by
  refine ⟨fun i => ?_, k.rest.trans (by rw [h.rest])⟩
  rcases h.strands i with hi | ⟨hf, ha, hr⟩
  · exact hi ▸ k.strands i
  · rcases k.strands i with hk | ⟨hf', _⟩
    · exact .inr ⟨hf, hk ▸ ⟨ha, hr⟩⟩
    · rw [ha] at hf'
      cases hf'

/-- Clearing vector registers changes nothing else. -/
theorem foldl_vregs (g : SMap VReg → Nat → SMap VReg) : ∀ (l : List Nat) (s : State),
    l.foldl (fun (t : State) v => { t with vregs := g t.vregs v }) s = { s with vregs := l.foldl g s.vregs }
  | [], _ => rfl
  | _ :: l, _ => foldl_vregs g l _
theorem placeStrand_arms {s t : State} {pt slot idx num : Nat} {r : Region} {c : Cadence} {rt : Bool} (h : s.placeStrand pt slot r idx num c rt = some t)
    (hf : (s.strand (pt * 16 + slot)).st = .unarmed) : Arms s t r.rcb := by
  unfold State.placeStrand at h
  split at h
  · cases h
  · next i hi =>
    cases h
    rw [foldl_vregs (fun m v => SMap.put m (pt * 2048 + 8 * i + v) 0)]
    refine ⟨fun k => ?_, rfl⟩
    by_cases hk : k = pt * 16 + slot
    · subst hk
      rw [State.strand_setStrand]
      exact .inr ⟨hf, rfl, rfl⟩
    · rw [State.strand_setStrand_other _ _ hk]
      exact .inl rfl
theorem placeCadence_arms {pt idx : Nat} {r : Region} {c : Cadence} : ∀ (n : Nat) {s t : State} {num : Nat},
    s.placeCadence pt r idx c n num = some t → Arms s t r.rcb
  | 0, s, t, _, h => by
    cases h
    exact .refl s r.rcb
  | n + 1, s, t, num, h => by
    unfold State.placeCadence at h
    split at h
    · cases h
    · next slot hs =>
      split at h
      · cases h
      · next u hu =>
        exact (placeStrand_arms hu (beq_iff_eq.mp (findFrom_holds hs))).trans (placeCadence_arms n h)
theorem placeCadences_arms {pt : Nat} {r : Region} : ∀ (l : List (Nat × Cadence)) {s t : State}, s.placeCadences pt r l = some t → Arms s t r.rcb
  | [], s, t, h => by
    cases h
    exact .refl s r.rcb
  | (idx, c) :: l, s, t, h => by
    unfold State.placeCadences at h
    split at h
    · exact placeCadences_arms l h
    · split at h
      · cases h
      · next u hu => exact (placeCadence_arms _ hu).trans (placeCadences_arms l h)
theorem placeTile_arms {pt : Nat} {r : Region} {s t : State} (h : s.placeTile pt r = some t) : Arms s t r.rcb := by
  unfold State.placeTile at h
  dsimp only at h
  split at h
  · cases h
  · next u hu =>
    refine Arms.trans ?_ (placeCadences_arms _ h)
    split at hu
    · cases hu
      exact .refl s r.rcb
    · split at hu
      · next hf => exact placeStrand_arms hu (beq_iff_eq.mp hf)
      · cases hu
theorem placeAll_arms {r : Region} : ∀ (l : List Nat) {s t : State}, s.placeAll r l = some t → Arms s t r.rcb
  | [], s, t, h => by
    cases h
    exact .refl s r.rcb
  | pt :: l, s, t, h => by
    unfold State.placeAll at h
    split at h
    · cases h
    · next u hu => exact (placeTile_arms hu).trans (placeAll_arms l h)

/-! ## Images and scopes -/

/-- Only memory changes. -/
structure OnlyMem (s t : State) : Prop where
  rest : t = { s with mem := t.mem }
theorem OnlyMem.trans {s t u : State} (h : OnlyMem s t) (k : OnlyMem t u) : OnlyMem s u := ⟨k.rest.trans (by rw [h.rest])⟩
theorem OnlyMem.strand {s t : State} (h : OnlyMem s t) (k : Nat) : t.strand k = s.strand k := by
  rw [h.rest]
  rfl
theorem OnlyMem.foldl {α : Type} {f : State → α → State} (hf : ∀ s a, OnlyMem s (f s a)) : ∀ (l : List α) (s : State), OnlyMem s (l.foldl f s)
  | [], _ => ⟨rfl⟩
  | a :: l, s => (hf s a).trans (OnlyMem.foldl hf l (f s a))
theorem placeImages_mem (r : Region) (l : List Nat) (s : State) : OnlyMem s (l.foldl (fun (t : State) pt => t.placeImage r pt) s) :=
  .foldl (fun _ _ => ⟨rfl⟩) l s
theorem takeScopes_mem (s : State) (base : Nat) : OnlyMem s (s.takeScopes base).1 := by
  unfold State.takeScopes
  split
  · exact ⟨rfl⟩
  · exact .foldl (fun _ _ => ⟨rfl⟩) _ s
theorem region?_putRegion (s : State) (r : Region) : (s.putRegion r).region? r.rcb = some r := by
  have hnone : (s.regions.filter (fun q => q.rcb != r.rcb)).find? (fun q => q.rcb == r.rcb) = none :=
    List.find?_eq_none.mpr fun q hq => by simpa using (List.mem_filter.mp hq).2
  simp only [State.region?, State.putRegion, List.find?_append, hnone, List.find?_cons_of_pos, beq_self_eq_true, Option.none_or]

/-! ## The tiles of a set -/

theorem tOf_le (s : State) (d : Nat) : s.tOf d ≤ 144 := by
  unfold State.tOf
  split
  · unfold State.active
    split
    · exact Nat.le_refl 144
    · exact (List.length_filter_le _ _).trans (by simp)
  · exact Nat.zero_le 144
theorem mem_tilesOf {s : State} {z : TileSet} {lt : Nat} : lt ∈ s.tilesOf z ↔ lt / 144 < 128 ∧ lt % 144 < s.tOf (lt / 144) ∧ z.has lt = true := by
  simp only [State.tilesOf, List.mem_flatMap, List.mem_filter, List.mem_map, List.mem_range]
  constructor
  · rintro ⟨d, hd, ⟨n, hn, rfl⟩, hz⟩
    have hle := tOf_le s d
    have h1 : (d * 144 + n) / 144 = d := by omega
    have h2 : (d * 144 + n) % 144 = n := by omega
    rw [h1, h2]
    exact ⟨hd, hn, hz⟩
  · rintro ⟨hd, hn, hz⟩
    exact ⟨lt / 144, hd, ⟨lt % 144, hn, by omega⟩, hz⟩

/-! ## The checks of an admission, in their order (R46, R314, R331; log 48, 88, 97) -/

section
variable (s : State) (e : Region)

def parentOf : Option Region := if e.parent = 0 then none else s.region? e.parent
/-- Tiles of a set, each at its place. -/
def placesOf (z : Option TileSet) : List Nat := (z.elim [] s.tilesOf).filterMap (fun lt => s.physTile (lt / 144) (lt % 144))
def RangesOk : Prop := 1 ≤ e.strands ∧ e.strands ≤ 16 ∧ e.prio ≤ 7 ∧ e.quanta ≤ 440 ∧ e.descCount ≤ 65536
def BadSet (z? : Option TileSet) : Prop := z? = none ∨ (e.parent ≠ 0 ∧ ∀ p, parentOf s e = some p → regionLive p = false) ∨ ∃ z, z? = some z ∧
  ((∃ q n, q ∈ s.dmap ∧ q.2.2 = 1 ∧ n < 144 ∧ z.has (q.1 * 144 + n) = true) ∨
    ∃ p lt, parentOf s e = some p ∧ lt / 144 < 128 ∧ lt % 144 < s.tOf (lt / 144) ∧ z.has lt = true ∧ p.set.has lt = false)
def BadPeriod : Prop := e.permax < e.permin ∨ (∃ z ∈ e.image.cadences, z.period ≠ 0 ∧
  (z.period < e.permin ∨ e.permax < z.period ∨ z.period ≤ z.phase)) ∨ (e.permin ≠ 0 ∧ ∃ z ∈ e.image.cadences, z.period = 0)
def BadRuntime (tiles : List Nat) : Prop :=
  (e.runtime ≠ 0xFFFFFFFF ∧ (e.image.cadences.filter (fun z => z.entry == e.runtime)).map Cadence.strands ≠ [1]) ∨
  (e.runtime = 0xFFFFFFFF ∧ ∃ p ∈ tiles, let y := s.strand (p * 16 + 15)
    y.en = false ∨ y.st = .unarmed ∨ e.parent = 0 ∨ s.within e.parent y.rcbp.toNat = false)
/-- The region as it is placed: with its set, its tiles and the lengths of its images. -/
def placed (z? : Option TileSet) : Region := { e with
  set := z?.getD .empty, tiles := placesOf s z?, textLen := dLimit (s.loaderSeg e e.textIdx), dataLen := dLimit (s.loaderSeg e e.dataIdx) }
def NoRoom (f : Region) (tiles : List Nat) : Prop :=
  262144 < f.textLen ∨ e.strands < (e.image.cadences.map Cadence.strands).sum ∨ s.placeAll f tiles = none
def StartsLate (tiles : List Nat) : Prop := e.reserved = true ∧ ∃ p ∈ tiles, e.start ≤ s.rtc p
end

section
variable {s : State} {e : Region}

theorem fieldsOk_iff : (!fieldsOk e) = true ↔ ¬RangesOk e := by
  have h : fieldsOk e = true ↔ RangesOk e := decide_eq_true_iff
  rw [← h, Bool.not_eq_true', Bool.not_eq_true]
theorem orphan_iff : (e.parent != 0 && !((parentOf s e).any (fun p => p.st == .admitted || p.st == .running))) = true ↔
    e.parent ≠ 0 ∧ ∀ p, parentOf s e = some p → regionLive p = false := by
  cases parentOf s e <;> simp [regionLive]
theorem namesSpare_iff {z : TileSet} : s.namesSpare z = true ↔ ∃ q n, q ∈ s.dmap ∧ q.2.2 = 1 ∧ n < 144 ∧ z.has (q.1 * 144 + n) = true := by
  simp only [State.namesSpare, List.any_eq_true, Bool.and_eq_true, beq_iff_eq, List.mem_range]
  exact ⟨fun ⟨q, hq, h1, n, hn, hz⟩ => ⟨q, n, hq, h1, hn, hz⟩, fun ⟨q, n, hq, h1, hn, hz⟩ => ⟨q, hq, h1, n, hn, hz⟩⟩
theorem within_iff {z : TileSet} : (!(s.tilesOf z).all (fun lt => match parentOf s e with | some p => p.set.has lt | none => true)) = true ↔
    ∃ p lt, parentOf s e = some p ∧ lt / 144 < 128 ∧ lt % 144 < s.tOf (lt / 144) ∧ z.has lt = true ∧ p.set.has lt = false := by
  simp only [Bool.not_eq_true', List.all_eq_false, mem_tilesOf, Bool.not_eq_true]
  cases parentOf s e with
  | none => simp
  | some p =>
    simp only [Option.some.injEq, and_assoc]
    exact ⟨fun ⟨lt, h⟩ => ⟨p, lt, rfl, h⟩, fun ⟨_, lt, he, h⟩ => ⟨lt, he ▸ h⟩⟩
theorem badSet_iff {z : TileSet} : (s.namesSpare z || (e.parent != 0 && !((parentOf s e).any (fun p => p.st == .admitted || p.st == .running))) ||
    !(s.tilesOf z).all (fun lt => match parentOf s e with | some p => p.set.has lt | none => true)) = true ↔ BadSet s e (some z) := by
  rw [Bool.or_eq_true, Bool.or_eq_true, orphan_iff, namesSpare_iff, within_iff]
  simp only [BadSet, reduceCtorEq, false_or, Option.some.injEq, exists_eq_left', or_assoc]
  exact or_left_comm
theorem parent_any {f : Region → Nat} {n : Nat} : (parentOf s e).any (fun p => decide (f p < n)) = true ↔ ∃ p, parentOf s e = some p ∧ f p < n := by
  cases parentOf s e <;> simp
theorem badPeriod_iff : BadPeriod e ↔ (e.permax < e.permin ∨ e.image.cadences.any (fun c => c.period != 0 &&
      (decide (c.period < e.permin) || decide (e.permax < c.period) || decide (c.period ≤ c.phase))) = true) ∨
    (e.permin ≠ 0 ∧ e.image.cadences.any (fun c => c.period == 0) = true) := by
  simp only [BadPeriod, List.any_eq_true, Bool.and_eq_true, Bool.or_eq_true, bne_iff_ne, decide_eq_true_eq, beq_iff_eq, or_assoc]
theorem filter_strands_eq {l : List Cadence} {p : Cadence → Bool} :
    ((l.filter p).length == 1 && l.all (fun c => !p c || c.strands == 1)) = true ↔ (l.filter p).map Cadence.strands = [1] := by
  have hall : l.all (fun c => !p c || c.strands == 1) = true ↔ ∀ c ∈ l.filter p, c.strands = 1 := by
    simp only [List.all_eq_true, List.mem_filter, Bool.or_eq_true, Bool.not_eq_true', beq_iff_eq, and_imp]
    exact forall₂_congr fun c _ => by cases p c <;> simp
  rw [Bool.and_eq_true, hall, beq_iff_eq]
  match l.filter p with
  | [] => simp
  | [c] => simp
  | c :: d :: r => simp
theorem runtimeOk_iff {f : Region} : s.runtimeOk f = true ↔ ¬BadRuntime s f f.tiles := by
  unfold State.runtimeOk BadRuntime noRuntime
  by_cases h : f.runtime = 0xFFFFFFFF
  · rw [if_neg (not_not.mpr h)]
    simp only [h, ne_eq, not_true_eq_false, false_and, false_or, true_and, List.all_eq_true, Bool.and_eq_true, bne_iff_ne, not_exists, not_and, not_or,
      Bool.not_eq_false, and_assoc]
  · have hc : isRuntime f = fun c => c.entry == f.runtime := by
      funext c
      simp [isRuntime, noRuntime, h]
    rw [if_pos h, filter_strands_eq]
    simp only [hc, h, ne_eq, not_false_eq_true, true_and, false_and, or_false, not_not]

theorem runtimeNot_iff {z? : Option TileSet} : (!s.runtimeOk (placed s e z?)) = true ↔ BadRuntime s e (placesOf s z?) := by
  rw [Bool.not_eq_true', ← Bool.not_eq_true, runtimeOk_iff, not_not]
  exact Iff.rfl
/-- A check that fails decides, and one that passes leaves the rest to. -/
theorem next_check {α : Type} {c : Prop} [Decidable c] {a b A : α} (h : (if c then a else b) = A) : (c → A = a) ∧ (¬c → b = A) :=
  ⟨fun hc => h.symm.trans (if_pos hc), fun hc => (if_neg hc).symm.trans h⟩
theorem next_placing {β : Type} {o : Option State} {a A : β} {k : State → β} (h : (match o with | none => a | some u => k u) = A) :
    (o = none → A = a) ∧ ∀ u, o = some u → k u = A := by
  cases o with
  | none => exact ⟨fun _ => h.symm, fun _ hu => nomatch hu⟩
  | some v =>
    refine ⟨fun hn => (nomatch hn), fun u hu => ?_⟩
    cases hu
    exact h
theorem startsLate_iff {tiles : List Nat} : (e.reserved ∧ tiles.any (fun pt => decide (e.start ≤ s.rtc pt)) = true) ↔ StartsLate s e tiles := by
  simp only [StartsLate, List.any_eq_true, decide_eq_true_eq]
/-- The checks, each after those before it have passed. -/
theorem admission_checks {w : Nat} {A : Except Nat (Region × State)} (hA : s.admission e w = A) :
    (¬RangesOk e → A = .error 8) ∧ (RangesOk e → (BadSet s e (s.setOf w) → A = .error 1) ∧ (¬BadSet s e (s.setOf w) →
    ((∃ p, parentOf s e = some p ∧ p.strands < e.strands) → A = .error 2) ∧ ((∀ p, parentOf s e = some p → e.strands ≤ p.strands) →
    ((∃ p, parentOf s e = some p ∧ p.prio < e.prio) → A = .error 3) ∧ ((∀ p, parentOf s e = some p → e.prio ≤ p.prio) →
    (BadPeriod e → A = .error 4) ∧ (¬BadPeriod e → (BadRuntime s e (placesOf s (s.setOf w)) → A = .error 5) ∧
    (¬BadRuntime s e (placesOf s (s.setOf w)) → (NoRoom s e (placed s e (s.setOf w)) (placesOf s (s.setOf w)) → A = .error 6) ∧
    (¬NoRoom s e (placed s e (s.setOf w)) (placesOf s (s.setOf w)) → (StartsLate s e (placesOf s (s.setOf w)) → A = .error 7) ∧
    (¬StartsLate s e (placesOf s (s.setOf w)) → (dX (s.loaderSeg e e.textIdx) = false → A = .error 8) ∧ (dX (s.loaderSeg e e.textIdx) = true →
      ∃ u, s.placeAll (placed s e (s.setOf w)) (placesOf s (s.setOf w)) = some u ∧ A = .ok (placed s e (s.setOf w), u)))))))))) := by
  unfold State.admission at hA
  refine ⟨fun h => (next_check hA).1 (fieldsOk_iff.mpr h), fun h => ?_⟩
  replace hA := (next_check hA).2 (fieldsOk_iff.not.mpr (not_not.mpr h))
  cases hz : s.setOf w with
  | none =>
    rw [hz] at hA
    exact ⟨fun _ => hA.symm, fun h => absurd (.inl rfl) h⟩
  | some z =>
    rw [hz] at hA
    refine ⟨fun h => (next_check hA).1 (badSet_iff.mpr h), fun h => ?_⟩
    replace hA := (next_check hA).2 (badSet_iff.not.mpr h)
    refine ⟨fun h => (next_check hA).1 (parent_any.mpr h), fun h => ?_⟩
    replace hA := (next_check hA).2 (parent_any.not.mpr fun ⟨p, hp, hlt⟩ => Nat.not_lt.mpr (h p hp) hlt)
    refine ⟨fun h => (next_check hA).1 (parent_any.mpr h), fun h => ?_⟩
    replace hA := (next_check hA).2 (parent_any.not.mpr fun ⟨p, hp, hlt⟩ => Nat.not_lt.mpr (h p hp) hlt)
    refine ⟨fun h => ?_, fun h => ?_⟩
    · by_cases hp : e.permax < e.permin ∨ e.image.cadences.any (fun c => c.period != 0 &&
          (decide (c.period < e.permin) || decide (e.permax < c.period) || decide (c.period ≤ c.phase))) = true
      · exact (next_check hA).1 hp
      · exact (next_check ((next_check hA).2 hp)).1 ((badPeriod_iff.mp h).resolve_left hp)
    obtain ⟨h1, h2⟩ := not_or.mp (badPeriod_iff.not.mp h)
    replace hA := (next_check ((next_check hA).2 h1)).2 h2
    refine ⟨fun h => (next_check hA).1 (runtimeNot_iff.mpr h), fun h => ?_⟩
    replace hA := (next_check hA).2 (runtimeNot_iff.not.mpr h)
    refine ⟨fun h => ?_, fun h => ?_⟩
    · by_cases hp : 262144 < (placed s e (some z)).textLen ∨ e.strands < (e.image.cadences.map Cadence.strands).sum
      · exact (next_check hA).1 hp
      · exact (next_placing ((next_check hA).2 hp)).1 ((or_assoc.mpr h).resolve_left hp)
    obtain ⟨hp, hu⟩ := not_or.mp (or_assoc.not.mpr h)
    obtain ⟨u, hu⟩ := Option.ne_none_iff_exists'.mp hu
    replace hA := (next_placing ((next_check hA).2 hp)).2 u hu
    refine ⟨fun h => (next_check hA).1 (startsLate_iff.mpr h), fun h => ?_⟩
    replace hA := (next_check hA).2 (startsLate_iff.not.mpr h)
    refine ⟨fun h => (next_check hA).1 (by rw [h]; rfl), fun h => ⟨u, hu, ((next_check hA).2 (by rw [h]; exact Bool.false_ne_true)).symm⟩⟩
end

/-! ## Admissions (R46 to R48, R315, R362) -/

section
variable {s : State} {rcb : Nat} {img : Image}

/-- An RCB that is not in use. -/
def Unused (s : State) (rcb : Nat) : Prop := ∀ q, s.region? rcb = some q → q.st = .refused ∨ q.st = .ended
/-- The cadences of an image as the assembler gives them. -/
def Listed (img : Image) : Prop := ∀ c, c ∈ img.cadences → 1 ≤ c.strands ∧ c.strands ≤ 16 ∧ c.vregs % 8 = 0 ∧ 8 ≤ c.vregs ∧ c.vregs ≤ 128 ∧
  c.period < 2 ^ 24 ∧ (c.period = 0 → c.phase = 0)
theorem unused_iff : (match s.region? rcb with | some r => r.st == .refused || r.st == .ended | none => true) = true ↔ Unused s rcb := by
  unfold Unused
  cases s.region? rcb <;> simp
theorem cadenceOk_iff (c : Cadence) : cadenceOk c = true ↔ 1 ≤ c.strands ∧ c.strands ≤ 16 ∧ c.vregs % 8 = 0 ∧ 8 ≤ c.vregs ∧ c.vregs ≤ 128 ∧
    c.period < 2 ^ 24 ∧ (c.period = 0 → c.phase = 0) := by
  have hp : (c.period != 0 || c.phase == 0) = true ↔ (c.period = 0 → c.phase = 0) := by
    rw [Bool.or_eq_true, bne_iff_ne, beq_iff_eq, imp_iff_not_or]
  rw [cadenceOk, Bool.and_eq_true, decide_eq_true_iff, hp]
  simp only [and_assoc]
theorem listed_iff : img.cadences.all cadenceOk = true ↔ Listed img :=
  List.all_eq_true.trans (forall₂_congr fun c _ => cadenceOk_iff c)
/-- A submission that is looked at: at boot phase 7, of an RCB that is not in use, with an image as the assembler gives it. -/
def Submitted (s : State) (rcb : Nat) (img : Image) : Prop := s.bootPhase = 7 ∧ Unused s rcb ∧ rcb % 128 = 0 ∧ rcb < 2 ^ 43 ∧ Listed img
theorem submitted_iff : (s.bootPhase ≠ 7 ∨ !(match s.region? rcb with | some r => r.st == .refused || r.st == .ended | none => true) ∨ rcb % 128 ≠ 0 ∨
    2 ^ 43 ≤ rcb ∨ !img.cadences.all cadenceOk) ↔ ¬Submitted s rcb img := by
  simp only [Bool.not_eq_true', ← Bool.not_eq_true, unused_iff, listed_iff, Submitted, not_and_or, Nat.not_lt, ne_eq]

/-- The launch record of an image names another RCB, or stands in no place for one. -/
def LaunchedElsewhere (s : State) (rcb : Nat) (img : Image) : Prop := img.launch ≠ 0 ∧ (img.launch % 64 ≠ 0 ∨
  ∀ k, s.panelKey img.launch = some k → memNat s.mem (k + 8) 8 ≠ rcb)
theorem launchArg_elsewhere (h : LaunchedElsewhere s rcb img) : s.launchArg img.launch rcb = none := by
  obtain ⟨h0, h⟩ := h
  rw [State.launchArg, if_neg h0]
  split
  · rfl
  · next h64 =>
    cases hk : s.panelKey img.launch with
    | none => rfl
    | some k =>
      rw [Option.bind_some, if_neg]
      exact h.resolve_left h64 k hk
theorem launchArg_value {arg : Word} (h : s.launchArg img.launch rcb = some arg) : (img.launch = 0 → arg = 0) ∧
    ∀ l, img.launch ≠ 0 → s.panelKey img.launch = some l → arg = BitVec.ofNat 64 (memNat s.mem (l + 16) 8) := by
  unfold State.launchArg at h
  refine ⟨fun h0 => ?_, fun l h0 hl => ?_⟩
  · rw [if_pos h0] at h
    cases h
    rfl
  · rw [if_neg h0] at h
    split at h
    · cases h
    · rw [hl, Option.bind_some] at h
      split at h
      · cases h
        rfl
      · cases h

/-- What an admission does to the panel after its checks. -/
def admittedRegion (s : State) (r : Region) (t : State) : Region := { r with
  st := .admitted, scopes := (t.takeScopes r.scopeBase).2, startAt := if r.reserved then r.start else s.startTime }
def admitted (s : State) (rcb : Nat) (r : Region) (t : State) : State :=
  ((r.tiles.foldl (fun (u : State) pt => u.placeImage (admittedRegion s r t) pt) (t.takeScopes r.scopeBase).1).putRegion
    (admittedRegion s r t)).writeStatus rcb .admitted 0
theorem regionAdmission_unsubmitted (h : ¬Submitted s rcb img) : exec (.regionAdmission rcb img) s = .next s :=
  congrArg Host.Outcome.next (if_pos (submitted_iff.mpr h))
theorem regionAdmission_elsewhere (h : LaunchedElsewhere s rcb img) : exec (.regionAdmission rcb img) s = .next s := by
  by_cases hs : Submitted s rcb img
  · refine congrArg Host.Outcome.next ((if_neg (submitted_iff.not.mpr (not_not.mpr hs))).trans ?_)
    rw [launchArg_elsewhere h]
    cases s.panelKey rcb <;> rfl
  · exact regionAdmission_unsubmitted hs
/-- The region that a submission asks for, with the argument of its launch record. -/
def launched (e : Region) (arg : Word) : Region := { e with arg := arg }
theorem regionAdmission_refused {k c : Nat} {arg : Word} {e : Region} (h : Submitted s rcb img) (hk : s.panelKey rcb = some k)
    (ha : s.launchArg img.launch rcb = some arg) (he : s.effective rcb k img = e) (hc : s.admission (launched e arg) (s.nat (k + 24) 8) = .error c) :
    exec (.regionAdmission rcb img) s = .next ((s.writeStatus rcb .refused c).putRegion { launched e arg with st := .refused, cause := c }) := by
  refine congrArg Host.Outcome.next ((if_neg (submitted_iff.not.mpr (not_not.mpr h))).trans ?_)
  unfold launched at hc ⊢
  rw [hk, ha]
  dsimp only
  rw [he, hc]
theorem regionAdmission_passed {k : Nat} {arg : Word} {e r : Region} {t : State} (h : Submitted s rcb img) (hk : s.panelKey rcb = some k)
    (ha : s.launchArg img.launch rcb = some arg) (he : s.effective rcb k img = e) (hc : s.admission (launched e arg) (s.nat (k + 24) 8) = .ok (r, t)) :
    exec (.regionAdmission rcb img) s = .next (if !s.windowsOk r then s else admitted s rcb r t) := by
  refine congrArg Host.Outcome.next ((if_neg (submitted_iff.not.mpr (not_not.mpr h))).trans ?_)
  unfold launched at hc
  rw [hk, ha]
  dsimp only
  rw [he, hc]
  rfl

theorem panelKey_dmap {s t : State} (h : t.dmap = s.dmap) (a : Nat) : t.panelKey a = s.panelKey a := by
  simp only [State.panelKey, State.physDie, State.dmapOf, h] <;> rfl
theorem startTime_eq (s : State) : s.startTime = (s.refNs + 2999) / 1000 * 1000 := by
  simp only [State.startTime, ceilDiv]
  omega

/-- A refused submission stands in STATUS with its cause, and nothing else changes. -/
theorem regionAdmission_refuses {k c : Nat} {arg : Word} {e : Region} (h : Submitted s rcb img) (hk : s.panelKey rcb = some k)
    (ha : s.launchArg img.launch rcb = some arg) (he : s.effective rcb k img = e) (hlt : c < 256)
    (hc : s.admission (launched e arg) (s.nat (k + 24) 8) = .error c) :
    ∃ t, exec (.regionAdmission rcb img) s = .next t ∧ (t.region? rcb).map (fun q => (q.st, q.cause)) = some (.refused, c) ∧
      (∀ j, s.panelKey rcb = some j → memNat t.mem j 8 = 3 + c * 256) ∧ MemKeptBut s t k 8 ∧ t = { s with mem := t.mem, regions := t.regions } := by
  refine ⟨_, regionAdmission_refused h hk ha he hc, ?_, fun j hj => (writeStatus_mem s rcb .refused hlt hj).1, (writeStatus_mem s rcb .refused hlt hk).2, ?_⟩
  · have hr : e.rcb = rcb := by
      rw [← he]
      rfl
    rw [← hr]
    exact congrArg (Option.map _) (region?_putRegion (s.writeStatus e.rcb .refused c) { launched e arg with st := .refused, cause := c })
  · rw [writeStatus_rest]
    rfl
/-- An admitted region stands among the regions and in STATUS, and slots that were free are armed. -/
theorem admitted_spec {r : Region} {u : State} (hr : r.rcb = rcb) (hu : Arms s u rcb) :
    ((admitted s rcb r u).region? rcb) = some (admittedRegion s r u) ∧
    (∀ j, s.panelKey rcb = some j → memNat (admitted s rcb r u).mem j 8 = 1) ∧
    ∀ k, (admitted s rcb r u).strand k = s.strand k ∨
      ((s.strand k).st = .unarmed ∧ ((admitted s rcb r u).strand k).st = .armed ∧ ((admitted s rcb r u).strand k).rcbp = word rcb) := by
  have hw := (takeScopes_mem u r.scopeBase).trans (placeImages_mem (admittedRegion s r u) r.tiles _)
  unfold admitted
  generalize r.tiles.foldl (fun (u' : State) pt => u'.placeImage (admittedRegion s r u) pt) (u.takeScopes r.scopeBase).1 = w at hw ⊢
  have hdmap : w.dmap = s.dmap := by rw [hw.rest, hu.rest]
  refine ⟨?_, fun j hj => ?_, fun k => ?_⟩
  · rw [region?_writeStatus, ← hr]
    exact region?_putRegion w (admittedRegion s r u)
  · rw [← panelKey_dmap (t := w.putRegion (admittedRegion s r u)) hdmap] at hj
    exact (writeStatus_mem _ _ _ (by decide) hj).1
  · have hk : ((w.putRegion (admittedRegion s r u)).writeStatus rcb .admitted 0).strand k = u.strand k := by
      rw [strand_writeStatus]
      exact hw.strand k
    rw [hk]
    exact hu.strands k

/-- STATUS of an RCB at k says that it was refused with a cause, and nothing else changes. -/
def Refuses (s : State) (rcb : Nat) (img : Image) (k c : Nat) : Prop := ∃ t, exec (.regionAdmission rcb img) s = .next t ∧
  (t.region? rcb).map (fun q => (q.st, q.cause)) = some (.refused, c) ∧ (∀ j, s.panelKey rcb = some j → memNat t.mem j 8 = 3 + c * 256) ∧
  MemKeptBut s t k 8 ∧ t = { s with mem := t.mem, regions := t.regions }
/-- A region is admitted with its tiles, argument and start, and slots that were free are armed for it. -/
def Admits (s : State) (rcb : Nat) (img : Image) (e : Region) (tiles : List Nat) : Prop := ∃ t, exec (.regionAdmission rcb img) s = .next t ∧
  (t.region? rcb).map (fun p => (p.st, p.tiles, p.arg, p.start)) = some (.admitted, tiles, e.arg, e.start) ∧
  (t.region? rcb).map Region.startAt = some (if e.reserved then e.start else (s.refNs + 2999) / 1000 * 1000) ∧
  (∀ j, s.panelKey rcb = some j → memNat t.mem j 8 = 1) ∧
  ∀ k, t.strand k = s.strand k ∨ ((s.strand k).st = .unarmed ∧ (t.strand k).st = .armed ∧ (t.strand k).rcbp = word rcb)
/-- What a submission comes to, check by check (R46 to R48). -/
theorem regionAdmission_outcomes {k : Nat} {arg : Word} {e : Region} (hs : Submitted s rcb img) (hk : s.panelKey rcb = some k)
    (ha : s.launchArg img.launch rcb = some arg) (he : s.effective rcb k img = e) {z? : Option TileSet} (hz : s.setOf (s.nat (k + 24) 8) = z?) :
    (¬RangesOk e → Refuses s rcb img k 8) ∧ (RangesOk e → (BadSet s e z? → Refuses s rcb img k 1) ∧ (¬BadSet s e z? →
    ((∃ p, parentOf s e = some p ∧ p.strands < e.strands) → Refuses s rcb img k 2) ∧ ((∀ p, parentOf s e = some p → e.strands ≤ p.strands) →
    ((∃ p, parentOf s e = some p ∧ p.prio < e.prio) → Refuses s rcb img k 3) ∧ ((∀ p, parentOf s e = some p → e.prio ≤ p.prio) →
    (BadPeriod e → Refuses s rcb img k 4) ∧ (¬BadPeriod e → (BadRuntime s e (placesOf s z?) → Refuses s rcb img k 5) ∧
    (¬BadRuntime s e (placesOf s z?) → (NoRoom s e (placed s (launched e arg) z?) (placesOf s z?) → Refuses s rcb img k 6) ∧
    (¬NoRoom s e (placed s (launched e arg) z?) (placesOf s z?) → (StartsLate s e (placesOf s z?) → Refuses s rcb img k 7) ∧
    (¬StartsLate s e (placesOf s z?) → (dX (s.loaderSeg (launched e arg) e.textIdx) = false → Refuses s rcb img k 8) ∧
    (dX (s.loaderSeg (launched e arg) e.textIdx) = true →
      (s.windowsOk (placed s (launched e arg) z?) = false → exec (.regionAdmission rcb img) s = .next s) ∧
      (s.windowsOk (placed s (launched e arg) z?) = true → Admits s rcb img (launched e arg) (placesOf s z?))))))))))) := by
  have hrcb : e.rcb = rcb := by
    rw [← he]
    rfl
  have hR (c : Nat) := regionAdmission_refuses (c := c) hs hk ha he
  have hP {r : Region} {u : State} := regionAdmission_passed (r := r) (t := u) hs hk ha he
  generalize hA : s.admission (launched e arg) (s.nat (k + 24) 8) = A at hR hP
  obtain ⟨hrange, hc⟩ := admission_checks hA
  rw [hz] at hc
  refine ⟨fun h => hR _ (by decide) (hrange h), fun h => ?_⟩
  obtain ⟨hset, hc⟩ := hc h
  refine ⟨fun h => hR _ (by decide) (hset h), fun h => ?_⟩
  obtain ⟨hstrands, hc⟩ := hc h
  refine ⟨fun h => hR _ (by decide) (hstrands h), fun h => ?_⟩
  obtain ⟨hprio, hc⟩ := hc h
  refine ⟨fun h => hR _ (by decide) (hprio h), fun h => ?_⟩
  obtain ⟨hperiod, hc⟩ := hc h
  refine ⟨fun h => hR _ (by decide) (hperiod h), fun h => ?_⟩
  obtain ⟨hruntime, hc⟩ := hc h
  refine ⟨fun h => hR _ (by decide) (hruntime h), fun h => ?_⟩
  obtain ⟨hroom, hc⟩ := hc h
  refine ⟨fun h => hR _ (by decide) (hroom h), fun h => ?_⟩
  obtain ⟨hlate, hc⟩ := hc h
  refine ⟨fun h => hR _ (by decide) (hlate h), fun h => ?_⟩
  obtain ⟨htext, hc⟩ := hc h
  refine ⟨fun h => hR _ (by decide) (htext h), fun h => ?_⟩
  obtain ⟨u, hu, hok⟩ := hc h
  refine ⟨fun hw => (hP hok).trans (congrArg _ (if_pos (by rw [hw]; rfl))),
    fun hw => ⟨_, (hP hok).trans (congrArg _ (if_neg (by rw [hw]; exact Bool.false_ne_true))), ?_⟩⟩
  obtain ⟨hreg, hstatus, hstrands⟩ := admitted_spec (r := placed s (launched e arg) z?) hrcb (hrcb ▸ placeAll_arms _ hu)
  rw [hreg]
  refine ⟨rfl, ?_, hstatus, hstrands⟩
  rw [← startTime_eq]
  rfl
end
end Sys2Proof.Safety
end

section
/-!
SUPPORT. The end of a region (R47, R357, R380): its slots cleared, its tree of children, its STATUS.
-/
namespace Sys2Proof.Safety
open Sys2Proof.Machine

/-! ## Slots given up -/

/-- Slots given up, with the operations of their strands. -/
def clearStrands (ks : List Nat) (s : State) : State := ks.foldl (fun (t : State) k => (t.dropParty (.strand k) (some k)).setStrand k {}) s
/-- Cache entries given up, with the operations parked in them. -/
def clearEntries (qs : List (Nat × Nat)) (s : State) : State :=
  qs.foldl (fun (t : State) q => (t.dropParty (.cached (q.1 * 32 + q.2)) none).setEntry q.1 q.2 {}) s
/-- All that a region holds of slots and entries is given up. -/
def slotsCleared (s : State) (r : Region) : State := clearEntries (s.regionEntries r) (clearStrands (s.regionKeys r) s)

/-- The strands of some slots are gone; of the rest only operations and cache entries change. -/
structure Clears (s t : State) (ks : List Nat) : Prop where
  gone : ∀ k, k ∈ ks → t.strand k = {}
  kept : ∀ k, k ∉ ks → t.strand k = s.strand k
  rest : t = { s with ops := t.ops, posts := t.posts, tileOps := t.tileOps, heldRels := t.heldRels, strands := t.strands, tiles := t.tiles }
  tile : ∀ p, t.tile p = { s.tile p with cache := (t.tile p).cache }
theorem clearStrands_clears (ks : List Nat) (s : State) : Clears s (clearStrands ks s) ks := by
  induction ks generalizing s with
  | nil => exact ⟨fun _ h => absurd h List.not_mem_nil, fun _ _ => rfl, rfl, fun _ => rfl⟩
  | cons k ks ih =>
    obtain ⟨hgone, hkept, hrest, htile⟩ := ih ((s.dropParty (.strand k) (some k)).setStrand k {})
    have hk (j : Nat) : ((s.dropParty (.strand k) (some k)).setStrand k {}).strand j = if j = k then {} else s.strand j := by
      split
      · next h =>
        rw [h, State.strand_setStrand]
      · next h => exact State.strand_setStrand_other _ _ h
    refine ⟨fun j hj => ?_, fun j hj => ?_, hrest, htile⟩
    · by_cases hjs : j ∈ ks
      · exact hgone j hjs
      · refine (hkept j hjs).trans ((hk j).trans (if_pos ?_))
        exact (List.mem_cons.mp hj).resolve_right hjs
    · obtain ⟨hne, hjs⟩ := not_or.mp (List.mem_cons.not.mp hj)
      exact (hkept j hjs).trans ((hk j).trans (if_neg hne))
theorem clearEntries_clears (qs : List (Nat × Nat)) (s : State) : Clears s (clearEntries qs s) [] := by
  induction qs generalizing s with
  | nil => exact ⟨fun _ h => absurd h List.not_mem_nil, fun _ _ => rfl, rfl, fun _ => rfl⟩
  | cons q qs ih =>
    obtain ⟨_, hkept, hrest, htile⟩ := ih ((s.dropParty (.cached (q.1 * 32 + q.2)) none).setEntry q.1 q.2 {})
    refine ⟨fun _ h => absurd h List.not_mem_nil, hkept, hrest, fun p => (htile p).trans ?_⟩
    by_cases hp : p = q.1
    · subst hp
      rw [State.setEntry, State.tile_modTile]
      rfl
    · rw [State.setEntry, State.tile_modTile_other _ _ hp]
      rfl
theorem Clears.trans {s t u : State} {ks : List Nat} (h : Clears s t ks) (k : Clears t u []) : Clears s u ks :=
  ⟨fun i hi => (k.kept i List.not_mem_nil).trans (h.gone i hi), fun i hi => (k.kept i List.not_mem_nil).trans (h.kept i hi),
    k.rest.trans (by rw [h.rest]), fun p => (k.tile p).trans (by rw [h.tile p])⟩
theorem slotsCleared_clears (s : State) (r : Region) : Clears s (slotsCleared s r) (s.regionKeys r) :=
  (clearStrands_clears _ s).trans (clearEntries_clears _ _)

/-! ## The end of one region -/

/-- A region as its end leaves it. -/
def endedRegion (cause : Nat) (r : Region) : Region := { r with st := .ended, cause := cause, quieted := false, qWait := [], away := [], lost := false }
/-- What of the panel is freed with a region beside its slots. -/
def freed (u : State) (rcb : Nat) : State := { u with
  tiles := u.tiles.map (fun (e : Nat × Tile) => (e.1, freeTile rcb e.2))
  dies := u.dies.map (fun (e : Nat × Die) => (e.1, { e.2 with sched := e.2.sched.freeRegion rcb }))
  pieces := u.pieces.filter (fun p => p.rcb != rcb)
  mirrors := u.mirrors.filter (fun m => m.rcb != rcb)
  jobs := u.jobs.filter (fun j => (u.gridEntry j.pt j.entry).rcb != rcb)
  steals := u.steals.filter (fun q => q.rcb != rcb)
  reports := u.reports.filter (fun q => q.1 != rcb) }
theorem endRegion_eq (s : State) (rcb cause : Nat) : s.endRegion rcb cause =
    ((freed (slotsCleared s (s.region rcb)) rcb).modRegion rcb (endedRegion cause)).writeStatus rcb .ended cause := rfl

/-- What an end leaves of the panel. -/
structure EndsRegion (s t : State) (rcb cause : Nat) : Prop where
  region  : t.region? rcb = (s.region? rcb).map (endedRegion cause)
  known   : ∀ n, (t.region? n).isSome = (s.region? n).isSome
  dmap    : t.dmap = s.dmap
  domains : t.domains = s.domains
  reports : ∀ q, q ∈ t.reports → q.1 ≠ rcb
  pieces  : ∀ p, p ∈ t.pieces → p.rcb ≠ rcb
  gone    : ∀ k, k ∈ s.regionKeys (s.region rcb) → t.strand k = {}
  kept    : ∀ k, k ∉ s.regionKeys (s.region rcb) → t.strand k = s.strand k
  status  : ∀ k, s.panelKey rcb = some k → memNat t.mem k 8 = 4 + cause * 256
  mem     : ∀ k, s.panelKey rcb = some k → MemKeptBut s t k 8

theorem region?_isSome_modRegion (s : State) (rcb n : Nat) {f : Region → Region} (hf : ∀ q, (f q).rcb = q.rcb) :
    ((s.modRegion rcb f).region? n).isSome = (s.region? n).isSome := by
  have hp : ((fun q : Region => q.rcb == n) ∘ fun q => if q.rcb == rcb then f q else q) = fun q => q.rcb == n := by
    funext q
    simp only [Function.comp_apply, apply_ite Region.rcb, hf, ite_self]
  simp only [State.region?, State.modRegion, List.find?_map, hp, Option.isSome_map]
theorem endRegion_ends (s : State) (rcb : Nat) {cause : Nat} (hc : cause < 256) : EndsRegion s (s.endRegion rcb cause) rcb cause := by
  obtain ⟨hgone, hkept, hrest, _⟩ := slotsCleared_clears s (s.region rcb)
  rw [endRegion_eq]
  generalize slotsCleared s (s.region rcb) = u at hgone hkept hrest
  have hregions : u.regions = s.regions := by rw [hrest]
  have hdmap : u.dmap = s.dmap := by rw [hrest]
  have hmem : u.mem = s.mem := by rw [hrest]
  have hreg (n : Nat) : (freed u rcb).region? n = s.region? n := congrArg (List.find? _) hregions
  have hst (k : Nat) : (((freed u rcb).modRegion rcb (endedRegion cause)).writeStatus rcb .ended cause).strand k = u.strand k :=
    strand_writeStatus _ _ _ _ _
  have hk (k : Nat) (h : s.panelKey rcb = some k) := writeStatus_mem ((freed u rcb).modRegion rcb (endedRegion cause)) rcb .ended hc
    ((panelKey_dmap (s := s) (t := (freed u rcb).modRegion rcb (endedRegion cause)) hdmap rcb).trans h)
  refine ⟨?_, fun n => ?_, ?_, ?_, fun q hq => ?_, fun p hp => ?_, fun k h => (hst k).trans (hgone k h), fun k h => (hst k).trans (hkept k h),
    fun k h => (hk k h).1, fun k h a ha => ((hk k h).2 a ha).trans ?_⟩
  · rw [region?_writeStatus, region?_modRegion, hreg]
    exact fun _ => rfl
  · rw [region?_writeStatus, region?_isSome_modRegion, hreg]
    exact fun _ => rfl
  · rw [writeStatus_rest]
    exact hdmap
  · rw [writeStatus_rest]
    rw [hrest]
    rfl
  · rw [writeStatus_rest] at hq
    exact bne_iff_ne.mp (List.mem_filter.mp hq).2
  · rw [writeStatus_rest] at hp
    exact bne_iff_ne.mp (List.mem_filter.mp hp).2
  · exact congrArg (memGet · a) hmem

/-! ## The end of a region and its children -/

/-- What the ends of other regions leave of the panel. -/
structure KnowsRegions (s t : State) : Prop where
  known   : ∀ n, (t.region? n).isSome = (s.region? n).isSome
  dmap    : t.dmap = s.dmap
  domains : t.domains = s.domains
theorem KnowsRegions.trans {s t u : State} (h : KnowsRegions s t) (k : KnowsRegions t u) : KnowsRegions s u :=
  ⟨fun n => (k.known n).trans (h.known n), k.dmap.trans h.dmap, k.domains.trans h.domains⟩
theorem KnowsRegions.foldl {α : Type} {f : State → α → State} (hf : ∀ s a, KnowsRegions s (f s a)) : ∀ (l : List α) (s : State),
    KnowsRegions s (l.foldl f s)
  | [], _ => ⟨fun _ => rfl, rfl, rfl⟩
  | a :: l, s => (hf s a).trans (KnowsRegions.foldl hf l (f s a))
theorem endTree_knows (n : Nat) : ∀ (s : State) (rcb : Nat) {cause : Nat}, cause < 256 → KnowsRegions s (s.endTree n rcb cause) := by
  induction n with
  | zero => exact fun _ _ _ _ => ⟨fun _ => rfl, rfl, rfl⟩
  | succ n ih =>
    intro s rcb cause hc
    refine (KnowsRegions.foldl (f := fun t c => State.endTree t n c 18) (fun t c => ih t c (by decide))
      ((s.regions.filter (fun r => r.parent == rcb && r.parent != 0 && regionLive r)).map Region.rcb) s).trans ?_
    obtain ⟨_, hknown, hdmap, hdomains, _⟩ := endRegion_ends (List.foldl (fun t c => State.endTree t n c 18) s
      ((s.regions.filter (fun r => r.parent == rcb && r.parent != 0 && regionLive r)).map Region.rcb)) rcb hc
    exact ⟨hknown, hdmap, hdomains⟩

/-- A region without live children. -/
def Childless (s : State) (rcb : Nat) : Prop := ∀ q, q ∈ s.regions → q.parent = rcb → q.parent ≠ 0 → regionLive q = false
/-- The end of a region with its children (R47). -/
structure EndsTree (s t : State) (rcb cause : Nat) : Prop where
  region  : (t.region? rcb).map (fun q => (q.st, q.cause)) = some (.ended, cause)
  status  : ∀ k, s.panelKey rcb = some k → memNat t.mem k 8 = 4 + cause * 256
  reports : ∀ q, q ∈ t.reports → q.1 ≠ rcb
  domains : t.domains = s.domains
  alone   : Childless s rcb → (∀ k, k ∈ s.regionKeys (s.region rcb) → t.strand k = {}) ∧ (∀ k, k ∉ s.regionKeys (s.region rcb) → t.strand k = s.strand k) ∧
    (∀ k, s.panelKey rcb = some k → MemKeptBut s t k 8) ∧ ∀ p, p ∈ t.pieces → p.rcb ≠ rcb
theorem endTree_ends {s : State} {rcb cause : Nat} {r : Region} (hr : s.region? rcb = some r) (hc : cause < 256) :
    EndsTree s (s.endTree 128 rcb cause) rcb cause := by
  have hknow := KnowsRegions.foldl (f := fun t c => State.endTree t 127 c 18) (fun t c => endTree_knows 127 t c (by decide))
    ((s.regions.filter (fun r => r.parent == rcb && r.parent != 0 && regionLive r)).map Region.rcb) s
  have he := endRegion_ends (List.foldl (fun t c => State.endTree t 127 c 18) s
    ((s.regions.filter (fun r => r.parent == rcb && r.parent != 0 && regionLive r)).map Region.rcb)) rcb hc
  refine ⟨?_, fun k hk => he.status k ((panelKey_dmap hknow.dmap rcb).trans hk), he.reports, he.domains.trans hknow.domains, fun ha => ?_⟩
  · obtain ⟨q, hq⟩ := Option.isSome_iff_exists.mp ((hknow.known rcb).trans (by rw [hr]; rfl))
    exact (congrArg _ (he.region.trans (congrArg _ hq))).trans rfl
  · have hnone : s.regions.filter (fun r => r.parent == rcb && r.parent != 0 && regionLive r) = [] := by
      refine List.filter_eq_nil_iff.mpr fun q hq h => ?_
      simp only [Bool.and_eq_true, beq_iff_eq, bne_iff_ne] at h
      obtain ⟨⟨h1, h2⟩, h3⟩ := h
      rw [ha q hq h1 h2] at h3
      cases h3
    have ht : s.endTree 128 rcb cause = s.endRegion rcb cause := by
      rw [State.endTree, hnone]
      rfl
    rw [ht]
    have he := endRegion_ends s rcb hc
    exact ⟨he.gone, he.kept, he.mem, he.pieces⟩
end Sys2Proof.Safety
end

section
/-!
SUPPORT. Quiescence (R63, R64, R209, R210) and pre-emption (R58) of regions, and the end of a region as an event (R47).
-/
namespace Sys2Proof.Safety
open Sys2Proof.Machine

/-! ## The event of a quiet region -/

/-- The strand of a slot of a tile is the region's. -/
def HoldsSlot (s : State) (rcb pt i : Nat) : Prop := (s.strand (pt * 16 + i)).st ≠ .unarmed ∧ (s.strand (pt * 16 + i)).rcbp = BitVec.ofNat 64 rcb
/-- The slot that the event of a quiet region names on a tile. -/
def quietSlot (s : State) (r : Region) (pt : Nat) : Nat :=
  ((List.range 16).find? (fun i => (s.strand (pt * 16 + i)).st != .unarmed && (s.strand (pt * 16 + i)).rcbp == word r.rcb)).getD 0
/-- It is the lowest one that the region holds there, if it holds any. -/
theorem quietSlot_first (s : State) (r : Region) (pt : Nat) : quietSlot s r pt < 16 ∧ ((∃ k, k < 16 ∧ HoldsSlot s r.rcb pt k) →
    quietSlot s r pt < 16 ∧ HoldsSlot s r.rcb pt (quietSlot s r pt) ∧ ∀ j, j < quietSlot s r pt → ¬HoldsSlot s r.rcb pt j) := by
  have hh (i : Nat) : ((s.strand (pt * 16 + i)).st != .unarmed && (s.strand (pt * 16 + i)).rcbp == word r.rcb) = true ↔ HoldsSlot s r.rcb pt i := by
    rw [Bool.and_eq_true, bne_iff_ne, beq_iff_eq]
    exact Iff.rfl
  unfold quietSlot
  cases hf : (List.range 16).find? (fun i => (s.strand (pt * 16 + i)).st != .unarmed && (s.strand (pt * 16 + i)).rcbp == word r.rcb) with
  | none =>
    refine ⟨by decide, fun ⟨k, hk, h⟩ => ?_⟩
    exact absurd ((hh k).mpr h) (List.find?_eq_none.mp hf k (List.mem_range.mpr hk))
  | some i =>
    obtain ⟨hi, hlt, hbelow⟩ := List.find?_range_eq_some.mp hf
    have hlt := List.mem_range.mp hlt
    refine ⟨hlt, fun _ => ⟨hlt, (hh i).mp hi, fun j hj h => ?_⟩⟩
    have hn := hbelow j hj
    rw [(hh j).mpr h] at hn
    cases hn
theorem eventKind_quiet {slot : Nat} (h : slot < 16) (rcb : Nat) : eventKind (eventWord 2 slot 0 rcb) = 2 := by
  simp only [eventKind, eventWord, word, bitsOf, BitVec.toNat_ofNat]
  omega

/-- A raise of a quiet region's event: merged where QP is set (R210). -/
theorem raise_quiet (t : Tile) (c : Nat) {w : Word} (h : eventKind w = 2) : (t.raise c w).qp = true ∧ (t.raise c w).qpOwner = t.qpOwner ∧
    (t.raise c w).events = if t.qp then t.events else t.events ++ [w] := by
  unfold Tile.raise
  rw [h]
  cases hq : t.qp <;> simp [pending, setPending, hq]

/-- The events of a quiet region on some tiles: on each with QP clear the event is raised, the others keep theirs. -/
structure Quiets (s t : State) (r : Region) (pts : List Nat) : Prop where
  rest    : t = { s with tiles := t.tiles, regions := t.regions }
  quieted : (t.region? r.rcb).map Region.quieted = (s.region? r.rcb).map Region.quieted
  other   : ∀ p, p ∉ pts → t.tile p = s.tile p
  merged  : ∀ p, (s.tile p).qp = true → (t.tile p).qp = true ∧ (t.tile p).qpOwner = (s.tile p).qpOwner ∧ (t.tile p).events = (s.tile p).events
  raised  : ∀ p, p ∈ pts → (s.tile p).qp = false → (t.tile p).qp = true ∧ (t.tile p).qpOwner = r.rcb ∧
    (t.tile p).events = (s.tile p).events ++ [eventWord 2 (quietSlot s r p) 0 r.rcb]
/-- A word raised on a tile for a region. -/
def raisedFor (s : State) (rcb pt : Nat) (w : Word) : State := (s.modTile pt (fun t => { t with qpOwner := rcb })).raiseEvent pt w
theorem raisedFor_rest (s : State) (rcb pt : Nat) (w : Word) : raisedFor s rcb pt w = { s with tiles := (raisedFor s rcb pt w).tiles } := rfl
theorem raisedFor_other (s : State) (rcb : Nat) {pt p : Nat} (w : Word) (hp : p ≠ pt) : (raisedFor s rcb pt w).tile p = s.tile p := by
  rw [raisedFor, State.raiseEvent, State.tile_modTile_other _ _ hp, State.tile_modTile_other _ _ hp]
theorem raisedFor_tile (s : State) (rcb pt : Nat) {w : Word} (h : eventKind w = 2) : ((raisedFor s rcb pt w).tile pt).qp = true ∧
    ((raisedFor s rcb pt w).tile pt).qpOwner = rcb ∧
    ((raisedFor s rcb pt w).tile pt).events = if (s.tile pt).qp then (s.tile pt).events else (s.tile pt).events ++ [w] := by
  rw [raisedFor, State.raiseEvent, State.tile_modTile, State.tile_modTile]
  exact raise_quiet _ _ h
theorem raiseQuiet_eq (s : State) (r : Region) (pt : Nat) : s.raiseQuiet r pt =
    if !(s.tile pt).qp || (s.tile pt).qpOwner = r.rcb then raisedFor s r.rcb pt (eventWord 2 (quietSlot s r pt) 0 r.rcb)
    else s.modRegion r.rcb (fun r => { r with qWait := r.qWait ++ [pt] }) := rfl
theorem raiseQuiet_quiets (s : State) (r : Region) (pt : Nat) : Quiets s (s.raiseQuiet r pt) r [pt] := by
  rw [raiseQuiet_eq]
  split
  · next h =>
    obtain ⟨hqp, howner, hevents⟩ := raisedFor_tile s r.rcb pt (eventKind_quiet (quietSlot_first s r pt).1 r.rcb)
    have hrest := raisedFor_rest s r.rcb pt (eventWord 2 (quietSlot s r pt) 0 r.rcb)
    have ho {p : Nat} (hp : p ≠ pt) := raisedFor_other s r.rcb (eventWord 2 (quietSlot s r pt) 0 r.rcb) hp
    generalize raisedFor s r.rcb pt (eventWord 2 (quietSlot s r pt) 0 r.rcb) = t at hqp howner hevents hrest ho ⊢
    refine ⟨hrest.trans (by rw [hrest]), by rw [hrest]; rfl, fun p hp => ho (List.mem_singleton.not.mp hp), fun p hp => ?_, fun p hp hq => ?_⟩
    · by_cases he : p = pt
      · subst he
        have hown : (s.tile p).qpOwner = r.rcb := by simpa [hp] using h
        exact ⟨hqp, howner.trans hown.symm, hevents.trans (if_pos hp)⟩
      · rw [ho he]
        exact ⟨hp, rfl, rfl⟩
    · obtain rfl := List.mem_singleton.mp hp
      exact ⟨hqp, howner, hevents.trans (if_neg (by rw [hq]; exact Bool.false_ne_true))⟩
  · next h =>
    refine ⟨rfl, ?_, fun _ _ => rfl, fun p hp => ⟨hp, rfl, rfl⟩, fun p hp hq => ?_⟩
    · rw [region?_modRegion]
      · cases s.region? r.rcb <;> rfl
      · exact fun _ => rfl
    · obtain rfl := List.mem_singleton.mp hp
      simp [hq] at h
theorem raiseQuiets_quiets (r : Region) : ∀ (pts : List Nat) (s : State), Quiets s (pts.foldl (fun (t : State) pt => t.raiseQuiet r pt) s) r pts
  | [], s => ⟨rfl, rfl, fun _ _ => rfl, fun _ hp => ⟨hp, rfl, rfl⟩, fun _ hp => absurd hp List.not_mem_nil⟩
  | pt :: pts, s => by
    obtain ⟨hrest, hquieted, hother, hmerged, hraised⟩ := raiseQuiet_quiets s r pt
    have ih := raiseQuiets_quiets r pts (s.raiseQuiet r pt)
    have hslot (p : Nat) : quietSlot (s.raiseQuiet r pt) r p = quietSlot s r p := by
      rw [hrest]
      rfl
    rw [List.foldl_cons]
    generalize pts.foldl (fun (t : State) pt => t.raiseQuiet r pt) (s.raiseQuiet r pt) = t at ih ⊢
    refine ⟨ih.rest.trans (by rw [hrest]), ih.quieted.trans hquieted, fun p hp => ?_, fun p hp => ?_, fun p hp hq => ?_⟩
    · obtain ⟨hne, hps⟩ := not_or.mp (List.mem_cons.not.mp hp)
      exact (ih.other p hps).trans (hother p (List.mem_singleton.not.mpr hne))
    · obtain ⟨h1, h2, h3⟩ := hmerged p hp
      obtain ⟨k1, k2, k3⟩ := ih.merged p h1
      exact ⟨k1, k2.trans h2, k3.trans h3⟩
    · by_cases hne : p = pt
      · obtain ⟨h1, h2, h3⟩ := hraised p (List.mem_singleton.mpr hne) hq
        obtain ⟨k1, k2, k3⟩ := ih.merged p h1
        exact ⟨k1, k2.trans h2, k3.trans h3⟩
      · have hs := hother p (List.mem_singleton.not.mpr hne)
        obtain ⟨k1, k2, k3⟩ := ih.raised p ((List.mem_cons.mp hp).resolve_left hne) (by rw [hs]; exact hq)
        exact ⟨k1, k2, by rw [k3, hs, hslot]⟩

/-! ## The events -/

section
variable {s : State} {rcb : Nat} {r : Region}

theorem quiescenceEvent_raises (hr : s.region? rcb = some r) (hn : r.quieted = false) (hst : r.st = .running) (hk : r.kq ≠ 0)
    (hq : ∀ k, k ∈ s.regionKeys r → quietEnough r.kq (s.strand k) = true) (he : s.regionEntries r = []) (ha : r.away = []) (hl : r.lost = false)
    (hf : s.inFlight rcb = false) : exec (.quiescenceEvent rcb) s =
      .next (r.tiles.foldl (fun (t : State) pt => t.raiseQuiet r pt) (s.modRegion rcb (fun r => { r with quieted := true, qWait := [] }))) := by
  have hall : (s.regionKeys r).all (fun k => quietEnough r.kq (s.strand k)) = true := List.all_eq_true.mpr hq
  simp only [exec, execQuiescenceEvent, hr, hn, hst, hall, he, ha, hl, hf, hk, ne_eq, not_false_eq_true, List.isEmpty_nil, Bool.not_false, and_self,
    Bool.false_eq_true, if_false, if_true]
theorem quiescenceEvent_waits (hr : s.region? rcb = some r) (hn : r.quieted = false) (h : r.kq = 0 ∨ r.away ≠ [] ∨ r.lost = true) :
    exec (.quiescenceEvent rcb) s = .next s := by
  have hc : ¬(r.st = .running ∧ r.kq ≠ 0 ∧ (s.regionKeys r).all (fun k => quietEnough r.kq (s.strand k)) = true ∧
      (s.regionEntries r).isEmpty = true ∧ r.away = [] ∧ !r.lost ∧ !s.inFlight rcb) := by
    rintro ⟨_, hk, _, _, ha, hl, _⟩
    rcases h with h | h | h
    · exact hk h
    · exact h ha
    · rw [h] at hl
      cases hl
  simp only [exec, execQuiescenceEvent, hr, hn, if_neg hc, Bool.false_eq_true, if_false]
/-- The event of a region that becomes quiet, tile by tile. -/
theorem quiescenceEvent_quiets (hr : s.region? rcb = some r) {t : State} (ht : r.tiles.foldl (fun (t : State) pt => t.raiseQuiet r pt)
      (s.modRegion rcb (fun r => { r with quieted := true, qWait := [] })) = t) :
    (t.region? rcb).map Region.quieted = some true ∧
    (∀ p, p ∈ r.tiles → (t.tile p).qp = true ∧ ((s.tile p).qp = false → (t.tile p).qpOwner = rcb ∧
      (r.tiles.Nodup → ∃ i, (t.tile p).events = (s.tile p).events ++ [eventWord 2 i 0 rcb] ∧
        ((∃ k, k < 16 ∧ HoldsSlot s rcb p k) → i < 16 ∧ HoldsSlot s rcb p i ∧ ∀ j, j < i → ¬HoldsSlot s rcb p j)))) ∧
    (∀ p, p ∉ r.tiles → t.tile p = s.tile p) ∧ t = { s with tiles := t.tiles, regions := t.regions } := by
  obtain rfl := region?_rcb hr
  obtain ⟨hrest, hquieted, hother, hmerged, hraised⟩ := raiseQuiets_quiets r r.tiles (s.modRegion r.rcb (fun r => { r with quieted := true, qWait := [] }))
  rw [ht] at hrest hquieted hother hmerged hraised
  refine ⟨hquieted.trans ?_, fun p hp => ⟨?_, fun hq => ⟨(hraised p hp hq).2.1, fun _ => ⟨_, (hraised p hp hq).2.2, (quietSlot_first _ r p).2⟩⟩⟩, hother, hrest⟩
  · rw [region?_modRegion, hr]
    · rfl
    · exact fun _ => rfl
  · cases hq : (s.tile p).qp with
    | true => exact (hmerged p hq).1
    | false => exact (hraised p hp hq).1

theorem regionEnd_ends (hr : s.region? rcb = some r) (hst : r.st = .running) (hh : ∀ k, k ∈ s.regionKeys r → (s.strand k).st = .halted)
    (he : s.regionEntries r = []) (ha : r.away = []) (hl : r.lost = false) (hf : s.inFlight rcb = false) :
    exec (.regionEnd rcb) s = .next (s.endTree 128 rcb 16) := by
  have hall : (s.regionKeys r).all (fun k => (s.strand k).st == .halted) = true := List.all_eq_true.mpr fun k hk => beq_iff_eq.mpr (hh k hk)
  simp only [exec, execRegionEnd, hr, hst, hall, he, ha, hl, hf, List.isEmpty_nil, Bool.not_false, and_self, if_true]
theorem regionEnd_waits (hr : s.region? rcb = some r) (h : (∃ k, k ∈ s.regionKeys r ∧ (s.strand k).st ≠ .halted) ∨ r.away ≠ [] ∨ r.lost = true) :
    exec (.regionEnd rcb) s = .next s := by
  have hc : ¬(r.st = .running ∧ (s.regionKeys r).all (fun k => (s.strand k).st == .halted) = true ∧
      (s.regionEntries r).isEmpty = true ∧ r.away = [] ∧ !r.lost ∧ !s.inFlight rcb) := by
    rintro ⟨_, hall, _, ha, hl, _⟩
    rcases h with ⟨k, hk, hn⟩ | h | h
    · exact hn (beq_iff_eq.mp (List.all_eq_true.mp hall k hk))
    · exact h ha
    · rw [h] at hl
      cases hl
  simp only [exec, execRegionEnd, hr, if_neg hc]

variable {pt slot e : Nat} {q : Region}

/-- A strand of a region of lower priority is evicted into the lowest empty entry (R58). -/
theorem priorityPreemption_evicts (hr : s.region? rcb = some r) (hq : s.region? (s.strand (pt * 16 + slot)).rcbp.toNat = some q)
    (he : lowestEntry s pt = some e) (hs : slot < 16) (hp : q.prio < r.prio) (hst : r.st ≠ .ended) (hx : (s.strand (pt * 16 + slot)).st = .running ∨
      (s.strand (pt * 16 + slot)).st = .idle ∨ (s.strand (pt * 16 + slot)).st = .held ∨ (s.strand (pt * 16 + slot)).st = .parked) :
    exec (.priorityPreemption pt slot rcb) s = .next (s.startEvict (pt * 16 + slot) e 0 0 none) := by
  simp only [exec, execPriorityPreemption, hr, hq, he]
  exact congrArg Host.Outcome.next (if_pos ⟨hp, hst, hx, hs⟩)
theorem priorityPreemption_waits (hr : s.region? rcb = some r) (hq : s.region? (s.strand (pt * 16 + slot)).rcbp.toNat = some q)
    (hp : r.prio ≤ q.prio) : exec (.priorityPreemption pt slot rcb) s = .next s := by
  simp only [exec, execPriorityPreemption, hr, hq]
  cases lowestEntry s pt with
  | none => rfl
  | some e => exact congrArg Host.Outcome.next (if_neg fun h => Nat.not_lt.mpr hp h.1)
/-- What the start of an eviction leaves (R215). -/
theorem startEvict_evicts (hs : slot < 16) (reason cause : Nat) (oid : Option Nat) :
    let t := s.startEvict (pt * 16 + slot) e reason cause oid
    let x := s.strand (pt * 16 + slot)
    t.strand (pt * 16 + slot) = { x with
      st := .evicted, was := x.st, hrec := holdRecord x.hold, holdPos := holdPosition x.hold, pc := savedPc x, hold := .none } ∧
    (t.entry pt e).st = .loading ∧ (t.entry pt e).strand = t.strand (pt * 16 + slot) ∧ (t.entry pt e).slot = slot ∧
    StrandsKeptBut s t (pt * 16 + slot) ∧ MemKept s t := by
  have hpt : (pt * 16 + slot) / 16 = pt := by omega
  have hslot : (pt * 16 + slot) % 16 = slot := by omega
  dsimp only
  rw [State.startEvict, hpt, hslot, State.entry_setEntry]
  exact ⟨State.strand_setStrand _ _ _, rfl, (State.strand_setStrand _ _ _).symm, rfl, fun k hk => State.strand_setStrand_other _ _ hk, .of_eq rfl⟩
end
end Sys2Proof.Safety
end

section
/-!
SUPPORT. Cells written through the tables (R280, R288 to R294): only memory and leaf caches change.
-/
namespace Sys2Proof.Safety
open Sys2Proof.Machine

/-- Only memory and tiles change, and no tile's grid table. -/
structure MapsOnly (s t : State) : Prop where
  rest : t = { s with mem := t.mem, tiles := t.tiles }
  grid : ∀ p, (t.tile p).grid = (s.tile p).grid
theorem MapsOnly.refl (s : State) : MapsOnly s s := ⟨rfl, fun _ => rfl⟩
theorem MapsOnly.trans {s t u : State} (h : MapsOnly s t) (k : MapsOnly t u) : MapsOnly s u :=
  ⟨k.rest.trans (by rw [h.rest]), fun p => (k.grid p).trans (h.grid p)⟩
theorem MapsOnly.setNat (s : State) (k n x : Nat) : MapsOnly s (s.setNat k n x) := ⟨rfl, fun _ => rfl⟩
theorem MapsOnly.modTile (s : State) (pt : Nat) {f : Tile → Tile} (hf : ∀ x, (f x).grid = x.grid) : MapsOnly s (s.modTile pt f) := by
  refine ⟨rfl, fun p => ?_⟩
  by_cases hp : p = pt
  · rw [hp, State.tile_modTile, hf]
  · rw [State.tile_modTile_other _ _ hp]
theorem MapsOnly.foldl {α : Type} {f : State → α → State} (hf : ∀ s a, MapsOnly s (f s a)) : ∀ (l : List α) (s : State), MapsOnly s (l.foldl f s)
  | [], s => .refl s
  | a :: l, s => (hf s a).trans (MapsOnly.foldl hf l (f s a))
theorem MapsOnly.orLeaf (s : State) (d off v : Nat) : MapsOnly s (s.orLeaf d off v) := by
  unfold State.orLeaf
  split
  · exact .refl s
  · dsimp only
    split
    · exact .refl s
    · exact .setNat _ _ _ _
theorem MapsOnly.logAppend (s : State) (pt e : Nat) (used : Leaf → Bool) : MapsOnly s (s.logAppend pt e used) :=
  ((MapsOnly.setNat s _ _ _).trans (.setNat _ _ _ _)).trans
    (.modTile _ pt (f := fun x => { x with leaves := x.leaves.map (fun l => if used l then { l with logged := true } else l) }) fun _ => rfl)
theorem MapsOnly.mergeNext (s : State) (pt : Nat) : MapsOnly s (s.mergeNext pt) := by
  refine MapsOnly.trans ?_ ((MapsOnly.setNat (s.mergeEntry (s.nextEntry pt)) _ _ _).trans (.setNat _ _ _ _))
  unfold State.mergeEntry
  split
  · exact .refl s
  · dsimp only
    split
    · exact .orLeaf _ _ _ _
    · exact .refl s
theorem MapsOnly.mergeLog (pt w0 : Nat) : ∀ (n : Nat) (s : State), MapsOnly s (s.mergeLog pt w0 n)
  | 0, s => .refl s
  | n + 1, s => by
    unfold State.mergeLog
    split
    · exact .refl s
    · exact (MapsOnly.mergeNext s pt).trans (MapsOnly.mergeLog pt w0 n _)
theorem MapsOnly.walkInto {s t : State} {pt root va : Nat} {w : Bool} {e : Leaf} (h : s.walkInto pt root va w = some (t, e)) : MapsOnly s t := by
  unfold State.walkInto at h
  split at h
  · cases h
  · cases h
    exact (MapsOnly.orLeaf s _ _ _).trans (.modTile _ pt fun _ => rfl)
/-- The place of a cell: a walk for it, and an entry of the log where it is the first write. -/
theorem MapsOnly.cellKey {s t : State} {pt k a : Nat} {g : GridEntry} {w : Bool} (h : s.cellKey pt g k w = some (t, a)) : MapsOnly s t := by
  unfold State.cellKey at h
  split at h
  · cases h
  dsimp only at h
  split at h
  · cases h
    exact .refl s
  split at h
  · cases h
  next u e hu =>
  have hm : MapsOnly s u := by
    split at hu
    · cases hu
      exact .refl s
    · exact .walkInto hu
  split at h
  · split at h
    · cases h
    · exact (Prod.mk.inj (Option.some.inj h)).1 ▸ hm.trans (.logAppend _ _ _ _)
  · exact (Prod.mk.inj (Option.some.inj h)).1 ▸ hm
theorem MapsOnly.putCells {pt : Nat} {g : GridEntry} : ∀ (l : List (Nat × Word)) {s t : State}, s.putCells pt g l = some t → MapsOnly s t
  | [], s, t, h => by
    cases h
    exact .refl s
  | (k, v) :: l, s, t, h => by
    unfold State.putCells at h
    split at h
    · exact MapsOnly.putCells l h
    · split at h
      · cases h
      · next u a hu => exact ((MapsOnly.cellKey hu).trans (.setNat _ _ _ _)).trans (MapsOnly.putCells l h)
/-- A tile's log is merged where it is full (R294). -/
def roomInLog (s : State) (pt : Nat) : State := if s.logFull pt then s.mergeLog pt (s.logWR pt) 512 else s
theorem MapsOnly.roomInLog (s : State) (pt : Nat) : MapsOnly s (roomInLog s pt) := by
  unfold Safety.roomInLog
  split
  · exact .mergeLog _ _ _ _
  · exact .refl s
theorem putMapped_eq (s : State) (pt : Nat) (g : GridEntry) (l : List (Nat × Word)) :
    s.putMapped pt g l = l.foldl (fun (t : State) c => ((roomInLog t pt).putCells pt g [c]).getD (roomInLog t pt)) s := rfl
theorem MapsOnly.getD {s : State} {o : Option State} (h : ∀ v, o = some v → MapsOnly s v) : MapsOnly s (o.getD s) := by
  cases o with
  | none => exact .refl s
  | some v => exact h v rfl
theorem MapsOnly.putMapped (s : State) (pt : Nat) (g : GridEntry) (l : List (Nat × Word)) : MapsOnly s (s.putMapped pt g l) := by
  rw [putMapped_eq]
  exact .foldl (fun t c => (MapsOnly.roomInLog t pt).trans (.getD fun _ hv => .putCells _ hv)) l s
end Sys2Proof.Safety
end

section
/-!
SUPPORT. The rollback of a region (R280, R380; log 18), and the supervisor's answers.
-/
namespace Sys2Proof.Safety
open Sys2Proof.Machine

/-! ## Maps and places -/

/-- An entry of a map whose entries are all replaced. -/
theorem SMap.get_mapped {α : Type} (f : α → α) {d : α} (hd : f d = d) (m : SMap α) (k : Nat) :
    SMap.get (m.map (fun e => (e.1, f e.2))) k d = f (SMap.get m k d) := by
  induction m with
  | nil => exact hd.symm
  | cons e m ih =>
    simp only [List.map_cons, SMap.get]
    split
    · rfl
    · exact ih
/-- An entry that a filter of the values leaves. -/
theorem SMap.get_filtered {α : Type} (p : Nat × α → Bool) {m : SMap α} {k : Nat} {d : α} (h : p (k, SMap.get m k d) = true) :
    SMap.get (m.filter p) k d = SMap.get m k d := by
  induction m with
  | nil => rfl
  | cons e m ih =>
    obtain ⟨j, x⟩ := e
    rw [SMap.get] at h ⊢
    by_cases hj : j = k
    · subst hj
      rw [if_pos rfl] at h ⊢
      rw [List.filter_cons_of_pos h, SMap.get, if_pos rfl]
    · rw [if_neg hj] at h ⊢
      rw [List.filter_cons]
      split
      · rw [SMap.get, if_neg hj]
        exact ih h
      · exact ih h
/-- A range in which one condition finds a place, and another holds there. -/
theorem findFrom_other {p q : Nat → Bool} {e : Nat} : ∀ {n a : Nat}, findFrom p a n = some e → q e = true → ∃ e', findFrom q a n = some e'
  | 0, _, h, _ => nomatch h
  | n + 1, a, h, hq => by
    rw [findFrom] at h ⊢
    split
    · exact ⟨a, rfl⟩
    · next hn =>
      split at h
      · cases h
        exact absurd hq hn
      · exact findFrom_other h hq
theorem physTile_congr {s t : State} (hm : t.dmap = s.dmap) (hd : t.dies = s.dies) (l n : Nat) : t.physTile l n = s.physTile l n := by
  unfold State.physTile State.physDie State.dmapOf State.ltp State.pts State.die
  rw [hm, hd]
theorem tilesOf_congr {s t : State} (hm : t.dmap = s.dmap) (hd : t.dies = s.dies) (z : TileSet) : t.tilesOf z = s.tilesOf z := by
  unfold State.tilesOf State.tOf State.physDie State.dmapOf State.active State.ltp State.pts State.die
  rw [hm, hd]

/-! ## What a rollback keeps and drops -/

/-- The grid table without a region's partitions. -/
def gridWithout (rcb : Nat) (m : SMap GridEntry) : SMap GridEntry := m.filter (fun g => g.2.id == 0 || g.2.rcb != rcb)
/-- Pieces and copies of a region's steps go, with its partitions. -/
def stepsDropped (u : State) (rcb : Nat) : State := { u with
  pieces := u.pieces.filter (fun p => p.rcb != rcb), jobs := u.jobs.filter (fun j => (u.gridEntry j.pt j.entry).rcb != rcb)
  tiles := u.tiles.map (fun (e : Nat × Tile) => (e.1, { e.2 with grid := gridWithout rcb e.2.grid })) }
/-- The tiles that a region's set now names. -/
def tilesNow (s : State) (r : Region) : List Nat := (s.tilesOf r.set).filterMap (fun lt => s.physTile (lt / 144) (lt % 144))
def movedTo (tiles : List Nat) (r : Region) : Region := { r with tiles := tiles, away := [], lost := false }
/-- The region on its new tiles, before its strands are armed. -/
def moved (s : State) (r : Region) : State :=
  let t := stepsDropped (slotsCleared s r) r.rcb
  t.modRegion r.rcb (movedTo (tilesNow t r))
theorem rollBack_eq (s : State) (r : Region) (gs : List (Nat × GridEntry)) : s.rollBack r gs =
    let r' := movedTo (tilesNow (stepsDropped (slotsCleared s r) r.rcb) r) r
    if !(moved s r).windowsOk r' then none
    else (((r'.tiles.filter (fun pt => !r.tiles.contains pt)).foldl (fun (t : State) pt => t.placeImage r' pt) (moved s r)).placeAll r' r'.tiles).map
      (fun t => gs.foldl (fun (t : State) g => t.restoreAt g.2) t) := rfl

/-- The region's slots are free or armed for it; its pieces and partitions are gone. -/
structure Rolls (s t : State) (r : Region) : Prop where
  keys    : ∀ k, k ∈ s.regionKeys r → t.strand k = {} ∨ ((t.strand k).st = .armed ∧ (t.strand k).rcbp = word r.rcb)
  others  : ∀ k, k ∉ s.regionKeys r → t.strand k = s.strand k ∨ ((t.strand k).st = .armed ∧ (t.strand k).rcbp = word r.rcb)
  pieces  : ∀ p, p ∈ t.pieces → p.rcb ≠ r.rcb
  region  : t.region? r.rcb = (s.region? r.rcb).map (movedTo (tilesNow s r))
  reports : t.reports = s.reports
  domains : t.domains = s.domains
  dmap    : t.dmap = s.dmap
  dies    : t.dies = s.dies
  mirrors : t.mirrors = s.mirrors
  grid    : ∀ p, (t.tile p).grid = gridWithout r.rcb (s.tile p).grid
theorem moved_rolls (s : State) (r : Region) : Rolls s (moved s r) r := by
  obtain ⟨hgone, hkept, hrest, htile⟩ := slotsCleared_clears s r
  unfold moved
  generalize slotsCleared s r = u at hgone hkept hrest htile ⊢
  have hdmap : u.dmap = s.dmap := by rw [hrest]
  have hdies : u.dies = s.dies := by rw [hrest]
  have htiles : tilesNow (stepsDropped u r.rcb) r = tilesNow s r := by
    have h1 := tilesOf_congr (s := s) (t := stepsDropped u r.rcb) hdmap hdies r.set
    have h2 := physTile_congr (s := s) (t := stepsDropped u r.rcb) hdmap hdies
    unfold tilesNow
    rw [h1]
    simp only [h2]
  have hreg : (stepsDropped u r.rcb).region? r.rcb = s.region? r.rcb := congrArg (List.find? _) (by rw [hrest] : u.regions = s.regions)
  dsimp only
  rw [htiles]
  refine ⟨fun k hk => .inl (hgone k hk), fun k hk => .inl (hkept k hk), fun p hp => bne_iff_ne.mp (List.mem_filter.mp hp).2, ?_,
    (by rw [hrest] : u.reports = s.reports), (by rw [hrest] : u.domains = s.domains), hdmap, hdies, (by rw [hrest] : u.mirrors = s.mirrors), fun p => ?_⟩
  · rw [region?_modRegion, hreg]
    exact fun _ => rfl
  · have hg := SMap.get_mapped (fun x : Tile => { x with grid := gridWithout r.rcb x.grid }) (d := {}) rfl u.tiles p
    have ht := congrArg Tile.grid (htile p)
    exact (congrArg Tile.grid hg).trans (congrArg (gridWithout r.rcb) ht)
theorem Rolls.onlyMem {s t u : State} {r : Region} (h : Rolls s t r) (k : OnlyMem t u) : Rolls s u r := by
  have hr := k.rest
  refine ⟨fun i hi => k.strand i ▸ h.keys i hi, fun i hi => k.strand i ▸ h.others i hi, ?_, ?_, ?_, ?_, ?_, ?_, ?_, ?_⟩
  all_goals rw [hr]
  exacts [h.pieces, h.region, h.reports, h.domains, h.dmap, h.dies, h.mirrors, h.grid]
theorem Rolls.arms {s t u : State} {r : Region} (h : Rolls s t r) (k : Arms t u r.rcb) : Rolls s u r := by
  have hr := k.rest
  refine ⟨fun i hi => ?_, fun i hi => ?_, ?_, ?_, ?_, ?_, ?_, ?_, ?_, ?_⟩
  · rcases k.strands i with he | ⟨_, ha⟩
    · exact he ▸ h.keys i hi
    · exact .inr ha
  · rcases k.strands i with he | ⟨_, ha⟩
    · exact he ▸ h.others i hi
    · exact .inr ha
  all_goals rw [hr]
  exacts [h.pieces, h.region, h.reports, h.domains, h.dmap, h.dies, h.mirrors, h.grid]
/-- A rollback that can be made: the region is moved and armed, then its partitions are restored. -/
theorem rollBack_rolls {s u : State} {r : Region} {gs : List (Nat × GridEntry)} (h : s.rollBack r gs = some u) :
    ∃ t, Rolls s t r ∧ u = gs.foldl (fun (t : State) g => t.restoreAt g.2) t := by
  rw [rollBack_eq] at h
  dsimp only at h
  split at h
  · cases h
  · obtain ⟨t, ht, rfl⟩ := Option.map_eq_some_iff.mp h
    have ha := placeAll_arms _ ht
    exact ⟨t, ((moved_rolls s r).onlyMem (placeImages_mem _ _ _)).arms ha, rfl⟩

/-! ## Restoration (R280) -/

/-- Only memory, tiles and what the fault domain hears change. -/
structure Restores (s t : State) : Prop where
  rest : t = { s with mem := t.mem, tiles := t.tiles, reports := t.reports, outbox := t.outbox }
theorem Restores.refl (s : State) : Restores s s := ⟨rfl⟩
theorem Restores.trans {s t u : State} (h : Restores s t) (k : Restores t u) : Restores s u := ⟨k.rest.trans (by rw [h.rest])⟩
/-- The partition's entry as its newest copy gives it. -/
def restoredEntry (g : GridEntry) (m : BitVec 32) : GridEntry := { freshGrid g.id g.rcb g.part g.desc with
  pstep := m, mstep := m, place := g.place, buddy := g.buddy, restored := []
  slots := (freshGrid g.id g.rcb g.part g.desc).slots.map (fun x => { x with state := 0 }) }
theorem restoredEntry_new (g : GridEntry) (m : BitVec 32) : (restoredEntry g m).id = g.id ∧ (restoredEntry g m).pstep = m ∧ (restoredEntry g m).mstep = m ∧
    ∀ z, z ∈ (restoredEntry g m).slots → z.state = 0 := by
  refine ⟨rfl, rfl, rfl, fun z hz => ?_⟩
  obtain ⟨x, _, rfl⟩ := List.mem_map.mp hz
  rfl
theorem restorePart_none {s : State} {g : GridEntry} (h : (s.mirror? g.desc g.rcb g.part).bind Mirror.newest = none) (pt e : Nat) :
    s.restorePart pt e g false = s.report g.rcb 0 := by
  simp only [State.restorePart, h]
theorem restorePart_some {s : State} {g : GridEntry} {m : BitVec 32} {cells : List Word}
    (h : (s.mirror? g.desc g.rcb g.part).bind Mirror.newest = some (m, cells)) (pt e : Nat) : s.restorePart pt e g false =
      (s.setGridEntry pt e (restoredEntry g m)).putMapped pt (restoredEntry g m) ((List.range cells.length).zip cells) := by
  simp only [State.restorePart, h]
  rfl
theorem Restores.report (s : State) (rcb what : Nat) : Restores s (s.report rcb what) := ⟨rfl⟩
theorem Restores.restoreAt (s : State) (g : GridEntry) : Restores s (s.restoreAt g) := by
  unfold State.restoreAt
  split
  · exact .report s _ _
  · next pt _ =>
    split
    · exact .report s _ _
    · next e _ =>
      cases h : (s.mirror? g.desc g.rcb g.part).bind Mirror.newest with
      | none => exact restorePart_none h pt e ▸ .report s _ _
      | some c =>
        rw [restorePart_some (m := c.1) (cells := c.2) h pt e]
        exact .trans (t := s.setGridEntry pt e (restoredEntry g c.1)) ⟨rfl⟩ ⟨by rw [(MapsOnly.putMapped _ _ _ _).rest]⟩
theorem Restores.all : ∀ (gs : List (Nat × GridEntry)) (s : State), Restores s (gs.foldl (fun (t : State) g => t.restoreAt g.2) s)
  | [], s => .refl s
  | g :: gs, s => (Restores.restoreAt s g.2).trans (Restores.all gs _)
/-- A partition without a place is reported. -/
theorem restoreAt_lost {s : State} {g : GridEntry} (h : (g.desc.parts[g.part]?).bind (fun p => s.physTile p.die p.n) = none) :
    s.restoreAt g = s.report g.rcb 0 := by
  simp only [State.restoreAt, h]
/-- A partition with a place, an entry there and a copy is restored. -/
theorem restoreAt_restores {s : State} {g : GridEntry} {p e : Nat} {m : BitVec 32} {cells : List Word}
    (hp : (g.desc.parts[g.part]?).bind (fun p => s.physTile p.die p.n) = some p) (he : s.gridFree p = some e)
    (hm : (s.mirror? g.desc g.rcb g.part).bind Mirror.newest = some (m, cells)) :
    (s.restoreAt g).reports = s.reports ∧ (s.restoreAt g).gridEntry p e = restoredEntry g m := by
  have hr : s.restoreAt g = (s.setGridEntry p e (restoredEntry g m)).putMapped p (restoredEntry g m) ((List.range cells.length).zip cells) := by
    simp only [State.restoreAt, hp, he]
    exact restorePart_some hm p e
  have hmap := MapsOnly.putMapped (s.setGridEntry p e (restoredEntry g m)) p (restoredEntry g m) ((List.range cells.length).zip cells)
  rw [hr]
  constructor
  · rw [hmap.rest]
    rfl
  · rw [State.gridEntry, hmap.grid, State.setGridEntry, State.tile_modTile]
    exact SMap.get_put_self _ _ _ _
/-- A place that was free stays so when a region's partitions go. -/
theorem gridFree_without {s t : State} {rcb p e : Nat} (h : s.gridFree p = some e) (hg : (t.tile p).grid = gridWithout rcb (s.tile p).grid) :
    ∃ e', t.gridFree p = some e' := by
  have hid : (s.gridEntry p e).id = 0 := beq_iff_eq.mp (findFrom_holds (p := fun e => (s.gridEntry p e).id == 0) h)
  refine findFrom_other h (beq_iff_eq.mpr ?_)
  rw [State.gridEntry, hg, gridWithout, SMap.get_filtered]
  · exact hid
  · rw [Bool.or_eq_true, beq_iff_eq]
    exact .inl hid
end Sys2Proof.Safety
end

section
/-!
SUPPORT. The supervisor's answers to reports of errors (R380; log 105), and O44.
-/
namespace Sys2Proof.Safety
open Sys2Proof.Machine

section
variable {s : State} {rcb : Nat} {r : Region}

/-! ## Reports and policies -/

theorem told_iff : s.told rcb = true ↔ ∃ q, q ∈ s.reports ∧ q.1 = rcb := by
  simp only [State.told, List.any_eq_true, beq_iff_eq]
theorem answered_reports {q : Nat × Nat} (h : q ∈ (s.answered rcb).reports) : q.1 ≠ rcb := bne_iff_ne.mp (List.mem_filter.mp h).2
theorem choose_rest (s : State) (d n : Nat) : s.choose d n = { s with domains := (s.choose d n).domains } := by
  unfold State.choose State.setFaultPolicy
  split
  · split <;> rfl
  · rfl
/-- The first answer of a supervisor fixes the policy of the fault domain. -/
theorem choose_policy (s : State) (d : Nat) {n : Nat} (hn : n = 1 ∨ n = 2) :
    SMap.get (s.choose d n).domains d 0 = if s.domainPolicy d = 0 then n else s.domainPolicy d := by
  rw [State.choose, State.setFaultPolicy, if_pos hn]
  split
  · exact SMap.get_put_self _ _ _ _
  · rfl
/-- A choice of the supervisor, as an event. -/
theorem faultPolicy_step {dom n : Nat} {l : List Turn} (h : s.agenda = .faultPolicy dom n :: l) :
    (n = 1 ∨ n = 2 → step s = .next { s with agenda := l, domains := SMap.put s.domains dom n }) ∧
    (n ≠ 1 → n ≠ 2 → step s = .next { s with agenda := l }) := by
  have hs : step s = .next (({ s with agenda := l } : State).setFaultPolicy dom n) := by
    rw [step, State.turn, h]
    rfl
  exact ⟨fun hn => hs.trans (congrArg _ (if_pos hn)), fun h1 h2 => hs.trans (congrArg _ (if_neg (not_or_intro h1 h2)))⟩
/-- No rollback is made without a report, of a region that is not live, or of one with a grid that is not mirrored. -/
theorem rollback?_none (h : (∀ q, q ∈ s.reports → q.1 ≠ rcb) ∨ regionLive (s.region rcb) = false ∨
    ∃ g, g ∈ s.regionGrids rcb ∧ g.2.desc.mirror = false) : s.rollback? rcb = none := by
  refine if_neg fun hc => ?_
  simp only [Bool.and_eq_true, List.all_eq_true] at hc
  obtain ⟨⟨ht, hl⟩, hg⟩ := hc
  rcases h with h | h | ⟨g, hm, h⟩
  · obtain ⟨q, hq, he⟩ := told_iff.mp ht
    exact h q hq he
  · rw [h] at hl
    cases hl
  · have := hg g hm
    rw [h] at this
    cases this
theorem rollback?_some {u : State} (h : s.rollback? rcb = some u) : (s.answered rcb).rollBack (s.region rcb) (s.regionGrids rcb) = some u := by
  unfold State.rollback? at h
  dsimp only at h
  split at h
  · exact h
  · cases h

/-! ## Ends -/

/-- A region ends with a cause, in STATUS and to its fault domain; where no child of it is live, nothing else of the panel's memory
and strands changes. -/
def EndsAs (s : State) (rcb : Nat) (i : Instr) (cause : Nat) : Prop := ∃ t, exec i s = .next t ∧
  (t.region? rcb).map (fun q => (q.st, q.cause)) = some (.ended, cause) ∧
  (∀ k, s.panelKey rcb = some k → memNat t.mem k 8 = 4 + cause * 256) ∧ (∀ q, q ∈ t.reports → q.1 ≠ rcb) ∧
  SMap.get t.domains (s.region rcb).domain 0 =
    (if cause = 17 ∧ s.domainPolicy (s.region rcb).domain = 0 then 1 else s.domainPolicy (s.region rcb).domain) ∧
  (Childless s rcb → (∀ k, k ∈ s.regionKeys (s.region rcb) → t.strand k = {}) ∧ (∀ k, k ∉ s.regionKeys (s.region rcb) → t.strand k = s.strand k) ∧
    (∀ k, s.panelKey rcb = some k → MemKeptBut s t k 8) ∧ ∀ p, p ∈ t.pieces → p.rcb ≠ rcb)
theorem endsAs_of_endTree {i : Instr} {cause : Nat} {reports : List (Nat × Nat)} {domains : SMap Nat} (hr : s.region? rcb = some r)
    (he : exec i s = .next (({ s with reports := reports, domains := domains } : State).endTree 128 rcb cause)) (hc : cause < 256)
    (hd : SMap.get domains (s.region rcb).domain 0 =
      if cause = 17 ∧ s.domainPolicy (s.region rcb).domain = 0 then 1 else s.domainPolicy (s.region rcb).domain) : EndsAs s rcb i cause := by
  have ht := endTree_ends (s := { s with reports := reports, domains := domains }) hr hc
  exact ⟨_, he, ht.region, ht.status, ht.reports, (congrArg (fun m => SMap.get m (s.region rcb).domain 0) ht.domains).trans hd, ht.alone⟩
theorem takedown_ends (ht : s.told rcb = true) (hr : s.region? rcb = some r) (hl : regionLive (s.region rcb) = true)
    (hp : s.domainPolicy (s.region rcb).domain ≠ 2 ∨ s.rollback? rcb = none) : EndsAs s rcb (.faultDomainTakedown rcb) 17 := by
  have hc : (s.told rcb && regionLive (s.region rcb) && (s.domainPolicy (s.region rcb).domain != 2 || (s.rollback? rcb).isNone)) = true := by
    rw [ht, hl, Bool.true_and, Bool.true_and, Bool.or_eq_true, bne_iff_ne, Option.isNone_iff_eq_none]
    exact hp
  have he : exec (.faultDomainTakedown rcb) s = .next (((s.answered rcb).choose (s.region rcb).domain 1).endTree 128 rcb 17) :=
    congrArg Host.Outcome.next (if_pos hc)
  have hd := choose_policy (s.answered rcb) (s.region rcb).domain (.inl rfl)
  rw [choose_rest] at he
  refine endsAs_of_endTree hr he (by decide) (hd.trans ?_)
  simp only [true_and]
  rfl
theorem takedown_waits (h : ¬(s.told rcb = true) ∨ (s.domainPolicy (s.region rcb).domain = 2 ∧ s.rollback? rcb ≠ none)) :
    exec (.faultDomainTakedown rcb) s = .next s := by
  refine congrArg Host.Outcome.next (if_neg fun hc => ?_)
  simp only [Bool.and_eq_true, Bool.or_eq_true, bne_iff_ne, Option.isNone_iff_eq_none] at hc
  obtain ⟨⟨ht, _⟩, hp⟩ := hc
  rcases h with h | ⟨h, hn⟩
  · exact h ht
  · exact hp.elim (fun hp => hp h) hn

/-! ## Rollbacks -/

theorem regionRollback_waits (h : s.domainPolicy (s.region rcb).domain = 1 ∨ s.rollback? rcb = none) : exec (.regionRollback rcb) s = .next s := by
  refine congrArg Host.Outcome.next ?_
  by_cases hp : s.domainPolicy (s.region rcb).domain = 1
  · exact if_pos hp
  · rw [h.resolve_left hp]
    exact if_neg hp
theorem regionRollback_rolls {u : State} (hp : s.domainPolicy (s.region rcb).domain ≠ 1) (hu : s.rollback? rcb = some u) :
    exec (.regionRollback rcb) s = .next (u.choose (s.region rcb).domain 2) := by
  refine congrArg Host.Outcome.next ((if_neg hp).trans ?_)
  rw [hu]
  rfl
theorem regionGrids_rcb {p : Nat} {g : GridEntry} (h : s.regionGrids rcb = [(p, g)]) : g.rcb = rcb := by
  have hm : (p, g) ∈ s.regionGrids rcb := h ▸ List.mem_singleton_self _
  obtain ⟨t, _, ht⟩ := List.mem_flatMap.mp hm
  obtain ⟨e, he, heq⟩ := List.mem_map.mp ht
  have hc := (List.mem_filter.mp he).2
  rw [Bool.and_eq_true, beq_iff_eq] at hc
  exact (congrArg (fun z => GridEntry.rcb z.2) heq).symm.trans hc.2
/-- What a rollback leaves (R280, R380). -/
theorem rollback_leaves {u : State} (hr : s.region? rcb = some r) (hu : s.rollback? rcb = some u) : let t := u.choose r.domain 2
    (∀ k, k ∈ s.regionKeys r → t.strand k = {} ∨ ((t.strand k).st = .armed ∧ (t.strand k).rcbp = word rcb)) ∧
    (∀ k, k ∉ s.regionKeys r → t.strand k = s.strand k ∨ ((t.strand k).st = .armed ∧ (t.strand k).rcbp = word rcb)) ∧
    (∀ p, p ∈ t.pieces → p.rcb ≠ rcb) ∧
    (t.region? rcb).map (fun q => (q.st, q.tiles, q.away, q.lost)) = some (r.st, tilesNow s r, [], false) ∧
    SMap.get t.domains r.domain 0 = (if s.domainPolicy r.domain = 0 then 2 else s.domainPolicy r.domain) ∧
    (s.regionGrids rcb = [] → ∀ q, q ∈ t.reports → q.1 ≠ rcb) ∧
    (∀ p g, s.regionGrids rcb = [(p, g)] → (g.desc.parts[g.part]?).bind (fun y => s.physTile y.die y.n) = none → (rcb, 0) ∈ t.reports) ∧
    (∀ p g y m cs e, s.regionGrids rcb = [(p, g)] → g.desc.parts[g.part]? = some y → s.physTile y.die y.n = some p →
      s.gridFree p = some e → (s.mirror? g.desc rcb g.part).bind Mirror.newest = some (m, cs) →
      (∀ q, q ∈ t.reports → q.1 ≠ rcb) ∧
      ∃ e', (t.gridEntry p e').id = g.id ∧ (t.gridEntry p e').pstep = m ∧ (t.gridEntry p e').mstep = m ∧
        ∀ z, z ∈ (t.gridEntry p e').slots → z.state = 0) := by
  obtain rfl := region?_rcb hr
  have hreg : s.region r.rcb = r := congrArg (fun o => o.getD {}) hr
  have hb := rollback?_some hu
  rw [hreg] at hb
  obtain ⟨v, hv, rfl⟩ := rollBack_rolls hb
  have hall := (Restores.all (s.regionGrids r.rcb) v).rest
  have hmirror (d : GridDesc) (k n : Nat) : v.mirror? d k n = s.mirror? d k n := congrArg (List.find? _) hv.mirrors
  have hphys (l n : Nat) : v.physTile l n = s.physTile l n := physTile_congr hv.dmap hv.dies l n
  have hdom : (v.domainPolicy r.domain) = s.domainPolicy r.domain := congrArg (fun m => SMap.get m r.domain 0) hv.domains
  have hreports {q : Nat × Nat} (h : q ∈ v.reports) : q.1 ≠ r.rcb := answered_reports (hv.reports ▸ h)
  generalize hw : (s.regionGrids r.rcb).foldl (fun (t : State) g => t.restoreAt g.2) v = w at hall
  have hwd : w.domainPolicy r.domain = s.domainPolicy r.domain := by
    rw [hall]
    exact hdom
  have hpol := choose_policy w r.domain (.inr rfl)
  rw [hwd] at hpol
  dsimp only
  rw [choose_rest] at hpol ⊢
  refine ⟨fun k hk => ?_, fun k hk => ?_, fun p hp => ?_, ?_, hpol, fun hg q hq => ?_, fun p g hg hp => ?_, fun p g y m cs e hg hy hp he hm => ?_⟩
  · rw [hall]
    exact hv.keys k hk
  · rw [hall]
    exact hv.others k hk
  · rw [hall] at hp
    exact hv.pieces p hp
  · rw [hall]
    exact (congrArg _ (hv.region.trans (congrArg _ hr))).trans rfl
  · rw [hg] at hw
    subst hw
    exact hreports hq
  · have hl := restoreAt_lost (s := v) (g := g) (by simp only [hphys]; exact hp)
    rw [hg, List.foldl_cons, List.foldl_nil, hl, regionGrids_rcb hg] at hw
    subst hw
    exact List.mem_append_right _ (List.mem_singleton_self _)
  · obtain ⟨e', he'⟩ := gridFree_without (t := v) he (hv.grid p)
    obtain ⟨hrep, hgrid⟩ := restoreAt_restores (s := v) (g := g) (p := p) (e := e') (m := m) (cells := cs)
      (by rw [hy, Option.bind_some, hphys, hp]) he' (by rw [hmirror, regionGrids_rcb hg]; exact hm)
    rw [hg, List.foldl_cons, List.foldl_nil] at hw
    subst hw
    have hnew := restoredEntry_new g m
    rw [← hgrid] at hnew
    exact ⟨fun q hq => hreports (hrep ▸ hq), e', hnew⟩
end

/-- Settles O44, event by event. -/
theorem regionEvents : Obligations.RegionEvents := by
  unfold Obligations.RegionEvents
  intro s rcb img pt slot
  dsimp only
  have hregion {r : Region} (h : s.region? rcb = some r) : s.region rcb = r := congrArg (fun o => o.getD {}) h
  refine ⟨fun h => ?_, fun k arg h7 hfree h128 hlt hl hk ha => ⟨(launchArg_value ha).1, (launchArg_value ha).2, ?_⟩,
    fun hr hst hh he ha hl hf => ?_, fun h hr => regionEnd_waits hr h, fun hr hn hst hk hq he ha hl hf => ?_, fun hr hn h => quiescenceEvent_waits hr hn h,
    fun q e hr hq he hs hp hst hx => ⟨_, priorityPreemption_evicts hr hq he hs hp hst hx, startEvict_evicts hs 0 0 none⟩,
    fun q hr hq hp => priorityPreemption_waits hr hq hp, fun ht hr hl hp => takedown_ends ht hr hl hp, fun hp hn => takedown_waits (.inr ⟨hp, hn⟩),
    fun dom n l h => faultPolicy_step h, fun h => ?_, regionRollback_waits, rollback?_none, fun ht hr hl hg hn hp => ?_⟩
  · by_cases he : LaunchedElsewhere s rcb img
    · exact regionAdmission_elsewhere he
    · refine regionAdmission_unsubmitted fun ⟨h7, hfree, h128, hlt, hl⟩ => ?_
      rcases h with h | h | h | h | h | h
      · exact h h7
      · exact h hfree
      · exact h h128
      · exact Nat.not_lt.mpr h hlt
      · exact h hl
      · exact he h
  · have hs : Submitted s rcb img := ⟨h7, hfree, h128, hlt, hl⟩
    generalize he : s.effective rcb k img = e
    obtain rfl : e.image = img := by
      rw [← he]
      rfl
    exact regionAdmission_outcomes hs hk ha he rfl
  · exact endsAs_of_endTree hr (regionEnd_ends hr hst hh he ha hl hf) (by decide) rfl
  · exact ⟨_, quiescenceEvent_raises hr hn hst hk hq he ha hl hf, quiescenceEvent_quiets hr rfl⟩
  · have ht : ¬(s.told rcb = true) := fun ht => (told_iff.mp ht).elim fun q ⟨hq, he⟩ => h q hq he
    exact ⟨takedown_waits (.inl ht), regionRollback_waits (.inr (rollback?_none (.inl h)))⟩
  · obtain ⟨u, hu⟩ := Option.ne_none_iff_exists'.mp hn
    exact ⟨_, regionRollback_rolls hp hu, rollback_leaves hr hu⟩
end Sys2Proof.Safety
end

section
/-!
SUPPORT. The decoder reads an operand back from the word that the encoder put it in (R80 to R92): how a field of a word reads
after another field was placed in it, and that every instruction's word decodes to it.
-/
namespace Sys2Proof

/-! ## Fields of a word -/

section
variable {n m lo k w : Nat} {x : BitVec m}

theorem field_put_same (x : BitVec n) (lo w : Nat) : field n lo (put x lo w) = field n lo w + x := by
  apply BitVec.eq_of_toNat_eq
  simp [field, put, Nat.add_mul_div_right _ _ (Nat.two_pow_pos lo)]
/-- What stands above a field does not reach it. -/
theorem field_put_above (h : lo + n ≤ k) : field n lo (put x k w) = field n lo w := by
  obtain ⟨j, rfl⟩ := Nat.exists_eq_add_of_le h
  apply BitVec.eq_of_toNat_eq
  have hx : x.toNat * 2 ^ (lo + n + j) = (x.toNat * 2 ^ j * 2 ^ n) * 2 ^ lo := by ring
  simp only [field, put, BitVec.toNat_ofNat, hx, Nat.add_mul_div_right _ _ (Nat.two_pow_pos lo), Nat.add_mul_mod_self_right]
/-- What is placed below a field, where the word held 0, does not carry into it. -/
theorem field_put_below (h : k + m ≤ lo) (hw : field m k w = 0) : field n lo (put x k w) = field n lo w := by
  have hz : w / 2 ^ k % 2 ^ m = 0 := by simpa [field] using congrArg BitVec.toNat hw
  obtain ⟨q, hq⟩ := Nat.dvd_of_mod_eq_zero hz
  obtain ⟨j, rfl⟩ := Nat.exists_eq_add_of_le h
  have hdiv (a : Nat) : a / 2 ^ (k + m + j) = a / 2 ^ k / 2 ^ m / 2 ^ j := by simp only [pow_add, Nat.div_div_eq_div_mul]
  simp only [field, put, hdiv, Nat.add_mul_div_right _ _ (Nat.two_pow_pos k)]
  rw [hq, Nat.mul_add_div (Nat.two_pow_pos m), Nat.mul_div_cancel_left _ (Nat.two_pow_pos m), Nat.div_eq_of_lt x.isLt, Nat.add_zero]
/-- The three rules in one, as a computation for `simp`: the last case, two fields that overlap, is not met in any row. -/
theorem field_put (x : BitVec m) (k w : Nat) : field n lo (put x k w) =
    if lo = k ∧ n = m then field n lo w + x.setWidth n
    else if lo + n ≤ k ∨ k + m ≤ lo ∧ field m k w = 0 then field n lo w
    else BitVec.ofNat n (put x k w / 2 ^ lo) := by
  split_ifs with hsame hapart
  · obtain ⟨rfl, rfl⟩ := hsame
    simp [field_put_same]
  · obtain h | ⟨h, hw⟩ := hapart
    · exact field_put_above h
    · exact field_put_below h hw
  · rfl
end

theorem fixedAt_eq (n lo v w : Nat) : fixedAt n lo v w = ((field n lo w).toNat == v) := by simp [fixedAt, field]
/-- Fixed bits of one row that span a field of another are tested on either side of its edge. -/
theorem fixedAt_add (a b lo v w : Nat) :
    fixedAt (a + b) lo v w = (fixedAt a lo (v % 2 ^ a) w && fixedAt b (lo + a) (v / 2 ^ a) w) := by
  rw [Bool.eq_iff_iff]
  simp only [fixedAt, pow_add, Nat.mod_mul, Bool.and_eq_true, beq_iff_eq, Nat.div_div_eq_div_mul]
  have hlow := Nat.mod_lt (w / 2 ^ lo) (Nat.two_pow_pos a)
  constructor
  · rintro rfl
    exact ⟨by simp, by simp [Nat.add_mul_div_left, Nat.div_eq_of_lt hlow]⟩
  · rintro ⟨h1, h2⟩
    rw [h1, h2, Nat.mod_add_div]
theorem decodeFields_eq (w : Nat) : decodeFields w =
    if (field 1 31 w).toNat = 0 then decodeClassC (field 6 24 w).toNat w else decodeClassA (field 6 24 w).toNat w := by
  simp [decodeFields, field]

/-! ## From an instruction to its word and back

Each theorem speaks of the majors of one part of R80 to R91 and lists their instructions by the operands they take. Its proof
reads the class, the major and the fixed bits of the word by `field_put` and follows the decoder to the instruction's row. -/

/-- The word of an instruction with well-formed fields, with the lone bit that R86 asks for, decodes to it. -/
def Decodes (i : Instr) : Prop :=
  ∀ l : Bool, wellFormed i = true → decodeFields (put (BitVec.ofBool (l || mustBeLone i)) 30 (encodeFields i)) = some i

/-- Integer, bit-field, immediate and tensor words: majors 0x01 to 0x0F of class C. -/
theorem decodes_integer :
    (∀ op ∈ [Instr.add, .sub, .addp, .mul, .mulhu, .mulhs, .divu, .divs, .remu, .rems, .and, .or, .xor, .andn, .shl, .shr, .sha, .rotl, .mins,
      .minu, .maxs, .maxu, .slt, .sltu, .seq], ∀ d a b, Decodes (op d a b)) ∧
    (∀ op ∈ [Instr.clz, .ctz, .popc], ∀ d a, Decodes (op d a)) ∧ (∀ op ∈ [Instr.mad, .sel], ∀ d a b c, Decodes (op d a b c)) ∧
    (∀ op ∈ [Instr.bfx, .bfi], ∀ d a p n, Decodes (op d a p n)) ∧ (∀ d i, Decodes (.lil d i)) ∧ (∀ d h i, Decodes (.lih d h i)) ∧
    (∀ op ∈ [Instr.tld, .tst], ∀ t c g, Decodes (op t c g)) ∧ (∀ op ∈ [Instr.tldv, .tstv], ∀ v c g, Decodes (op v c g)) ∧
    (∀ op ∈ [Instr.addi, .andi, .ori, .xori, .slti], ∀ d a j, Decodes (op d a j)) ∧
    (∀ op ∈ [Instr.shli, .shri, .shai], ∀ d a n, Decodes (op d a n)) := by
  simp only [List.forall_mem_cons, List.not_mem_nil, IsEmpty.forall_iff, implies_true, and_true]
  simp [Decodes, encodeFields, decodeFields_eq, ↓fixedAt_add 9 5 0, fixedAt_eq, ↓field_put, field, decodeClassC, decodeC01, decodeC02,
    decodeC03, decodeC04, decodeC05, decodeC06, decodeC07, decodeC08, decodeC09, decodeC0A, decodeC0B, decodeC0C, decodeC0D, decodeC0E,
    decodeC0F]

/-- Branches, jumps and the words of majors 0x16 and 0x17, but for the lone ones. -/
theorem decodes_control :
    (∀ c a b o, Decodes (.b c a b o)) ∧ (∀ op ∈ [Instr.bz, .bnz, .loop], ∀ a o, Decodes (op a o)) ∧ (∀ op ∈ [Instr.jmp, .jal], ∀ o, Decodes (op o)) ∧
    (∀ i ∈ [Instr.nop, .pend], Decodes i) ∧ (∀ op ∈ [Instr.jr, .tdone, .rtclr, .evack, .pclr], ∀ a, Decodes (op a)) ∧
    (∀ op ∈ [Instr.jalr, .spawn, .take, .tqry, .evict, .resume, .ctxsv, .ctxld, .scopew, .buntw, .plotw], ∀ d a, Decodes (op d a)) ∧
    (∀ d a b, Decodes (.rtset d a b)) ∧ (∀ op ∈ [Instr.segld, .segst, .gbind, .gstep], ∀ g a, Decodes (op g a)) ∧
    (∀ d g b, Decodes (.gqry d g b)) ∧ (∀ d a g, Decodes (.tmap d a g)) := by
  simp only [List.forall_mem_cons, List.not_mem_nil, IsEmpty.forall_iff, implies_true, and_true]
  simp [Decodes, encodeFields, decodeFields_eq, ↓fixedAt_add 16 8 0, ↓fixedAt_add 9 5 0, fixedAt_eq, ↓field_put, field, decodeClassC, decodeC10,
    decodeC11, decodeC12, decodeC13, decodeC14, decodeC15, decodeC16, decodeC17]

/-- Loads, stores, prefetch, fill and the converting accesses: majors 0x18 to 0x27 of class C. -/
theorem decodes_memory :
    (∀ t b w x d, Decodes (.ld t b w x d)) ∧ (∀ t b x w s d, Decodes (.ldIndex t b x w s d)) ∧ (∀ t b w x g, Decodes (.ldAcq t b w x g)) ∧
    (∀ t b w d, Decodes (.st t b w d)) ∧ (∀ t b x w d, Decodes (.stIndex t b x w d)) ∧ (∀ t b w g, Decodes (.stRel t b w g)) ∧
    (∀ b x d, Decodes (.pfx b x d)) ∧ (∀ d v n w c e, Decodes (.fill d v n w c e)) ∧ (∀ op ∈ [Instr.ldv, .stv], ∀ v b x d, Decodes (op v b x d)) ∧
    (∀ op ∈ [Instr.ldvs, .stvs], ∀ v b s w, Decodes (op v b s w)) ∧ (∀ op ∈ [Instr.ldvx, .stvx], ∀ v b j w, Decodes (op v b j w)) ∧
    (∀ op ∈ [Instr.vldf, .vstf], ∀ t b r s f, Decodes (op t b r s f)) ∧
    (∀ op ∈ [Instr.vldfScales, .vstfScales], ∀ t b r s, Decodes (op t b r s)) := by
  simp only [List.forall_mem_cons, List.not_mem_nil, IsEmpty.forall_iff, implies_true, and_true]
  simp [Decodes, encodeFields, decodeFields_eq, fixedAt_eq, ↓field_put, field, decodeClassC, decodeC18, decodeC19, decodeC1A, decodeC1B,
    decodeC1C, decodeC1D, decodeC1E, decodeC1F, decodeC20, decodeC21, decodeC22, decodeC23, decodeC24, decodeC25, decodeC26, decodeC27]

/-- Atomics, fences, copies, messages, system registers, pennants and grids: majors 0x28 to 0x3F of class C, but for SYSW. -/
theorem decodes_shared :
    (∀ op ∈ [Instr.aadd, .amin, .amax, .afmax, .aand, .aor, .axor, .aswp, .acas], ∀ d b v y o g, Decodes (op d b v y o g)) ∧
    (∀ o g s, Decodes (.fence o g s)) ∧ (∀ a b c d, Decodes (.wait a b c d)) ∧ (∀ op ∈ [Instr.cpy, .cpys], ∀ d a n p e, Decodes (op d a n p e)) ∧
    (∀ a v r o p e, Decodes (.send a v r o p e)) ∧ (∀ d n, Decodes (.sysr d n)) ∧
    (∀ op ∈ [Instr.syswPer, .syswPph, .syswFcsr], ∀ a, Decodes (op a)) ∧ (∀ op ∈ [Instr.pwr, .pstamp], ∀ x v t o g, Decodes (op x v t o g)) ∧
    (∀ op ∈ [Instr.prd, .psame, .padd], ∀ x e f t o g, Decodes (op x e f t o g)) ∧ (∀ b v o g, Decodes (.pmc b v o g)) ∧
    (∀ d c s g k, Decodes (.gld d c s g k)) ∧ (∀ d c g, Decodes (.gst d c g)) ∧ (∀ v c s g k, Decodes (.gldv v c s g k)) := by
  simp only [List.forall_mem_cons, List.not_mem_nil, IsEmpty.forall_iff, implies_true, and_true]
  simp [Decodes, encodeFields, decodeFields_eq, ↓fixedAt_add 7 12 0, fixedAt_eq, ↓field_put, field, decodeClassC, decodeC28, decodeC29,
    decodeC2A, decodeC2B, decodeC2C, decodeC2D, decodeC2E, decodeC2F, decodeC30, decodeC31, decodeC32, decodeC33, decodeC34, decodeC35,
    decodeC36, decodeC37, decodeC38, decodeC39, decodeC3A, decodeC3B, decodeC3C, decodeC3D, decodeC3E, decodeC3F]

/-- Integer vector words and masks: majors 0x01 to 0x1F of class A. -/
theorem decodes_vector :
    (∀ op ∈ [Instr.vadd, .vsub, .vmul, .vmulhSigned, .vmulhUnsigned, .vmad, .vand, .vor, .vxor, .vshl, .vshr, .vsha, .vminSigned, .vminUnsigned,
      .vmaxSigned, .vmaxUnsigned, .vperm, .vpack], ∀ d a b w m, Decodes (op d a b w m)) ∧
    (∀ k a b c w, Decodes (.vcmp k a b c w)) ∧ (∀ op ∈ [Instr.vsel, .vcompress], ∀ d a k w, Decodes (op d a k w)) ∧
    (∀ d a m, Decodes (.vmov d a m)) ∧ (∀ op ∈ [Instr.vabs, .vfsqrt, .vfrcp, .vfrsq, .vfclass], ∀ d a w m, Decodes (op d a w m)) ∧
    (∀ d w m, Decodes (.viota d w m)) ∧ (∀ d a n w m, Decodes (.vrot d a n w m)) ∧ (∀ d s w m, Decodes (.vbcast d s w m)) ∧
    (∀ d a n w x, Decodes (.vext d a n w x)) ∧ (∀ d s n w, Decodes (.vins d s n w)) ∧ (∀ d a o x w m, Decodes (.vred d a o x w m)) ∧
    (∀ d a o w m, Decodes (.vfred d a o w m)) ∧ (∀ op ∈ [Instr.kand, .kor, .kxor], ∀ d a b, Decodes (op d a b)) ∧ (∀ d a, Decodes (.knot d a)) ∧
    (∀ a d, Decodes (.kpop a d)) ∧ (∀ d a h w x, Decodes (.vunpack d a h w x)) ∧ (∀ d a q w r s, Decodes (.vscale d a q w r s)) := by
  simp only [List.forall_mem_cons, List.not_mem_nil, IsEmpty.forall_iff, implies_true, and_true]
  simp [Decodes, encodeFields, decodeFields_eq, ↓fixedAt_add 2 7 1, ↓fixedAt_add 10 5 0, ↓fixedAt_add 10 8 0, fixedAt_eq, ↓field_put, field,
    decodeClassA, decodeA01, decodeA02, decodeA03, decodeA04, decodeA05, decodeA06, decodeA07, decodeA08, decodeA09, decodeA0A, decodeA0B,
    decodeA0C, decodeA0D, decodeA0E, decodeA0F, decodeA10, decodeA11, decodeA12, decodeA13, decodeA14, decodeA15, decodeA16, decodeA17,
    decodeA18, decodeA19, decodeA1A, decodeA1B, decodeA1C, decodeA1D, decodeA1E, decodeA1F]

/-- Floating-point vector words: majors 0x20 to 0x2D of class A. -/
theorem decodes_vectorFloat :
    (∀ op ∈ [Instr.vfadd, .vfsub, .vfmul, .vfma, .vfms, .vfnma, .vfdiv, .vfmin, .vfmax, .vfsgn], ∀ d a b w m, Decodes (op d a b w m)) ∧
    (∀ k a b c w, Decodes (.vfcmp k a b c w)) ∧ (∀ d a i x r s, Decodes (.vcvt d a i x r s)) ∧
    (∀ op ∈ [Instr.vcvti, .vcvtf], ∀ d a f t r s, Decodes (op d a f t r s)) := by
  simp only [List.forall_mem_cons, List.not_mem_nil, IsEmpty.forall_iff, implies_true, and_true]
  simp [Decodes, encodeFields, decodeFields_eq, fixedAt_eq, ↓field_put, field, decodeClassA, decodeA20, decodeA21, decodeA22, decodeA23,
    decodeA24, decodeA25, decodeA26, decodeA27, decodeA28, decodeA29, decodeA2A, decodeA2B, decodeA2C, decodeA2D]

/-- Scalar floating-point words and the words of the matrix unit: majors 0x2E to 0x36 of class A. -/
theorem decodes_tile :
    (∀ op ∈ [Instr.fadd, .fsub, .fmul, .fma, .fdiv, .fcmp], ∀ d a b f r, Decodes (op d a b f r)) ∧ (∀ d a f r, Decodes (.fsqrt d a f r)) ∧
    (∀ op ∈ [Instr.fmin, .fmax], ∀ d a b f, Decodes (op d a b f)) ∧ (∀ d a f, Decodes (.fclass d a f)) ∧
    (∀ d a t s r x, Decodes (.fcvt d a t s r x)) ∧ (∀ f v, Decodes (.modeM f v)) ∧ (∀ i ∈ [Instr.modeV, .mzero, .mtrn], Decodes i) ∧
    (∀ op ∈ [Instr.mop, .mopn], ∀ a b c d f, Decodes (op a b c d f)) ∧ (∀ d m g f, Decodes (.mdrain d m g f)) ∧
    (∀ m g f v, Decodes (.mdrainReg m g f v)) ∧ (∀ a r, Decodes (.mscale a r)) ∧ (∀ d, Decodes (.mqry d)) := by
  simp only [List.forall_mem_cons, List.not_mem_nil, IsEmpty.forall_iff, implies_true, and_true]
  simp [Decodes, encodeFields, decodeFields_eq, ↓fixedAt_add 2 7 0, ↓fixedAt_add 16 8 0, fixedAt_eq, ↓field_put, field, decodeClassA, decodeA2E,
    decodeA2F, decodeA30, decodeA31, decodeA32, decodeA33, decodeA34, decodeA35, decodeA36]
/-- The words that R86 makes lone: the decoder asks for their lone bit. -/
theorem decodes_lone : (∀ i ∈ [Instr.eret, .halt], Decodes i) ∧ (∀ op ∈ [Instr.trap, .bkpt], ∀ c, Decodes (op c)) := by
  have h : mustBeLone .eret = true ∧ mustBeLone .halt = true ∧ (∀ c, mustBeLone (.trap c) = true) ∧ ∀ c, mustBeLone (.bkpt c) = true :=
    ⟨rfl, rfl, fun _ => rfl, fun _ => rfl⟩
  simp only [List.forall_mem_cons, List.not_mem_nil, IsEmpty.forall_iff, implies_true, and_true]
  simp [Decodes, h, encodeFields, decodeFields_eq, ↓fixedAt_add 16 8 0, fixedAt_eq, ↓field_put, field, decodeClassC, decodeC16]
/-- SYSW shares its row with the writes of PER, PPH and FCSR, whose numbers its own condition leaves out. -/
theorem decodes_sysw (a : BitVec 5) (n : BitVec 12) : Decodes (.sysw a n) := by
  intro l h
  have hn : (isSysreg n && n != 0x010 && n != 0x011 && n != 0x001) = true := h
  simp only [Bool.and_eq_true, bne_iff_ne, ne_eq, BitVec.toNat_eq] at hn
  obtain ⟨⟨⟨-, hper⟩, hpph⟩, hfcsr⟩ := hn
  have hper : n.toNat ≠ 16 := hper
  have hpph : n.toNat ≠ 17 := hpph
  have hfcsr : n.toNat ≠ 1 := hfcsr
  simp [encodeFields, decodeFields_eq, ↓fixedAt_add 7 12 0, fixedAt_eq, ↓field_put, field, decodeClassC, decodeC37, hper, hpph, hfcsr]

theorem decodes_of_isWord {i : Instr} (h : isWord i = true) : Decodes i := by
  have rows := And.intro decodes_integer <| And.intro decodes_control <| And.intro decodes_memory <| And.intro decodes_shared <|
    And.intro decodes_vector <| And.intro decodes_vectorFloat <| And.intro decodes_tile <| And.intro decodes_lone decodes_sysw
  simp only [List.forall_mem_cons, List.not_mem_nil, IsEmpty.forall_iff, implies_true, and_true] at rows
  cases i <;> first | exact absurd h Bool.false_ne_true | simp only [rows]

end Sys2Proof
end

section
/-!
SUPPORT. A word that decodes is the word of its instruction (R92): the fields and the fixed bits of a row are all of its bits.
-/
namespace Sys2Proof

/-- The bits of a word below bit k. -/
def lowBits (k w : Nat) : Nat := w % 2 ^ k
@[simp] theorem lowBits_zero (w : Nat) : lowBits 0 w = 0 := Nat.mod_one w
theorem lowBits_add (k n w : Nat) : lowBits (k + n) w = lowBits k w + w / 2 ^ k % 2 ^ n * 2 ^ k := by
  rw [lowBits, pow_add, Nat.mod_mul, Nat.mul_comm, lowBits]
theorem fixedAt_iff (n k v w : Nat) : fixedAt n k v w = true ↔ lowBits (k + n) w = v * 2 ^ k + lowBits k w := by
  rw [lowBits_add, fixedAt, beq_iff_eq, Nat.add_comm, Nat.add_right_cancel_iff, Nat.mul_left_inj (Nat.two_pow_pos k).ne']
/-- Putting back the topmost field leaves the bits below it to be put back. -/
theorem put_field_eq_iff {n k h w b c : Nat} (hk : k + n = h) : put (field n k w) k b = c + lowBits h w ↔ b = c + lowBits k w := by
  rw [← hk, lowBits_add, put, field, BitVec.toNat_ofNat, ← Nat.add_assoc, Nat.add_right_cancel_iff]

/-- What is read from w encodes to the class and major byte c above the low 24 bits of w. -/
def ReEncodes (c w : Nat) (o : Option Instr) : Prop := ∀ i, o = some i → encodeFields i = c * 2 ^ 24 + lowBits 24 w

section
variable {a c m w : Nat} {i : Instr} {o o' : Option Instr} {p : Prop} [Decidable p]

theorem reEncodes_none : ReEncodes c w none := nofun
theorem reEncodes_some (h : encodeFields i = c * 2 ^ 24 + lowBits 24 w) : ReEncodes c w (some i) := by
  rintro _ ⟨⟩
  exact h
/-- A row of a major, then the rows after it. -/
theorem reEncodes_row (h : p → encodeFields i = c * 2 ^ 24 + lowBits 24 w) (ho : ReEncodes c w o) :
    ReEncodes c w (if p then some i else o) := by
  split_ifs with hp
  · exact reEncodes_some (h hp)
  · exact ho
/-- A major of a class map, then the majors after it. -/
theorem reEncodes_major (ho : ReEncodes (a + c) w o) (ho' : ReEncodes (a + m) w o') : ReEncodes (a + m) w (if m = c then o else o') := by
  split_ifs with hm
  · exact hm ▸ ho
  · exact ho'
end

theorem reEncodes_decodeClassC (m w : Nat) : ReEncodes (0 + m) w (decodeClassC m w) := by
  repeat' first | refine reEncodes_row ?_ ?_ | refine reEncodes_major ?_ ?_ | exact reEncodes_none | refine reEncodes_some ?_
  all_goals simp +contextual [fixedAt_iff, encodeFields, put_field_eq_iff, ← Nat.add_assoc]
theorem reEncodes_decodeClassA (m w : Nat) : ReEncodes (128 + m) w (decodeClassA m w) := by
  repeat' first | refine reEncodes_row ?_ ?_ | refine reEncodes_major ?_ ?_ | exact reEncodes_none | refine reEncodes_some ?_
  all_goals simp +contextual [fixedAt_iff, encodeFields, put_field_eq_iff, ← Nat.add_assoc]

theorem encodeFields_of_event {i : Instr} (h : isWord i = false) : encodeFields i = 0 := by
  cases i <;> first | rfl | exact absurd h.symm Bool.false_ne_true

/-- The instruction that a number decodes to encodes to that number without bit 30. -/
theorem encodeFields_of_decodeFields {w : Nat} {i : Instr} (h : decodeFields w = some i) :
    encodeFields i = w / 2 ^ 31 % 2 * 2 ^ 31 + w % 2 ^ 30 ∧ isWord i = true := by
  suffices hw : encodeFields i = w / 2 ^ 31 % 2 * 2 ^ 31 + w % 2 ^ 30 ∧ encodeFields i ≠ 0 from
    ⟨hw.1, Bool.not_eq_false _ ▸ mt encodeFields_of_event hw.2⟩
  rw [decodeFields] at h
  split_ifs at h with hc
  · have hi := reEncodes_decodeClassC _ _ i h
    have hm : w / 2 ^ 24 % 2 ^ 6 ≠ 0 := fun hm => by rw [hm] at h; cases h
    simp only [lowBits] at hi
    omega
  · have hi := reEncodes_decodeClassA _ _ i h
    simp only [lowBits] at hi
    omega

/-! ## Words -/

theorem wordLone_eq (w : IWord) : wordLone w = decide (w.toNat / 2 ^ 30 % 2 = 1) := by
  rw [wordLone, BitVec.getLsbD, Nat.testBit_eq_decide_div_mod_eq]
theorem wordIsA_eq (w : IWord) : wordIsA w = decide (w.toNat / 2 ^ 31 % 2 = 1) := by
  rw [wordIsA, BitVec.getLsbD, Nat.testBit_eq_decide_div_mod_eq]
theorem decodeWord_eq_some {w : IWord} {i : Instr} : decodeWord w = some i ↔ decodeFields w.toNat = some i ∧ wellFormed i = true := by
  rw [decodeWord, Option.filter_eq_some_iff]

section
variable {i : Instr} (l : Bool) (h : isWord i = true) (hf : wellFormed i = true)
include h hf

/-- The word of an instruction has its fields at bits 31 and 29:0 and the lone bit between them. -/
theorem toNat_encode : (encode l i).toNat = put (BitVec.ofBool (l || mustBeLone i)) 30 (encodeFields i) := by
  have hi := (encodeFields_of_decodeFields (decodes_of_isWord h l hf)).1
  have hb := (BitVec.ofBool (l || mustBeLone i)).isLt
  have hp : encodeFields i + (if (l || mustBeLone i) = true then 2 ^ 30 else 0) =
      put (BitVec.ofBool (l || mustBeLone i)) 30 (encodeFields i) := by
    cases l || mustBeLone i <;> rfl
  rw [encode, hp, BitVec.toNat_ofNat, Nat.mod_eq_of_lt]
  rw [put] at *
  omega
theorem decodeFields_encode : decodeFields (encode l i).toNat = some i := by
  rw [toNat_encode l h hf]
  exact decodes_of_isWord h l hf
theorem decodeWord_encode : decodeWord (encode l i) = some i := decodeWord_eq_some.mpr ⟨decodeFields_encode l h hf, hf⟩
theorem wordLone_encode : wordLone (encode l i) = (l || mustBeLone i) := by
  have hi := (encodeFields_of_decodeFields (decodeFields_encode l h hf)).1
  have hbit : (encode l i).toNat / 2 ^ 30 % 2 = (l || mustBeLone i).toNat := by
    have hb := (l || mustBeLone i).toNat_le
    rw [toNat_encode l h hf, put, BitVec.toNat_ofBool] at hi ⊢
    omega
  rw [wordLone_eq, hbit]
  cases l || mustBeLone i <;> rfl
theorem wordIsA_encode : wordIsA (encode l i) = decide (2 ^ 31 ≤ encodeFields i) := by
  have hi := (encodeFields_of_decodeFields (decodeFields_encode l h hf)).1
  rw [wordIsA_eq, decide_eq_decide]
  omega
end

/-- A word that decodes is the word of its instruction, where it is lone if it must be. -/
theorem encode_of_decodeWord {w : IWord} {i : Instr} (h : decodeWord w = some i) (hl : mustBeLone i = true → wordLone w = true) :
    encode (wordLone w) i = w := by
  have hi := (encodeFields_of_decodeFields (decodeWord_eq_some.mp h).1).1
  have hc : (wordLone w || mustBeLone i) = wordLone w := by simpa using hl
  apply BitVec.eq_of_toNat_eq
  rw [encode, hc, wordLone_eq, BitVec.toNat_ofNat, hi]
  have hw := w.isLt
  split_ifs with hb <;> simp only [decide_eq_true_eq] at hb <;> omega

end Sys2Proof

namespace Sys2Proof.Safety

/-- Settles O56: `decodes_of_isWord` one way, `encodeFields_of_decodeFields` the other. -/
theorem encodeDecodeRoundTrip : Obligations.EncodeDecodeRoundTrip := by
  refine ⟨fun l i hf => ⟨fun h => ⟨decodeWord_encode l h hf, wordLone_encode l h hf, wordIsA_encode l h hf⟩,
    fun h => ⟨encodeFields_of_event h, fun w hw => ?_⟩⟩, fun w i h => ?_⟩
  · have hword := (encodeFields_of_decodeFields (decodeWord_eq_some.mp hw).1).2
    exact Bool.false_ne_true (h.symm.trans hword)
  · obtain ⟨hd, hf⟩ := decodeWord_eq_some.mp h
    exact ⟨hf, (encodeFields_of_decodeFields hd).2, encode_of_decodeWord h⟩

end Sys2Proof.Safety
end

section
/-!
SUPPORT. Transfers of control (R71, R78, R107 to R110) and O6; the words of the listings and O60.
-/
namespace Sys2Proof.Safety
open Sys2Proof.Machine

theorem toSigned_toNat (x : Word) : toSigned 64 x.toNat = x.toInt := by
  rw [toSigned, BitVec.toInt_eq_toNat_cond, Nat.mod_eq_of_lt x.isLt]
  have h : x.toNat < 2 ^ (64 - 1) ↔ 2 * x.toNat < 2 ^ 64 := by omega
  simp only [h]
/-- The conditions of R78 on two words. -/
theorem condHolds_words (x y : Word) :
    (condHolds 0 64 x.toNat y.toNat = true ↔ x = y) ∧ (condHolds 1 64 x.toNat y.toNat = true ↔ x ≠ y) ∧
    (condHolds 2 64 x.toNat y.toNat = true ↔ x.toInt < y.toInt) ∧ (condHolds 3 64 x.toNat y.toNat = true ↔ y.toInt ≤ x.toInt) ∧
    (condHolds 4 64 x.toNat y.toNat = true ↔ x.toNat < y.toNat) ∧ (condHolds 5 64 x.toNat y.toNat = true ↔ y.toNat ≤ x.toNat) := by
  simp [condHolds, toSigned_toNat, BitVec.toNat_inj]
/-- A branch goes to its target where its condition holds, else to the next position. -/
theorem branch_goes (s : State) (t : Word) {c : Bool} {p : Prop} (h : c = true ↔ p) :
    ∃ pc, s.branch c t = s.goto pc ∧ (p → pc = t) ∧ (¬p → pc = s.iss.next) := by
  rw [State.branch]
  split_ifs with hc
  · exact ⟨t, rfl, fun _ => rfl, fun hp => absurd (h.mp hc) hp⟩
  · exact ⟨s.iss.next, rfl, fun hp => absurd (h.mpr hp) hc, fun _ => rfl⟩
/-- A word that is nothing but a branch. -/
theorem branch_moves {s : State} {i : Instr} {w : Word} {c : Bool} {p : Prop} (hi : exec i s = .next (s.branch c w)) (h : c = true ↔ p) :
    ∃ t pc, exec i s = .next t ∧ Moves s t pc ∧ (p → pc = w) ∧ (¬p → pc = s.iss.next) := by
  obtain ⟨pc, hb, hp⟩ := branch_goes s w h
  exact ⟨_, pc, hi, hb ▸ moves_goto s pc, hp⟩
/-- LOOP counts down and branches on the count (R108). -/
theorem loop_goes (s : State) (a : BitVec 5) (o : BitVec 19) : ∃ t pc, exec (.loop a o) s = .next t ∧ WritesReg s t a (s.rs a - 1) pc ∧
    (s.rs a ≠ 1 → pc = s.target o) ∧ (s.rs a = 1 → pc = s.iss.next) := by
  have hc : (s.rs a - 1 != 0) = true ↔ s.rs a ≠ 1 := by rw [bne_iff_ne, ne_eq, ne_eq, BitVec.sub_eq_iff_eq_add, zero_add]
  obtain ⟨pc, hb, ht, hn⟩ := branch_goes (s.setS a (s.rs a - 1)) (s.target o) hc
  exact ⟨_, pc, rfl, hb ▸ writesReg_goto s a _ pc, ht, fun h => hn (not_not_intro h)⟩
/-- JR and JALR test bits 1:0 of the position in a register (R71, R110). -/
theorem transfer_aligned {w : Word} {t u : State} (h : w.toNat % 4 = 0) : (.next (if positionOk w then t else u) : Out) = .next t :=
  congrArg _ (if_pos (beq_iff_eq.mpr h))
theorem transfer_misaligned {w : Word} {t u : State} (h : w.toNat % 4 ≠ 0) : (.next (if positionOk w then t else u) : Out) = .next u :=
  congrArg _ (if_neg (mt beq_iff_eq.mp h))

/-- Settles O6, word by word. -/
theorem branchesGo : Obligations.BranchesGo := by
  refine ⟨fun s a b o q => ?_, fun s d a o => ?_⟩
  · obtain ⟨heq, hne, hlt, hge, hltu, hgeu⟩ := condHolds_words (s.rs a) (s.rs b)
    exact ⟨branch_moves rfl heq, branch_moves rfl hne, branch_moves rfl hlt, branch_moves rfl hge, branch_moves rfl hltu, branch_moves rfl hgeu,
      branch_moves rfl beq_iff_eq, branch_moves rfl bne_iff_ne, loop_goes s a q⟩
  · refine ⟨⟨_, rfl, moves_goto s _⟩, ⟨_, rfl, writesReg_goto s _ _ _⟩, fun h => ?_, fun h => ?_⟩
    · exact ⟨⟨_, transfer_aligned h, moves_goto s _⟩, ⟨_, transfer_aligned h, writesReg_goto s d _ _⟩⟩
    · exact ⟨⟨_, transfer_misaligned h, traps_trap s _ _ _⟩, ⟨_, transfer_misaligned h, traps_trap s _ _ _⟩⟩

/-- Settles O60: the decoder evaluated at each word. -/
theorem decodeWords : Obligations.DecodeWords := by
  unfold Obligations.DecodeWords
  decide

end Sys2Proof.Safety
end

section
/-!
SUPPORT. Integer and address arithmetic on s registers (R94, R100 to R102), and O1 to O3.
-/
namespace Sys2Proof.Safety
open Sys2Proof.Machine

/-- A word that ends in a result writes whatever equals it. -/
theorem result_writes_eq {s : State} {i : Instr} {d : BitVec 5} {v w : Word} (hi : exec i s = s.result d v) (hv : v = w) :
    ∃ t, exec i s = .next t ∧ WritesReg s t d w s.iss.next :=
  hv ▸ hi ▸ result_writes s d v

/-! ## Comparisons and division -/

theorem bool1_eq_ite {c : Bool} {p : Prop} [Decidable p] (h : c = true ↔ p) : bool1 c = if p then 1 else 0 := by
  simp only [bool1, h]

theorem divuWord_eq (a b : Word) : divuWord a b = if b = 0 then 0xFFFFFFFFFFFFFFFF else BitVec.ofNat 64 (a.toNat / b.toNat) := by
  rw [divuWord, BitVec.udiv_def]
  rfl
theorem remuWord_eq (a b : Word) : remuWord a b = if b = 0 then a else BitVec.ofNat 64 (a.toNat % b.toNat) := by
  rw [remuWord, BitVec.umod_def]
/-- The one quotient that leaves the signed range, -2 ^ 63 by -1, wraps to the dividend (R101). -/
theorem divsWord_eq (a b : Word) : divsWord a b = if b = 0 then 0xFFFFFFFFFFFFFFFF else
    if a = 0x8000000000000000 ∧ b = -1 then 0x8000000000000000 else BitVec.ofInt 64 (a.toInt.tdiv b.toInt) := by
  rw [divsWord]
  congr 1
  split_ifs with h
  · obtain ⟨rfl, rfl⟩ := h
    decide
  · rfl
theorem remsWord_eq (a b : Word) : remsWord a b = if b = 0 then a else
    if a = 0x8000000000000000 ∧ b = -1 then 0 else BitVec.ofInt 64 (a.toInt - a.toInt.tdiv b.toInt * b.toInt) := by
  rw [remsWord, Int.tmod_def, Int.mul_comm]
  congr 1
  split_ifs with h
  · obtain ⟨rfl, rfl⟩ := h
    decide
  · rfl

/-! ## Pointers -/

theorem addPointer_outside {p o : Word} {r : Int} (hr : r = (p.toNat % 2 ^ 53 : Nat) + o.toInt) (h : r < 0 ∨ 2 ^ 53 ≤ r) :
    addPointer p o = none := by
  subst hr
  exact if_pos h
/-- A sum inside the offset field leaves the fields above it (R102). -/
theorem addPointer_inside {p o : Word} {r : Int} (hr : r = (p.toNat % 2 ^ 53 : Nat) + o.toInt) (h0 : 0 ≤ r) (h1 : r < 2 ^ 53) :
    ∃ v, addPointer p o = some v ∧ v.toNat / 2 ^ 53 = p.toNat / 2 ^ 53 ∧ ((v.toNat % 2 ^ 53 : Nat) : Int) = r := by
  have hv : addPointer p o = some (word (p.toNat / 2 ^ 53 * 2 ^ 53 + r.toNat)) := by
    subst hr
    exact if_neg (not_or.mpr ⟨not_lt.mpr h0, not_le.mpr h1⟩)
  have hp := p.isLt
  have hw : (word (p.toNat / 2 ^ 53 * 2 ^ 53 + r.toNat)).toNat = p.toNat / 2 ^ 53 * 2 ^ 53 + r.toNat := by
    rw [word, BitVec.toNat_ofNat]
    omega
  exact ⟨_, hv, by omega, by omega⟩
theorem addp_traps {s : State} {a b : BitVec 5} (d : BitVec 5) (h : addPointer (s.rs a) (s.rs b) = none) :
    exec (.addp d a b) s = .next (s.trap causeCarry (s.rs a)) := by
  change execAddp d a b s = _
  rw [execAddp, h]
theorem addp_result {s : State} {a b : BitVec 5} {v : Word} (d : BitVec 5) (h : addPointer (s.rs a) (s.rs b) = some v) :
    exec (.addp d a b) s = s.result d v := by
  change execAddp d a b s = _
  rw [execAddp, h]

/-- Settles O1: each word's result is the model's own, comparisons through `bool1`. -/
theorem aluResults : Obligations.AluResults := by
  intro s d a b A B n R
  have w := result_writes s d
  exact ⟨w _, w _, w _, w _, w _, w _, w _, w _, w _, w _, w _, w _, w _, w _, w _, w _, w _,
    result_writes_eq rfl (bool1_eq_ite decide_eq_true_iff), result_writes_eq rfl (bool1_eq_ite decide_eq_true_iff),
    result_writes_eq rfl (bool1_eq_ite beq_iff_eq)⟩

/-- Settles O2: the four rows of the table of R101. -/
theorem divisionResults : Obligations.DivisionResults := fun _ _ _ _ =>
  ⟨result_writes_eq rfl (divuWord_eq _ _), result_writes_eq rfl (remuWord_eq _ _), result_writes_eq rfl (divsWord_eq _ _),
    result_writes_eq rfl (remsWord_eq _ _)⟩

/-- Settles O3: the sum inside and outside the offset field. -/
theorem addPointer : Obligations.AddPointer := by
  intro s d a b A o
  refine ⟨fun h0 h1 => ?_, fun h => ⟨_, addp_traps d (addPointer_outside rfl h), traps_trap s _ _ _⟩, result_writes s d _, result_writes s d _⟩
  obtain ⟨v, hv, hhigh, hlow⟩ := addPointer_inside rfl h0 h1
  exact ⟨_, v, addp_result d hv, writesReg_done s d v, hhigh, hlow⟩

end Sys2Proof.Safety
end

section
/-!
SUPPORT. Bits of words (R100, R105, R106): counts of zero bits from either end, fields read and replaced; O4.
-/
namespace Sys2Proof.Safety
open Sys2Proof.Machine

/-! ## Counts of bits -/

theorem clzWord_le (x : Word) : clzWord x ≤ 64 := by
  rw [clzWord]
  split_ifs <;> omega
/-- CLZ of a word that is not 0 counts down from bit 63 to the highest one bit. -/
theorem clzWord_add_log2 {x : Word} (h : x ≠ 0) : clzWord x + Nat.log2 x.toNat = 63 := by
  have hx : x.toNat ≠ 0 := fun h0 => h (BitVec.eq_of_toNat_eq h0)
  have hlog := (Nat.log2_lt hx).mpr x.isLt
  rw [clzWord, if_neg h]
  omega
theorem getLsbD_above_clzWord {x : Word} {i : Nat} (h : i < clzWord x) : x.getLsbD (63 - i) = false := by
  by_cases hx : x = 0
  · rw [hx]
    exact BitVec.getLsbD_zero
  · have hsum := clzWord_add_log2 hx
    exact Nat.testBit_lt_two_pow (Nat.lt_log2_self.trans_le (Nat.pow_le_pow_right two_pos (by omega)))
theorem getLsbD_at_clzWord {x : Word} (h : clzWord x < 64) : x.getLsbD (63 - clzWord x) = true := by
  have hx : x ≠ 0 := by
    rintro rfl
    exact absurd h (lt_irrefl 64)
  have hlog : 63 - clzWord x = Nat.log2 x.toNat := by
    have hsum := clzWord_add_log2 hx
    omega
  rw [hlog]
  exact Nat.testBit_log2 fun h0 => hx (BitVec.eq_of_toNat_eq h0)

/-- The search of CTZ from bit i over n bits stops at the first one bit, or after the last. -/
theorem ctzFrom_first (x : Word) (n i : Nat) : ctzFrom x n i ≤ i + n ∧ (∀ j, i ≤ j → j < ctzFrom x n i → x.getLsbD j = false) ∧
    (ctzFrom x n i < i + n → x.getLsbD (ctzFrom x n i) = true) := by
  induction n generalizing i with
  | zero => exact ⟨le_rfl, fun j hij hj => absurd hj (not_lt.mpr hij), fun h => absurd h (lt_irrefl i)⟩
  | succ n ih =>
    rw [ctzFrom]
    split_ifs with hi
    · exact ⟨by omega, fun j hij hj => absurd hj (not_lt.mpr hij), fun _ => hi⟩
    · obtain ⟨hle, hzero, hone⟩ := ih (i + 1)
      refine ⟨by omega, fun j hij hj => ?_, fun h => hone (by omega)⟩
      obtain rfl | hij := hij.eq_or_lt
      · exact Bool.not_eq_true _ ▸ hi
      · exact hzero j hij hj

theorem popcWord_eq_countP (x : Word) : popcWord x = (List.range 64).countP fun i => x.getLsbD i := List.countP_eq_length_filter.symm

/-! ## Fields -/

theorem getLsbD_word (n : Nat) {j : Nat} (hj : j < 64) : (word n).getLsbD j = n.testBit j := by
  rw [word, BitVec.getLsbD_ofNat, decide_eq_true hj, Bool.true_and]
theorem getLsbD_bitField (x : Word) (p n : Nat) {j : Nat} (hj : j < 64) : (bitField x p n).getLsbD j = (decide (j < n) && x.getLsbD (p + j)) := by
  rw [bitField, getLsbD_word _ hj, bitsOf, Nat.testBit_mod_two_pow, Nat.testBit_div_two_pow, Nat.add_comm, BitVec.getLsbD]
/-- The mask of a field has its bits, so that the field comes from one word and the rest from the other. -/
theorem getLsbD_insertField (x v : Word) (p n : Nat) {j : Nat} (hj : j < 64) :
    (insertField x v p n).getLsbD j = if p ≤ j ∧ j < p + n then v.getLsbD (j - p) else x.getLsbD j := by
  have hmask : (word ((2 ^ n - 1) * 2 ^ p)).getLsbD j = decide (p ≤ j ∧ j < p + n) := by
    rw [getLsbD_word _ hj, Nat.testBit_mul_two_pow, Nat.testBit_two_pow_sub_one, ← Bool.decide_and, decide_eq_decide]
    omega
  simp only [insertField, BitVec.getLsbD_or, BitVec.getLsbD_and, BitVec.getLsbD_not, BitVec.getLsbD_shiftLeft, hmask, decide_eq_true hj]
  split_ifs with h
  · simp [h]
  · simp [h]

/-- Settles O4: the words of one result by `result_writes`, the counts and fields by what their bits are. -/
theorem immediateResults : Obligations.ImmediateResults := by
  refine ⟨fun s d a b c i n j => ?_, fun s d a p m h i => ⟨?clz, ?ctz, ?popc, fun hlen => ⟨?bfx, ?bfi⟩, ?lih⟩⟩
  case clz => exact ⟨_, _, rfl, writesReg_done s d _, clzWord_le _, fun _ => getLsbD_above_clzWord, getLsbD_at_clzWord⟩
  case ctz =>
    obtain ⟨hle, hzero, hone⟩ := ctzFrom_first (s.rs a) 64 0
    exact ⟨_, _, rfl, writesReg_done s d _, hle, fun i => hzero i i.zero_le, hone⟩
  case popc => exact result_writes_eq rfl (congrArg word (popcWord_eq_countP _))
  case bfx =>
    refine ⟨_, _, rfl, writesReg_done s d _, fun j hj => ?_⟩
    rw [getLsbD_bitField _ _ _ hj]
    simp only [Nat.lt_succ_iff]
  case bfi =>
    refine ⟨_, _, rfl, writesReg_done s d _, fun j hj => ?_⟩
    rw [getLsbD_insertField _ _ _ _ hj]
    simp only [← Nat.add_assoc, Nat.lt_succ_iff]
  case lih =>
    refine ⟨_, _, rfl, writesReg_done s d _, fun j hj => ?_⟩
    rw [getLsbD_insertField _ _ _ _ hj]
    split_ifs with hf
    · rw [BitVec.getLsbD_setWidth, decide_eq_true (by omega), Bool.true_and]
    · rfl
  · have w := result_writes s d
    exact ⟨w _, w _, w _, w _, w _, w _, w _, result_writes_eq rfl (bool1_eq_ite decide_eq_true_iff), w _, w _, w _⟩

end Sys2Proof.Safety
end

section
/-!
SUPPORT. Words that trap or return from a trap (R113, R114, R197, R199, R207, R211), and O10 and O12; NOP (R112), and O8.
-/
namespace Sys2Proof.Safety
open Sys2Proof.Machine

theorem bkpt_traps {s : State} (h : s.me.be = true) (c : BitVec 16) :
    exec (.bkpt c) s = .next (s.trapWith causeBreak s.iss.next (c.setWidth 64)) := congrArg Host.Outcome.next (if_pos h)
theorem bkpt_moves {s : State} (h : s.me.be = false) (c : BitVec 16) : exec (.bkpt c) s = .next s.done :=
  congrArg Host.Outcome.next (if_neg (Bool.eq_false_iff.mp h))

/-- A word whose first test is that a flag is set traps privilege where it is not. -/
theorem unset_traps {s : State} {i : Instr} {c : Bool} {v : Word} {t : State} (hi : exec i s = .next (if !c then s.trap causePrivilege v else t))
    (h : c = false) : ∃ t, exec i s = .next t ∧ Traps s t 3 s.iss.pos v := by
  subst h
  exact ⟨_, hi, traps_trap s _ _ _⟩
/-- SYSW of a register that only a privileged strand may write (R197). -/
theorem sysw_unprivileged_traps {s : State} {n : BitVec 12} (a : BitVec 5) (hn : isRwp n.toNat = true) (h : s.me.p = false) :
    ∃ t, exec (.sysw a n) s = .next t ∧ Traps s t 3 s.iss.pos (n.setWidth 64) := by
  have hc : (isRwp n.toNat && !s.me.p) = true := by rw [hn, h]; rfl
  exact ⟨_, congrArg Host.Outcome.next (if_pos hc), traps_trap s _ _ _⟩

/-- Settles O10: a privilege test comes first in each of these words. -/
theorem trapWordsTrap : Obligations.TrapWordsTrap := by
  refine ⟨fun s c => ⟨⟨_, rfl, traps_trap s _ _ _⟩, fun h => ⟨_, bkpt_traps h c, traps_trap s _ _ _⟩, fun h => ⟨_, bkpt_moves h c, moves_done s⟩⟩,
    fun s d a b => ⟨fun h => ?_, unset_traps rfl⟩⟩
  have sysw {n : BitVec 12} (hn : isRwp n.toNat = true) := sysw_unprivileged_traps a hn h
  exact ⟨unset_traps rfl h, unset_traps rfl h, unset_traps rfl h, unset_traps rfl h, unset_traps rfl h, unset_traps rfl h,
    sysw rfl, sysw rfl, sysw rfl, sysw rfl, sysw rfl, sysw rfl⟩

/-! ## ERET and NOP -/

theorem privWord_bits : ∀ be xh pp p : Bool, (privWord be xh pp p).getLsbD 0 = p ∧ (privWord be xh pp p).getLsbD 1 = pp ∧
    (privWord be xh pp p).getLsbD 2 = xh ∧ (privWord be xh pp p).getLsbD 3 = be := by
  decide
theorem eret_returns {s : State} (hp : s.me.p = true) (h : s.me.xpc.toNat % 4 = 0) : exec .eret s = .next s.eret := by
  change execEret s = _
  rw [execEret, hp]
  exact transfer_aligned h
theorem eret_misaligned {s : State} (hp : s.me.p = true) (h : s.me.xpc.toNat % 4 ≠ 0) :
    exec .eret s = .next (s.trap causeBundle s.me.xpc) := by
  change execEret s = _
  rw [execEret, hp]
  exact transfer_misaligned h

/-- Settles O12: the three outcomes of ERET, and the bits of the PRIV that it leaves. -/
theorem eretReturns : Obligations.EretReturns := by
  intro s x
  refine ⟨fun hp h => ?_, fun hp h => ⟨_, eret_misaligned hp h, traps_trap s _ _ _⟩, unset_traps rfl⟩
  obtain ⟨hP, hPP, hXH, hBE⟩ := privWord_bits x.be false x.pp x.pp
  exact ⟨_, _, eret_returns hp h, performed_goto s _ _, hP, hPP, hXH, hBE⟩

/-- Settles O8: NOP is the move to the next position, and the decoder reads both words as it. -/
theorem nopMovesOn : Obligations.NopMovesOn :=
  ⟨fun s => ⟨_, rfl, moves_done s⟩, by decide, by decide⟩

end Sys2Proof.Safety
end

section
/-!
SUPPORT. System registers (R131, R196 to R198, R226, R230), and O16 and O17.
-/
namespace Sys2Proof.Safety
open Sys2Proof.Machine

theorem key_div (s : State) (h : s.iss.slot < 16) : s.key / 16 = s.pt := by
  simp only [State.key, State.pt]
  omega
theorem key_mod (s : State) (h : s.iss.slot < 16) : s.key % 16 = s.iss.slot := by
  simp only [State.key]
  omega
/-- SYSR writes the value of its number. -/
theorem sysr_writes {s : State} {d : BitVec 5} {n : BitVec 12} {v : Word} (h : s.sysreg s.key n.toNat = v) :
    ∃ u, exec (.sysr d n) s = .next u ∧ WritesReg s u d v s.iss.next :=
  h ▸ ⟨_, rfl, writesReg_done s d _⟩

/-- Settles O16, number by number. -/
theorem sysrReadsEveryRegister : Obligations.SysrReadsEveryRegister := by
  intro s d x t R hslot
  have hpt := key_div s hslot
  have hs := key_mod s hslot
  have tile (f : Strand → Tile → Word) : f (s.strand s.key) (s.tile (s.key / 16)) = f x t := by rw [hpt]; rfl
  exact ⟨sysr_writes rfl, sysr_writes rfl, sysr_writes rfl, sysr_writes rfl, sysr_writes rfl, sysr_writes rfl, sysr_writes rfl,
    sysr_writes rfl, sysr_writes rfl, sysr_writes rfl, sysr_writes rfl, sysr_writes rfl, sysr_writes (tile evtWord), sysr_writes rfl,
    sysr_writes (congrArg (strandId x) hs), sysr_writes rfl, sysr_writes (congrArg s.topo hpt), sysr_writes (congrArg s.grade hpt),
    sysr_writes (tile fun _ t => t.drift.setWidth 64), sysr_writes (congrArg (fun p => word (s.rtc p)) hpt),
    sysr_writes (tile fun _ t => word (t.turns * 2 ^ 16 + turnMask t.turns)), sysr_writes (tile fun _ t => t.temp.setWidth 64),
    sysr_writes (tile fun _ t => t.mlat), sysr_writes (tile fun _ t => t.latedrop.setWidth 64)⟩

/-- SYSW of a number that is writable to the strand writes it and moves on (R197). -/
theorem sysw_writes (s : State) (a : BitVec 5) {n : BitVec 12} (h : isRwp n.toNat = false ∨ s.me.p = true) :
    exec (.sysw a n) s = .next (s.writeSysreg n.toNat (s.rs a)).done := by
  have hc : ¬(isRwp n.toNat && !s.me.p) = true := by
    rcases h with h | h <;> simp [h]
  exact congrArg Host.Outcome.next (if_neg hc)
theorem sysw_performs {s : State} (a : BitVec 5) {n : BitVec 12} {y : Strand} (h : isRwp n.toNat = false ∨ s.me.p = true)
    (hy : s.writeSysreg n.toNat (s.rs a) = s.setMe y) : ∃ t, exec (.sysw a n) s = .next t ∧ Performed s t { y with pc := s.iss.next } :=
  ⟨_, sysw_writes s a h, hy ▸ performed_done s y⟩
/-- The read-only numbers that O17 names. -/
theorem sysw_readOnly (s : State) (v : Word) : ∀ n ∈ ([0x002, 0x012, 0x020, 0x021, 0x034, 0x036, 0x037, 0x100, 0x101, 0x102, 0x103, 0x104,
    0x105, 0x106] : List (BitVec 12)), isRwp n.toNat = false ∧ s.writeSysreg n.toNat v = s := by
  simp only [List.forall_mem_cons]
  exact ⟨⟨rfl, rfl⟩, ⟨rfl, rfl⟩, ⟨rfl, rfl⟩, ⟨rfl, rfl⟩, ⟨rfl, rfl⟩, ⟨rfl, rfl⟩, ⟨rfl, rfl⟩, ⟨rfl, rfl⟩, ⟨rfl, rfl⟩, ⟨rfl, rfl⟩, ⟨rfl, rfl⟩,
    ⟨rfl, rfl⟩, ⟨rfl, rfl⟩, ⟨rfl, rfl⟩, nofun⟩

/-- A tile whose LATEDROP is written in cycle c: the late replies of that cycle are counted after the write (R230). -/
def lateWritten (v : Word) (c : Nat) (t : Tile) : Tile :=
  { t with latedrop := BitVec.ofNat 32 (min 0xFFFFFFFF (v.toNat % 2 ^ 32 + (if t.lateAt = c then t.lateNow else 0))) }
/-- A word that changes its tile and moves on. -/
theorem tileChanged_done (s : State) (f : Tile → Tile) :
    (s.modTile s.pt f).done.tile s.pt = f (s.tile s.pt) ∧ (∀ p, p ≠ s.pt → (s.modTile s.pt f).done.tile p = s.tile p) ∧
    (s.modTile s.pt f).done.strand s.key = { s.me with pc := s.iss.next } ∧ StrandsKeptBut s (s.modTile s.pt f).done s.key ∧
    MemKept s (s.modTile s.pt f).done :=
  ⟨State.tile_modTile s s.pt f, fun _ hp => State.tile_modTile_other s f hp, State.strand_setStrand _ _ _,
    fun _ hk => State.strand_setStrand_other s _ hk, .of_eq rfl⟩

/-- Settles O17: each write is one of the strand or the tile, then the move to the next position. -/
theorem syswWritesAndIgnores : Obligations.SyswWritesAndIgnores := by
  intro s a x A rm P
  refine ⟨sysw_performs a (.inl rfl) rfl, fun n hn => ?_, fun hp => ⟨sysw_performs a (.inr hp) rfl, sysw_performs a (.inr hp) rfl,
    sysw_performs a (.inr hp) rfl, sysw_performs a (.inr hp) rfl, sysw_performs a (.inr hp) rfl, ?_⟩, ⟨_, rfl, performed_done s _⟩⟩
  · obtain ⟨hr, hw⟩ := sysw_readOnly s A n hn
    exact ⟨_, sysw_writes s a (.inl hr), hw.symm ▸ moves_done s⟩
  · obtain ⟨htile, hother, hme, hstrands, hmem⟩ := tileChanged_done s (lateWritten A (s.cycle s.pt))
    refine ⟨_, sysw_writes s a (.inr hp), ?_, ?_, hother, hme, hstrands, hmem, rfl⟩
    · exact htile.trans (congrArg (fun n => { s.tile s.pt with latedrop := n }) (congrArg Tile.latedrop htile).symm)
    · exact congrArg Tile.latedrop htile

end Sys2Proof.Safety
end

section
/-!
SUPPORT. Words that raise flags (R130 to R132), the scalar conversions of R138, and O40.
-/
namespace Sys2Proof.Safety
open Sys2Proof.Machine

theorem writesFlagged_done (s : State) (d : BitVec 5) (v : Word) (f : Flags) : WritesFlagged s ((s.setS d v).raise f).done d v f := by
  have h : (s.setS d v).raise f = s.setMe { s.me.setReg d v with fcsr := (s.me.setReg d v).fcsr ||| f.setWidth 64 } := by
    rw [State.raise, State.me_setS, State.setS, setMe_setMe]
  rw [h]
  refine ⟨_, performed_done s _, ?_, Strand.reg_setReg s.me d v⟩
  rw [Strand.setReg_s]

/-- The value that an integer operand of a scalar conversion has (R138). -/
theorem toSigned_eq_toInt {n : Nat} (hn : 0 < n) (x : Nat) : toSigned n x = (BitVec.ofNat n x).toInt := by
  obtain ⟨k, rfl⟩ := Nat.exists_eq_succ_of_ne_zero hn.ne'
  have hpow : 2 ^ (k + 1) = 2 * 2 ^ k := Nat.pow_succ'
  have hlt : x % 2 ^ (k + 1) < 2 ^ (k + 1 - 1) ↔ 2 * (x % 2 ^ (k + 1)) < 2 ^ (k + 1) := by
    rw [Nat.add_sub_cancel]
    omega
  rw [toSigned, BitVec.toInt_eq_toNat_cond, BitVec.toNat_ofNat]
  simp only [hlt]
theorem scalarBits_pos (t : Nat) : 0 < scalarBits t := by
  unfold scalarBits
  split <;> decide

theorem scalarBits_le (t : Nat) : scalarBits t ≤ 64 := by
  unfold scalarBits
  split <;> decide

/-- A conversion whose result and flags are known. -/
theorem fcvt_writes {s : State} (d a : BitVec 5) {t u : BitVec 3} (r : BitVec 3) (e : BitVec 1) {v : Word} {f : Flags}
    (h : convertScalar t.toNat u.toNat (s.mode r) (e == 1) (s.rs a).toNat = (v, f)) :
    ∃ w, exec (.fcvt d a t u r e) s = .next w ∧ WritesFlagged s w d v f := by
  refine ⟨_, rfl, ?_⟩
  rw [h]
  exact writesFlagged_done s d v f
theorem convertScalar_float {t u : BitVec 3} (mode : Nat) (e : BitVec 1) (x : Nat) (ht : t.toNat < 4) (hu : u.toNat < 4) :
    let r := (ffmt t.toNat).convert (ffmt u.toNat) mode (decide (e = 1 ∧ ¬(t.toNat < u.toNat ∧ ¬(t = 2 ∧ u = 3)))) x
    convertScalar t.toNat u.toNat mode (e == 1) x = (word r.1, r.2) := by
  have h2 : t = 2 ↔ t.toNat = 2 := BitVec.toNat_inj.symm
  have h3 : u = 3 ↔ u.toNat = 3 := BitVec.toNat_inj.symm
  have hsat : (e == 1 && !decide (t.toNat < u.toNat ∧ ¬(t.toNat = 2 ∧ u.toNat = 3))) =
      decide (e = 1 ∧ ¬(t.toNat < u.toNat ∧ ¬(t = 2 ∧ u = 3))) := by
    rw [Bool.eq_iff_iff]
    simp only [Bool.and_eq_true, Bool.not_eq_true', decide_eq_false_iff_not, beq_iff_eq, decide_eq_true_iff, h2, h3]
  rw [convertScalar, if_pos ⟨ht, hu⟩, hsat]
theorem convertScalar_ofInteger {t u : Nat} (mode : Nat) (sat : Bool) (x : Nat) (ht : t < 4) (hu : 4 ≤ u) :
    let r := (ffmt t).ofInteger mode sat
      (if scalarSigned u then (BitVec.ofNat (scalarBits u) x).toInt else ((x % 2 ^ scalarBits u : Nat) : Int))
    convertScalar t u mode sat x = (word r.1, r.2) := by
  intro r
  rw [convertScalar, if_neg (show ¬(t < 4 ∧ u < 4) by omega), if_pos ht]
  simp only [toSigned_eq_toInt (scalarBits_pos u)]
  rfl
theorem convertScalar_toInt {t : Nat} (u mode : Nat) (sat : Bool) (x : Nat) (ht : 4 ≤ t) :
    let r := (ffmt u).toInt (scalarBits t) (scalarSigned t) mode sat x
    convertScalar t u mode sat x = (extend (scalarSigned t) (scalarBits t) r.1, r.2) := by
  rw [convertScalar, if_neg (by omega), if_neg (by omega)]
/-- The integer that a word of 64 bits holds once its low n bits are extended. -/
theorem extend_value (sx : Bool) {n : Nat} (hn : 0 < n) (hle : n ≤ 64) (x : Nat) :
    if sx then (extend sx n x).toInt = (BitVec.ofNat n (x % 2 ^ n)).toInt else (extend sx n x).toNat = x % 2 ^ n := by
  have hpow : 2 ^ n ≤ 2 ^ 64 := Nat.pow_le_pow_right two_pos hle
  have hmod : x % 2 ^ n < 2 ^ n := Nat.mod_lt _ (by positivity)
  cases sx
  · exact Nat.mod_eq_of_lt (hmod.trans_le hpow)
  · have hx : BitVec.ofNat n (x % 2 ^ n) = BitVec.ofNat n x := BitVec.eq_of_toNat_eq (by simp)
    have hlow := BitVec.le_toInt (BitVec.ofNat n x)
    have hhigh := BitVec.toInt_lt (x := BitVec.ofNat n x)
    have hhalf : (2 : Int) ^ (n - 1) ≤ 2 ^ 63 := by exact_mod_cast Nat.pow_le_pow_right two_pos (by omega : n - 1 ≤ 63)
    rw [if_pos rfl, extend, if_pos rfl, hx, toSigned_eq_toInt hn, BitVec.toInt_ofInt]
    exact Int.bmod_eq_of_le (by omega) (by omega)

/-- Settles O40: each word's result is the model's arithmetic, FCMP's and FCVT's once written as the statement has them. -/
theorem scalarFloats : Obligations.ScalarFloats := by
  intro s d a b f r c t u e F M x y R
  have w (v : Nat × Flags) : ∃ t, s.fresult d v = .next t ∧ WritesFlagged s t d (BitVec.ofNat 64 v.1) v.2 :=
    ⟨_, rfl, writesFlagged_done s d _ _⟩
  refine ⟨w _, w _, w _, w _, w _, w _, w _, w _, result_writes s d _, ?fcmp, fun ht hu => ?float, fun ht hu => ?ofInteger, fun ht => ?toInt⟩
  case fcmp =>
    have hb (p : Bool) : p.toNat = if p then 1 else 0 := by cases p <;> rfl
    exact hb (F.cmpPat c.toNat x y).1 ▸ w _
  case float => exact fcvt_writes d a r e (convertScalar_float _ _ _ ht hu)
  case ofInteger => exact fcvt_writes d a r e (convertScalar_ofInteger _ _ _ ht hu)
  case toInt =>
    obtain ⟨w, hw, hf⟩ := fcvt_writes d a r e (convertScalar_toInt u.toNat _ _ _ ht)
    exact ⟨w, _, hw, hf, extend_value _ (scalarBits_pos _) (scalarBits_le _) _⟩

end Sys2Proof.Safety
end

section
/-!
SUPPORT. The write of a vector register by a word, lane by lane (R140, R141, R143, R161), and O39.
-/
namespace Sys2Proof.Safety
open Sys2Proof.Machine

/-! ## Numbers made of lanes -/

theorem lane_ofLanes (n : Nat) : ∀ (xs : List Nat) (i : Nat), lane n i (ofLanes n xs) = xs.getD i 0 % 2 ^ n
  | [], i => by simp [ofLanes, lane]
  | x :: xs, 0 => by
    rw [ofLanes, lane, Nat.mul_zero, Nat.pow_zero, Nat.div_one, Nat.add_mul_mod_self_left, Nat.mod_mod, List.getD_cons_zero]
  | x :: xs, i + 1 => by
    have hdiv : (x % 2 ^ n + 2 ^ n * ofLanes n xs) / 2 ^ n = ofLanes n xs := by
      rw [Nat.add_mul_div_left _ _ (by positivity), Nat.div_eq_of_lt (Nat.mod_lt _ (by positivity)), Nat.zero_add]
    rw [ofLanes, lane, Nat.mul_succ, Nat.add_comm (n * i), Nat.pow_add, ← Nat.div_div_eq_div_mul, hdiv, List.getD_cons_succ]
    exact lane_ofLanes n xs i
theorem ofLanes_lt (n : Nat) : ∀ xs : List Nat, ofLanes n xs < 2 ^ (n * xs.length)
  | [] => by simp [ofLanes]
  | x :: xs => by
    rw [ofLanes, List.length_cons, Nat.mul_succ, Nat.pow_add, Nat.add_comm]
    exact Nat.mul_add_lt_mul_of_lt_of_lt (ofLanes_lt n xs) (Nat.mod_lt _ (by positivity))
/-- A lane of a register of w bits made of the lanes f. -/
theorem lane_register (w n : Nat) (f : Nat → Nat) {i : Nat} (hi : i < w / n) :
    lane n i (BitVec.ofNat w (ofLanes n ((List.range (w / n)).map f))).toNat = f i % 2 ^ n := by
  have hfit : ofLanes n ((List.range (w / n)).map f) < 2 ^ w := by
    refine (ofLanes_lt _ _).trans_le (Nat.pow_le_pow_right two_pos ?_)
    rw [List.length_map, List.length_range]
    exact Nat.mul_div_le w n
  rw [BitVec.toNat_ofNat, Nat.mod_eq_of_lt hfit, lane_ofLanes, List.getD_eq_getElem _ _ (by simpa using hi)]
  simp

/-! ## Tile operations between the reads and the write leave the issue as it is -/

theorem foldl_iss {α : Type} {f : State → α → State} (hf : ∀ s a, (f s a).iss = s.iss) (l : List α) (s : State) :
    (l.foldl f s).iss = s.iss := by
  induction l generalizing s with
  | nil => rfl
  | cons a l ih => exact (ih _).trans (hf s a)
@[simp] theorem gridMap_iss (s : State) (k : Nat) (f : Nat → Nat → Nat → Nat × Flags) : (s.gridMap k f).1.iss = s.iss := by
  unfold State.gridMap
  exact foldl_iss (by intros; rfl) _ s
@[simp] theorem applyMop_iss (s : State) (o : TileOp) (neg : Bool) (mf : Nat) (a b : VReg) (qa qb : Wide) (kc : Nat) :
    (s.applyMop o neg mf a b qa qb kc).1.iss = s.iss := gridMap_iss s _ _
@[simp] theorem raiseTile_iss (s : State) (k : Nat) (f : Flags) : (s.raiseTile k f).iss = s.iss := rfl
@[simp] theorem tocDone_iss (s : State) (k : Nat) : (s.tocDone k).iss = s.iss := rfl
@[simp] theorem modOp_iss (s : State) (oid : Nat) (f : Op → Op) : (s.modOp oid f).iss = s.iss := rfl
@[simp] theorem vsets_iss (s : State) (k v : Nat) (x : Nat → VReg) (l : List Nat) :
    (l.foldl (fun (t : State) r => t.vset k (v + r) (x r)) s).iss = s.iss :=
  foldl_iss (by intros; rfl) l s
@[simp] theorem postAll_iss (s : State) (p : Part) (ps : List (Home × Act)) : (s.postAll p ps).iss = s.iss := by
  obtain ⟨q, hq, -⟩ := postAll_posts p ps s
  rw [hq]
theorem applyTile_iss (s : State) (o : TileOp) : (s.applyTile o).iss = s.iss := by
  unfold State.applyTile
  extract_lets s0 mf regs mode
  have h0 : s0.iss = s.iss := rfl
  clear_value s0
  split
  · simp [h0]
  · simp [h0]
  · simp [h0]
  · simp [h0]
  · split
    · simp [h0]
    · dsimp only
      split <;> simp [h0]
  · simp [h0]
theorem applyTiles_iss (s : State) (k n : Nat) : (s.applyTiles k n).iss = s.iss := by
  induction n generalizing s with
  | zero => rfl
  | succ n ih =>
    unfold State.applyTiles
    split
    · rfl
    · split
      · exact (ih _).trans (applyTile_iss _ _)
      · rfl
theorem lagged_iss (s : State) : s.lagged.iss = s.iss := applyTiles_iss ..
theorem lagged_key (s : State) : s.lagged.key = s.key := by rw [State.key, lagged_iss, State.key]

/-! ## The write -/

/-- A word that writes one vector register after the tile operations of R161, raises flags and moves on. -/
theorem writesV_done (s : State) (v : BitVec 7) (x : VReg) (f : Flags) :
    WritesV s ((s.lagged.vset s.key v.toNat x).raise f).done v x f := by
  have hiss := lagged_iss s
  have hkey := lagged_key s
  have hmem := State.lagged_mem s
  unfold WritesV
  generalize s.lagged = u at hiss hkey hmem
  have hdone : ((u.vset s.key v.toNat x).raise f).done = { u with
      vregs := SMap.put u.vregs (vIndex s.key (u.strand s.key) v.toNat) x
      strands := SMap.put u.strands s.key { u.strand s.key with fcsr := (u.strand s.key).fcsr ||| f.setWidth 64, pc := s.iss.next }
      iss := { s.iss with res := .done } } := by
    rw [State.raise, State.done, State.me_setMe, setMe_setMe, State.setMe, State.vset_key, hkey, State.me, State.vset_key, hkey, ← hiss]
    rfl
  have hst : ((u.vset s.key v.toNat x).raise f).done.strand s.key =
      { u.strand s.key with fcsr := (u.strand s.key).fcsr ||| f.setWidth 64, pc := s.iss.next } := by
    rw [hdone]
    exact SMap.get_put_self ..
  refine ⟨?_, fun e he => ?_, hst, fun k hk => ?_, .of_eq ?_, ?_⟩
  · rw [State.vget, hst, hdone]
    exact SMap.get_put_self ..
  · rw [hdone]
    exact SMap.get_put_other _ _ _ he
  · rw [hdone]
    exact SMap.get_put_other _ _ _ hk
  · rw [hdone]
    exact hmem
  · rw [hdone]
/-- A word that writes the lanes that f gives. -/
theorem writesLanes_done (s : State) (v : BitVec 7) (n : Nat) (f : Nat → Option Nat) (fl : Flags) :
    WritesLanes s ((s.setLanes v n ((List.range (512 / n)).map f)).raise fl).done v n f fl := by
  refine ⟨_, lagged_key s ▸ writesV_done s v _ fl, fun i hi => ?_⟩
  rw [laneList, List.zipWith_map, List.zipWith_self, lane_register _ n _ hi]
  rfl

/-! ## Flags of several elements (R143) -/

theorem orFlags_map {α : Type} (l : List α) (f : α → Flags) : orFlags (l.map f) = l.foldl (fun fl i => fl ||| f i) 0 := by
  rw [orFlags, List.foldl_map]

/-- Lanes computed under the m bit. -/
theorem mapLanes_writes (s : State) (d : BitVec 7) (n : Nat) (m : BitVec 1) (f : Nat → Nat × Flags) :
    WritesLanes s (s.mapLanes d n m f) d n (fun i => if s.on m i then some (f i).1 else none)
      ((List.range (512 / n)).foldl (fun fl i => if s.on m i then fl ||| (f i).2 else fl) 0) := by
  have hlane (i : Nat) : ((if s.on m i then some (f i) else none : Option (Nat × Flags)).map Prod.fst) = if s.on m i then some (f i).1 else none := by
    split <;> rfl
  have hflag (fl : Flags) (i : Nat) : (fl ||| (((if s.on m i then some (f i) else none : Option (Nat × Flags)).map Prod.snd).getD 0)) =
      if s.on m i then fl ||| (f i).2 else fl := by
    split
    · rfl
    · exact BitVec.or_zero
  simp only [State.mapLanes, List.map_map, Function.comp_def, orFlags_map, hlane, hflag]
  exact writesLanes_done ..
/-- Lanes computed with every one of them on. -/
theorem mapLanes_writes_all (s : State) (d : BitVec 7) (n : Nat) (f : Nat → Nat × Flags) :
    WritesLanes s (s.mapLanes d n 0 f) d n (fun i => some (f i).1) ((List.range (512 / n)).foldl (fun fl i => fl ||| (f i).2) 0) :=
  mapLanes_writes s d n 0 f
/-- Elements converted as g says of what an element can be, the rest of the destination 0. -/
theorem convertElems_writes (s : State) (d a : BitVec 7) (count n n' : Nat) {f g : Nat → Nat × Flags} (h : ∀ v, v < 2 ^ n → f v = g v) :
    WritesLanes s (s.convertElems d a count n n' f) d n' (fun i => some (if i < count then (g (lane n i (s.vs a).toNat)).1 else 0))
      ((List.range count).foldl (fun fl i => fl ||| (g (lane n i (s.vs a).toNat)).2) 0) := by
  have hg (i : Nat) : f (s.lane a n i) = g (lane n i (s.vs a).toNat) := h _ (Nat.mod_lt _ (by positivity))
  have helem (i : Nat) : (((List.range count).map (fun i => g (lane n i (s.vs a).toNat)))[i]?.map Prod.fst).getD 0 =
      if i < count then (g (lane n i (s.vs a).toNat)).1 else 0 := by
    by_cases hi : i < count
    · simp [hi]
    · simp [hi]
  have hw := writesLanes_done s d n' (fun i => some (if i < count then (g (lane n i (s.vs a).toNat)).1 else 0))
    ((List.range count).foldl (fun fl i => fl ||| (g (lane n i (s.vs a).toNat)).2) 0)
  simp only [← helem] at hw
  simp only [State.convertElems, hg, ← helem, List.map_map, orFlags_map, Function.comp_def]
  exact hw

theorem elemBits_eq (x : Nat) : elemBits x = if x = 0 then 64 else if x = 1 then 32 else if x = 2 ∨ x = 3 then 16 else if x = 8 then 4 else 8 := by
  unfold elemBits
  split <;> simp_all
/-- An element of n bits read as two's complement, as O39 writes it. -/
theorem toSigned_elem {n v : Nat} (h : v < 2 ^ n) : toSigned n v = if 2 ^ (n - 1) ≤ v then (v : Int) - (2 ^ n : Nat) else v := by
  rw [toSigned, Nat.mod_eq_of_lt h]
  split_ifs <;> omega
/-- Settles O39: the elements of each conversion, and the lanes of VSCALE, all of them on. -/
theorem conversions : Obligations.Conversions := by
  intro s d a f w x t r q e M E xf xb xc n ib sg
  have hx : xb = elemBits xf := (elemBits_eq xf).symm
  clear_value xb
  subst hx
  have c (count n n' : Nat) (g : Nat → Nat × Flags) {f : Nat → Nat × Flags} := convertElems_writes s d a count n n' (f := f) (g := g)
  refine ⟨?widen, ?narrow, ?toInt, ?ofInteger, ?scale⟩
  case widen =>
    refine ⟨_, rfl, c _ _ _ _ fun v _ => ?_⟩
    have hsat : (e == 1 && !decide (1 < xf)) = decide (e = 1 ∧ xf ≤ 1) := by
      rw [Bool.eq_iff_iff]
      simp
    exact congrArg (fun b => (ffmt 1).convert (ffmt xf) (s.mode r) b v) hsat
  case narrow =>
    refine ⟨_, rfl, c _ _ _ _ fun v _ => ?_⟩
    exact congrArg (fun b => (ffmt xf).convert (ffmt 1) (s.mode r) b v) (Bool.and_true _)
  case toInt => exact ⟨_, rfl, c _ _ _ _ fun v _ => rfl⟩
  case ofInteger =>
    refine ⟨_, rfl, c _ ib n (fun v => (laneFmt f).ofInteger M (decide (e = 1))
      (if sg = true ∧ 2 ^ (ib - 1) ≤ v then (v : Int) - (2 ^ ib : Nat) else v)) fun v hlt => ?_⟩
    have hv : (if intSigned t then toSigned ib v else (v : Int)) = if sg = true ∧ 2 ^ (ib - 1) ≤ v then (v : Int) - (2 ^ ib : Nat) else v := by
      rw [toSigned_elem hlt, ite_and]
      rfl
    exact congrArg ((laneFmt f).ofInteger (s.mode r) (e == 1)) hv
  case scale => exact ⟨_, rfl, mapLanes_writes_all s d _ _⟩

end Sys2Proof.Safety
end

section
/-!
SUPPORT. Loads and stores that convert (R119 to R122, R257), and O21.
-/
namespace Sys2Proof.Safety
open Sys2Proof.Machine

/-- A relaxed load of the issuing strand. -/
theorem relaxedLoad_issues (s : State) (l : Land) (ps : List (Int × Nat)) (n : Nat) (fin : Ending) (addr : Word) :
    Issues s (s.issueLoad l ps n fin addr relaxed).done (some .ldc) fin
      ((lines s.pt l ps).map (fun x => (x.1, Act.read x.2, gatesFor s.me.gates 1))) := load_issues s l ps n fin addr relaxed
/-- A store whose completion raises flags. -/
theorem storeFlags_issues (s : State) (l : Land) (ps : List (Int × Nat)) (bs : List Byte) (f : Flags) (h : s.full .stc = false) :
    Issues s (s.storeFlags l ps bs f) (some .stc) (.flags f)
      ((lines s.pt l ps).map (fun x => (x.1, Act.write (cellsOf bs x.2), gatesFor s.me.gates 2))) := by
  have hi := ((issueOp_issued s { oid := 0, party := .strand 0, rcb := 0, cls := some .stc, fin := .flags f }
    clsW relaxed 0 (landRoot l) true ((lines s.pt l ps).map (fun x => (x.1, Act.write (cellsOf bs x.2))))).touch (issueOp_regions ..)).done
  rw [map_map_rd _ (fun q => Act.write (cellsOf bs q))] at hi
  rw [State.storeFlags, h, if_neg Bool.false_ne_true]
  exact hi
/-- A load whose access stays on the panel. -/
theorem loadAccesses {s : State} {i : Instr} {a : Access} {fin : Ending} (n : Nat) (addr : Word)
    (hi : exec i s = .next (s.access a (fun l => if s.full .ldc then s.block else (s.issueLoad l a.pieces n fin addr relaxed).done)))
    (hc : a.crossOk = false) : Accesses s i a .ldc fin Act.read (gatesFor s.me.gates 1) := by
  refine accesses_of _ hi (fun l _ => ?_) (fun l _ hf => ?_) (fun h => absurd h (by rw [hc]; decide))
  · split_ifs <;> rfl
  · rw [hf, if_neg Bool.false_ne_true]
    exact relaxedLoad_issues s l _ n fin addr
/-- A store whose access stays on the panel. -/
theorem storeAccesses {s : State} {i : Instr} {a : Access} (bs : List Byte) (f : Flags)
    (hi : exec i s = .next (s.access a (fun l => s.storeFlags l a.pieces bs f))) (hc : a.crossOk = false) :
    Accesses s i a .stc (.flags f) (fun q => Act.write (cellsOf bs q)) (gatesFor s.me.gates 2) := by
  refine accesses_of _ hi (fun l _ => ?_) (fun l _ hf => storeFlags_issues s l _ bs f hf) (fun h => absurd h (by rw [hc]; decide))
  split_ifs with hf
  · rw [State.storeFlags, hf, if_pos rfl]
  · rfl

theorem toNat_ne_zero {n : Nat} {f : BitVec n} (h : f ≠ 0) : f.toNat ≠ 0 := fun h0 => h (BitVec.eq_of_toNat_eq (by simpa using h0))

/-- VLDF and VSTF with a format of the register, the access and the format of memory known (R257). -/
theorem vldf_eq {s : State} {v : BitVec 7} {b : BitVec 5} {r : BitVec 3} {x : BitVec 1} {f : BitVec 5} (hf : f ≠ 0) {m : Nat} {a : Access}
    (hq : s.formatAccess (s.rs b) f.toNat (regElems f.toNat) .read = (m, a)) : exec (.vldf v b r x f) s = .next (s.access a (fun l =>
      if s.full .ldc then s.block else (s.issueLoad l a.pieces (a.pieces.map Prod.snd).sum
        (.conv v m f.toNat (BitVec.ofNat 3 (s.mode r)) (x == 1)) (addrXval (s.rs b) a.o) relaxed).done)) := by
  change execVldf v b r x f s = _
  simp only [execVldf, hq, if_neg hf]
theorem vstf_eq {s : State} {v : BitVec 7} {b : BitVec 5} {r : BitVec 3} {x : BitVec 1} {f : BitVec 5} (hf : f ≠ 0) {m : Nat} {a : Access}
    (hq : s.formatAccess (s.rs b) f.toNat (regElems f.toNat) .write = (m, a)) : exec (.vstf v b r x f) s = .next (s.access a (fun l =>
      let c := convertBytes f.toNat m (s.mode r) (x == 1) (regElems f.toNat) (toBytes 64 (s.vs v).toNat)
      s.storeFlags l a.pieces c.1 c.2)) := by
  change execVstf v b r x f s = _
  simp only [execVstf, hq, if_neg hf]

/-- Settles O21: the access of each form is the model's, with the format of the register where the pointer gives none. -/
theorem convertingAccessesIssue : Obligations.ConvertingAccessesIssue := by
  intro s v q b r x f P o m ok A whole wr bs cv
  refine ⟨?vldf0, fun hf => ?vldf, ?vldfScales, ?vstf0, fun hf => ?vstf, ?vstfScales⟩
  case vldf0 => exact loadAccesses _ _ rfl rfl
  case vldf => exact loadAccesses _ _ (vldf_eq hf (if_neg (toNat_ne_zero hf))) rfl
  case vldfScales => exact loadAccesses _ _ rfl rfl
  case vstf0 => exact storeAccesses _ _ rfl rfl
  case vstf => exact storeAccesses _ _ (vstf_eq hf (if_neg (toNat_ne_zero hf))) rfl
  case vstfScales => exact storeAccesses _ _ rfl rfl

end Sys2Proof.Safety
end

section
/-!
SUPPORT. The fields of a float pattern and the value that it has (R115 to R119).
-/
namespace Sys2Proof.Safety
open Sys2Proof.Machine

/-! ## Formats -/

/-- What the arithmetic needs of a format. -/
structure FmtOk (t : FFmt) : Prop where
  two_le_e : 2 ≤ t.e
  one_le_f : 1 ≤ t.f
  f_le : t.f ≤ 52
  ieee : t.special = .ieee → 2 ≤ t.f
  e4m3 : t.special = .e4m3 → t.e = 4 ∧ t.f = 3 ∧ t.bias = 7

theorem ffmt_ok (c : Nat) : FmtOk (ffmt c) := by
  unfold ffmt
  split <;> exact ⟨by decide, by decide, by decide, by decide, by decide⟩
theorem laneFmt_ok (w : BitVec 2) : FmtOk (laneFmt w) := ffmt_ok _
theorem laneFmt_ieee : ∀ w : BitVec 2, (laneFmt w).special = .ieee := by decide

/-! ## Fields -/

theorem bitOf_toNat (i x : Nat) : (bitOf i x).toNat = x / 2 ^ i % 2 := by
  unfold bitOf
  obtain h | h := Nat.mod_two_eq_zero_or_one (x / 2 ^ i) <;> simp [h]

section
variable {t : FFmt} {neg : Bool} {ex fr : Nat}

theorem pack_mod (hfr : fr < 2 ^ t.f) : t.pack neg ex fr % 2 ^ t.f = fr := by
  rw [FFmt.pack, Nat.pow_add, ← Nat.mul_assoc, ← Nat.add_mul, Nat.mul_add_mod_of_lt hfr]
theorem pack_div (hfr : fr < 2 ^ t.f) : t.pack neg ex fr / 2 ^ t.f = neg.toNat * 2 ^ t.e + ex := by
  rw [FFmt.pack, Nat.pow_add, ← Nat.mul_assoc, ← Nat.add_mul, Nat.mul_comm, Nat.mul_add_div (by positivity), Nat.div_eq_of_lt hfr, Nat.add_zero]
theorem bitsOf_pack (hex : ex < 2 ^ t.e) (hfr : fr < 2 ^ t.f) : bitsOf t.f t.e (t.pack neg ex fr) = ex := by
  rw [bitsOf, pack_div hfr, Nat.mul_add_mod_of_lt hex]
theorem bitOf_pack (hex : ex < 2 ^ t.e) (hfr : fr < 2 ^ t.f) : bitOf (t.e + t.f) (t.pack neg ex fr) = neg := by
  rw [bitOf, Nat.add_comm, Nat.pow_add, ← Nat.div_div_eq_div_mul, pack_div hfr, Nat.mul_comm, Nat.mul_add_div (by positivity),
    Nat.div_eq_of_lt hex]
  cases neg <;> rfl
theorem pack_lt (hex : ex < 2 ^ t.e) (hfr : fr < 2 ^ t.f) : t.pack neg ex fr < 2 ^ t.bits := by
  have hlow : ex * 2 ^ t.f + fr < 2 ^ (t.e + t.f) := by
    rw [Nat.pow_add, Nat.mul_comm ex]
    exact Nat.mul_add_lt_mul_of_lt_of_lt hex hfr
  have hneg : neg.toNat ≤ 1 := Bool.toNat_le neg
  have hsum := Nat.mul_le_mul_right (2 ^ (t.e + t.f)) hneg
  rw [FFmt.pack, FFmt.bits, Nat.add_assoc 1, Nat.pow_add 2 1]
  omega
end

/-- A pattern is its three fields, put together. -/
theorem pack_fields (t : FFmt) (a : Nat) : t.pack (bitOf (t.e + t.f) a) (bitsOf t.f t.e a) (a % 2 ^ t.f) = a % 2 ^ t.bits := by
  rw [FFmt.pack, FFmt.bits, bitOf_toNat, bitsOf, Nat.add_assoc 1, Nat.add_comm 1, Nat.mod_pow_succ, Nat.add_comm t.e, Nat.pow_add, Nat.mod_mul]
  ring

theorem bitsOf_lt (lo n x : Nat) : bitsOf lo n x < 2 ^ n := Nat.mod_lt _ (by positivity)

/-- The value of three fields (R115, R117). -/
def fieldVal (t : FFmt) (neg : Bool) (ex fr : Nat) : FVal :=
  if t.special = .ieee ∧ ex = 2 ^ t.e - 1 then
    (if fr = 0 then .inf neg else .nan neg (!bitOf (t.f - 1) fr) (fr % 2 ^ (t.f - 1) * 2 ^ (52 - t.f)))
  else if t.special = .e4m3 ∧ ex = 2 ^ t.e - 1 ∧ fr = 2 ^ t.f - 1 then .nan neg false 0
  else if ex = 0 then .num neg fr (1 - (t.bias : Int) - t.f)
  else .num neg (2 ^ t.f + fr) ((ex : Int) - t.bias - t.f)
theorem decode_eq (t : FFmt) (a : Nat) : t.decode a = fieldVal t (bitOf (t.e + t.f) a) (bitsOf t.f t.e a) (a % 2 ^ t.f) := rfl
theorem decode_pack {t : FFmt} {neg : Bool} {ex fr : Nat} (hex : ex < 2 ^ t.e) (hfr : fr < 2 ^ t.f) :
    t.decode (t.pack neg ex fr) = fieldVal t neg ex fr := by
  rw [decode_eq, bitOf_pack hex hfr, bitsOf_pack hex hfr, pack_mod hfr]
theorem decode_mod (t : FFmt) (a : Nat) : t.decode (a % 2 ^ t.bits) = t.decode a := by
  rw [← pack_fields, decode_pack (bitsOf_lt _ _ _) (Nat.mod_lt _ (by positivity)), decode_eq]
theorem fieldVal_neg (t : FFmt) (neg : Bool) (ex fr : Nat) : (fieldVal t neg ex fr).neg = neg := by
  unfold fieldVal
  split_ifs <;> rfl
theorem decode_neg (t : FFmt) (a : Nat) : (t.decode a).neg = bitOf (t.e + t.f) a := fieldVal_neg ..
/-- Significands have at most f + 1 bits. -/
theorem decode_num_lt {t : FFmt} {a m : Nat} {n : Bool} {e : Int} (h : t.decode a = .num n m e) : m < 2 ^ (t.f + 1) := by
  have hfr : a % 2 ^ t.f < 2 ^ t.f := Nat.mod_lt _ (by positivity)
  rw [decode_eq] at h
  unfold fieldVal at h
  rw [Nat.pow_succ]
  split_ifs at h <;> cases h <;> omega

/-! ## Patterns that the model makes -/

theorem two_pow_e_ge {t : FFmt} (ht : FmtOk t) : 4 ≤ 2 ^ t.e := Nat.pow_le_pow_right two_pos ht.two_le_e
theorem two_pow_f_ge {t : FFmt} (ht : FmtOk t) : 2 ≤ 2 ^ t.f := Nat.pow_le_pow_right two_pos ht.one_le_f

theorem fieldVal_inf {t : FFmt} (h : t.special = .ieee) (neg : Bool) : fieldVal t neg (2 ^ t.e - 1) 0 = .inf neg := by
  rw [fieldVal, if_pos ⟨h, rfl⟩, if_pos rfl]
theorem decode_inf {t : FFmt} (h : t.special = .ieee) (neg : Bool) : t.decode (t.inf neg) = .inf neg := by
  rw [FFmt.inf, decode_pack (by have := Nat.two_pow_pos t.e; omega) (by positivity), fieldVal_inf h]
/-- A subnormal number or zero. -/
theorem fieldVal_subnormal {t : FFmt} (ht : FmtOk t) (neg : Bool) (fr : Nat) : fieldVal t neg 0 fr = .num neg fr (1 - (t.bias : Int) - t.f) := by
  have := two_pow_e_ge ht
  rw [fieldVal, if_neg (by omega), if_neg (by omega), if_pos rfl]
theorem decode_zero {t : FFmt} (ht : FmtOk t) (neg : Bool) : t.decode (t.zero neg) = .num neg 0 (1 - (t.bias : Int) - t.f) := by
  rw [FFmt.zero, decode_pack (by positivity) (by positivity), fieldVal_subnormal ht]
theorem exactZero_zero {t : FFmt} (ht : FmtOk t) (neg : Bool) : ExactZero t neg (t.zero neg, 0) :=
  ⟨⟨_, decode_zero ht neg⟩, pack_lt (by positivity) (by positivity), rfl⟩

/-- The exponent field and fraction of the largest finite number bound those of the finite normal numbers (R116). -/
def Finite (t : FFmt) (ex fr : Nat) : Prop := ex < t.maxEx ∨ ex = t.maxEx ∧ fr ≤ t.maxFr
theorem maxFr_lt {t : FFmt} : t.maxFr < 2 ^ t.f := by
  have := Nat.two_pow_pos t.f
  unfold FFmt.maxFr
  split_ifs <;> omega
theorem maxEx_pos {t : FFmt} (ht : FmtOk t) : 1 ≤ t.maxEx := by
  have := two_pow_e_ge ht
  unfold FFmt.maxEx
  split_ifs <;> omega
theorem maxEx_lt {t : FFmt} (ht : FmtOk t) : t.maxEx < 2 ^ t.e := by
  have := two_pow_e_ge ht
  unfold FFmt.maxEx
  split_ifs <;> omega
theorem fieldVal_normal {t : FFmt} (ht : FmtOk t) (neg : Bool) {ex fr : Nat} (hex : 1 ≤ ex) (hf : Finite t ex fr) :
    fieldVal t neg ex fr = .num neg (2 ^ t.f + fr) ((ex : Int) - t.bias - t.f) := by
  have he := two_pow_e_ge ht
  have h2 := two_pow_f_ge ht
  unfold Finite FFmt.maxEx FFmt.maxFr at hf
  rw [fieldVal, if_neg, if_neg, if_neg (by omega)]
  · rintro ⟨h, rfl, rfl⟩
    simp only [h, reduceCtorEq, if_false, if_true] at hf
    omega
  · rintro ⟨h, rfl⟩
    simp only [h, reduceCtorEq, if_false, if_true] at hf
    omega
theorem decode_largest {t : FFmt} (ht : FmtOk t) (neg : Bool) :
    t.decode (t.largest neg) = .num neg (2 ^ t.f + t.maxFr) ((t.maxEx : Int) - t.bias - t.f) := by
  rw [FFmt.largest, decode_pack (maxEx_lt ht) maxFr_lt, fieldVal_normal ht neg (maxEx_pos ht) (.inr ⟨rfl, le_rfl⟩)]

end Sys2Proof.Safety
end

section
/-!
SUPPORT. Rounding of an exact magnitude to a format (R123, R125).
-/
namespace Sys2Proof.Safety
open Sys2Proof.Machine

/-! ## Magnitudes -/

/-- r is a magnitude's number: `more` says that it lies strictly above m x 2^e. -/
def MagIs (x : Mag) (r : ℝ) : Prop := ∃ d : ℝ, 0 ≤ d ∧ d < 1 ∧ (x.more = true ↔ 0 < d) ∧ r = (x.m + d) * (2 : ℝ) ^ x.e
theorem magIs_exact (m : Nat) (e : Int) : MagIs { m := m, e := e } (m * (2 : ℝ) ^ e) :=
  ⟨0, le_rfl, one_pos, by simp, by simp⟩

theorem two_zpow_pos (e : Int) : (0 : ℝ) < 2 ^ e := zpow_pos two_pos e
theorem two_zpow_add (a b : Int) : (2 : ℝ) ^ (a + b) = 2 ^ a * 2 ^ b := zpow_add₀ two_ne_zero a b
theorem two_zpow_le {a b : Int} : (2 : ℝ) ^ a ≤ 2 ^ b ↔ a ≤ b := zpow_le_zpow_iff_right₀ one_lt_two
theorem two_zpow_lt {a b : Int} : (2 : ℝ) ^ a < 2 ^ b ↔ a < b := zpow_lt_zpow_iff_right₀ one_lt_two

/-- A number has one binade. -/
theorem binade_unique {x : ℝ} {a b : Int} (ha : (2 : ℝ) ^ a ≤ x) (ha' : x < 2 ^ (a + 1)) (hb : (2 : ℝ) ^ b ≤ x) (hb' : x < 2 ^ (b + 1)) : a = b := by
  have h1 := two_zpow_lt.mp (ha.trans_lt hb')
  have h2 := two_zpow_lt.mp (hb.trans_lt ha')
  omega
theorem bitLen_spec {m : Nat} (h : m ≠ 0) : 1 ≤ bitLen m ∧ 2 ^ (bitLen m - 1) ≤ m ∧ m < 2 ^ bitLen m := by
  rw [bitLen, if_neg h]
  exact ⟨Nat.succ_pos _, Nat.log2_self_le h, Nat.lt_log2_self⟩
/-- The binade of a magnitude. -/
theorem magIs_binade {x : Mag} {r : ℝ} (h : MagIs x r) (hm : x.m ≠ 0) :
    (2 : ℝ) ^ (x.e + bitLen x.m - 1) ≤ r ∧ r < 2 ^ (x.e + bitLen x.m - 1 + 1) := by
  obtain ⟨d, h0, h1, -, rfl⟩ := h
  obtain ⟨hb, hle, hlt⟩ := bitLen_spec hm
  have hle' : (2 : ℝ) ^ (bitLen x.m - 1) ≤ x.m := by exact_mod_cast hle
  have hlt' : (x.m : ℝ) + 1 ≤ 2 ^ bitLen x.m := by exact_mod_cast hlt
  have hp := two_zpow_pos x.e
  have e1 : (2 : ℝ) ^ (x.e + bitLen x.m - 1) = 2 ^ (bitLen x.m - 1) * 2 ^ x.e := by
    rw [← zpow_natCast, ← two_zpow_add]
    congr 1
    omega
  have e2 : (2 : ℝ) ^ (x.e + bitLen x.m - 1 + 1) = 2 ^ bitLen x.m * 2 ^ x.e := by
    rw [← zpow_natCast, ← two_zpow_add]
    congr 1
    omega
  rw [e1, e2]
  exact ⟨mul_le_mul_of_nonneg_right (by linarith) hp.le, mul_lt_mul_of_pos_right (by linarith) hp⟩

/-! ## Neighbours -/

/-- The mode selects the upper neighbour of k + d steps (R123). -/
def RoundsUp (mode : Nat) (neg : Bool) (k : Nat) (d : ℝ) : Prop :=
  match mode with
  | 0 => 1 / 2 < d ∨ (d = 1 / 2 ∧ k % 2 = 1)
  | 1 => False
  | 2 => neg = false ∧ 0 < d
  | 3 => neg = true ∧ 0 < d
  | _ => 1 / 2 ≤ d
theorem nearest_iff (mode : Nat) (neg : Bool) (step x y : ℝ) : Nearest mode neg step x y ↔ ∃ k : ℕ, 0 ≤ x / step - k ∧ x / step - k < 1 ∧
    (RoundsUp mode neg k (x / step - k) → y = (k + 1) * step) ∧ (¬RoundsUp mode neg k (x / step - k) → y = k * step) := Iff.rfl
theorem not_roundsUp_zero (mode : Nat) (neg : Bool) (k : Nat) : ¬RoundsUp mode neg k 0 := by
  unfold RoundsUp
  split <;> norm_num

/-- The neighbour of a number of k + d steps, with k and d known. -/
theorem nearest_of {mode : Nat} {neg : Bool} {step y d : ℝ} {k : Nat} (hs : 0 < step) (h0 : 0 ≤ d) (h1 : d < 1)
    (hup : RoundsUp mode neg k d → y = (k + 1) * step) (hdown : ¬RoundsUp mode neg k d → y = k * step) :
    Nearest mode neg step ((k + d) * step) y := by
  have hd : (k + d) * step / step - k = d := by
    field_simp
    ring
  refine (nearest_iff ..).mpr ⟨k, ?_⟩
  rw [hd]
  exact ⟨h0, h1, hup, hdown⟩
/-- A rounded number is one of two neighbours, and itself where it is a multiple of the step. -/
theorem nearest_neighbours {mode : Nat} {neg : Bool} {step x y : ℝ} (hs : 0 < step) (h : Nearest mode neg step x y) :
    ∃ k : ℕ, k * step ≤ x ∧ x < (k + 1) * step ∧ (y = k * step ∨ y = (k + 1) * step ∧ k * step < x) := by
  obtain ⟨k, h0, h1, hup, hdown⟩ := (nearest_iff ..).mp h
  have hx : x = (k + (x / step - k)) * step := by
    field_simp
    ring
  refine ⟨k, ?_, ?_, ?_⟩
  · rw [hx]; exact mul_le_mul_of_nonneg_right (by linarith) hs.le
  · rw [hx]; exact mul_lt_mul_of_pos_right (by linarith) hs
  · by_cases hr : RoundsUp mode neg k (x / step - k)
    · refine .inr ⟨hup hr, ?_⟩
      have hne : x / step - k ≠ 0 := fun h0 => not_roundsUp_zero mode neg k (h0 ▸ hr)
      have hpos := lt_of_le_of_ne h0 hne.symm
      rw [hx]
      exact mul_lt_mul_of_pos_right (by linarith) hs
    · exact .inl (hdown hr)
/-- Rounding does not cross a multiple of the step. -/
theorem nearest_ge {mode : Nat} {neg : Bool} {step x y : ℝ} {a : Nat} (hs : 0 < step) (h : Nearest mode neg step x y) (ha : a * step ≤ x) :
    a * step ≤ y := by
  obtain ⟨k, -, hlt, hy⟩ := nearest_neighbours hs h
  have hak : a ≤ k := by
    have := lt_of_mul_lt_mul_right (ha.trans_lt hlt) hs.le
    exact Nat.lt_succ_iff.mp (by exact_mod_cast this)
  have hak' : (a : ℝ) ≤ k := by exact_mod_cast hak
  obtain rfl | ⟨rfl, -⟩ := hy
  · exact mul_le_mul_of_nonneg_right hak' hs.le
  · exact mul_le_mul_of_nonneg_right (by linarith) hs.le
theorem nearest_le {mode : Nat} {neg : Bool} {step x y : ℝ} {a : Nat} (hs : 0 < step) (h : Nearest mode neg step x y) (ha : x < a * step) :
    y ≤ a * step := by
  obtain ⟨k, hle, -, hy⟩ := nearest_neighbours hs h
  have hak : k + 1 ≤ a := by
    have := lt_of_mul_lt_mul_right (hle.trans_lt ha) hs.le
    exact_mod_cast this
  have hak' : (k : ℝ) + 1 ≤ a := by exact_mod_cast hak
  obtain rfl | ⟨rfl, -⟩ := hy
  · exact mul_le_mul_of_nonneg_right (by linarith) hs.le
  · exact mul_le_mul_of_nonneg_right hak' hs.le

/-! ## Rounding of a magnitude -/

/-- `RoundsUp` as the model tests it, of what is left below the step. -/
def roundBit (mode : Nat) (neg : Bool) (k : Nat) (inexact above tie : Bool) : Bool :=
  match mode with
  | 0 => above || (tie && bitOf 0 k)
  | 1 => false
  | 2 => !neg && inexact
  | 3 => neg && inexact
  | _ => above || tie
theorem roundBit_iff {mode : Nat} {neg : Bool} {k : Nat} {inexact above tie : Bool} {d : ℝ} (hi : inexact = true ↔ 0 < d)
    (ha : above = true ↔ 1 / 2 < d) (ht : tie = true ↔ d = 1 / 2) :
    roundBit mode neg k inexact above tie = true ↔ RoundsUp mode neg k d := by
  unfold roundBit RoundsUp
  split
  · simp only [Bool.or_eq_true, Bool.and_eq_true, ha, ht, bitOf, beq_iff_eq, Nat.pow_zero, Nat.div_one]
  · simp
  · simp [hi]
  · simp [hi]
  · rw [Bool.or_eq_true, ha, ht, le_iff_lt_or_eq, eq_comm (a := d)]
/-- What is left of a magnitude below its step of 2 ^ (n + 1) units: whether there is any, whether it is more than half the step or just half of it. -/
def rest (x : Mag) (n : Nat) : Bool × Bool × Bool :=
  let r := x.m % 2 ^ (n + 1)
  (r != 0 || x.more, decide (2 ^ n < r) || (r == 2 ^ n && x.more), r == 2 ^ n && !x.more)
theorem roundAt_coarse {x : Mag} {q : Int} (mode : Nat) (neg : Bool) {n : Nat} (hn : q - x.e = n + 1) : x.roundAt mode neg q =
    (x.m / 2 ^ (n + 1) + (roundBit mode neg (x.m / 2 ^ (n + 1)) (rest x n).1 (rest x n).2.1 (rest x n).2.2).toNat, (rest x n).1) := by
  have hsh : (q - x.e).toNat = n + 1 := by omega
  rw [Mag.roundAt, if_neg (by omega), hsh]
  rfl
/-- The rest as a part of the step. -/
theorem rest_iff {x : Mag} {d : ℝ} (n : Nat) (h0 : 0 ≤ d) (h1 : d < 1) (hmore : x.more = true ↔ 0 < d) :
    let f : ℝ := ((x.m % 2 ^ (n + 1) : Nat) + d) / 2 ^ (n + 1)
    0 ≤ f ∧ f < 1 ∧ ((rest x n).1 = true ↔ 0 < f) ∧ ((rest x n).2.1 = true ↔ 1 / 2 < f) ∧ ((rest x n).2.2 = true ↔ f = 1 / 2) := by
  have hlt : x.m % 2 ^ (n + 1) < 2 ^ (n + 1) := Nat.mod_lt _ (by positivity)
  unfold rest
  generalize x.m % 2 ^ (n + 1) = r at hlt
  have hlt' : (r : ℝ) + 1 ≤ 2 ^ (n + 1) := by exact_mod_cast hlt
  have hpow : (2 : ℝ) ^ (n + 1) = 2 * 2 ^ n := pow_succ' 2 n
  have hH : (0 : ℝ) < 2 ^ n := by positivity
  have hr0 : (0 : ℝ) ≤ r := Nat.cast_nonneg r
  have hlow : r < 2 ^ n → (r : ℝ) + 1 ≤ 2 ^ n := fun h => by exact_mod_cast h
  have hhigh : 2 ^ n < r → (2 : ℝ) ^ n + 1 ≤ r := fun h => by exact_mod_cast h
  have heq : r = 2 ^ n → (r : ℝ) = 2 ^ n := fun h => by exact_mod_cast h
  have hzero : r = 0 ↔ (r : ℝ) = 0 := Nat.cast_eq_zero.symm
  have hm : x.more = false ↔ d = 0 := by
    rw [← Bool.not_eq_true, hmore]
    constructor <;> intro h <;> linarith
  refine ⟨by positivity, (div_lt_one (by positivity)).mpr (by linarith), ?_, ?_, ?_⟩
  · rw [lt_div_iff₀ (by positivity), zero_mul, Bool.or_eq_true, bne_iff_ne, ne_eq, hmore, hzero]
    constructor
    · rintro (h | h)
      · have := lt_of_le_of_ne hr0 (Ne.symm h)
        linarith
      · linarith
    · intro h
      by_contra hc
      rw [not_or, not_not] at hc
      linarith [hc.1, hc.2]
  · rw [lt_div_iff₀ (by positivity), hpow, Bool.or_eq_true, Bool.and_eq_true, decide_eq_true_iff, beq_iff_eq, hmore]
    rcases lt_trichotomy r (2 ^ n) with h | h | h
    · have := hlow h
      constructor
      · rintro (h' | ⟨h', -⟩) <;> omega
      · intro; linarith
    · have := heq h
      constructor
      · rintro (h' | ⟨-, h'⟩)
        · omega
        · linarith
      · intro h'
        exact .inr ⟨h, by linarith⟩
    · have := hhigh h
      exact ⟨fun _ => by linarith, fun _ => .inl h⟩
  · rw [div_eq_iff (by positivity), hpow, Bool.and_eq_true, beq_iff_eq, Bool.not_eq_true', hm]
    rcases lt_trichotomy r (2 ^ n) with h | h | h
    · have := hlow h
      constructor
      · rintro ⟨h', -⟩; omega
      · intro; linarith
    · have := heq h
      constructor
      · rintro ⟨-, h'⟩; linarith
      · intro h'
        exact ⟨h, by linarith⟩
    · have := hhigh h
      constructor
      · rintro ⟨h', -⟩; omega
      · intro; linarith

/-- A rounded magnitude is the neighbour of R123, and it is inexact where it is another number. The step is coarser than the magnitude's
own where that leaves something out. -/
theorem roundAt_nearest {x : Mag} {r : ℝ} (h : MagIs x r) (mode : Nat) (neg : Bool) {q : Int} (hq : x.more = true → x.e < q) :
    Nearest mode neg ((2 : ℝ) ^ q) r ((x.roundAt mode neg q).1 * (2 : ℝ) ^ q) ∧
    ((x.roundAt mode neg q).2 = true ↔ (x.roundAt mode neg q).1 * (2 : ℝ) ^ q ≠ r) := by
  obtain ⟨d, h0, h1, hmore, rfl⟩ := h
  have hp := two_zpow_pos q
  by_cases hle : q ≤ x.e
  · have hfalse : x.more = false := Bool.eq_false_iff.mpr fun hm => absurd (hq hm) (not_lt.mpr hle)
    have hd : d = 0 := le_antisymm (not_lt.mp fun hd => by simp [hfalse] at hmore; linarith) h0
    subst hd
    obtain ⟨n, hn⟩ := Int.eq_ofNat_of_zero_le (sub_nonneg.mpr hle)
    have hround : x.roundAt mode neg q = (x.m * 2 ^ n, false) := by
      rw [Mag.roundAt, if_pos hle, hn, hfalse]
      rfl
    have hval : ((x.m * 2 ^ n : Nat) : ℝ) * (2 : ℝ) ^ q = (x.m + 0) * (2 : ℝ) ^ x.e := by
      rw [show x.e = n + q by omega, two_zpow_add, zpow_natCast]
      push_cast
      ring
    rw [hround, hval]
    refine ⟨?_, by simp⟩
    rw [← hval, ← add_zero ((x.m * 2 ^ n : Nat) : ℝ)]
    exact nearest_of hp le_rfl one_pos (fun hu => absurd hu (not_roundsUp_zero mode neg _)) (fun _ => by simp)
  · obtain ⟨n, hn⟩ : ∃ n : Nat, q - x.e = n + 1 := ⟨(q - x.e).toNat - 1, by omega⟩
    obtain ⟨hf0, hf1, hinexact, habove, htie⟩ := rest_iff n h0 h1 hmore
    have hdiv := Nat.div_add_mod x.m (2 ^ (n + 1))
    rw [roundAt_coarse mode neg hn]
    have hbit := roundBit_iff (mode := mode) (neg := neg) (k := x.m / 2 ^ (n + 1)) hinexact habove htie
    generalize x.m / 2 ^ (n + 1) = k at hdiv hbit
    have hr : (x.m + d) * (2 : ℝ) ^ x.e = (k + ((x.m % 2 ^ (n + 1) : Nat) + d) / 2 ^ (n + 1)) * (2 : ℝ) ^ q := by
      have hm : (x.m : ℝ) = 2 ^ (n + 1) * k + (x.m % 2 ^ (n + 1) : Nat) := by exact_mod_cast hdiv.symm
      rw [show q = (n + 1 : Nat) + x.e by push_cast; omega, two_zpow_add, zpow_natCast, hm]
      field_simp
      ring
    rw [hr]
    generalize ((x.m % 2 ^ (n + 1) : Nat) + d) / 2 ^ (n + 1) = f at hf0 hf1 hinexact habove htie hbit
    refine ⟨nearest_of hp hf0 hf1 (fun hu => ?_) (fun hu => ?_), ?_⟩
    · rw [hbit.mpr hu]; simp
    · rw [Bool.eq_false_iff.mpr (mt hbit.mp hu)]; simp
    · rw [hinexact, ne_eq, mul_left_inj' hp.ne']
      cases hb : roundBit mode neg k (rest x n).1 (rest x n).2.1 (rest x n).2.2 with
      | false =>
        simp only [Bool.toNat_false, Nat.add_zero]
        constructor
        · intro h' he; linarith
        · exact fun h' => lt_of_le_of_ne hf0 fun he => h' (by linarith)
      | true =>
        have hne : f ≠ 0 := fun he => not_roundsUp_zero mode neg k (he ▸ hbit.mp hb)
        simp only [Bool.toNat_true, Nat.cast_add, Nat.cast_one]
        exact ⟨fun _ he => by linarith, fun _ => lt_of_le_of_ne hf0 hne.symm⟩

end Sys2Proof.Safety
end

section
/-!
SUPPORT. A rounded magnitude as a pattern with its flags: `FFmt.roundMag` meets `Rounded` (R116, R123, R125).
-/
namespace Sys2Proof.Safety
open Sys2Proof.Machine

/-! ## Real values -/

/-- The real number of a sign, significand and exponent. -/
noncomputable def val (n : Bool) (m : Nat) (e : Int) : ℝ := (if n then -1 else 1) * (m : ℝ) * (2 : ℝ) ^ e
theorem isReal_num {n : Bool} {m : Nat} {e : Int} {x : ℝ} : IsReal (.num n m e) x ↔ x = val n m e := by
  constructor
  · rintro ⟨_, _, _, h, rfl⟩
    cases h
    rfl
  · rintro rfl
    exact ⟨n, m, e, rfl, rfl⟩
theorem isReal_iff {v : FVal} {x : ℝ} : IsReal v x ↔ ∃ n m e, v = .num n m e ∧ x = val n m e := Iff.rfl

/-! ## The largest number -/

theorem isLargest_iff {t : FFmt} (ht : FmtOk t) (l : ℝ) :
    IsLargest t l ↔ l = (2 ^ t.f + t.maxFr : Nat) * (2 : ℝ) ^ ((t.maxEx : Int) - t.bias - t.f) := by
  have hf : ((2 : ℝ) - 2 ^ (-(t.f : ℤ))) = (2 ^ t.f + (2 ^ t.f - 1) : Nat) * (2 : ℝ) ^ (-(t.f : ℤ)) := by
    have h1 : 1 ≤ 2 ^ t.f := Nat.one_le_two_pow
    rw [zpow_neg, zpow_natCast]
    push_cast [Nat.cast_sub h1]
    field_simp
    ring
  have he := two_pow_e_ge ht
  unfold IsLargest FFmt.maxFr FFmt.maxEx
  cases hs : t.special with
  | ieee =>
    simp only [reduceCtorEq, if_false, if_true]
    rw [hf, mul_assoc, ← two_zpow_add]
    push_cast [Nat.cast_sub (by omega : 2 ≤ 2 ^ t.e)]
    rw [show -(t.f : ℤ) + (2 ^ t.e - 2 - t.bias) = 2 ^ t.e - 2 - t.bias - t.f by ring]
  | e4m3 =>
    obtain ⟨h4, h3, h7⟩ := ht.e4m3 hs
    simp only [reduceCtorEq, if_false, if_true, h4, h3, h7]
    norm_num
  | finite =>
    simp only [reduceCtorEq, if_false]
    rw [hf, mul_assoc, ← two_zpow_add]
    push_cast [Nat.cast_sub (by omega : 1 ≤ 2 ^ t.e)]
    rw [show -(t.f : ℤ) + (2 ^ t.e - 1 - t.bias) = 2 ^ t.e - 1 - t.bias - t.f by ring]

theorem sign_mul_val (n : Bool) (m : Nat) (e : Int) : (if n then -1 else 1) * ((m : ℝ) * 2 ^ e) = val n m e := (mul_assoc _ _ _).symm
theorem largest_isReal {t : FFmt} (ht : FmtOk t) (neg : Bool) {l : ℝ} (hl : IsLargest t l) :
    IsReal (t.decode (t.largest neg)) ((if neg then -1 else 1) * l) := by
  rw [decode_largest ht, isReal_num, (isLargest_iff ht l).mp hl, sign_mul_val]
theorem largest_lt {t : FFmt} (ht : FmtOk t) (neg : Bool) : t.largest neg < 2 ^ t.bits := pack_lt (maxEx_lt ht) maxFr_lt

/-! ## A significand at its exponent -/

/-- A significand as rounding leaves it: normal, or subnormal at the least exponent (R115). -/
structure Significand (t : FFmt) (m : Nat) (q : Int) : Prop where
  lt : m < 2 ^ (t.f + 1)
  exp : 1 - (t.bias : Int) - t.f ≤ q
  subnormal : m < 2 ^ t.f → q = 1 - (t.bias : Int) - t.f
/-- A carry out of the significand moves it up by one place. -/
theorem significand_carry {t : FFmt} {n : Nat} {q : Int} (hn : n ≤ 2 ^ (t.f + 1)) (hq : 1 - (t.bias : Int) - t.f ≤ q)
    (hsub : n < 2 ^ t.f → q = 1 - (t.bias : Int) - t.f) :
    let c := 2 ^ (t.f + 1) ≤ n
    Significand t (if c then n / 2 else n) (if c then q + 1 else q) ∧
    ((if c then n / 2 else n : Nat) : ℝ) * (2 : ℝ) ^ (if c then q + 1 else q) = n * (2 : ℝ) ^ q := by
  have hpow : 2 ^ (t.f + 1) = 2 * 2 ^ t.f := Nat.pow_succ'
  have hpos := Nat.two_pow_pos t.f
  intro c
  by_cases hc : c
  · have hnc : n = 2 * 2 ^ t.f := by omega
    have hhalf : n / 2 = 2 ^ t.f := by omega
    simp only [if_pos hc, hhalf]
    refine ⟨⟨by omega, by omega, fun h => absurd h (lt_irrefl _)⟩, ?_⟩
    rw [hnc, two_zpow_add]
    push_cast
    ring
  · simp only [if_neg hc]
    exact ⟨⟨not_le.mp hc, hq, hsub⟩, trivial⟩

/-- Exponent field of a significand's exponent. -/
def expField (t : FFmt) (q : Int) : Nat := (q + t.f + t.bias).toNat
theorem Significand.expField_eq {t : FFmt} {m : Nat} {q : Int} (h : Significand t m q) :
    (expField t q : Int) = q + t.f + t.bias ∧ 1 ≤ expField t q := by
  have := h.exp
  unfold expField
  omega
/-- The significand does not fit the format. -/
def Overflows (t : FFmt) (m : Nat) (q : Int) : Bool :=
  decide (2 ^ t.f ≤ m) && (decide (t.maxEx < expField t q) || (expField t q == t.maxEx && decide (t.maxFr < m - 2 ^ t.f)))
/-- The pattern of a significand that fits. -/
def packNum (t : FFmt) (neg : Bool) (m : Nat) (q : Int) : Nat :=
  if m < 2 ^ t.f then t.pack neg 0 m else t.pack neg (expField t q) (m - 2 ^ t.f)
theorem overflows_iff {t : FFmt} {m : Nat} {q : Int} :
    Overflows t m q = false ↔ m < 2 ^ t.f ∨ Finite t (expField t q) (m - 2 ^ t.f) := by
  unfold Overflows Finite
  simp only [Bool.and_eq_false_iff, Bool.or_eq_false_iff, decide_eq_false_iff_not, beq_eq_false_iff_ne]
  omega
theorem decode_packNum {t : FFmt} (ht : FmtOk t) {m : Nat} {q : Int} (h : Significand t m q) (hf : Overflows t m q = false) (neg : Bool) :
    t.decode (packNum t neg m q) = .num neg m q ∧ packNum t neg m q < 2 ^ t.bits := by
  have hpos := Nat.two_pow_pos t.e
  obtain ⟨hex, hone⟩ := h.expField_eq
  unfold packNum
  split_ifs with hm
  · rw [decode_pack hpos hm, fieldVal_subnormal ht, h.subnormal hm]
    exact ⟨rfl, pack_lt hpos hm⟩
  · have hfin := (overflows_iff.mp hf).resolve_left hm
    have hfr : m - 2 ^ t.f < 2 ^ t.f := by
      have := h.lt
      rw [Nat.pow_succ] at this
      omega
    have hlt : expField t q < 2 ^ t.e := by
      have := maxEx_lt ht
      unfold Finite at hfin
      omega
    rw [decode_pack hlt hfr, fieldVal_normal ht neg hone hfin, hex, Nat.add_sub_cancel' (not_lt.mp hm)]
    exact ⟨by congr 1; omega, pack_lt hlt hfr⟩
/-- It overflows just where its number is above the largest. -/
theorem overflows_iff_largest {t : FFmt} (ht : FmtOk t) {m : Nat} {q : Int} (h : Significand t m q) {l : ℝ} (hl : IsLargest t l) :
    Overflows t m q = true ↔ l < m * (2 : ℝ) ^ q := by
  obtain ⟨hex, hone⟩ := h.expField_eq
  have hmax := maxEx_pos ht
  have hfr : t.maxFr < 2 ^ t.f := maxFr_lt
  have hlt := h.lt
  have hpow : 2 ^ (t.f + 1) = 2 * 2 ^ t.f := Nat.pow_succ'
  rw [(isLargest_iff ht l).mp hl]
  -- in units of the significand's exponent the largest number is scaled by what their exponent fields differ
  have hdiff : (t.maxEx : Int) - t.bias - t.f = (t.maxEx : Int) - expField t q + q := by omega
  rw [hdiff, two_zpow_add, ← mul_assoc, mul_lt_mul_iff_left₀ (two_zpow_pos q)]
  have hL : (0 : ℝ) ≤ (2 ^ t.f + t.maxFr : Nat) := Nat.cast_nonneg _
  have hbelow (j : Nat) (hj : (j : Int) ≤ t.maxEx - expField t q) (hm : m < 2 ^ t.f * 2 ^ j) :
      ¬((2 ^ t.f + t.maxFr : Nat) : ℝ) * 2 ^ ((t.maxEx : Int) - expField t q) < m := by
    have hm' : (m : ℝ) ≤ (2 ^ t.f + t.maxFr : Nat) * 2 ^ j := by
      exact_mod_cast hm.le.trans (Nat.mul_le_mul_right _ (Nat.le_add_right _ _))
    rw [not_lt]
    refine hm'.trans (mul_le_mul_of_nonneg_left ?_ hL)
    rw [← zpow_natCast]
    exact two_zpow_le.mpr hj
  by_cases hm : m < 2 ^ t.f
  · have hone' : (expField t q : Int) = 1 := by
      rw [hex, h.subnormal hm]
      ring
    have hfit : Overflows t m q = false := overflows_iff.mpr (.inl hm)
    rw [hfit]
    exact iff_of_false Bool.false_ne_true (hbelow 0 (by omega) (by omega))
  · rcases lt_trichotomy (expField t q) t.maxEx with hc | hc | hc
    · have hfit : Overflows t m q = false := overflows_iff.mpr (.inr (.inl hc))
      rw [hfit]
      exact iff_of_false Bool.false_ne_true (hbelow 1 (by omega) (by omega))
    · rw [hc, sub_self, zpow_zero, mul_one, Nat.cast_lt, ← Bool.not_eq_false, overflows_iff, Finite]
      omega
    · have hover : Overflows t m q = true := by
        rw [← Bool.not_eq_false, overflows_iff, Finite]
        omega
      have hhalf : (2 : ℝ) ^ ((t.maxEx : Int) - expField t q) ≤ 2 ^ (-1 : Int) := two_zpow_le.mpr (by omega)
      have hm' : ((2 ^ t.f + t.maxFr : Nat) : ℝ) < 2 * m := by exact_mod_cast (by omega : 2 ^ t.f + t.maxFr < 2 * m)
      have hprod := mul_le_mul_of_nonneg_left hhalf hL
      rw [zpow_neg_one] at hprod
      exact iff_of_true hover (by linarith)

/-! ## The rounded pattern -/

/-- What a significand that does not fit becomes (R125). -/
def overflowed (t : FFmt) (mode : Nat) (sat neg : Bool) : Nat × Flags :=
  if sat then (t.largest neg, flagOF ||| flagNX ||| flagSF)
  else match t.special with
    | .ieee =>
      let inf := match mode with | 1 => false | 2 => !neg | 3 => neg | _ => true
      (if inf then t.inf neg else t.largest neg, flagOF ||| flagNX)
    | .e4m3 => (t.nan neg 0, flagOF ||| flagNX)
    | .finite => (t.largest neg, flagOF ||| flagNX ||| flagSF)
/-- `FFmt.roundMag` by its steps: the two roundings, the carry, and then the pattern or what an overflow makes. -/
theorem roundMag_eq (t : FFmt) (mode : Nat) (sat neg : Bool) (x : Mag) : t.roundMag mode sat neg x =
    (let top := x.e + (bitLen x.m : Int) - 1
     let u := x.roundAt mode neg (top - t.f)
     let q := (if top < 1 - (t.bias : Int) then 1 - (t.bias : Int) else top) - t.f
     let r := x.roundAt mode neg q
     let c := 2 ^ (t.f + 1) ≤ r.1
     let m := if c then r.1 / 2 else r.1
     let q' := if c then q + 1 else q
     if Overflows t m q' then overflowed t mode sat neg
     else (packNum t neg m q',
       if r.2 then (if decide (top - t.f + (bitLen u.1 : Int) - 1 < 1 - (t.bias : Int)) then flagNX ||| flagUF else flagNX) else 0)) := rfl

theorem decode_e4m3_nan {t : FFmt} (h : t.special = .e4m3) (neg : Bool) (p : Nat) :
    t.decode (t.nan neg p) = .nan neg false 0 ∧ t.nan neg p < 2 ^ t.bits := by
  have hex : 2 ^ t.e - 1 < 2 ^ t.e := Nat.sub_one_lt (by positivity)
  have hfr : 2 ^ t.f - 1 < 2 ^ t.f := Nat.sub_one_lt (by positivity)
  rw [FFmt.nan, h]
  refine ⟨?_, pack_lt hex hfr⟩
  rw [decode_pack hex hfr, fieldVal, if_neg (by simp [h]), if_pos ⟨h, rfl, rfl⟩]
theorem inf_lt (t : FFmt) (neg : Bool) : t.inf neg < 2 ^ t.bits :=
  pack_lt (Nat.sub_one_lt (by positivity)) (by positivity)

/-- The modes in which an overflow stays at the largest number of formats with infinities (R125). -/
theorem overflow_mode {mode : Nat} {neg : Bool} :
    (match mode with | 1 => false | 2 => !neg | 3 => neg | _ => true) = false ↔
      mode = 1 ∨ (mode = 2 ∧ neg = true) ∨ (mode = 3 ∧ neg = false) := by
  split <;> simp_all
theorem overflowed_largest {t : FFmt} {mode : Nat} {sat neg : Bool} (h : sat = true ∨ t.special = .finite) :
    overflowed t mode sat neg = (t.largest neg, flagOF ||| flagNX ||| flagSF) := by
  unfold overflowed
  split_ifs with hs
  · rfl
  · rw [h.resolve_left hs]
theorem overflowed_e4m3 {t : FFmt} {mode : Nat} {neg : Bool} (h : t.special = .e4m3) :
    overflowed t mode false neg = (t.nan neg 0, flagOF ||| flagNX) := by
  unfold overflowed
  rw [if_neg Bool.false_ne_true]
  simp only [h]
theorem overflowed_ieee {t : FFmt} {mode : Nat} {neg : Bool} (h : t.special = .ieee) :
    (mode = 1 ∨ (mode = 2 ∧ neg = true) ∨ (mode = 3 ∧ neg = false) → overflowed t mode false neg = (t.largest neg, flagOF ||| flagNX)) ∧
    (¬(mode = 1 ∨ (mode = 2 ∧ neg = true) ∨ (mode = 3 ∧ neg = false)) → overflowed t mode false neg = (t.inf neg, flagOF ||| flagNX)) := by
  unfold overflowed
  rw [if_neg Bool.false_ne_true, h, ← overflow_mode]
  constructor <;> intro hm
  · simp only [hm, Bool.false_eq_true, if_false]
  · simp only [Bool.eq_true_of_not_eq_false hm, if_true]
/-- The last clause of `Rounded`, and the pattern's size. -/
def OverflowTo (t : FFmt) (mode : Nat) (sat neg : Bool) (l : ℝ) (r : Nat × Flags) : Prop :=
  let v := t.decode r.1
  let s : ℝ := if neg then -1 else 1
  (sat = true → IsReal v (s * l) ∧ r.2 = flagOF ||| flagNX ||| flagSF) ∧
  (sat = false → (t.special = .ieee → r.2 = flagOF ||| flagNX ∧
      (mode = 1 ∨ (mode = 2 ∧ neg = true) ∨ (mode = 3 ∧ neg = false) → IsReal v (s * l)) ∧
      (¬(mode = 1 ∨ (mode = 2 ∧ neg = true) ∨ (mode = 3 ∧ neg = false)) → v = .inf neg)) ∧
    (t.special = .e4m3 → v = .nan neg false 0 ∧ r.2 = flagOF ||| flagNX) ∧
    (t.special = .finite → IsReal v (s * l) ∧ r.2 = flagOF ||| flagNX ||| flagSF))
theorem overflowed_spec {t : FFmt} (ht : FmtOk t) (mode : Nat) (sat neg : Bool) {l : ℝ} (hl : IsLargest t l) :
    (overflowed t mode sat neg).1 < 2 ^ t.bits ∧ OverflowTo t mode sat neg l (overflowed t mode sat neg) := by
  have hreal := largest_isReal ht neg hl
  have hlt := largest_lt ht neg
  unfold OverflowTo
  cases sat with
  | true =>
    rw [overflowed_largest (.inl rfl)]
    exact ⟨hlt, fun _ => ⟨hreal, rfl⟩, nofun⟩
  | false =>
    cases hs : t.special with
    | finite =>
      rw [overflowed_largest (.inr hs)]
      exact ⟨hlt, nofun, fun _ => ⟨nofun, nofun, fun _ => ⟨hreal, rfl⟩⟩⟩
    | e4m3 =>
      obtain ⟨hnan, hnlt⟩ := decode_e4m3_nan hs neg 0
      rw [overflowed_e4m3 hs]
      exact ⟨hnlt, nofun, fun _ => ⟨nofun, fun _ => ⟨hnan, rfl⟩, nofun⟩⟩
    | ieee =>
      obtain ⟨hstay, hinf⟩ := overflowed_ieee (mode := mode) (neg := neg) hs
      by_cases hm : mode = 1 ∨ (mode = 2 ∧ neg = true) ∨ (mode = 3 ∧ neg = false)
      · rw [hstay hm]
        exact ⟨hlt, nofun, fun _ => ⟨fun _ => ⟨rfl, fun _ => hreal, fun h => absurd hm h⟩, nofun, nofun⟩⟩
      · rw [hinf hm]
        exact ⟨inf_lt t neg, nofun, fun _ => ⟨fun _ => ⟨rfl, fun h => absurd h hm, fun _ => decode_inf hs neg⟩, nofun, nofun⟩⟩

/-- What `Rounded` says of a result, once y is the number at the format's precision, z the one with an unbounded exponent and l the largest. -/
def RoundedTo (t : FFmt) (mode : Nat) (sat neg : Bool) (x l y z : ℝ) (r : Nat × Flags) : Prop :=
  let v := t.decode r.1
  let s : ℝ := if neg then -1 else 1
  let least : ℝ := (2 : ℝ) ^ (1 - (t.bias : ℤ))
  r.1 < 2 ^ t.bits ∧
  (y ≤ l → IsReal v (s * y) ∧ v.neg = neg ∧ (y = x → r.2 = 0) ∧
    (y ≠ x → (z < least → r.2 = flagNX ||| flagUF) ∧ (least ≤ z → r.2 = flagNX))) ∧
  (l < y → OverflowTo t mode sat neg l r)
theorem rounded_iff (t : FFmt) (mode : Nat) (sat neg : Bool) (x : ℝ) (r : Nat × Flags) : Rounded t mode sat neg x r ↔
    ∀ (e : ℤ) (l : ℝ), (2 : ℝ) ^ e ≤ x → x < (2 : ℝ) ^ (e + 1) → IsLargest t l → ∃ y z : ℝ,
      Nearest mode neg ((2 : ℝ) ^ (max e (1 - t.bias) - t.f)) x y ∧ Nearest mode neg ((2 : ℝ) ^ (e - t.f)) x z ∧
      RoundedTo t mode sat neg x l y z r := Iff.rfl

/-- Rounding a magnitude that has bits enough: the result is the exact number, rounded once. -/
theorem roundMag_rounded {t : FFmt} (ht : FmtOk t) (mode : Nat) (sat neg : Bool) {x : Mag} {r : ℝ} (h : MagIs x r) (hm : x.m ≠ 0)
    (hmore : x.more = true → t.f + 2 ≤ bitLen x.m) : Rounded t mode sat neg r (t.roundMag mode sat neg x) := by
  rw [rounded_iff]
  intro e l hle hlt hl
  obtain ⟨htop, htop'⟩ := magIs_binade h hm
  obtain rfl := binade_unique hle hlt htop htop'
  rw [roundMag_eq]
  extract_lets top u q n c m q'
  have hq : q = max top (1 - (t.bias : Int)) - t.f := by
    simp only [q]
    split_ifs <;> omega
  have htopq : top - t.f ≤ q := by omega
  have hfine : x.more = true → x.e < top - t.f := fun hx => by
    have := hmore hx
    omega
  obtain ⟨hnearU, -⟩ := roundAt_nearest h mode neg hfine
  obtain ⟨hnearN, hexact⟩ := roundAt_nearest h mode neg (fun hx => (hfine hx).trans_le htopq)
  have hpq := two_zpow_pos q
  have hpu := two_zpow_pos (top - t.f)
  -- the significand before a carry, and the rounding with an unbounded exponent, are not below what their binade begins with
  have hpow (j : Int) (k : Nat) : ((2 ^ k : Nat) : ℝ) * (2 : ℝ) ^ j = 2 ^ (k + j : Int) := by
    rw [two_zpow_add, zpow_natCast]
    push_cast
    rfl
  have hn : n.1 ≤ 2 ^ (t.f + 1) := by
    have hbelow : r < ((2 ^ (t.f + 1) : Nat) : ℝ) * 2 ^ q := by
      rw [hpow]
      exact hlt.trans_le (two_zpow_le.mpr (by push_cast; omega))
    exact_mod_cast le_of_mul_le_mul_right (nearest_le hpq hnearN hbelow) hpq
  have hsub : n.1 < 2 ^ t.f → q = 1 - (t.bias : Int) - t.f := fun hlow => by
    by_contra hne
    have habove : ((2 ^ t.f : Nat) : ℝ) * 2 ^ q ≤ r := by
      rw [hpow]
      exact (two_zpow_le.mpr (by omega)).trans hle
    have := le_of_mul_le_mul_right (nearest_ge hpq hnearN habove) hpq
    exact absurd hlow (not_lt.mpr (by exact_mod_cast this))
  have hu : u.1 ≠ 0 := fun hu0 => by
    have habove : ((2 ^ t.f : Nat) : ℝ) * 2 ^ (top - t.f) ≤ r := by
      rw [hpow]
      exact (two_zpow_le.mpr (by omega)).trans hle
    have := le_of_mul_le_mul_right (nearest_ge hpu hnearU habove) hpu
    have hle0 : 2 ^ t.f ≤ u.1 := by exact_mod_cast this
    have := Nat.two_pow_pos t.f
    omega
  have htiny : top - t.f + (bitLen u.1 : Int) - 1 < 1 - (t.bias : Int) ↔ (u.1 : ℝ) * 2 ^ (top - t.f) < 2 ^ (1 - (t.bias : Int)) := by
    obtain ⟨h1, h2⟩ := magIs_binade (magIs_exact u.1 (top - t.f)) hu
    exact ⟨fun hc => h2.trans_le (two_zpow_le.mpr (by simp only; omega)), fun hc => two_zpow_lt.mp (h1.trans_lt hc)⟩
  obtain ⟨hsig, hval⟩ := significand_carry hn (by omega) hsub
  change Significand t m q' at hsig
  change (m : ℝ) * 2 ^ q' = _ at hval
  have hover := overflows_iff_largest ht hsig hl
  rw [hval] at hover
  rw [hq] at hnearN
  refine ⟨n.1 * 2 ^ q, u.1 * 2 ^ (top - t.f), hq ▸ hnearN, hnearU, ?_⟩
  cases hO : Overflows t m q' with
  | true =>
    rw [if_pos rfl]
    obtain ⟨hsize, hto⟩ := overflowed_spec ht mode sat neg hl
    exact ⟨hsize, fun hfit => absurd hfit (not_le.mpr (hover.mp hO)), fun _ => hto⟩
  | false =>
    rw [if_neg Bool.false_ne_true]
    obtain ⟨hdec, hsize⟩ := decode_packNum ht hsig hO neg
    refine ⟨hsize, fun _ => ⟨?_, ?_, fun he => ?_, fun hne => ⟨fun hz => ?_, fun hz => ?_⟩⟩, fun hbig => ?_⟩
    · rw [hdec, isReal_num, ← hval, sign_mul_val]
    · rw [hdec]
      rfl
    · exact if_neg (mt hexact.mp (not_not_intro he))
    · exact (if_pos (hexact.mpr hne)).trans (if_pos (decide_eq_true (htiny.mpr hz)))
    · refine (if_pos (hexact.mpr hne)).trans (if_neg ?_)
      rw [decide_eq_true_iff, htiny]
      exact not_lt.mpr hz
    · rw [hover.mpr hbig] at hO
      exact absurd hO (by decide)

end Sys2Proof.Safety
end

section
/-!
SUPPORT. NaN patterns and the NaN that an operation chooses among its operands (R117, R127).
-/
namespace Sys2Proof.Safety
open Sys2Proof.Machine

/-! ## Patterns that are NaNs -/

theorem isNan_iff {v : FVal} : v.isNan = true ↔ ∃ n q p, v = .nan n q p := by
  cases v <;> simp [FVal.isNan]
theorem isInf_iff {v : FVal} : v.isInf = true ↔ ∃ n, v = .inf n := by
  cases v <;> simp [FVal.isInf]

/-- The NaN patterns are those whose exponent is the highest and whose fraction is not 0. -/
theorem nanPat_iff_fields (t : FFmt) (a : Nat) : NanPat t a ↔ bitsOf t.f t.e a = 2 ^ t.e - 1 ∧ a % 2 ^ t.f ≠ 0 := by
  have hex : bitsOf t.f t.e a < 2 ^ t.e := bitsOf_lt ..
  have hfr : a % 2 ^ t.f < 2 ^ t.f := Nat.mod_lt _ (by positivity)
  have hsplit : a % 2 ^ (t.bits - 1) = a % 2 ^ t.f + 2 ^ t.f * bitsOf t.f t.e a := by
    rw [FFmt.bits, Nat.add_assoc, Nat.add_sub_cancel_left, Nat.add_comm, Nat.pow_add, Nat.mod_mul, bitsOf]
  rw [NanPat, hsplit, Nat.mul_comm]
  generalize bitsOf t.f t.e a = ex at hex
  rcases (Nat.le_sub_one_of_lt hex).eq_or_lt with h | h
  · rw [h]
    omega
  · have := Nat.mul_le_mul_left (2 ^ t.f) (Nat.succ_le_of_lt h)
    rw [Nat.mul_succ] at this
    omega
section
variable {t : FFmt} (hi : t.special = .ieee)
include hi

theorem nanPat_iff (a : Nat) : NanPat t a ↔ (t.decode a).isNan = true := by
  rw [nanPat_iff_fields, decode_eq]
  unfold fieldVal
  split_ifs with h1 h2 h3
  · simp [h2, FVal.isNan]
  · simp [h1.2, h2, FVal.isNan]
  · simp [hi] at h3
  · exact iff_of_false (fun h => h1 ⟨hi, h.1⟩) (by simp [FVal.isNan])
  · exact iff_of_false (fun h => h1 ⟨hi, h.1⟩) (by simp [FVal.isNan])
/-- What a NaN pattern holds. -/
theorem decode_nan {a : Nat} {n q : Bool} {p : Nat} (h : t.decode a = .nan n q p) :
    n = bitOf (t.e + t.f) a ∧ bitsOf t.f t.e a = 2 ^ t.e - 1 ∧ q = !bitOf (t.f - 1) (a % 2 ^ t.f) ∧
    p = a % 2 ^ t.f % 2 ^ (t.f - 1) * 2 ^ (52 - t.f) := by
  rw [decode_eq] at h
  unfold fieldVal at h
  split_ifs at h with h1 h2 h3
  · cases h
    exact ⟨rfl, h1.2, rfl, rfl⟩
  · simp [hi] at h3
end

theorem pow_f_split {t : FFmt} (ht : FmtOk t) : 2 ^ t.f = 2 ^ (t.f - 1) * 2 := by
  rw [← Nat.pow_succ, Nat.succ_eq_add_one, Nat.sub_add_cancel ht.one_le_f]
theorem mod_f_mod {t : FFmt} (ht : FmtOk t) (a : Nat) : a % 2 ^ t.f % 2 ^ (t.f - 1) = a % 2 ^ (t.f - 1) := by
  rw [pow_f_split ht, Nat.mod_mul_right_mod]
theorem quietBit {t : FFmt} (ht : FmtOk t) (a : Nat) : a % 2 ^ t.f / 2 ^ (t.f - 1) = a / 2 ^ (t.f - 1) % 2 := by
  rw [pow_f_split ht, Nat.mod_mul_right_div_self]
/-- A fraction is its quiet bit and its payload. -/
theorem fraction_split {t : FFmt} (ht : FmtOk t) (a : Nat) :
    a % 2 ^ t.f = 2 ^ (t.f - 1) * (a / 2 ^ (t.f - 1) % 2) + a % 2 ^ (t.f - 1) := by
  rw [← mod_f_mod ht, ← quietBit ht, Nat.div_add_mod]
theorem sigPat_iff {t : FFmt} (ht : FmtOk t) (hi : t.special = .ieee) (a : Nat) : SigPat t a ↔ (t.decode a).signalling = true := by
  rw [SigPat, nanPat_iff hi]
  cases h : t.decode a with
  | nan n q p =>
    obtain ⟨-, -, hq, -⟩ := decode_nan hi h
    have hbit := Nat.mod_two_eq_zero_or_one (a / 2 ^ (t.f - 1))
    rw [bitOf, quietBit ht, Nat.mod_mod] at hq
    rw [hq]
    simp only [FVal.isNan, FVal.signalling, true_and, Bool.not_eq_true', beq_eq_false_iff_ne]
    omega
  | inf n => simp [FVal.isNan, FVal.signalling]
  | num n m e => simp [FVal.isNan, FVal.signalling]
/-- Setting a bit of a number that is given by its parts around it. -/
theorem or_two_pow_split {i h b l : Nat} (hb : b < 2) (hl : l < 2 ^ i) : (2 ^ (i + 1) * h + (2 ^ i * b + l)) ||| 2 ^ i = 2 ^ (i + 1) * h + (2 ^ i + l) := by
  have hlow : 2 ^ i * b + l < 2 ^ (i + 1) := by
    rw [Nat.pow_succ]
    exact Nat.mul_add_lt_mul_of_lt_of_lt hb hl |>.trans_eq (Nat.mul_comm _ _)
  have hlow' : 2 ^ i * 1 + l < 2 ^ (i + 1) := by
    rw [Nat.pow_succ]
    omega
  have hset : (2 ^ i * b + l) ||| 2 ^ i = 2 ^ i * 1 + l := by
    have hbit : (2 ^ i * b) ||| 2 ^ i = 2 ^ i * 1 := by
      interval_cases b <;> simp
    rw [Nat.two_pow_add_eq_or_of_lt hl, Nat.two_pow_add_eq_or_of_lt hl, Nat.or_assoc, Nat.or_comm l, ← Nat.or_assoc, hbit]
  rw [Nat.two_pow_add_eq_or_of_lt hlow, Nat.or_assoc, hset, ← Nat.two_pow_add_eq_or_of_lt hlow', Nat.mul_one]
theorem nan_ieee {t : FFmt} (hi : t.special = .ieee) (n : Bool) (p : Nat) :
    t.nan n p = t.pack n (2 ^ t.e - 1) (2 ^ (t.f - 1) + p / 2 ^ (52 - t.f)) := by
  rw [FFmt.nan, hi]
/-- The quieted pattern (R127). -/
theorem nan_eq_quieted {t : FFmt} (ht : FmtOk t) (hi : t.special = .ieee) {a : Nat} {n q : Bool} {p : Nat} (h : t.decode a = .nan n q p) :
    t.nan n p = a % 2 ^ t.bits ||| 2 ^ (t.f - 1) := by
  obtain ⟨rfl, hex, -, rfl⟩ := decode_nan hi h
  have hf : t.f = t.f - 1 + 1 := (Nat.sub_add_cancel ht.one_le_f).symm
  have hset := or_two_pow_split (i := t.f - 1) (h := (bitOf (t.e + t.f) a).toNat * 2 ^ t.e + (2 ^ t.e - 1)) (b := a / 2 ^ (t.f - 1) % 2)
    (l := a % 2 ^ (t.f - 1)) (Nat.mod_lt _ two_pos) (Nat.mod_lt _ (by positivity))
  rw [← hf, ← fraction_split ht] at hset
  have hpay : a % 2 ^ t.f % 2 ^ (t.f - 1) * 2 ^ (52 - t.f) / 2 ^ (52 - t.f) = a % 2 ^ (t.f - 1) := by
    rw [Nat.mul_div_cancel _ (by positivity), mod_f_mod ht]
  have hpack (neg : Bool) (x : Nat) : t.pack neg (2 ^ t.e - 1) x = 2 ^ t.f * (neg.toNat * 2 ^ t.e + (2 ^ t.e - 1)) + x := by
    rw [FFmt.pack, Nat.pow_add]
    ring
  rw [nan_ieee hi, ← pack_fields, hex, hpay, hpack, hpack, hset]

/-! ## The choice among operands -/

/-- The NaN that is chosen: none where there is none, else the first of those with the least payload. -/
theorem leastNan_spec : ∀ vs : List FVal, (leastNan vs = none ∧ ∀ v ∈ vs, v.isNan = false) ∨ ∃ (i : Nat) (n q : Bool) (p : Nat),
    vs[i]? = some (.nan n q p) ∧ leastNan vs = some (n, p) ∧
    ∀ (j : Nat) (m o : Bool) (u : Nat), vs[j]? = some (.nan m o u) → p ≤ u ∧ (p = u → i ≤ j)
  | [] => .inl ⟨rfl, nofun⟩
  | v :: vs => by
    cases hv : v.isNan with
    | false =>
      have hskip : leastNan (v :: vs) = leastNan vs := by
        cases v with
        | nan n q p => cases hv
        | inf n => rfl
        | num n m e => rfl
      rw [hskip]
      rcases leastNan_spec vs with ⟨hnone, hall⟩ | ⟨i, n, q, p, hi, hp, hleast⟩
      · exact .inl ⟨hnone, List.forall_mem_cons.mpr ⟨hv, hall⟩⟩
      · refine .inr ⟨i + 1, n, q, p, hi, hp, fun j m o u hj => ?_⟩
        cases j with
        | zero => cases hj; cases hv
        | succ j => exact (hleast j m o u hj).imp id fun h he => Nat.succ_le_succ (h he)
    | true =>
      obtain ⟨n, q, p, rfl⟩ := isNan_iff.mp hv
      rcases leastNan_spec vs with ⟨hnone, hall⟩ | ⟨i, n', q', p', hi, hp, hleast⟩
      · refine .inr ⟨0, n, q, p, rfl, by simp [leastNan, hnone], fun j m o u hj => ?_⟩
        cases j with
        | zero => cases hj; exact ⟨le_rfl, fun _ => le_rfl⟩
        | succ j => exact absurd (hall _ (List.mem_of_getElem? hj)) (by simp [FVal.isNan])
      · by_cases hle : p ≤ p'
        · refine .inr ⟨0, n, q, p, rfl, by simp [leastNan, hp, hle], fun j m o u hj => ?_⟩
          cases j with
          | zero => cases hj; exact ⟨le_rfl, fun _ => le_rfl⟩
          | succ j => exact ⟨hle.trans (hleast j m o u hj).1, fun _ => Nat.zero_le _⟩
        · refine .inr ⟨i + 1, n', q', p', hi, by simp [leastNan, hp, hle], fun j m o u hj => ?_⟩
          cases j with
          | zero =>
            cases hj
            exact ⟨(not_le.mp hle).le, fun he => absurd he.ge hle⟩
          | succ j => exact (hleast j m o u hj).imp id fun h he => Nat.succ_le_succ (h he)
/-- The NaN result of operands with one. -/
theorem pickNan_spec (t : FFmt) {vs : List FVal} (h : ∃ v ∈ vs, v.isNan = true) : ∃ (i : Nat) (n q : Bool) (p : Nat),
    vs[i]? = some (.nan n q p) ∧ t.pickNan vs = (t.nan n p, sigFlag vs) ∧
    ∀ (j : Nat) (m o : Bool) (u : Nat), vs[j]? = some (.nan m o u) → p ≤ u ∧ (p = u → i ≤ j) := by
  rcases leastNan_spec vs with ⟨-, hall⟩ | ⟨i, n, q, p, hi, hp, hleast⟩
  · obtain ⟨v, hv, hn⟩ := h
    exact absurd (hall v hv) (by simp [hn])
  · refine ⟨i, n, q, p, hi, ?_, hleast⟩
    rw [FFmt.pickNan, hp]

/-- A result among operands of which one is a NaN, with NV also where `also` holds. -/
def Picks (t : FFmt) (l : List Nat) (r : Nat × Flags) (also : Prop) : Prop := (∃ k ∈ l, NanPat t k) → PicksNan t l r.1 ∧
  (also ∨ (∃ k ∈ l, SigPat t k) → r.2 = flagNV) ∧ (¬(also ∨ ∃ k ∈ l, SigPat t k) → r.2 = 0)
theorem sigFlag_eq (vs : List FVal) : (( ∃ v ∈ vs, v.signalling = true) → sigFlag vs = flagNV) ∧ ((¬∃ v ∈ vs, v.signalling = true) → sigFlag vs = 0) := by
  rw [sigFlag, ← List.any_eq_true]
  exact ⟨fun h => if_pos h, fun h => if_neg h⟩
theorem pickNan_picksNan {t : FFmt} (ht : FmtOk t) (hi : t.special = .ieee) {l : List Nat} (h : ∃ k ∈ l, NanPat t k) :
    PicksNan t l (t.pickNan (l.map t.decode)).1 ∧ (t.pickNan (l.map t.decode)).2 = sigFlag (l.map t.decode) := by
  obtain ⟨k, hk, hnan⟩ := h
  obtain ⟨i, n, q, p, hget, heq, hleast⟩ := pickNan_spec t ⟨t.decode k, List.mem_map_of_mem hk, (nanPat_iff hi k).mp hnan⟩
  rw [heq]
  refine ⟨?_, rfl⟩
  rw [List.getElem?_map, Option.map_eq_some_iff] at hget
  obtain ⟨c, hc, hdec⟩ := hget
  have hpay {d : Nat} {m o : Bool} {u : Nat} (hd : t.decode d = .nan m o u) : u = d % 2 ^ (t.f - 1) * 2 ^ (52 - t.f) := by
    rw [← mod_f_mod ht]
    exact (decode_nan hi hd).2.2.2
  refine ⟨i, c, hc, (nanPat_iff hi c).mpr (by rw [hdec]; rfl), nan_eq_quieted ht hi hdec, fun j d hd hdn => ?_⟩
  obtain ⟨m, o, u, hdu⟩ := isNan_iff.mp ((nanPat_iff hi d).mp hdn)
  obtain ⟨hle, hfirst⟩ := hleast j m o u (by rw [List.getElem?_map, hd, Option.map_some, hdu])
  rw [hpay hdec, hpay hdu] at hle hfirst
  exact ⟨Nat.le_of_mul_le_mul_right hle (by positivity), fun he => hfirst (by rw [he])⟩
theorem sigPat_any {t : FFmt} (ht : FmtOk t) (hi : t.special = .ieee) (l : List Nat) :
    (∃ k ∈ l, SigPat t k) ↔ ∃ v ∈ l.map t.decode, v.signalling = true := by
  simp [sigPat_iff ht hi]
theorem nanPat_any {t : FFmt} (hi : t.special = .ieee) (l : List Nat) :
    (∃ k ∈ l, NanPat t k) ↔ ∃ v ∈ l.map t.decode, v.isNan = true := by
  simp [nanPat_iff hi]
/-- An operation that chooses among its operands wherever one is a NaN. -/
theorem picks_of {t : FFmt} (ht : FmtOk t) (hi : t.special = .ieee) {l : List Nat} {r : Nat × Flags}
    (h : (∃ v ∈ l.map t.decode, v.isNan = true) → r = t.pickNan (l.map t.decode)) : Picks t l r False := by
  intro hn
  obtain ⟨hp, hf⟩ := pickNan_picksNan ht hi hn
  obtain ⟨hsig, hquiet⟩ := sigFlag_eq (l.map t.decode)
  rw [h ((nanPat_any hi l).mp hn), false_or, hf, sigPat_any ht hi]
  exact ⟨hp, hsig, hquiet⟩

end Sys2Proof.Safety
end

section
/-!
SUPPORT. Sums, products, quotients and roots of finite numbers are the exact result rounded once (R123, R124).
-/
namespace Sys2Proof.Safety
open Sys2Proof.Machine

/-! ## Signs and values -/

theorem val_zero_iff {n : Bool} {m : Nat} {e : Int} : val n m e = 0 ↔ m = 0 := by
  have hp := (two_zpow_pos e).ne'
  cases n <;> simp [val, hp]
theorem val_abs (n : Bool) (m : Nat) (e : Int) : |val n m e| = m * (2 : ℝ) ^ e := by
  have hp := (two_zpow_pos e).le
  cases n <;> simp [val, abs_mul, abs_of_nonneg hp]
theorem val_neg_iff {n : Bool} {m : Nat} {e : Int} (h : m ≠ 0) : val n m e < 0 ↔ n = true := by
  have hp : 0 < (m : ℝ) * 2 ^ e := mul_pos (Nat.cast_pos.mpr (Nat.pos_of_ne_zero h)) (two_zpow_pos e)
  cases n
  · simp only [val, Bool.false_eq_true, if_false, iff_false, one_mul]
    linarith
  · simp only [val, if_true, iff_true, neg_mul, one_mul]
    linarith
theorem val_false (m : Nat) (e : Int) : val false m e = m * (2 : ℝ) ^ e := by simp [val]
theorem val_true (m : Nat) (e : Int) : val true m e = -(m * (2 : ℝ) ^ e) := by simp [val]
theorem val_flip (n c : Bool) (m : Nat) (e : Int) : val (n != c) m e = (if c then -1 else 1) * val n m e := by
  cases n <;> cases c <;> simp [val_false, val_true]
theorem val_mul (n n' : Bool) (m m' : Nat) (e e' : Int) : val (n != n') (m * m') (e + e') = val n m e * val n' m' e' := by
  cases n <;> cases n' <;> simp [val_false, val_true, two_zpow_add] <;> ring

/-! ## Rounding once -/

/-- A number whose magnitude is rounded under its sign, where it is not 0, is rounded once. -/
theorem roundedOnce_of {t : FFmt} {M : Nat} {x : ℝ} {r : Nat × Flags} (h : x ≠ 0 → Rounded t M false (decide (x < 0)) |x| r) :
    RoundedOnce t M x r := by
  refine ⟨fun hx => ?_, fun hx => ?_⟩
  · have := h hx.ne'
    rwa [decide_eq_false (not_lt.mpr hx.le), abs_of_pos hx] at this
  · have := h hx.ne
    rwa [decide_eq_true hx, abs_of_neg hx] at this
/-- `FFmt.round` of a magnitude with bits enough. -/
theorem round_rounded {t : FFmt} (ht : FmtOk t) (M : Nat) (sat neg : Bool) {x : Mag} {r : ℝ} (h : MagIs x r) (hm : x.m ≠ 0)
    (hmore : x.more = true → t.f + 2 ≤ bitLen x.m) : Rounded t M sat neg r (t.round M sat neg x) := by
  rw [FFmt.round, if_neg (fun hz => hm hz.1)]
  exact roundMag_rounded ht M sat neg h hm hmore
/-- `FFmt.round` of an exact magnitude, the zero keeping its sign. -/
theorem round_exact {t : FFmt} (ht : FmtOk t) (M : Nat) (sat n : Bool) (m : Nat) (e : Int) :
    let r := t.round M sat n { m := m, e := e }
    (val n m e = 0 → ExactZero t n r) ∧ (val n m e ≠ 0 → Rounded t M sat n |val n m e| r) := by
  rw [ne_eq, val_zero_iff, val_abs]
  refine ⟨fun hm => ?_, fun hm => round_rounded ht M sat n (magIs_exact m e) hm nofun⟩
  rw [FFmt.round, if_pos ⟨hm, rfl⟩]
  exact exactZero_zero ht n
theorem round_once {t : FFmt} (ht : FmtOk t) (M : Nat) (n : Bool) (m : Nat) (e : Int) :
    let r := t.round M false n { m := m, e := e }
    RoundedOnce t M (val n m e) r ∧ (val n m e = 0 → ExactZero t n r) := by
  obtain ⟨hz, hr⟩ := round_exact ht M false n m e
  refine ⟨roundedOnce_of fun hne => ?_, hz⟩
  have hn : decide (val n m e < 0) = n := by
    rw [Bool.eq_iff_iff, decide_eq_true_iff]
    exact val_neg_iff (mt val_zero_iff.mpr hne)
  rw [hn]
  exact hr hne

/-! ## Sums (R124) -/

/-- The real sum of terms. -/
noncomputable def total (ts : List Term) : ℝ := (ts.map (fun t => val t.1 t.2.1 t.2.2)).sum
theorem foldl_min_le (ts : List Term) (a : Int) :
    ts.foldl (fun a t => min a t.2.2) a ≤ a ∧ ∀ t ∈ ts, ts.foldl (fun a t => min a t.2.2) a ≤ t.2.2 := by
  induction ts generalizing a with
  | nil => exact ⟨le_rfl, nofun⟩
  | cons t ts ih =>
    obtain ⟨hle, hall⟩ := ih (min a t.2.2)
    exact ⟨hle.trans (min_le_left _ _), List.forall_mem_cons.mpr ⟨hle.trans (min_le_right _ _), hall⟩⟩
theorem leastExp_le (ts : List Term) : ∀ t ∈ ts, leastExp ts ≤ t.2.2 := (foldl_min_le ts _).2
/-- A term in units of 2 ^ e. -/
theorem term_units {e : Int} (t : Term) (h : e ≤ t.2.2) :
    (((if t.1 then -1 else 1) * (t.2.1 * 2 ^ (t.2.2 - e).toNat : Nat) : Int) : ℝ) * 2 ^ e = val t.1 t.2.1 t.2.2 := by
  obtain ⟨k, hk⟩ := Int.eq_ofNat_of_zero_le (sub_nonneg.mpr h)
  have he : t.2.2 = k + e := by omega
  rw [hk, Int.toNat_natCast, val, he, two_zpow_add, zpow_natCast]
  push_cast
  ring
theorem sumAt_units {e : Int} (ts : List Term) (h : ∀ t ∈ ts, e ≤ t.2.2) : (sumAt e ts : ℝ) * 2 ^ e = total ts := by
  have hacc (ts : List Term) (h : ∀ t ∈ ts, e ≤ t.2.2) : ∀ a : Int,
      ((ts.foldl (fun (a : Int) t => a + (if t.1 then -1 else 1) * (t.2.1 * 2 ^ (t.2.2 - e).toNat : Nat)) a : Int) : ℝ) * 2 ^ e =
        a * 2 ^ e + total ts := by
    induction ts with
    | nil => intro a; simp [total]
    | cons t ts ih =>
      intro a
      obtain ⟨ht, hts⟩ := List.forall_mem_cons.mp h
      have hcons : total (t :: ts) = val t.1 t.2.1 t.2.2 + total ts := by rw [total, List.map_cons, List.sum_cons, total]
      rw [List.foldl_cons, ih hts, hcons, ← term_units t ht, Int.cast_add, add_mul, add_assoc]
  rw [sumAt, hacc ts h, Int.cast_zero, zero_mul, zero_add]
/-- Zeros of one sign keep it. -/
theorem zeroSign_same {M : Nat} {ts : List Term} {n : Bool} (hne : ts ≠ []) (h : ∀ t ∈ ts, t.2.1 = 0 ∧ t.1 = n) : zeroSign M ts = n := by
  have hz : ts.all (fun t => t.2.1 == 0) = true := List.all_eq_true.mpr fun t ht => beq_iff_eq.mpr (h t ht).1
  have hs : ts.all (fun t => t.1) = n := by
    cases n with
    | true => exact List.all_eq_true.mpr fun t ht => (h t ht).2
    | false =>
      obtain ⟨t, ts, rfl⟩ := List.exists_cons_of_ne_nil hne
      rw [List.all_cons, (h t (.head _)).2, Bool.false_and]
  have hs' : n = false → ts.all (fun t => !t.1) = true := fun hn => List.all_eq_true.mpr fun t ht => by rw [(h t ht).2, hn]; rfl
  rw [zeroSign, hz, hs]
  cases n with
  | true => rfl
  | false => rw [hs' rfl]; rfl
/-- Any other sum that is 0 has the sign of the mode. -/
theorem zeroSign_mode {M : Nat} {ts : List Term} (h : ∀ n, ¬∀ t ∈ ts, t.2.1 = 0 ∧ t.1 = n) : zeroSign M ts = (M == 3) := by
  have hno (n : Bool) (p : Term → Bool) (hp : ∀ t, p t = true → t.1 = n) : ¬(ts.all (fun t => t.2.1 == 0) && ts.all p) = true := by
    rw [Bool.and_eq_true, List.all_eq_true, List.all_eq_true]
    exact fun hc => h n fun t ht => ⟨beq_iff_eq.mp (hc.1 t ht), hp t (hc.2 t ht)⟩
  rw [zeroSign, if_neg (hno true _ fun _ => id), if_neg (hno false _ fun _ ht => by simpa using ht)]
theorem sum_once {t : FFmt} (ht : FmtOk t) (M : Nat) (ts : List Term) :
    RoundedOnce t M (total ts) (t.sum M ts) ∧ (total ts = 0 → ExactZero t (zeroSign M ts) (t.sum M ts)) := by
  have hunits := sumAt_units ts (leastExp_le ts)
  have hp := two_zpow_pos (leastExp ts)
  have hzero : total ts = 0 ↔ sumAt (leastExp ts) ts = 0 := by
    rw [← hunits, mul_eq_zero, Int.cast_eq_zero]
    exact or_iff_left hp.ne'
  refine ⟨roundedOnce_of fun hne => ?_, fun hz => ?_⟩
  · have hv : sumAt (leastExp ts) ts ≠ 0 := mt hzero.mpr hne
    have hsign : decide (total ts < 0) = decide (sumAt (leastExp ts) ts < 0) := by
      rw [decide_eq_decide, ← hunits, ← Int.cast_lt_zero (R := ℝ)]
      exact ⟨fun h => neg_of_mul_neg_left h hp.le, fun h => mul_neg_of_neg_of_pos h hp⟩
    have habs : |total ts| = (sumAt (leastExp ts) ts).natAbs * (2 : ℝ) ^ leastExp ts := by
      rw [← hunits, abs_mul, abs_of_pos hp, Nat.cast_natAbs, Int.cast_abs]
    rw [hsign, habs, FFmt.sum, if_neg hv]
    exact roundMag_rounded ht M false _ (magIs_exact _ _) (Int.natAbs_ne_zero.mpr hv) nofun
  · rw [FFmt.sum, if_pos (hzero.mp hz)]
    exact exactZero_zero ht _

/-! ## Quotients -/

theorem bitLen_ge {m k : Nat} (h : 2 ^ k ≤ m) : k + 1 ≤ bitLen m := by
  have hm : m ≠ 0 := (Nat.two_pow_pos k).trans_le h |>.ne'
  rw [bitLen, if_neg hm]
  exact Nat.succ_le_succ ((Nat.le_log2 hm).mpr h)
theorem quotient_magIs {m m' : Nat} (h' : m' ≠ 0) (e e' : Int) : MagIs (quotient m e m' e') (m * (2 : ℝ) ^ e / (m' * (2 : ℝ) ^ e')) := by
  have hm' : (0 : ℝ) < m' := Nat.cast_pos.mpr (Nat.pos_of_ne_zero h')
  have hdiv : (m : ℝ) * 2 ^ 128 = m' * (m * 2 ^ 128 / m' : Nat) + (m * 2 ^ 128 % m' : Nat) := by
    exact_mod_cast (Nat.div_add_mod (m * 2 ^ 128) m').symm
  have hlt : ((m * 2 ^ 128 % m' : Nat) : ℝ) < m' := by exact_mod_cast Nat.mod_lt _ (Nat.pos_of_ne_zero h')
  refine ⟨(m * 2 ^ 128 % m' : Nat) / m', by positivity, (div_lt_one hm').mpr hlt, ?_, ?_⟩
  · rw [lt_div_iff₀ hm', zero_mul, Nat.cast_pos, quotient]
    simp [Nat.pos_iff_ne_zero]
  · have hpow : (2 : ℝ) ^ (e - e' - 128) = 2 ^ e / (2 ^ e' * 2 ^ 128) := by
      rw [zpow_sub₀ two_ne_zero, zpow_sub₀ two_ne_zero, div_div]
      norm_num
    have hq : ((quotient m e m' e').m : ℝ) + (m * 2 ^ 128 % m' : Nat) / m' = m * 2 ^ 128 / m' := by
      rw [hdiv]
      field_simp
      rw [mul_comm]
      rfl
    rw [hq]
    show _ = _ * (2 : ℝ) ^ (e - e' - 128)
    rw [hpow]
    field_simp
/-- A quotient by a significand of at most 53 bits has bits enough. -/
theorem quotient_bits {m m' : Nat} (h : m ≠ 0) (h' : m' ≠ 0) (hlt : m' < 2 ^ 53) (e e' : Int) : 75 ≤ bitLen (quotient m e m' e').m := by
  refine bitLen_ge ((Nat.le_div_iff_mul_le (Nat.pos_of_ne_zero h')).mpr ?_)
  calc 2 ^ 74 * m' ≤ 2 ^ 74 * 2 ^ 53 := Nat.mul_le_mul_left _ hlt.le
    _ ≤ 1 * 2 ^ 128 := by norm_num
    _ ≤ m * 2 ^ 128 := Nat.mul_le_mul_right _ (Nat.pos_of_ne_zero h)

/-! ## Square roots -/

theorem isqrtFrom_spec (x : Nat) : ∀ n r : Nat, r * r ≤ x → x < (r + 2 ^ n) * (r + 2 ^ n) →
    isqrtFrom x n r * isqrtFrom x n r ≤ x ∧ x < (isqrtFrom x n r + 1) * (isqrtFrom x n r + 1)
  | 0, r, hle, hlt => ⟨hle, hlt⟩
  | n + 1, r, hle, hlt => by
    rw [isqrtFrom]
    split_ifs with h
    · refine isqrtFrom_spec x n _ h ?_
      rwa [Nat.add_assoc, ← Nat.mul_two, ← Nat.pow_succ]
    · exact isqrtFrom_spec x n r hle (not_le.mp h)
theorem isqrt_eq (x : Nat) : isqrt x = Nat.sqrt x := by
  rw [Nat.eq_sqrt]
  refine isqrtFrom_spec x _ 0 (Nat.zero_le _) ?_
  have hx : x < 2 ^ bitLen x := by
    by_cases h : x = 0
    · rw [h]; exact Nat.two_pow_pos _
    · exact (bitLen_spec h).2.2
  rw [Nat.zero_add, ← Nat.pow_add]
  exact hx.trans_le (Nat.pow_le_pow_right two_pos (by omega))
/-- The root of y lies in the unit from the integer root of x up, where y does in that from x, and is it where y is its square. -/
theorem sqrt_rest {x : Nat} {y : ℝ} (hle : (x : ℝ) ≤ y) (hlt : y < x + 1) :
    ∃ d : ℝ, 0 ≤ d ∧ d < 1 ∧ (y ≠ Nat.sqrt x * Nat.sqrt x ↔ 0 < d) ∧ Real.sqrt y = Nat.sqrt x + d := by
  have hs0 : (0 : ℝ) ≤ Nat.sqrt x := Nat.cast_nonneg _
  have h1 : ((Nat.sqrt x : ℝ)) * Nat.sqrt x ≤ y := le_trans (by exact_mod_cast Nat.sqrt_le x) hle
  have h2 : y < (Nat.sqrt x + 1) * (Nat.sqrt x + 1) := by
    have : (x : ℝ) + 1 ≤ (Nat.sqrt x + 1) * (Nat.sqrt x + 1) := by exact_mod_cast Nat.lt_succ_sqrt x
    linarith
  have hy : 0 ≤ y := (Nat.cast_nonneg x).trans hle
  refine ⟨Real.sqrt y - Nat.sqrt x, ?_, ?_, ?_, by ring⟩
  · rw [sub_nonneg]
    exact Real.le_sqrt_of_sq_le (by rw [sq]; exact h1)
  · rw [sub_lt_iff_lt_add', add_comm, Real.sqrt_lt' (by linarith), sq]
    linarith
  · rw [sub_pos, Real.lt_sqrt hs0, sq]
    exact ⟨fun h => lt_of_le_of_ne h1 h.symm, fun h => h.ne'⟩
theorem sqrtMag_magIs (m : Nat) (e : Int) : MagIs (sqrtMag m e) (Real.sqrt (m * (2 : ℝ) ^ e)) := by
  obtain ⟨sh, hsh, j, hj⟩ : ∃ sh : Nat, (if e % 2 = 0 then 128 else 129) = sh ∧ ∃ j : Int, e - sh = 2 * j := by
    split_ifs with h
    · exact ⟨_, rfl, (e - 128) / 2, by omega⟩
    · exact ⟨_, rfl, (e - 129) / 2, by omega⟩
  obtain ⟨d, h0, h1, hpos, hd⟩ := sqrt_rest (x := m * 2 ^ sh) (y := (m * 2 ^ sh : Nat)) le_rfl (by linarith)
  have hmag : sqrtMag m e = { m := Nat.sqrt (m * 2 ^ sh), e := j, more := Nat.sqrt (m * 2 ^ sh) * Nat.sqrt (m * 2 ^ sh) != m * 2 ^ sh } := by
    rw [sqrtMag, hsh, isqrt_eq, show (e - sh) / 2 = j by omega]
  rw [hmag]
  refine ⟨d, h0, h1, ?_, ?_⟩
  · rw [← hpos, bne_iff_ne]
    norm_cast
    exact ne_comm
  · have hpow : (m : ℝ) * 2 ^ e = (m * 2 ^ sh : Nat) * (2 ^ j) ^ 2 := by
      rw [show e = (sh : Int) + (j + j) by omega, two_zpow_add, two_zpow_add, zpow_natCast]
      push_cast
      ring
    rw [hpow, Real.sqrt_mul (Nat.cast_nonneg _), Real.sqrt_sq (two_zpow_pos j).le, hd]
theorem sqrtMag_bits {m : Nat} (h : m ≠ 0) (e : Int) : 65 ≤ bitLen (sqrtMag m e).m := by
  rw [sqrtMag, isqrt_eq]
  refine bitLen_ge (Nat.le_sqrt.mpr ?_)
  have hm : 1 ≤ m := Nat.pos_of_ne_zero h
  split_ifs <;> omega

end Sys2Proof.Safety
end

section
/-!
SUPPORT. The five operations of R134 on patterns of a format with infinities: finite operands, infinities, NaNs.
-/
namespace Sys2Proof.Safety
open Sys2Proof.Machine

/-! ## Results -/

/-- The invalid result: the canonical NaN with NV (R124). -/
def Invalid (t : FFmt) (r : Nat × Flags) : Prop := r = ((2 ^ t.e - 1) * 2 ^ t.f + 2 ^ (t.f - 1), flagNV)
def Infinite (t : FFmt) (n : Bool) (fl : Flags) (r : Nat × Flags) : Prop := t.decode r.1 = .inf n ∧ r.2 = fl
/-- The sum of two finite numbers of signs n and m. -/
def Sums (t : FFmt) (M : Nat) (x y : ℝ) (n m : Bool) (r : Nat × Flags) : Prop := RoundedOnce t M (x + y) r ∧
  (x + y = 0 → (x = 0 → n = m → ExactZero t n r) ∧ (x ≠ 0 ∨ n ≠ m → ExactZero t (M == 3) r))
/-- The sum of two operands of which one is an infinity. -/
def Infinities (t : FFmt) (n m : Option Bool) (r : Nat × Flags) : Prop :=
  (∀ k, n = some k → m = none → Infinite t k 0 r) ∧ (∀ k, n = none → m = some k → Infinite t k 0 r) ∧
  (∀ k j, n = some k → m = some j → (k = j → Infinite t k 0 r) ∧ (k ≠ j → Invalid t r))
/-- The sign of an infinity. -/
def infSign (v : FVal) : Option Bool := match v with | .inf n => some n | _ => none

theorem invalid_eq {t : FFmt} (hi : t.special = .ieee) : Invalid t t.invalid := by
  rw [Invalid, FFmt.invalid, FFmt.canonical, hi]
  simp [FFmt.pack]
theorem infinite_eq {t : FFmt} (hi : t.special = .ieee) (n : Bool) (fl : Flags) : Infinite t n fl (t.inf n, fl) := ⟨decode_inf hi n, rfl⟩

/-! ## Values -/

@[simp] theorem infSign_inf (n : Bool) : infSign (.inf n) = some n := rfl
@[simp] theorem infSign_num (n : Bool) (m : Nat) (e : Int) : infSign (.num n m e) = none := rfl
theorem isSome_infSign (v : FVal) : (infSign v).isSome = v.isInf := by cases v <;> rfl
theorem infSign_flip (v : FVal) (c : Bool) : infSign (v.flip c) = (infSign v).map (fun n => n != c) := by cases v <;> rfl
theorem isNan_flip (v : FVal) (c : Bool) : (v.flip c).isNan = v.isNan := by cases v <;> rfl
theorem isReal_zero_iff {v : FVal} : IsReal v 0 ↔ v.isZero = true := by
  cases v with
  | nan n q p => simp [isReal_iff, FVal.isZero]
  | inf n => simp [isReal_iff, FVal.isZero]
  | num n m e =>
    rw [isReal_num, eq_comm, val_zero_iff]
    cases m <;> simp [FVal.isZero]
/-- A product of 0 and an infinity. -/
def ZeroInf (a b : FVal) : Prop := (IsReal a 0 ∧ (infSign b).isSome = true) ∨ ((infSign a).isSome = true ∧ IsReal b 0)
theorem zeroInf_iff (a b : FVal) : ZeroInf a b ↔ a.zeroInf b = true := by
  simp only [ZeroInf, isReal_zero_iff, isSome_infSign, FVal.zeroInf, Bool.or_eq_true, Bool.and_eq_true]
/-- The sign of a product that is an infinity. -/
theorem infSign_mul {a b : FVal} (ha : a.isNan = false) (hb : b.isNan = false) (f : Bool) :
    infSign ((a.mul b).flip f) = if (infSign a).isSome || (infSign b).isSome then some ((a.neg != b.neg) != f) else none := by
  cases a with
  | nan n q p => cases ha
  | inf n => cases b <;> rfl
  | num n m e =>
    cases b with
    | nan n q p => cases hb
    | inf n => rfl
    | num n m e => rfl
/-- A value that is no NaN is an infinity or a number. -/
theorem inf_or_num {v : FVal} (h : v.isNan = false) : (∃ n, v = .inf n) ∨ ∃ n m e, v = .num n m e := by
  cases v with
  | nan n q p => cases h
  | inf n => exact .inl ⟨n, rfl⟩
  | num n m e => exact .inr ⟨n, m, e, rfl⟩

/-! ## Sums -/

theorem addVals_sums {t : FFmt} (ht : FmtOk t) (M : Nat) (n n' : Bool) (m m' : Nat) (e e' : Int) :
    Sums t M (val n m e) (val n' m' e') n n' (t.addVals M (.num n m e) (.num n' m' e')) := by
  obtain ⟨hr, hz⟩ := sum_once ht M [(n, m, e), (n', m', e')]
  have htotal : total [(n, m, e), (n', m', e')] = val n m e + val n' m' e' := by simp [total]
  rw [htotal] at hr hz
  refine ⟨hr, fun h0 => ⟨fun hx hn => ?_, fun hne => ?_⟩⟩
  · have hm := val_zero_iff.mp hx
    have hm' := val_zero_iff.mp ((zero_add _).symm.trans (hx ▸ h0))
    have hsign : zeroSign M [(n, m, e), (n', m', e')] = n := zeroSign_same (by simp) (by simp [hm, hm', hn])
    exact hsign.subst (motive := fun k => ExactZero t k _) (hz h0)
  · have hsign : zeroSign M [(n, m, e), (n', m', e')] = (M == 3) := by
      refine zeroSign_mode fun k hk => ?_
      have hx := hk _ (.head _)
      have hy := hk _ (.tail _ (.head _))
      rcases hne with hne | hne
      · exact hne (val_zero_iff.mpr hx.1)
      · exact hne (hx.2.trans hy.2.symm)
    exact hsign.subst (motive := fun k => ExactZero t k _) (hz h0)
theorem addVals_infinities {t : FFmt} (hi : t.special = .ieee) (M : Nat) {a b : FVal} (ha : a.isNan = false) (hb : b.isNan = false) :
    Infinities t (infSign a) (infSign b) (t.addVals M a b) := by
  rcases inf_or_num ha with ⟨n, rfl⟩ | ⟨n, m, e, rfl⟩ <;> rcases inf_or_num hb with ⟨n', rfl⟩ | ⟨n', m', e', rfl⟩
  · refine ⟨nofun, nofun, fun k j hk hj => ?_⟩
    cases hk
    cases hj
    refine ⟨fun h => ?_, fun h => ?_⟩
    · rw [FFmt.addVals, if_pos h]
      exact infinite_eq hi n 0
    · rw [FFmt.addVals, if_neg h]
      exact invalid_eq hi
  · refine ⟨fun k hk _ => ?_, nofun, nofun⟩
    cases hk
    exact infinite_eq hi n 0
  · refine ⟨nofun, fun k _ hk => ?_, nofun⟩
    cases hk
    exact infinite_eq hi n' 0
  · exact ⟨nofun, nofun, nofun⟩

/-! ## Operations on values -/

theorem isNan_mul {a b : FVal} (ha : a.isNan = false) (hb : b.isNan = false) : (a.mul b).isNan = false := by
  rcases inf_or_num ha with ⟨n, rfl⟩ | ⟨n, m, e, rfl⟩ <;> rcases inf_or_num hb with ⟨n', rfl⟩ | ⟨n', m', e', rfl⟩ <;> rfl
/-- NV stands out among the flags of operands. -/
theorem or_flagNV {p : Prop} {f : Flags} (h : p → f = flagNV) (h' : ¬p → f = 0) : f ||| flagNV = flagNV := by
  by_cases hp : p
  · rw [h hp]; rfl
  · rw [h' hp]; rfl
theorem mag_pos {m : Nat} (h : m ≠ 0) (e : Int) : (0 : ℝ) < m * 2 ^ e := mul_pos (Nat.cast_pos.mpr (Nat.pos_of_ne_zero h)) (two_zpow_pos e)
theorem ne_zero_of_bitLen {m : Nat} (h : 0 < bitLen m) : m ≠ 0 := by
  rintro rfl
  exact absurd h (by decide)
/-- A signed number whose magnitude is rounded under its sign. -/
theorem roundedOnce_signed {t : FFmt} {M : Nat} {n : Bool} {x : ℝ} {r : Nat × Flags} (hx : 0 < x) (h : Rounded t M false n x r) :
    RoundedOnce t M ((if n then -1 else 1) * x) r := by
  cases n
  · exact ⟨fun _ => by simpa using h, fun hneg => absurd hneg (by simpa using hx.le)⟩
  · exact ⟨fun hpos => absurd hpos (by simpa using hx.le), fun _ => by simpa using h⟩

theorem num_isZero_iff {n : Bool} {m : Nat} {e : Int} : (FVal.num n m e).isZero = true ↔ val n m e = 0 :=
  isReal_zero_iff.symm.trans (isReal_num.trans eq_comm)
/-- A product, of the operands' values. -/
def mulVals (t : FFmt) (M : Nat) (x y : FVal) : Nat × Flags :=
  if x.isNan || y.isNan then t.pickNan [x, y]
  else if x.zeroInf y then t.invalid
  else match x.mul y with
    | .num n m e => t.round M false n { m := m, e := e }
    | v => (t.inf v.neg, 0)
theorem mulVals_num (t : FFmt) (M : Nat) (n n' : Bool) (m m' : Nat) (e e' : Int) :
    mulVals t M (.num n m e) (.num n' m' e') = t.round M false (n != n') { m := m * m', e := e + e' } := by
  simp [mulVals, FVal.isNan, FVal.zeroInf, FVal.isInf, FVal.mul]
theorem mulVals_inf_num (t : FFmt) (M : Nat) (n n' : Bool) (m' : Nat) (e' : Int) :
    mulVals t M (.inf n) (.num n' m' e') = if (FVal.num n' m' e').isZero then t.invalid else (t.inf (n != n'), 0) := by
  simp [mulVals, FVal.isNan, FVal.zeroInf, FVal.isInf, FVal.mul, FVal.neg]
theorem mulVals_num_inf (t : FFmt) (M : Nat) (n n' : Bool) (m : Nat) (e : Int) :
    mulVals t M (.num n m e) (.inf n') = if (FVal.num n m e).isZero then t.invalid else (t.inf (n != n'), 0) := by
  simp [mulVals, FVal.isNan, FVal.zeroInf, FVal.isInf, FVal.mul, FVal.neg]
/-- A quotient, of the operands' values. -/
def divVals (t : FFmt) (M : Nat) (x y : FVal) : Nat × Flags :=
  if x.isNan || y.isNan then t.pickNan [x, y]
  else match x, y with
    | .inf n, y => if y.isInf then t.invalid else (t.inf (n != y.neg), 0)
    | x, .inf n => (t.zero (x.neg != n), 0)
    | .num n m e, .num n' m' e' =>
      if m' = 0 then (if m = 0 then t.invalid else (t.inf (n != n'), flagDZ))
      else if m = 0 then (t.zero (n != n'), 0)
      else t.round M false (n != n') (quotient m e m' e')
    | _, _ => t.invalid
theorem divVals_num (t : FFmt) (M : Nat) (n n' : Bool) (m m' : Nat) (e e' : Int) : divVals t M (.num n m e) (.num n' m' e') =
    if m' = 0 then (if m = 0 then t.invalid else (t.inf (n != n'), flagDZ))
    else if m = 0 then (t.zero (n != n'), 0) else t.round M false (n != n') (quotient m e m' e') := by
  rw [divVals, if_neg (by simp [FVal.isNan])]
theorem val_div (n n' : Bool) (m m' : Nat) (e e' : Int) :
    val n m e / val n' m' e' = (if n != n' then -1 else 1) * (m * (2 : ℝ) ^ e / (m' * (2 : ℝ) ^ e')) := by
  cases n <;> cases n' <;> simp [val_false, val_true, neg_div, div_neg]
/-- A square root, of the operand's value. -/
def sqrtVal (t : FFmt) (M : Nat) (x : FVal) : Nat × Flags :=
  match x with
  | .nan n sg p => t.pickNan [.nan n sg p]
  | .inf n => if n then t.invalid else (t.inf false, 0)
  | .num n m e => if m = 0 then (t.zero n, 0) else if n then t.invalid else t.round M false false (sqrtMag m e)
theorem sqrtVal_num (t : FFmt) (M : Nat) (n : Bool) (m : Nat) (e : Int) : sqrtVal t M (.num n m e) =
    if m = 0 then (t.zero n, 0) else if n then t.invalid else t.round M false false (sqrtMag m e) := rfl
theorem sqrtVal_nan (t : FFmt) (M : Nat) {x : FVal} (h : x.isNan = true) : sqrtVal t M x = t.pickNan [x] := by
  obtain ⟨n, q, p, rfl⟩ := isNan_iff.mp h
  rfl
/-- A fused product, of the operands' values. -/
def fmaVals (t : FFmt) (M : Nat) (f g : Bool) (x y z : FVal) : Nat × Flags :=
  if x.isNan || y.isNan || z.isNan then
    let r := t.pickNan [x, y, z]
    (r.1, if x.zeroInf y then r.2 ||| flagNV else r.2)
  else if x.zeroInf y then t.invalid
  else t.addVals M ((x.mul y).flip f) (z.flip g)
theorem fmaVals_num (t : FFmt) (M : Nat) (f g n n' n'' : Bool) (m m' m'' : Nat) (e e' e'' : Int) :
    fmaVals t M f g (.num n m e) (.num n' m' e') (.num n'' m'' e'') =
      t.addVals M (.num ((n != n') != f) (m * m') (e + e')) (.num (n'' != g) m'' e'') := by
  simp [fmaVals, FVal.isNan, FVal.zeroInf, FVal.isInf, FVal.mul, FVal.flip]

section
variable {t : FFmt} (ht : FmtOk t) (hi : t.special = .ieee) (M : Nat) (a b c : Nat)
include ht hi

theorem addPat_spec (f : Bool) :
    let A := t.decode a
    let B := t.decode b
    let r := t.addPat M f a b
    (∀ x y, IsReal A x → IsReal B y → Sums t M x ((if f then -1 else 1) * y) A.neg (B.neg != f) r) ∧ Picks t [a, b] r False ∧
    (¬NanPat t a → ¬NanPat t b → Infinities t (infSign A) ((infSign B).map (fun n => n != f)) r) := by
  intro A B r
  have hnum (ha : A.isNan = false) (hb : B.isNan = false) : r = t.addVals M A (B.flip f) := if_neg (by simp [A, B] at ha hb; simp [ha, hb])
  refine ⟨fun x y hx hy => ?_, picks_of ht hi fun hn => if_pos (by simpa using hn), fun ha hb => ?_⟩
  · obtain ⟨n, m, e, hA, rfl⟩ := isReal_iff.mp hx
    obtain ⟨n', m', e', hB, rfl⟩ := isReal_iff.mp hy
    rw [hnum (by rw [hA]; rfl) (by rw [hB]; rfl), hA, hB, ← val_flip]
    exact addVals_sums ht M n (n' != f) m m' e e'
  · rw [nanPat_iff hi, Bool.not_eq_true] at ha hb
    have hb' : (B.flip f).isNan = false := by
      rwa [isNan_flip]
    rw [hnum ha hb, ← infSign_flip]
    exact addVals_infinities hi M ha hb'

theorem mulPat_spec :
    let A := t.decode a
    let B := t.decode b
    let r := t.mulPat M a b
    (∀ x y, IsReal A x → IsReal B y → RoundedOnce t M (x * y) r ∧ (x * y = 0 → ExactZero t (A.neg != B.neg) r)) ∧ Picks t [a, b] r False ∧
    (∀ n x, A = .inf n → IsReal B x → (x = 0 → Invalid t r) ∧ (x ≠ 0 → Infinite t (n != B.neg) 0 r)) ∧
    (∀ n x, B = .inf n → IsReal A x → (x = 0 → Invalid t r) ∧ (x ≠ 0 → Infinite t (A.neg != n) 0 r)) ∧
    (∀ n m, A = .inf n → B = .inf m → Infinite t (n != m) 0 r) := by
  intro A B r
  have hr : r = mulVals t M A B := rfl
  clear_value r
  have hpick := picks_of (r := r) (l := [a, b]) ht hi fun hn => hr.trans (if_pos (by simpa using hn))
  clear_value A B
  subst hr
  refine ⟨fun x y hx hy => ?_, hpick, fun n x hA hx => ?_, fun n x hB hx => ?_, fun n m hA hB => ?_⟩
  · obtain ⟨n, m, e, rfl, rfl⟩ := isReal_iff.mp hx
    obtain ⟨n', m', e', rfl, rfl⟩ := isReal_iff.mp hy
    rw [mulVals_num, ← val_mul]
    exact round_once ht M (n != n') (m * m') (e + e')
  · subst hA
    obtain ⟨n', m', e', rfl, rfl⟩ := isReal_iff.mp hx
    rw [mulVals_inf_num, ne_eq, ← num_isZero_iff]
    exact ⟨fun h => if_pos h ▸ invalid_eq hi, fun h => if_neg h ▸ infinite_eq hi _ 0⟩
  · subst hB
    obtain ⟨n', m', e', rfl, rfl⟩ := isReal_iff.mp hx
    rw [mulVals_num_inf, ne_eq, ← num_isZero_iff]
    exact ⟨fun h => if_pos h ▸ invalid_eq hi, fun h => if_neg h ▸ infinite_eq hi _ 0⟩
  · subst hA hB
    exact infinite_eq hi _ 0

theorem fmaPat_spec (f g : Bool) :
    let A := t.decode a
    let B := t.decode b
    let C := t.decode c
    let r := t.fmaPat M f g a b c
    let s := (A.neg != B.neg) != f
    (∀ x y z, IsReal A x → IsReal B y → IsReal C z →
      Sums t M ((if f then -1 else 1) * (x * y)) ((if g then -1 else 1) * z) s (C.neg != g) r) ∧ Picks t [a, b, c] r (ZeroInf A B) ∧
    (¬NanPat t a → ¬NanPat t b → ¬NanPat t c → (ZeroInf A B → Invalid t r) ∧
      (¬ZeroInf A B → Infinities t (if (infSign A).isSome || (infSign B).isSome then some s else none) ((infSign C).map (fun n => n != g)) r)) := by
  intro A B C r s
  have hr : r = fmaVals t M f g A B C := rfl
  have hnan : (∃ k ∈ [a, b, c], NanPat t k) → (A.isNan || B.isNan || C.isNan) = true := by
    rw [nanPat_any hi]
    simp [A, B, C, or_assoc]
  have hpick := pickNan_picksNan ht hi (l := [a, b, c])
  have hsig := sigPat_any ht hi [a, b, c]
  rw [nanPat_iff hi, nanPat_iff hi, nanPat_iff hi, zeroInf_iff, Bool.not_eq_true, Bool.not_eq_true, Bool.not_eq_true]
  change _ → PicksNan t [a, b, c] (t.pickNan [A, B, C]).1 ∧ (t.pickNan [A, B, C]).2 = sigFlag [A, B, C] at hpick
  change _ ↔ ∃ v ∈ [A, B, C], v.signalling = true at hsig
  change _ ∧ _ ∧ (A.isNan = false → B.isNan = false → C.isNan = false → _)
  clear_value r A B C
  refine ⟨fun x y z hx hy hz => ?_, fun hn => ?_, fun ha hb hc => ⟨fun hz => ?_, fun hz => ?_⟩⟩
  · obtain ⟨n, m, e, rfl, rfl⟩ := isReal_iff.mp hx
    obtain ⟨n', m', e', rfl, rfl⟩ := isReal_iff.mp hy
    obtain ⟨n'', m'', e'', rfl, rfl⟩ := isReal_iff.mp hz
    rw [hr, fmaVals_num, ← val_mul, ← val_flip, ← val_flip]
    exact addVals_sums ht M _ (n'' != g) _ m'' _ e''
  · obtain ⟨hp, hf⟩ := hpick hn
    have hr' : r = ((t.pickNan [A, B, C]).1, if A.zeroInf B then sigFlag [A, B, C] ||| flagNV else sigFlag [A, B, C]) :=
      hf ▸ hr.trans (if_pos (hnan hn))
    obtain ⟨hnv, hquiet⟩ := sigFlag_eq [A, B, C]
    rw [hr', hsig]
    refine ⟨hp, fun h => ?_, fun h => ?_⟩
    · by_cases hz : A.zeroInf B = true
      · exact (if_pos hz).trans (or_flagNV hnv hquiet)
      · exact (if_neg hz).trans (hnv (h.resolve_left hz))
    · rw [not_or] at h
      exact (if_neg h.1).trans (hquiet h.2)
  · have hr' : r = t.invalid := hr.trans ((if_neg (by simp [ha, hb, hc])).trans (if_pos hz))
    exact hr' ▸ invalid_eq hi
  · have hr' : r = t.addVals M ((A.mul B).flip f) (C.flip g) := hr.trans ((if_neg (by simp [ha, hb, hc])).trans (if_neg hz))
    rw [hr', ← infSign_mul ha hb, ← infSign_flip]
    exact addVals_infinities hi M (by rw [isNan_flip, isNan_mul ha hb]) (by rwa [isNan_flip])

theorem divPat_spec :
    let A := t.decode a
    let B := t.decode b
    let r := t.divPat M a b
    (∀ x y, IsReal A x → IsReal B y → (y ≠ 0 → RoundedOnce t M (x / y) r ∧ (x = 0 → ExactZero t (A.neg != B.neg) r)) ∧
      (y = 0 → x ≠ 0 → Infinite t (A.neg != B.neg) flagDZ r) ∧ (y = 0 → x = 0 → Invalid t r)) ∧ Picks t [a, b] r False ∧
    (∀ n x, A = .inf n → IsReal B x → Infinite t (n != B.neg) 0 r) ∧ (∀ n x, B = .inf n → IsReal A x → ExactZero t (A.neg != n) r) ∧
    (∀ n m, A = .inf n → B = .inf m → Invalid t r) := by
  intro A B r
  have hr : r = divVals t M A B := rfl
  have hpick := picks_of (r := r) (l := [a, b]) ht hi fun hn => hr.trans (if_pos (by simpa using hn))
  have hlt (n : Bool) (m : Nat) (e : Int) (hB : B = .num n m e) : m < 2 ^ 53 :=
    (decode_num_lt hB).trans_le (Nat.pow_le_pow_right two_pos (Nat.succ_le_succ ht.f_le))
  clear_value r A B
  subst hr
  refine ⟨fun x y hx hy => ?_, hpick, fun n x hA hx => ?_, fun n x hB hx => ?_, fun n m hA hB => ?_⟩
  · obtain ⟨n, m, e, rfl, rfl⟩ := isReal_iff.mp hx
    obtain ⟨n', m', e', rfl, rfl⟩ := isReal_iff.mp hy
    rw [divVals_num, ne_eq, ne_eq, val_zero_iff, val_zero_iff]
    refine ⟨fun hy0 => ?_, fun hy0 hx0 => ?_, fun hy0 hx0 => ?_⟩
    · rw [if_neg hy0]
      by_cases hx0 : m = 0
      · rw [if_pos hx0, val_zero_iff.mpr hx0, zero_div]
        exact ⟨roundedOnce_of fun h => absurd rfl h, fun _ => exactZero_zero ht _⟩
      · rw [if_neg hx0, val_div]
        have hbits := quotient_bits hx0 hy0 (hlt n' m' e' rfl) e e'
        have hf := ht.f_le
        exact ⟨roundedOnce_signed (div_pos (mag_pos hx0 e) (mag_pos hy0 e'))
          (round_rounded ht M false _ (quotient_magIs hy0 e e') (ne_zero_of_bitLen (by omega)) fun _ => by omega), fun h => absurd h hx0⟩
    · rw [if_pos hy0, if_neg hx0]
      exact infinite_eq hi _ _
    · rw [if_pos hy0, if_pos hx0]
      exact invalid_eq hi
  · subst hA
    obtain ⟨n', m', e', rfl, rfl⟩ := isReal_iff.mp hx
    exact infinite_eq hi _ 0
  · subst hB
    obtain ⟨n', m', e', rfl, rfl⟩ := isReal_iff.mp hx
    exact exactZero_zero ht _
  · subst hA hB
    exact invalid_eq hi

theorem sqrtPat_spec :
    let A := t.decode a
    let r := t.sqrtPat M a
    (∀ x, IsReal A x → (0 < x → Rounded t M false false (Real.sqrt x) r) ∧ (x = 0 → ExactZero t A.neg r) ∧ (x < 0 → Invalid t r)) ∧
    Picks t [a] r False ∧ (A = .inf false → Infinite t false 0 r) ∧ (A = .inf true → Invalid t r) := by
  intro A r
  have hr : r = sqrtVal t M A := rfl
  have hpick := picks_of (r := r) (l := [a]) ht hi fun hn => hr.trans (sqrtVal_nan t M (by simpa using hn))
  clear_value r A
  subst hr
  refine ⟨fun x hx => ?_, hpick, fun hA => ?_, fun hA => ?_⟩
  · obtain ⟨n, m, e, rfl, rfl⟩ := isReal_iff.mp hx
    rw [sqrtVal_num, val_zero_iff]
    by_cases hm : m = 0
    · have hv : val n m e = 0 := val_zero_iff.mpr hm
      rw [if_pos hm, hv]
      exact ⟨fun h => absurd h (lt_irrefl 0), fun _ => exactZero_zero ht n, fun h => absurd h (lt_irrefl 0)⟩
    · rw [if_neg hm, val_neg_iff hm]
      refine ⟨fun hpos => ?_, fun h => absurd h hm, fun hn => ?_⟩
      · have hn : n = false := Bool.eq_false_iff.mpr fun hn => lt_asymm hpos ((val_neg_iff hm).mpr hn)
        have hbits := sqrtMag_bits hm e
        have hf := ht.f_le
        subst hn
        rw [if_neg Bool.false_ne_true, val_false]
        exact round_rounded ht M false false (sqrtMag_magIs m e) (ne_zero_of_bitLen (by omega)) fun _ => by omega
      · rw [if_pos hn]
        exact invalid_eq hi
  · subst hA
    exact infinite_eq hi false 0
  · subst hA
    exact invalid_eq hi

end
end Sys2Proof.Safety
end

section
/-!
SUPPORT. The order of float values, minimum and maximum, comparisons and classes (R135 to R137).
-/
namespace Sys2Proof.Safety
open Sys2Proof.Machine

/-! ## Order -/

theorem isExt_isNan {v : FVal} {x : EReal} (h : IsExt v x) : v.isNan = false := by
  cases v with
  | nan n q p => exact h.elim
  | inf n => rfl
  | num n m e => rfl
theorem isExt_of_isReal {v : FVal} {x : ℝ} (h : IsReal v x) : IsExt v x := by
  obtain ⟨n, m, e, rfl, rfl⟩ := isReal_iff.mp h
  exact ⟨_, h, rfl⟩
theorem isExt_num {n : Bool} {m : Nat} {e : Int} {x : EReal} (h : IsExt (.num n m e) x) : x = (val n m e : ℝ) := by
  obtain ⟨r, hr, rfl⟩ := h
  rw [isReal_num.mp hr]
/-- A three-way comparison of x and y. -/
def Compares (c : Int) (x y : EReal) : Prop := (c < 0 ↔ x < y) ∧ (c = 0 ↔ x = y) ∧ (0 < c ↔ y < x)
theorem compares_lt {c : Int} {x y : EReal} (hc : c = -1) (h : x < y) : Compares c x y := by
  subst hc
  exact ⟨iff_of_true (by decide) h, iff_of_false (by decide) h.ne, iff_of_false (by decide) h.not_gt⟩
theorem compares_eq {c : Int} {x y : EReal} (hc : c = 0) (h : x = y) : Compares c x y := by
  subst hc
  exact ⟨iff_of_false (by decide) h.not_lt, iff_of_true rfl h, iff_of_false (by decide) h.not_gt⟩
theorem compares_gt {c : Int} {x y : EReal} (hc : c = 1) (h : y < x) : Compares c x y := by
  subst hc
  exact ⟨iff_of_false (by decide) h.not_gt, iff_of_false (by decide) h.ne', iff_of_true (by decide) h⟩
/-- Numbers in units of 2 ^ l compare as they do. -/
theorem sumAt_lt {l : Int} {n n' : Bool} {m m' : Nat} {e e' : Int} (h : l ≤ e) (h' : l ≤ e') :
    sumAt l [(n, m, e)] < sumAt l [(n', m', e')] ↔ val n m e < val n' m' e' := by
  have h1 := sumAt_units (e := l) [(n, m, e)] (by simpa using h)
  have h2 := sumAt_units (e := l) [(n', m', e')] (by simpa using h')
  have ht (n : Bool) (m : Nat) (e : Int) : total [(n, m, e)] = val n m e := by simp [total]
  rw [← ht, ← ht, ← h1, ← h2, mul_lt_mul_iff_left₀ (two_zpow_pos l), Int.cast_lt]
theorem cmp_num (n n' : Bool) (m m' : Nat) (e e' : Int) : Compares (FVal.cmp (.num n m e) (.num n' m' e')) (val n m e : ℝ) (val n' m' e' : ℝ) := by
  have hlt := sumAt_lt (n := n) (n' := n') (m := m) (m' := m') (min_le_left e e') (min_le_right e e')
  have hgt := sumAt_lt (n := n') (n' := n) (m := m') (m' := m) (min_le_right e e') (min_le_left e e')
  rw [FVal.cmp]
  split_ifs with h1 h2
  · exact compares_lt rfl (EReal.coe_lt_coe_iff.mpr (hlt.mp h1))
  · refine compares_eq rfl (EReal.coe_eq_coe_iff.mpr (le_antisymm (not_lt.mp fun h => ?_) (not_lt.mp fun h => ?_)))
    · exact absurd (hgt.mpr h) (by omega)
    · exact absurd (hlt.mpr h) (by omega)
  · exact compares_gt rfl (EReal.coe_lt_coe_iff.mpr (hgt.mp (by omega)))
theorem cmp_spec {a b : FVal} {x y : EReal} (ha : IsExt a x) (hb : IsExt b y) : Compares (a.cmp b) x y := by
  rcases inf_or_num (isExt_isNan ha) with ⟨n, rfl⟩ | ⟨n, m, e, rfl⟩ <;> rcases inf_or_num (isExt_isNan hb) with ⟨n', rfl⟩ | ⟨n', m', e', rfl⟩
  · have hx : x = if n then ⊥ else ⊤ := ha
    have hy : y = if n' then ⊥ else ⊤ := hb
    subst hx hy
    cases n <;> cases n'
    · exact compares_eq rfl rfl
    · exact compares_gt rfl bot_lt_top
    · exact compares_lt rfl bot_lt_top
    · exact compares_eq rfl rfl
  · have hx : x = if n then ⊥ else ⊤ := ha
    rw [hx, isExt_num hb]
    cases n
    · exact compares_gt rfl (EReal.coe_lt_top _)
    · exact compares_lt rfl (EReal.bot_lt_coe _)
  · have hy : y = if n' then ⊥ else ⊤ := hb
    rw [hy, isExt_num ha]
    cases n'
    · exact compares_lt rfl (EReal.coe_lt_top _)
    · exact compares_gt rfl (EReal.bot_lt_coe _)
  · rw [isExt_num ha, isExt_num hb]
    exact cmp_num n n' m m' e e'

/-! ## Comparisons (R137) -/

/-- The six relations. -/
def Related {α : Type} [LE α] [LT α] (k : Nat) (x y : α) : Prop :=
  match k with | 0 => x = y | 1 => x ≠ y | 2 => x < y | 3 => x ≤ y | 4 => False | _ => True
theorem related_coe (k : Nat) (x y : ℝ) : Related k (x : EReal) (y : EReal) ↔ Related k x y := by
  unfold Related
  split
  · exact EReal.coe_eq_coe_iff
  · exact not_congr EReal.coe_eq_coe_iff
  · exact EReal.coe_lt_coe_iff
  · exact EReal.coe_le_coe_iff
  · rfl
  · rfl
theorem sigFlag_zero {vs : List FVal} (h : ∀ v ∈ vs, v.isNan = false) : sigFlag vs = 0 := by
  refine (sigFlag_eq vs).2 fun ⟨v, hv, hs⟩ => ?_
  rcases inf_or_num (h v hv) with ⟨n, rfl⟩ | ⟨n, m, e, rfl⟩ <;> cases hs
/-- The result of a comparison of values: `un` says that one is a NaN. -/
def relation (k : Nat) (un : Bool) (c : Int) : Bool :=
  match k with | 0 => !un && c == 0 | 1 => un || c != 0 | 2 => !un && decide (c < 0) | 3 => !un && decide (c ≤ 0) | 4 => un | _ => !un
theorem relation_ordered {c : Int} {x y : EReal} (h : Compares c x y) (k : Nat) : relation k false c = true ↔ Related k x y := by
  obtain ⟨hlt, heq, hgt⟩ := h
  unfold relation Related
  split
  · simpa using heq
  · simpa using not_congr heq
  · simpa using hlt
  · have hle : c ≤ 0 ↔ x ≤ y := by rw [← not_lt, ← not_lt, hgt]
    simpa using hle
  · simp
  · simp
theorem relation_unordered {k : Nat} (hk : k < 6) (c : Int) : relation k true c = true ↔ k = 1 ∨ k = 4 := by
  unfold relation
  interval_cases k <;> simp

section
variable {t : FFmt} (ht : FmtOk t) (hi : t.special = .ieee) (a b : Nat)

theorem cmpPat_eq (k : Nat) : t.cmpPat k a b = (relation k ((t.decode a).isNan || (t.decode b).isNan) ((t.decode a).cmp (t.decode b)),
    if k = 2 ∨ k = 3 then (if (t.decode a).isNan || (t.decode b).isNan then flagNV else 0) else sigFlag [t.decode a, t.decode b]) := rfl
theorem cmpPat_ordered {x y : EReal} (ha : IsExt (t.decode a) x) (hb : IsExt (t.decode b) y) (k : Nat) :
    (t.cmpPat k a b).2 = 0 ∧ ((t.cmpPat k a b).1 = true ↔ Related k x y) := by
  have hna := isExt_isNan ha
  have hnb := isExt_isNan hb
  have hsig : sigFlag [t.decode a, t.decode b] = 0 := sigFlag_zero (by simp [hna, hnb])
  rw [cmpPat_eq, hna, hnb, hsig]
  exact ⟨by simp, relation_ordered (cmp_spec ha hb) k⟩
include ht hi
theorem cmpPat_unordered {k : Nat} (hk : k < 6) (h : NanPat t a ∨ NanPat t b) :
    let q := t.cmpPat k a b
    let sig : Prop := SigPat t a ∨ SigPat t b
    (q.1 = true ↔ k = 1 ∨ k = 4) ∧ (k = 2 ∨ k = 3 → q.2 = flagNV) ∧ (k ≠ 2 → k ≠ 3 → (sig → q.2 = flagNV) ∧ (¬sig → q.2 = 0)) := by
  have hun : ((t.decode a).isNan || (t.decode b).isNan) = true := by
    rw [Bool.or_eq_true, ← nanPat_iff hi, ← nanPat_iff hi]
    exact h
  obtain ⟨hnv, hquiet⟩ := sigFlag_eq [t.decode a, t.decode b]
  have hsig : (SigPat t a ∨ SigPat t b) ↔ ∃ v ∈ [t.decode a, t.decode b], v.signalling = true := by
    simp [sigPat_iff ht hi]
  intro q sig
  have hq : q = (relation k true ((t.decode a).cmp (t.decode b)), if k = 2 ∨ k = 3 then flagNV else sigFlag [t.decode a, t.decode b]) := by
    show t.cmpPat k a b = _
    rw [cmpPat_eq, hun]
    rfl
  rw [hq]
  refine ⟨relation_unordered hk _, fun h => if_pos h, fun h2 h3 => ?_⟩
  rw [if_neg (not_or.mpr ⟨h2, h3⟩)]
  exact ⟨fun h => hnv (hsig.mp h), fun h => hquiet (mt hsig.mpr h)⟩

end

/-! ## Minimum and maximum (R135) -/

/-- The sign bit of a pattern. -/
def Minus (t : FFmt) (k : Nat) : Prop := 2 ^ (t.e + t.f) ≤ k % 2 ^ t.bits
theorem minus_iff (t : FFmt) (k : Nat) : Minus t k ↔ (t.decode k).neg = true := by
  have hpos := Nat.two_pow_pos (t.e + t.f)
  have hlow : k % 2 ^ t.bits = k % 2 ^ (t.e + t.f) + 2 ^ (t.e + t.f) * (k / 2 ^ (t.e + t.f) % 2) := by
    rw [FFmt.bits, Nat.add_assoc, Nat.add_comm 1, Nat.mod_pow_succ]
  have hmod : k % 2 ^ (t.e + t.f) < 2 ^ (t.e + t.f) := Nat.mod_lt _ hpos
  rw [Minus, decode_neg, bitOf, hlow, beq_iff_eq]
  rcases Nat.mod_two_eq_zero_or_one (k / 2 ^ (t.e + t.f)) with h | h <;> rw [h] <;> omega
/-- The choice between two operands that are no NaNs, by their order with -0 below +0. -/
theorem minMax_ordered {t : FFmt} (hi : Bool) {a b : Nat} {x y : EReal} (ha : IsExt (t.decode a) x) (hb : IsExt (t.decode b) y) :
    let r := t.minMaxPat hi a b
    r.2 = 0 ∧ (r.1 = a % 2 ^ t.bits ∨ r.1 = b % 2 ^ t.bits) ∧ (x < y → r.1 = (if hi then b else a) % 2 ^ t.bits) ∧
    (y < x → r.1 = (if hi then a else b) % 2 ^ t.bits) ∧
    (x = y → (hi = false → Minus t a ∨ Minus t b → Minus t r.1) ∧ (hi = true → ¬Minus t a ∨ ¬Minus t b → ¬Minus t r.1)) := by
  have hna := isExt_isNan ha
  have hnb := isExt_isNan hb
  obtain ⟨hlt, heq, hgt⟩ := cmp_spec ha hb
  intro r
  have hr : r = (if hi then (if (t.decode a).cmpSigned (t.decode b) < 0 then b % 2 ^ t.bits else a % 2 ^ t.bits)
      else (if 0 < (t.decode a).cmpSigned (t.decode b) then b % 2 ^ t.bits else a % 2 ^ t.bits), 0) := by
    show t.minMaxPat hi a b = _
    simp only [FFmt.minMaxPat, hna, hnb, Bool.and_false, Bool.false_eq_true, if_false]
  rw [hr]
  refine ⟨rfl, ?_, fun h => ?_, fun h => ?_, fun h => ?_⟩
  · dsimp only
    split_ifs <;> simp
  · have hc : (t.decode a).cmpSigned (t.decode b) < 0 := by
      rw [FVal.cmpSigned, if_neg (mt heq.mp h.ne)]
      exact hlt.mpr h
    cases hi
    · simp [hc.not_gt]
    · simp [hc]
  · have hc : 0 < (t.decode a).cmpSigned (t.decode b) := by
      rw [FVal.cmpSigned, if_neg (mt heq.mp h.ne')]
      exact hgt.mpr h
    cases hi
    · simp [hc]
    · simp [hc.not_gt]
  · have hc : (t.decode a).cmpSigned (t.decode b) = if (t.decode a).neg = (t.decode b).neg then 0 else if (t.decode a).neg then -1 else 1 :=
      if_pos (heq.mpr h)
    simp only [minus_iff, hc]
    cases hA : (t.decode a).neg <;> cases hB : (t.decode b).neg <;> cases hi <;> simp [decode_mod, hA, hB]
theorem minMax_nan {t : FFmt} (ht : FmtOk t) (hi : t.special = .ieee) (max : Bool) (a b : Nat) :
    let r := t.minMaxPat max a b
    let sig : Prop := SigPat t a ∨ SigPat t b
    (NanPat t a → NanPat t b → PicksNan t [a, b] r.1) ∧ (NanPat t a → ¬NanPat t b → r.1 = b % 2 ^ t.bits) ∧
    (¬NanPat t a → NanPat t b → r.1 = a % 2 ^ t.bits) ∧ (NanPat t a ∨ NanPat t b → (sig → r.2 = flagNV) ∧ (¬sig → r.2 = 0)) := by
  obtain ⟨hnv, hquiet⟩ := sigFlag_eq [t.decode a, t.decode b]
  have hsig : (SigPat t a ∨ SigPat t b) ↔ ∃ v ∈ [t.decode a, t.decode b], v.signalling = true := by
    simp [sigPat_iff ht hi]
  have hone {v : FVal} (h : v.isNan = false) : v.signalling = false := by
    rcases inf_or_num h with ⟨n, rfl⟩ | ⟨n, m, e, rfl⟩ <;> rfl
  intro r sig
  have hr : r = if (t.decode a).isNan && (t.decode b).isNan then t.pickNan [t.decode a, t.decode b]
      else if (t.decode a).isNan then (b % 2 ^ t.bits, sigFlag [t.decode a])
      else if (t.decode b).isNan then (a % 2 ^ t.bits, sigFlag [t.decode b]) else _ := rfl
  have hflag (h : r.2 = sigFlag [t.decode a, t.decode b]) : (sig → r.2 = flagNV) ∧ (¬sig → r.2 = 0) := by
    rw [h]
    exact ⟨fun h => hnv (hsig.mp h), fun h => hquiet (mt hsig.mpr h)⟩
  clear_value r
  rw [nanPat_iff hi, nanPat_iff hi]
  cases ha : (t.decode a).isNan <;> cases hb : (t.decode b).isNan <;> simp only [ha, hb] at hr
  · simp
  · have hr' : r = (a % 2 ^ t.bits, sigFlag [t.decode b]) := hr
    exact ⟨nofun, nofun, fun _ _ => congrArg Prod.fst hr', fun _ => hflag ((congrArg Prod.snd hr').trans (by simp [sigFlag, hone ha]))⟩
  · have hr' : r = (b % 2 ^ t.bits, sigFlag [t.decode a]) := hr
    exact ⟨nofun, fun _ _ => congrArg Prod.fst hr', fun h => absurd rfl h, fun _ => hflag ((congrArg Prod.snd hr').trans (by simp [sigFlag, hone hb]))⟩
  · have hr' : r = t.pickNan [t.decode a, t.decode b] := hr
    obtain ⟨hp, hf⟩ := pickNan_picksNan ht hi (l := [a, b]) ⟨a, .head _, (nanPat_iff hi a).mpr ha⟩
    refine ⟨fun _ _ => hr' ▸ hp, fun _ h => absurd rfl h, fun h => absurd rfl h, fun _ => hflag ((congrArg Prod.snd hr').trans hf)⟩

/-! ## Classes (R136) -/

/-- The class of the three fields of a pattern. -/
def fieldClass (t : FFmt) (n : Bool) (e f : Nat) : Nat :=
  if e = 2 ^ t.e - 1 then (if f = 0 then (if n then 0 else 7) else if f / 2 ^ (t.f - 1) = 0 then 8 else 9)
  else if e = 0 then (if f = 0 then (if n then 3 else 4) else if n then 2 else 5)
  else if n then 1 else 6
theorem classBit_eq (t : FFmt) (a : Nat) : classBit t a = fieldClass t (bitOf (t.e + t.f) a) (bitsOf t.f t.e a) (a % 2 ^ t.f) := by
  have hn : decide (2 ^ (t.e + t.f) ≤ a % 2 ^ t.bits) = bitOf (t.e + t.f) a := by
    rw [Bool.eq_iff_iff, decide_eq_true_iff, ← decode_neg]
    exact minus_iff t a
  rw [classBit, hn]
  rfl
theorem classPat_eq {t : FFmt} (ht : FmtOk t) (hi : t.special = .ieee) (a : Nat) : t.classPat a = 2 ^ classBit t a := by
  have hfr : a % 2 ^ t.f < 2 ^ t.f := Nat.mod_lt _ (by positivity)
  have hquiet : bitOf (t.f - 1) (a % 2 ^ t.f) = !decide (a % 2 ^ t.f / 2 ^ (t.f - 1) = 0) := by
    rw [bitOf, quietBit ht, Nat.mod_mod]
    rcases Nat.mod_two_eq_zero_or_one (a / 2 ^ (t.f - 1)) with h | h <;> rw [h] <;> rfl
  rw [classBit_eq, FFmt.classPat, decode_eq, fieldVal, fieldClass, hquiet]
  generalize bitOf (t.e + t.f) a = n
  generalize a % 2 ^ t.f = fr at *
  by_cases h1 : bitsOf t.f t.e a = 2 ^ t.e - 1
  · rw [if_pos ⟨hi, h1⟩, if_pos h1]
    by_cases h2 : fr = 0
    · rw [if_pos h2, if_pos h2]
      cases n <;> rfl
    · rw [if_neg h2, if_neg h2]
      by_cases h3 : fr / 2 ^ (t.f - 1) = 0
      · rw [if_pos h3, decide_eq_true h3]
        rfl
      · rw [if_neg h3, decide_eq_false h3]
        rfl
  · rw [if_neg (fun h => h1 h.2), if_neg (by simp [hi]), if_neg h1]
    by_cases h2 : bitsOf t.f t.e a = 0
    · rw [if_pos h2, if_pos h2]
      by_cases h3 : fr = 0
      · simp only [if_pos h3]
        cases n <;> rfl
      · simp only [if_neg h3, if_pos hfr]
        cases n <;> rfl
    · rw [if_neg h2, if_neg h2]
      have hm : 2 ^ t.f + fr ≠ 0 := by have := Nat.two_pow_pos t.f; omega
      simp only [if_neg hm, if_neg (by omega : ¬2 ^ t.f + fr < 2 ^ t.f)]
      cases n <;> rfl

end Sys2Proof.Safety
end

section
/-!
SUPPORT. Order of real values, and conversions between floats, integers and powers of two (R125, R126, R129, R137, R138, R155).
-/
namespace Sys2Proof.Safety
open Sys2Proof.Machine

/-! ## Order of real values (R135, R137) -/

theorem cmpPat_real {t : FFmt} {a b : Nat} {x y : ℝ} (ha : IsReal (t.decode a) x) (hb : IsReal (t.decode b) y) (k : Nat) :
    (t.cmpPat k a b).2 = 0 ∧ ((t.cmpPat k a b).1 = true ↔ Related k x y) := by
  rw [← related_coe]
  exact cmpPat_ordered a b (isExt_of_isReal ha) (isExt_of_isReal hb) k
theorem minMax_real {t : FFmt} {a b : Nat} {x y : ℝ} (ha : IsReal (t.decode a) x) (hb : IsReal (t.decode b) y) (hi : Bool) :
    let r := t.minMaxPat hi a b
    r.2 = 0 ∧ (r.1 = a % 2 ^ t.bits ∨ r.1 = b % 2 ^ t.bits) ∧
    (x < y → r.1 = (if hi then b else a) % 2 ^ t.bits) ∧ (y < x → r.1 = (if hi then a else b) % 2 ^ t.bits) ∧
    (x = 0 → y = 0 → (t.decode a).neg ≠ (t.decode b).neg → (t.decode r.1).neg = !hi) := by
  obtain ⟨hfl, hone, hlt, hgt, heq⟩ := minMax_ordered hi (isExt_of_isReal ha) (isExt_of_isReal hb)
  refine ⟨hfl, hone, fun h => hlt (EReal.coe_lt_coe_iff.mpr h), fun h => hgt (EReal.coe_lt_coe_iff.mpr h), fun hx hy hs => ?_⟩
  obtain ⟨hmin, hmax⟩ := heq (by rw [hx, hy])
  simp only [minus_iff] at hmin hmax
  generalize (t.decode a).neg = n at *
  generalize (t.decode b).neg = n' at *
  have hset : n = true ∨ n' = true := by cases n <;> cases n' <;> simp at hs ⊢
  have hclear : ¬n = true ∨ ¬n' = true := by cases n <;> cases n' <;> simp at hs ⊢
  cases hi with
  | false => exact hmin rfl hset
  | true => exact Bool.eq_false_iff.mpr (hmax rfl hclear)

section
variable {t : FFmt} (ht : FmtOk t) (hi : t.special = .ieee) (M : Nat) (sat : Bool) (a : Nat)
include ht

/-! ## Integers and powers of two to floats (R138, R155) -/

theorem ofInteger_spec (v : Int) :
    let r := t.ofInteger M sat v
    (v = 0 → ExactZero t false r) ∧ (v ≠ 0 → Rounded t M sat (decide (v < 0)) |(v : ℝ)| r) := by
  obtain ⟨hz, hr⟩ := round_exact ht M sat (decide (v < 0)) v.natAbs 0
  rw [ne_eq, val_zero_iff, Int.natAbs_eq_zero] at hr
  rw [val_zero_iff, Int.natAbs_eq_zero] at hz
  have habs : |val (decide (v < 0)) v.natAbs 0| = |(v : ℝ)| := by
    rw [val_abs, zpow_zero, mul_one, Nat.cast_natAbs, Int.cast_abs]
  rw [habs] at hr
  exact ⟨fun h => by subst h; exact hz rfl, hr⟩
theorem scalePat_real {k : Nat} {x : ℝ} (hk : k < 255) (hx : IsReal (t.decode a) x) :
    let r := t.scalePat M sat k a
    (x = 0 → ExactZero t (t.decode a).neg r) ∧ (x ≠ 0 → Rounded t M sat (t.decode a).neg (|x| * (2 : ℝ) ^ ((k : ℤ) - 127)) r) := by
  obtain ⟨n, m, e, hA, rfl⟩ := isReal_iff.mp hx
  have hr : t.scalePat M sat k a = t.round M sat n { m := m, e := e + k - 127 } := by
    rw [FFmt.scalePat, if_neg hk.ne, hA]
  have hval : |val n m (e + k - 127)| = |val n m e| * (2 : ℝ) ^ ((k : ℤ) - 127) := by
    rw [val_abs, val_abs, mul_assoc, ← two_zpow_add, add_sub_assoc]
  obtain ⟨hz, hround⟩ := round_exact ht M sat n m (e + k - 127)
  rw [hval, ne_eq, val_zero_iff] at hround
  rw [val_zero_iff] at hz
  rw [hr, hA, ne_eq, val_zero_iff]
  exact ⟨hz, hround⟩
include hi in
theorem scalePat_special (k : Nat) :
    let r := t.scalePat M sat k a
    (k = 255 → Invalid t r) ∧ (k < 255 → Picks t [a] r False ∧ ∀ n, t.decode a = .inf n → (sat = false → Infinite t n 0 r) ∧
      (sat = true → r.2 = flagSF ||| flagNX ∧ ∀ l, IsLargest t l → IsReal (t.decode r.1) ((if n then -1 else 1) * l))) := by
  refine ⟨fun hk => ?_, fun hk => ⟨picks_of ht hi fun hn => ?_, fun n hA => ⟨fun hs => ?_, fun hs => ?_⟩⟩⟩
  · rw [FFmt.scalePat, if_pos hk]
    exact invalid_eq hi
  · obtain ⟨n, q, p, hA⟩ := isNan_iff.mp (by simpa using hn : (t.decode a).isNan = true)
    rw [FFmt.scalePat, if_neg hk.ne, List.map_cons, hA]
    rfl
  · rw [FFmt.scalePat, if_neg hk.ne, hA, hs]
    exact infinite_eq hi n 0
  · rw [FFmt.scalePat, if_neg hk.ne, hA, hs]
    exact ⟨rfl, fun l hl => largest_isReal ht n hl⟩

end
end Sys2Proof.Safety
end

section
/-!
SUPPORT. Floats to integers (R126) and between formats (R125, R129).
-/
namespace Sys2Proof.Safety
open Sys2Proof.Machine

/-! ## Floats to integers (R126) -/

/-- The least and the greatest integer of n bits. -/
def leastInt (n : Nat) (signed : Bool) : Int := if signed then -2 ^ (n - 1) else 0
def greatestInt (n : Nat) (signed : Bool) : Int := if signed then 2 ^ (n - 1) - 1 else 2 ^ n - 1
/-- r is the low n bits of v. -/
def Gives (n : Nat) (v : Int) (fl : Flags) (r : Nat × Flags) : Prop := r = ((v % 2 ^ n).toNat, fl)
/-- r stands for a value outside the range, v being what saturation makes of it. -/
def Outside (n : Nat) (sat : Bool) (v : Int) (r : Nat × Flags) : Prop :=
  (sat = true → Gives n v (flagNV ||| flagSF) r) ∧ (sat = false → Gives n (2 ^ (n - 1)) flagNV r)
/-- What `FFmt.toInt` makes of a value outside the range. -/
def outsideInt (n : Nat) (sat : Bool) (v : Int) : Nat × Flags := if sat then (ofInt n v, flagNV ||| flagSF) else (2 ^ (n - 1), flagNV)
/-- What `FFmt.toInt` makes of an integer. -/
def intResult (n : Nat) (signed sat : Bool) (v : Int) (inexact : Bool) : Nat × Flags :=
  if v < leastInt n signed then outsideInt n sat (leastInt n signed)
  else if greatestInt n signed < v then outsideInt n sat (greatestInt n signed)
  else (ofInt n v, if inexact then flagNX else 0)

theorem gives_ofInt (n : Nat) (v : Int) (fl : Flags) : Gives n v fl (ofInt n v, fl) := by
  rw [Gives, ofInt, Nat.cast_pow, Nat.cast_ofNat]
theorem outside_outsideInt {n : Nat} (hn : 0 < n) (sat : Bool) (v : Int) : Outside n sat v (outsideInt n sat v) := by
  refine ⟨fun hs => ?_, fun hs => ?_⟩
  · rw [outsideInt, if_pos hs]
    exact gives_ofInt n v _
  · have hlt : 2 ^ (n - 1) < 2 ^ n := Nat.pow_lt_pow_right one_lt_two (Nat.sub_lt hn one_pos)
    have hmod : (((2 ^ (n - 1) : Nat) : Int) % (2 ^ n : Nat)).toNat = 2 ^ (n - 1) := by
      rw [← Int.natCast_mod, Int.toNat_natCast, Nat.mod_eq_of_lt hlt]
    rw [outsideInt, if_neg (by simp [hs]), Gives]
    push_cast at hmod
    rw [hmod]
theorem intResult_spec {n : Nat} (hn : 0 < n) (signed sat : Bool) (v : Int) (inexact : Bool) :
    let r := intResult n signed sat v inexact
    (v < leastInt n signed → Outside n sat (leastInt n signed) r) ∧ (greatestInt n signed < v → Outside n sat (greatestInt n signed) r) ∧
    (leastInt n signed ≤ v → v ≤ greatestInt n signed → (inexact = false → Gives n v 0 r) ∧ (inexact = true → Gives n v flagNX r)) := by
  have hle : leastInt n signed ≤ greatestInt n signed := by
    have h1 : (0 : Int) < 2 ^ (n - 1) := by positivity
    have h2 : (0 : Int) < 2 ^ n := by positivity
    cases signed
    · simp only [leastInt, greatestInt, Bool.false_eq_true, if_false]; omega
    · simp only [leastInt, greatestInt, if_true]; omega
  refine ⟨fun h => ?_, fun h => ?_, fun hl hg => ?_⟩
  · rw [intResult, if_pos h]
    exact outside_outsideInt hn sat _
  · rw [intResult, if_neg (by omega), if_pos h]
    exact outside_outsideInt hn sat _
  · rw [intResult, if_neg (by omega), if_neg (by omega)]
    refine ⟨fun h => ?_, fun h => ?_⟩
    · rw [h]
      exact gives_ofInt n v 0
    · rw [h]
      exact gives_ofInt n v flagNX
theorem bounds_eq (n : Nat) (signed : Bool) : (if signed then -((2 ^ (n - 1) : Nat) : Int) else 0) = leastInt n signed ∧
    (if signed then ((2 ^ (n - 1) : Nat) : Int) - 1 else ((2 ^ n : Nat) : Int) - 1) = greatestInt n signed := by
  simp [leastInt, greatestInt]
theorem toInt_nan {t : FFmt} {a : Nat} {k q : Bool} {p : Nat} (hA : t.decode a = .nan k q p) (n : Nat) (signed : Bool) (M : Nat) (sat : Bool) :
    t.toInt n signed M sat a = outsideInt n sat 0 := by
  rw [FFmt.toInt, hA]
  rfl
theorem toInt_inf {t : FFmt} {a : Nat} {k : Bool} (hA : t.decode a = .inf k) (n : Nat) (signed : Bool) (M : Nat) (sat : Bool) :
    t.toInt n signed M sat a = outsideInt n sat (if k then leastInt n signed else greatestInt n signed) := by
  rw [FFmt.toInt, hA, (bounds_eq n signed).1, (bounds_eq n signed).2]
  rfl
theorem toInt_num {t : FFmt} {a : Nat} {k : Bool} {m : Nat} {e : Int} (hA : t.decode a = .num k m e) (n : Nat) (signed : Bool) (M : Nat) (sat : Bool) :
    let u := Mag.roundAt { m := m, e := e } M k 0
    t.toInt n signed M sat a = intResult n signed sat (if k then -(u.1 : Int) else u.1) u.2 := by
  rw [FFmt.toInt, hA, (bounds_eq n signed).1, (bounds_eq n signed).2]
  rfl
theorem toInt_spec {t : FFmt} (hi : t.special = .ieee) {n : Nat} (hn : 0 < n) (signed : Bool) (M : Nat) (sat : Bool) (a : Nat) :
    let A := t.decode a
    let r := t.toInt n signed M sat a
    (NanPat t a → Outside n sat 0 r) ∧ (∀ k, A = .inf k → Outside n sat (if k then leastInt n signed else greatestInt n signed) r) ∧
    (∀ x, IsReal A x → ∃ m : Nat, Nearest M A.neg 1 |x| m ∧
      (let v : Int := if A.neg then -m else m
       (v < leastInt n signed → Outside n sat (leastInt n signed) r) ∧ (greatestInt n signed < v → Outside n sat (greatestInt n signed) r) ∧
       (leastInt n signed ≤ v → v ≤ greatestInt n signed → ((m : ℝ) = |x| → Gives n v 0 r) ∧ ((m : ℝ) ≠ |x| → Gives n v flagNX r)))) := by
  intro A r
  refine ⟨fun ha => ?_, fun k hA => ?_, fun x hx => ?_⟩
  · obtain ⟨k, q, p, hA⟩ := isNan_iff.mp ((nanPat_iff hi a).mp ha)
    rw [show r = _ from toInt_nan hA n signed M sat]
    exact outside_outsideInt hn sat 0
  · rw [show r = _ from toInt_inf hA n signed M sat]
    exact outside_outsideInt hn sat _
  · obtain ⟨k, m, e, hA, rfl⟩ := isReal_iff.mp hx
    obtain ⟨hnear, hinexact⟩ := roundAt_nearest (magIs_exact m e) M k (q := 0) nofun
    rw [zpow_zero, mul_one] at hnear hinexact
    obtain ⟨hlo, hhi, hin⟩ := intResult_spec hn signed sat
      (if k then -((Mag.roundAt { m := m, e := e } M k 0).1 : Int) else (Mag.roundAt { m := m, e := e } M k 0).1) (Mag.roundAt { m := m, e := e } M k 0).2
    rw [show r = _ from toInt_num hA n signed M sat, hA, val_abs]
    refine ⟨_, hnear, hlo, hhi, fun hl hg => ⟨fun he => (hin hl hg).1 ?_, fun he => (hin hl hg).2 (hinexact.mpr he)⟩⟩
    exact Bool.eq_false_iff.mpr (mt hinexact.mp (not_not.mpr he))

/-! ## Between formats (R125, R129) -/

theorem ffmt_injective {d e : Nat} (hd : d < 9) (he : e < 9) (h : ffmt d = ffmt e) : d = e := by
  have : ∀ d < 9, ∀ e < 9, ffmt d = ffmt e → d = e := by decide
  exact this d hd e he h
theorem convert_num {D S : FFmt} {a : Nat} {n : Bool} {m : Nat} {e : Int} (hX : S.decode a = .num n m e) (M : Nat) (sat : Bool) :
    D.convert S M sat a = D.round M sat n { m := m, e := e } := by
  rw [FFmt.convert, hX]
theorem convert_real {D : FFmt} (hD : FmtOk D) (S : FFmt) (M : Nat) (sat : Bool) (a : Nat) {x : ℝ} (hx : IsReal (S.decode a) x) :
    let r := D.convert S M sat a
    (x = 0 → ExactZero D (S.decode a).neg r) ∧ (x ≠ 0 → Rounded D M sat (S.decode a).neg |x| r) := by
  obtain ⟨n, m, e, hX, rfl⟩ := isReal_iff.mp hx
  rw [convert_num hX, hX]
  exact round_exact hD M sat n m e
theorem convert_inf {D : FFmt} (hD : FmtOk D) (S : FFmt) (M : Nat) (sat : Bool) (a : Nat) {n : Bool} (hX : S.decode a = .inf n) :
    let r := D.convert S M sat a
    (sat = true → r.2 = flagSF ||| flagNX ∧ ∀ l, IsLargest D l → IsReal (D.decode r.1) ((if n then -1 else 1) * l)) ∧
    (sat = false → (D.special = .ieee → D.decode r.1 = .inf n ∧ r.2 = 0) ∧
      (D.special = .e4m3 → D.decode r.1 = .nan n false 0 ∧ r.2 = flagNV) ∧
      (D.special = .finite → r.2 = flagNV ||| flagSF ∧ ∀ l, IsLargest D l → IsReal (D.decode r.1) ((if n then -1 else 1) * l))) := by
  have hsat (hs : sat = true) : D.convert S M sat a = (D.largest n, flagSF ||| flagNX) := by simp [FFmt.convert, hX, hs]
  have hieee (hs : sat = false) (hi : D.special = .ieee) : D.convert S M sat a = (D.inf n, 0) := by simp [FFmt.convert, hX, hs, hi]
  have he4m3 (hs : sat = false) (hi : D.special = .e4m3) : D.convert S M sat a = (D.nan n 0, flagNV) := by simp [FFmt.convert, hX, hs, hi]
  have hfinite (hs : sat = false) (hi : D.special = .finite) : D.convert S M sat a = (D.largest n, flagNV ||| flagSF) := by
    simp [FFmt.convert, hX, hs, hi]
  refine ⟨fun hs => ?_, fun hs => ⟨fun hi => ?_, fun hi => ?_, fun hi => ?_⟩⟩
  · rw [hsat hs]
    exact ⟨rfl, fun l hl => largest_isReal hD n hl⟩
  · rw [hieee hs hi]
    exact ⟨decode_inf hi n, rfl⟩
  · rw [he4m3 hs hi]
    exact ⟨(decode_e4m3_nan hi n 0).1, rfl⟩
  · rw [hfinite hs hi]
    exact ⟨rfl, fun l hl => largest_isReal hD n hl⟩
/-- A NaN of a format, quiet, with the payload that fits. -/
theorem decode_ieee_nan {t : FFmt} (ht : FmtOk t) (hi : t.special = .ieee) (n : Bool) {p : Nat} (hp : p < 2 ^ 51) :
    t.decode (t.nan n p) = .nan n false (p / 2 ^ (52 - t.f) * 2 ^ (52 - t.f)) := by
  have he := Nat.two_pow_pos t.e
  have hf := ht.f_le
  have h1 := ht.one_le_f
  have hpay : p / 2 ^ (52 - t.f) < 2 ^ (t.f - 1) := by
    rw [Nat.div_lt_iff_lt_mul (by positivity), ← Nat.pow_add, show t.f - 1 + (52 - t.f) = 51 by omega]
    exact hp
  have hsplit := pow_f_split ht
  have hquiet : bitOf (t.f - 1) (2 ^ (t.f - 1) + p / 2 ^ (52 - t.f)) = true := by
    rw [bitOf, Nat.add_div_left _ (by positivity), Nat.div_eq_of_lt hpay]
    rfl
  rw [nan_ieee hi, decode_pack (by omega) (by omega), fieldVal, if_pos ⟨hi, rfl⟩, if_neg (by positivity), hquiet,
    Nat.add_mod_left, Nat.mod_eq_of_lt hpay]
  rfl
theorem decode_canonical {t : FFmt} (ht : FmtOk t) (h : t.special ≠ .finite) : t.decode t.canonical = .nan false false 0 := by
  cases hs : t.special with
  | ieee =>
    have := decode_ieee_nan ht hs false (p := 0) (by norm_num)
    rw [nan_ieee hs, Nat.zero_div, Nat.add_zero, Nat.zero_mul] at this
    rw [FFmt.canonical, hs]
    exact this
  | e4m3 =>
    have := decode_e4m3_nan hs false 0
    rw [FFmt.nan, hs] at this
    rw [FFmt.canonical, hs]
    exact this.1
  | finite => exact absurd hs h
/-- The payload of a NaN has at most 51 bits. -/
theorem decode_nan_lt {t : FFmt} (ht : FmtOk t) {a : Nat} {n q : Bool} {p : Nat} (h : t.decode a = .nan n q p) : p < 2 ^ 51 := by
  have hf := ht.f_le
  have h1 := ht.one_le_f
  rw [decode_eq, fieldVal] at h
  split_ifs at h
  · cases h
    have hlt : a % 2 ^ t.f % 2 ^ (t.f - 1) < 2 ^ (t.f - 1) := Nat.mod_lt _ (by positivity)
    calc _ < 2 ^ (t.f - 1) * 2 ^ (52 - t.f) := Nat.mul_lt_mul_of_pos_right hlt (by positivity)
      _ = 2 ^ 51 := by rw [← Nat.pow_add, show t.f - 1 + (52 - t.f) = 51 by omega]
  · cases h
    norm_num
theorem convert_nan {d e : Nat} (hd : d < 9) (he : e < 9) (M : Nat) (sat : Bool) (a : Nat) {n q : Bool} {p : Nat}
    (hX : (ffmt e).decode a = .nan n q p) :
    let D := ffmt d
    let r := D.convert (ffmt e) M sat a
    (D.special = .finite → r = (0, flagNV)) ∧
    (D.special ≠ .finite → d ≠ e → (q = true → r.2 = flagNV) ∧ (q = false → r.2 = 0) ∧
      (d < 2 → D.decode r.1 = .nan n false (p / 2 ^ (52 - D.f) * 2 ^ (52 - D.f))) ∧ (2 ≤ d → D.decode r.1 = .nan false false 0)) := by
  intro D r
  have hr : r = D.convNan (ffmt e) n q p := by
    show FFmt.convert _ _ _ _ _ = _
    rw [FFmt.convert, hX]
  have hwide : d < 2 → ffmt d = f64 ∨ ffmt d = f32 := by
    intro h
    interval_cases d
    · exact .inl rfl
    · exact .inr rfl
  have hieee : d < 2 → (ffmt d).special = .ieee := by
    intro h
    interval_cases d <;> rfl
  refine ⟨fun hf => ?_, fun hf hne => ?_⟩
  · rw [hr, FFmt.convNan, if_pos hf]
    cases q <;> rfl
  · have hr' : r = (if d < 2 then D.nan n p else D.canonical, if q then flagNV else 0) := by
      rw [hr, FFmt.convNan, if_neg hf, if_neg (mt (ffmt_injective hd he) hne)]
      by_cases h2 : d < 2
      · rw [if_pos (hwide h2), if_pos h2]
      · have hn : ¬(D = f64 ∨ D = f32) := by
          rintro (h | h)
          · exact h2 (by rw [ffmt_injective hd (by norm_num) (h : ffmt d = ffmt 0)]; norm_num)
          · exact h2 (by rw [ffmt_injective hd (by norm_num) (h : ffmt d = ffmt 1)]; norm_num)
        rw [if_neg hn, if_neg h2]
    rw [hr']
    refine ⟨fun hq => if_pos hq, fun hq => if_neg (by simp [hq]), fun h2 => ?_, fun h2 => ?_⟩
    · rw [if_pos h2]
      exact decode_ieee_nan (ffmt_ok d) (hieee h2) n (decode_nan_lt (ffmt_ok e) hX)
    · rw [if_neg (by omega)]
      exact decode_canonical (ffmt_ok d) hf

end Sys2Proof.Safety
end

section
/-!
SUPPORT. A cell of the grid takes the exact sum of its value and its scaled products, rounded once, or the special value of R128 and
R171.
-/
namespace Sys2Proof.Safety
open Sys2Proof.Machine

theorem cellFmt_ok (mf : Nat) : FmtOk (cellFmt mf) := by
  unfold cellFmt
  split_ifs
  · exact ffmt_ok 0
  · exact ffmt_ok 1
theorem cellFmt_ieee (mf : Nat) : (cellFmt mf).special = .ieee := by
  unfold cellFmt
  split_ifs <;> rfl

/-! ## The parts of a cell -/

/-- A value times 2 ^ e. -/
def scaleVal (e : Int) (v : FVal) : FVal := match v with | .num n m e' => .num n m (e' + e) | v => v
/-- The signed product of a pair, 0 times infinity as a NaN. -/
def cellProduct (neg : Bool) (e : Int) (p : FVal × FVal) : FVal :=
  if p.1.zeroInf p.2 then .nan false false 0 else scaleVal e ((p.1.mul p.2).flip neg)
/-- The term of a finite value. -/
def cellTerm (v : FVal) : Term := match v with | .num n m e => (n, m, e) | _ => (false, 0, 0)
/-- The inputs of a cell among which a NaN is chosen. -/
def cellIns (mf : Nat) (x : CellIn) : List FVal :=
  (x.c :: x.ab.flatMap (fun p => [enterNan mf p.1, enterNan mf p.2])) ++ (if x.nanScale then [.nan false false 0] else [])

theorem isNan_enterNan (mf : Nat) (v : FVal) : (enterNan mf v).isNan = v.isNan := by
  cases v with
  | nan n q p =>
    rw [enterNan]
    split_ifs <;> rfl
  | inf n => rfl
  | num n m e => rfl
section
variable {mf : Nat} {x : CellIn} (neg : Bool) (M : Nat) (made : Nat → Nat)
theorem mopCell_nan (h : ∃ v ∈ cellIns mf x, v.isNan = true) : mopCell mf neg M made x =
    (((cellFmt mf).pickNan (cellIns mf x)).1, ((cellFmt mf).pickNan (cellIns mf x)).2 |||
      if x.ab.any (fun p => p.1.zeroInf p.2) || x.nanScale then flagNV else 0) := by
  rw [← List.any_eq_true, cellIns, List.flatMap_def] at h
  rw [cellIns, List.flatMap_def]
  exact if_pos h
theorem mopCell_clean (h : ∀ v ∈ cellIns mf x, v.isNan = false) : mopCell mf neg M made x =
    match firstBad (infSign x.c) 0 (x.ab.map (cellProduct neg x.exp)) with
    | some k => (made k, flagNV)
    | none =>
      match (x.c :: x.ab.map (cellProduct neg x.exp)).find? FVal.isInf with
      | some v => ((cellFmt mf).inf v.neg, 0)
      | none => (cellFmt mf).sum M ((x.c :: x.ab.map (cellProduct neg x.exp)).map cellTerm) := by
  have hno : ¬(cellIns mf x).any FVal.isNan = true := by
    rw [List.any_eq_true]
    rintro ⟨v, hv, hn⟩
    exact absurd hn (by simp [h v hv])
  rw [cellIns, List.flatMap_def] at hno
  exact if_neg hno
end
/-- Without a NaN among the inputs no scale and no operand is one. -/
theorem cellIns_clean {mf : Nat} {x : CellIn} (h : ∀ v ∈ cellIns mf x, v.isNan = false) :
    x.nanScale = false ∧ x.c.isNan = false ∧ ∀ p ∈ x.ab, p.1.isNan = false ∧ p.2.isNan = false := by
  refine ⟨Bool.eq_false_iff.mpr fun hs => ?_, h _ (.head _), fun p hp => ?_⟩
  · have := h (.nan false false 0) (List.mem_append_right _ (by rw [hs]; exact .head _))
    cases this
  · have hmem (v : FVal) (hv : v ∈ [enterNan mf p.1, enterNan mf p.2]) : v ∈ cellIns mf x :=
      List.mem_append_left _ (.tail _ (List.mem_flatMap.mpr ⟨p, hp, hv⟩))
    have h1 := h _ (hmem _ (.head _))
    have h2 := h _ (hmem _ (.tail _ (.head _)))
    rw [isNan_enterNan] at h1 h2
    exact ⟨h1, h2⟩
theorem cellIns_of_clean {mf : Nat} {x : CellIn} (hs : x.nanScale = false) (hc : x.c.isNan = false)
    (hab : ∀ p ∈ x.ab, p.1.isNan = false ∧ p.2.isNan = false) : ∀ v ∈ cellIns mf x, v.isNan = false := by
  intro v hv
  rw [cellIns, hs, if_neg Bool.false_ne_true, List.append_nil, List.mem_cons, List.mem_flatMap] at hv
  rcases hv with rfl | ⟨p, hp, hv⟩
  · exact hc
  · rw [List.mem_pair] at hv
    obtain ⟨h1, h2⟩ := hab p hp
    rcases hv with rfl | rfl <;> rwa [isNan_enterNan]

/-! ## Finite cells (R170) -/

/-- The exact product of finite operands. -/
theorem cellProduct_real (neg : Bool) (e : Int) {p : FVal × FVal} {u : ℝ × ℝ} (h : IsReal p.1 u.1 ∧ IsReal p.2 u.2) :
    ∃ m e', cellProduct neg e p = .num ((p.1.neg != p.2.neg) != neg) m e' ∧
      val ((p.1.neg != p.2.neg) != neg) m e' = (if neg then -1 else 1) * u.1 * u.2 * (2 : ℝ) ^ e := by
  obtain ⟨v, w⟩ := p
  obtain ⟨n, m, k, rfl, hu⟩ := isReal_iff.mp h.1
  obtain ⟨n', m', k', rfl, hw⟩ := isReal_iff.mp h.2
  refine ⟨m * m', k + k' + e, by simp [cellProduct, FVal.zeroInf, FVal.isInf, FVal.mul, FVal.flip, scaleVal, FVal.neg], ?_⟩
  have hscale (b : Bool) (j : Nat) (i : Int) : val b j (i + e) = val b j i * (2 : ℝ) ^ e := by
    rw [val, val, two_zpow_add]
    ring
  rw [hu, hw, hscale, val_flip, FVal.neg, FVal.neg, val_mul]
  ring
/-- The terms of finite products: none is an infinity or a NaN, their sum is the real one, and their zeros and signs are those of the products. -/
theorem cellProducts_real (neg : Bool) (e : Int) {ab : List (FVal × FVal)} {l : List (ℝ × ℝ)}
    (h : List.Forall₂ (fun p u => IsReal p.1 u.1 ∧ IsReal p.2 u.2) ab l) :
    let ps := ab.map (cellProduct neg e)
    (∀ v ∈ ps, ∃ n m k, v = .num n m k) ∧
    total (ps.map cellTerm) = (l.map (fun u => (if neg then -1 else 1) * u.1 * u.2 * (2 : ℝ) ^ e)).sum ∧
    ((∀ t ∈ ps.map cellTerm, t.2.1 = 0) ↔ ∀ u ∈ l, u.1 * u.2 = 0) ∧
    ∀ n, (∀ t ∈ ps.map cellTerm, t.1 = n) ↔ ∀ p ∈ ab, ((p.1.neg != p.2.neg) != neg) = n := by
  induction h with
  | nil => exact ⟨nofun, rfl, ⟨nofun, nofun⟩, fun n => ⟨nofun, nofun⟩⟩
  | @cons p u ab l hp _ ih =>
    obtain ⟨hnum, hsum, hzero, hsign⟩ := ih
    obtain ⟨m, k, hprod, hval⟩ := cellProduct_real neg e hp
    have hterm : cellTerm (cellProduct neg e p) = ((p.1.neg != p.2.neg) != neg, m, k) := by rw [hprod]; rfl
    have hm : m = 0 ↔ u.1 * u.2 = 0 := by
      rw [← val_zero_iff, hval, mul_assoc, mul_assoc]
      have hs : (if neg then -1 else 1 : ℝ) ≠ 0 := by split_ifs <;> norm_num
      rw [mul_eq_zero, or_iff_right hs, ← mul_assoc, mul_eq_zero, or_iff_left (two_zpow_pos e).ne']
    refine ⟨?_, ?_, ?_, fun n => ?_⟩
    · rw [List.map_cons, List.forall_mem_cons]
      exact ⟨⟨_, m, k, hprod⟩, hnum⟩
    · rw [List.map_cons, List.map_cons, total, List.map_cons, List.sum_cons, List.map_cons, List.sum_cons, hterm, hval, ← hsum, total]
    · rw [List.map_cons, List.map_cons, List.forall_mem_cons, List.forall_mem_cons, hzero, hterm, hm]
    · rw [List.map_cons, List.map_cons, List.forall_mem_cons, List.forall_mem_cons, hsign, hterm]
theorem operands_clean {ab : List (FVal × FVal)} {l : List (ℝ × ℝ)} (h : List.Forall₂ (fun p u => IsReal p.1 u.1 ∧ IsReal p.2 u.2) ab l) :
    ∀ p ∈ ab, p.1.isNan = false ∧ p.2.isNan = false := by
  induction h with
  | nil => exact nofun
  | cons hp _ ih =>
    exact List.forall_mem_cons.mpr ⟨⟨isExt_isNan (isExt_of_isReal hp.1), isExt_isNan (isExt_of_isReal hp.2)⟩, ih⟩
theorem firstBad_num : ∀ (f : Option Bool) (k : Nat) {vs : List FVal}, (∀ v ∈ vs, ∃ n m e, v = .num n m e) → firstBad f k vs = none
  | _, _, [], _ => rfl
  | f, k, v :: vs, h => by
    obtain ⟨⟨n, m, e, rfl⟩, hvs⟩ := List.forall_mem_cons.mp h
    exact firstBad_num f (k + 1) hvs
theorem mopCell_real (mf : Nat) (f : Bool) (M : Nat) (made : Nat → Nat) (x : CellIn) (z : ℝ) (l : List (ℝ × ℝ)) (hs : x.nanScale = false)
    (hc : IsReal x.c z) (hab : List.Forall₂ (fun p u => IsReal p.1 u.1 ∧ IsReal p.2 u.2) x.ab l) :
    let r := mopCell mf f M made x
    let D := cellFmt mf
    let v := z + (l.map (fun u => (if f then -1 else 1) * u.1 * u.2 * (2 : ℝ) ^ x.exp)).sum
    let zeros : Prop := z = 0 ∧ ∀ u ∈ l, u.1 * u.2 = 0
    let one (n : Bool) : Prop := x.c.neg = n ∧ ∀ p ∈ x.ab, ((p.1.neg != p.2.neg) != f) = n
    RoundedOnce D M v r ∧ (v = 0 → ¬zeros → ExactZero D (M == 3) r) ∧
    (zeros → (∀ n, one n → ExactZero D n r) ∧ ((∀ n, ¬one n) → ExactZero D (M == 3) r)) := by
  intro r D v zeros one
  obtain ⟨n, m, e, hcv, rfl⟩ := isReal_iff.mp hc
  obtain ⟨hnum, hsum, hzero, hsign⟩ := cellProducts_real f x.exp hab
  set ps := x.ab.map (cellProduct f x.exp)
  set ts := (x.c :: ps).map cellTerm
  have hts : ts = (n, m, e) :: ps.map cellTerm := by rw [show ts = cellTerm x.c :: ps.map cellTerm from rfl, hcv]; rfl
  have hclean : ∀ v ∈ cellIns mf x, v.isNan = false :=
    cellIns_of_clean hs (by rw [hcv]; rfl) (operands_clean hab)
  have hfind : (x.c :: ps).find? FVal.isInf = none := by
    rw [List.find?_eq_none, List.forall_mem_cons]
    refine ⟨by simp [hcv, FVal.isInf], fun v hv => ?_⟩
    obtain ⟨n, m, e, rfl⟩ := hnum v hv
    simp [FVal.isInf]
  have hr : r = D.sum M ts := by
    show mopCell mf f M made x = _
    rw [mopCell_clean f M made hclean, firstBad_num _ 0 hnum, hfind]
  have hv : total ts = v := by rw [hts, total, List.map_cons, List.sum_cons, ← total, hsum]
  have hzeros : (∀ t ∈ ts, t.2.1 = 0) ↔ zeros := by
    rw [hts, List.forall_mem_cons, hzero, show zeros = (val n m e = 0 ∧ _) from rfl, val_zero_iff]
  have hone (b : Bool) : (∀ t ∈ ts, t.1 = b) ↔ one b := by
    rw [hts, List.forall_mem_cons, hsign, show one b = (x.c.neg = b ∧ _) from rfl, hcv]
    rfl
  have hzv (h : zeros) : v = 0 := by
    rw [← hv, total, List.sum_eq_zero]
    intro y hy
    obtain ⟨t, ht, rfl⟩ := List.mem_map.mp hy
    exact val_zero_iff.mpr (hzeros.mpr h t ht)
  obtain ⟨hround, hexact⟩ := sum_once (cellFmt_ok mf) M ts
  rw [hv, ← hr] at hround hexact
  refine ⟨hround, fun h0 hno => ?_, fun hall => ⟨fun b hb => ?_, fun hno => ?_⟩⟩
  · rw [← zeroSign_mode (M := M) (ts := ts) fun b hb => hno (hzeros.mp fun t ht => (hb t ht).1)]
    exact hexact h0
  · rw [← zeroSign_same (M := M) (ts := ts) (n := b) (by simp [hts]) fun t ht => ⟨hzeros.mpr hall t ht, (hone b).mpr hb t ht⟩]
    exact hexact (hzv hall)
  · rw [← zeroSign_mode (M := M) (ts := ts) fun b hb => hno b ((hone b).mp fun t ht => (hb t ht).2)]
    exact hexact (hzv hall)

end Sys2Proof.Safety
end

section
/-!
SUPPORT. Grid cells with a NaN, a scale of 0xFF or an infinity (R127, R128, R171).
-/
namespace Sys2Proof.Safety
open Sys2Proof.Machine

/-! ## The first product that makes a NaN (R128) -/

section
variable {α : Type} (big : α → Option Bool) (zi : α → Prop)

/-- The first infinity before place k has the sign n: `f` is the one before the list. -/
def FirstInf (f : Option Bool) (ab : List α) (n : Bool) (k : Nat) : Prop := f = some n ∨ (f = none ∧ ∃ j p, j < k ∧ ab[j]? = some p ∧
  big p = some n ∧ ∀ i q, i < j → ab[i]? = some q → big q = none)
/-- The product at place k is 0 times infinity or an infinity against the first one. -/
def BadAt (f : Option Bool) (ab : List α) (k : Nat) : Prop :=
  ∃ p, ab[k]? = some p ∧ (zi p ∨ ∃ n m, big p = some n ∧ m ≠ n ∧ FirstInf big f ab m k)

variable {big zi} {f : Option Bool} {p : α} {ab : List α}

theorem firstInf_zero {n : Bool} : FirstInf big f ab n 0 ↔ f = some n :=
  ⟨fun h => h.resolve_right fun ⟨_, _, _, hj, _⟩ => absurd hj (Nat.not_lt_zero _), .inl⟩
/-- Behind an element the first infinity is the one before it, else its own. -/
theorem firstInf_succ {n : Bool} {k : Nat} : FirstInf big f (p :: ab) n (k + 1) ↔ FirstInf big (f.or (big p)) ab n k := by
  cases f with
  | some m => simp [FirstInf]
  | none =>
    rw [Option.none_or]
    constructor
    · rintro (h | ⟨-, j, q, hj, hq, hn, hbefore⟩)
      · cases h
      · cases j with
        | zero => cases hq; exact .inl hn
        | succ j =>
          exact .inr ⟨hbefore 0 p j.succ_pos rfl, j, q, Nat.lt_of_succ_lt_succ hj, hq, hn, fun i r hi hr => hbefore (i + 1) r (Nat.succ_lt_succ hi) hr⟩
    · rintro (h | ⟨hnone, j, q, hj, hq, hn, hbefore⟩)
      · exact .inr ⟨rfl, 0, p, k.succ_pos, rfl, h, fun i _ hi => absurd hi (Nat.not_lt_zero _)⟩
      · refine .inr ⟨rfl, j + 1, q, Nat.succ_lt_succ hj, hq, hn, fun i r hi hr => ?_⟩
        cases i with
        | zero => cases hr; exact hnone
        | succ i => exact hbefore i r (Nat.lt_of_succ_lt_succ hi) hr
theorem badAt_zero : BadAt big zi f (p :: ab) 0 ↔ zi p ∨ ∃ n m, big p = some n ∧ m ≠ n ∧ f = some m := by
  simp only [BadAt, firstInf_zero, List.getElem?_cons_zero, Option.some.injEq, exists_eq_left']
theorem badAt_succ {k : Nat} : BadAt big zi f (p :: ab) (k + 1) ↔ BadAt big zi (f.or (big p)) ab k := by
  simp only [BadAt, firstInf_succ, List.getElem?_cons_succ]
/-- Without a bad product all infinities have one sign. -/
theorem infinities_agree {n n' : Bool} (h : ∀ k, ¬BadAt big zi f ab k) (hn : f = some n ∨ ∃ p ∈ ab, big p = some n)
    (hn' : f = some n' ∨ ∃ p ∈ ab, big p = some n') : n = n' := by
  induction ab generalizing f with
  | nil =>
    have hf := hn.resolve_right (by simp)
    rw [hn'.resolve_right (by simp), Option.some.injEq] at hf
    exact hf.symm
  | cons p ab ih =>
    have hstep {b : Bool} (hb : f = some b ∨ ∃ q ∈ p :: ab, big q = some b) : f.or (big p) = some b ∨ ∃ q ∈ ab, big q = some b := by
      rcases hb with rfl | ⟨q, hq, hb⟩
      · exact .inl rfl
      · rcases List.mem_cons.mp hq with rfl | hq
        · cases f with
          | none => exact .inl hb
          | some m =>
            have hm : m = b := not_not.mp fun hm => h 0 (badAt_zero.mpr (.inr ⟨b, m, hb, hm, rfl⟩))
            exact .inl (by rw [hm]; rfl)
        · exact .inr ⟨q, hq, hb⟩
    exact ih (fun k hk => h (k + 1) (badAt_succ.mpr hk)) (hstep hn) (hstep hn')

/-- The products of a list: 0 times infinity as a NaN, an infinity with its sign. -/
def Products (big : α → Option Bool) (zi : α → Prop) (pr : α → FVal) (ab : List α) : Prop :=
  ∀ p ∈ ab, (zi p → (pr p).isNan = true) ∧ (¬zi p → (pr p).isNan = false ∧ infSign (pr p) = big p)

theorem firstBad_here {f : Option Bool} {v : FVal} (h : v.isNan = true ∨ ∃ n m, infSign v = some n ∧ m ≠ n ∧ f = some m) (k : Nat) (vs : List FVal) :
    firstBad f k (v :: vs) = some k := by
  rcases h with h | ⟨n, m, hv, hne, rfl⟩
  · obtain ⟨n, q, p, rfl⟩ := isNan_iff.mp h
    rfl
  · cases v with
    | nan b q p => rfl
    | inf b =>
      cases hv
      exact if_neg hne.symm
    | num b i e => cases hv
theorem firstBad_next {f : Option Bool} {v : FVal} (hv : v.isNan = false) (h : ¬∃ n m, infSign v = some n ∧ m ≠ n ∧ f = some m) (k : Nat)
    (vs : List FVal) : firstBad f k (v :: vs) = firstBad (f.or (infSign v)) (k + 1) vs := by
  rcases inf_or_num hv with ⟨n, rfl⟩ | ⟨n, m, e, rfl⟩
  · cases f with
    | none => rfl
    | some m =>
      have hm : n = m := not_not.mp fun hm => h ⟨n, m, rfl, Ne.symm hm, rfl⟩
      exact if_pos hm
  · cases f <;> rfl
/-- The model's search finds the first bad product. -/
theorem firstBad_spec {pr : α → FVal} (h : Products big zi pr ab) (t : Nat) :
    (∀ k, BadAt big zi f ab k → (∀ j < k, ¬BadAt big zi f ab j) → firstBad f t (ab.map pr) = some (t + k)) ∧
    ((∀ k, ¬BadAt big zi f ab k) → firstBad f t (ab.map pr) = none) := by
  induction ab generalizing f t with
  | nil => exact ⟨fun k ⟨p, hp, _⟩ => by simp at hp, fun _ => rfl⟩
  | cons p ab ih =>
    obtain ⟨⟨hzi, hok⟩, hab⟩ := List.forall_mem_cons.mp h
    obtain ⟨ihbad, ihno⟩ := ih (f := f.or (big p)) hab (t + 1)
    have hnext (h0 : ¬BadAt big zi f (p :: ab) 0) : firstBad f t ((p :: ab).map pr) = firstBad (f.or (big p)) (t + 1) (ab.map pr) := by
      rw [badAt_zero, not_or] at h0
      obtain ⟨hn, hs⟩ := hok h0.1
      rw [← hs] at h0 ⊢
      exact firstBad_next hn h0.2 t _
    refine ⟨fun k hk hbefore => ?_, fun hno => ?_⟩
    · cases k with
      | zero =>
        refine firstBad_here ?_ t _
        by_cases hz : zi p
        · exact .inl (hzi hz)
        · rw [(hok hz).2]
          exact .inr ((badAt_zero.mp hk).resolve_left hz)
      | succ k =>
        rw [hnext (hbefore 0 k.succ_pos), ihbad k (badAt_succ.mp hk) fun j hj hb => hbefore (j + 1) (Nat.succ_lt_succ hj) (badAt_succ.mpr hb)]
        exact congrArg some (by omega)
    · rw [hnext (hno 0)]
      exact ihno fun k hk => hno (k + 1) (badAt_succ.mpr hk)

end

/-! ## Cells with a NaN input -/

theorem mopCell_picks (mf : Nat) (f : Bool) (M : Nat) (made : Nat → Nat) (x : CellIn) :
    let r := mopCell mf f M made x
    let D := cellFmt mf
    let ins := cellIns mf x
    let nv : Prop := (∃ p ∈ x.ab, ZeroInf p.1 p.2) ∨ x.nanScale = true ∨ ∃ n p, FVal.nan n true p ∈ ins
    (∃ n q p, FVal.nan n q p ∈ ins) → (∀ n q p, FVal.nan n q p ∈ ins → p < 2 ^ 51) →
      (∃ (i : Nat) (n q : Bool) (p : Nat), ins[i]? = some (FVal.nan n q p) ∧
        D.decode r.1 = .nan n false (p / 2 ^ (52 - D.f) * 2 ^ (52 - D.f)) ∧
        ∀ (j : Nat) (m o : Bool) (u : Nat), ins[j]? = some (FVal.nan m o u) → p ≤ u ∧ (p = u → i ≤ j)) ∧ (nv → r.2 = flagNV) ∧ (¬nv → r.2 = 0) := by
  intro r D ins nv ⟨n0, q0, p0, hmem⟩ hlt
  have hex : ∃ v ∈ ins, v.isNan = true := ⟨_, hmem, rfl⟩
  obtain ⟨i, n, q, p, hget, hpick, hleast⟩ := pickNan_spec D hex
  have hr : r = (D.nan n p, sigFlag ins ||| if x.ab.any (fun p => p.1.zeroInf p.2) || x.nanScale then flagNV else 0) := by
    show mopCell mf f M made x = _
    rw [mopCell_nan f M made hex, hpick]
  have hzs : (x.ab.any (fun p => p.1.zeroInf p.2) || x.nanScale) = true ↔ (∃ p ∈ x.ab, ZeroInf p.1 p.2) ∨ x.nanScale = true := by
    simp only [zeroInf_iff, Bool.or_eq_true, List.any_eq_true]
  have hsig : (∃ v ∈ ins, v.signalling = true) ↔ ∃ n p, FVal.nan n true p ∈ ins := by
    constructor
    · rintro ⟨v, hv, hs⟩
      cases v with
      | nan n q p => cases hs; exact ⟨n, p, hv⟩
      | inf n => cases hs
      | num n m e => cases hs
    · rintro ⟨n, p, hv⟩
      exact ⟨_, hv, rfl⟩
  obtain ⟨hnv, hquiet⟩ := sigFlag_eq ins
  rw [hr]
  refine ⟨⟨i, n, q, p, hget, decode_ieee_nan (cellFmt_ok mf) (cellFmt_ieee mf) n (hlt n q p (List.mem_of_getElem? hget)), hleast⟩, fun h => ?_, fun h => ?_⟩
  · by_cases hb : (x.ab.any (fun p => p.1.zeroInf p.2) || x.nanScale) = true
    · exact (congrArg (sigFlag ins ||| ·) (if_pos hb)).trans (or_flagNV hnv hquiet)
    · have hs : ∃ n p, FVal.nan n true p ∈ ins := (or_assoc.mpr h).resolve_left (mt hzs.mpr hb)
      exact (congrArg (sigFlag ins ||| ·) (if_neg hb)).trans (by rw [hnv (hsig.mpr hs)]; rfl)
  · have h' : ¬(_ ∨ _) := mt or_assoc.mp h
    rw [not_or] at h'
    exact (congrArg (sigFlag ins ||| ·) (if_neg (mt hzs.mp h'.1))).trans (by rw [hquiet (mt hsig.mp h'.2)]; rfl)

/-! ## Cells with an infinity -/

/-- The sign of a product with an infinite operand. -/
def bigProduct (f : Bool) (p : FVal × FVal) : Option Bool :=
  if (infSign p.1).isSome || (infSign p.2).isSome then some ((p.1.neg != p.2.neg) != f) else none
theorem isNan_scaleVal (e : Int) (v : FVal) : (scaleVal e v).isNan = v.isNan := by cases v <;> rfl
theorem infSign_scaleVal (e : Int) (v : FVal) : infSign (scaleVal e v) = infSign v := by cases v <;> rfl
theorem products_cell (f : Bool) (e : Int) {ab : List (FVal × FVal)} (h : ∀ p ∈ ab, p.1.isNan = false ∧ p.2.isNan = false) :
    Products (bigProduct f) (fun p => ZeroInf p.1 p.2) (cellProduct f e) ab := by
  intro p hp
  obtain ⟨h1, h2⟩ := h p hp
  dsimp only
  rw [zeroInf_iff]
  refine ⟨fun hz => ?_, fun hz => ?_⟩
  · rw [cellProduct, if_pos hz]
    rfl
  · rw [cellProduct, if_neg hz, isNan_scaleVal, isNan_flip, isNan_mul h1 h2, infSign_scaleVal, infSign_mul h1 h2]
    exact ⟨rfl, rfl⟩
theorem mopCell_infinite (mf : Nat) (f : Bool) (M : Nat) (made : Nat → Nat) (x : CellIn) (hno : ¬∃ n q p, FVal.nan n q p ∈ cellIns mf x) :
    let r := mopCell mf f M made x
    let bad := BadAt (bigProduct f) (fun p => ZeroInf p.1 p.2) (infSign x.c) x.ab
    (∀ k, bad k → (∀ j, j < k → ¬bad j) → r = (made k, flagNV)) ∧
    ((∀ k, ¬bad k) → ∀ n, (infSign x.c = some n ∨ ∃ p ∈ x.ab, bigProduct f p = some n) → (cellFmt mf).decode r.1 = .inf n ∧ r.2 = 0) := by
  have hclean : ∀ v ∈ cellIns mf x, v.isNan = false := by
    refine fun v hv => Bool.eq_false_iff.mpr fun hn => hno ?_
    obtain ⟨n, q, p, rfl⟩ := isNan_iff.mp hn
    exact ⟨n, q, p, hv⟩
  obtain ⟨-, -, hab⟩ := cellIns_clean hclean
  have hps := products_cell f x.exp hab
  obtain ⟨hbad, hgood⟩ := firstBad_spec (f := infSign x.c) hps 0
  intro r bad
  refine ⟨fun k hk hbefore => ?_, fun hnone n hn => ?_⟩
  · show mopCell mf f M made x = _
    rw [mopCell_clean f M made hclean, hbad k hk hbefore, Nat.zero_add]
  · have hnz : ∀ p ∈ x.ab, ¬ZeroInf p.1 p.2 := by
      intro p hp hz
      obtain ⟨k, hk⟩ := List.getElem?_of_mem hp
      exact hnone k ⟨p, hk, .inl hz⟩
    have hsign (v : FVal) (m : Bool) (hv : v = .inf m) : infSign v = some m := by rw [hv]; rfl
    have hmem {m : Bool} (h : FVal.inf m ∈ x.c :: x.ab.map (cellProduct f x.exp)) : infSign x.c = some m ∨ ∃ p ∈ x.ab, bigProduct f p = some m := by
      rcases List.mem_cons.mp h with h | h
      · exact .inl (hsign _ _ h.symm)
      · obtain ⟨p, hp, hv⟩ := List.mem_map.mp h
        exact .inr ⟨p, hp, by rw [← ((hps p hp).2 (hnz p hp)).2, hv]; rfl⟩
    have hsome : ∃ v ∈ x.c :: x.ab.map (cellProduct f x.exp), v.isInf = true := by
      simp only [← isSome_infSign]
      rcases hn with h | ⟨p, hp, h⟩
      · exact ⟨_, .head _, by rw [h]; rfl⟩
      · exact ⟨_, .tail _ (List.mem_map_of_mem hp), by rw [((hps p hp).2 (hnz p hp)).2, h]; rfl⟩
    obtain ⟨v, hfind⟩ := Option.isSome_iff_exists.mp (List.find?_isSome.mpr hsome)
    obtain ⟨m, rfl⟩ := isInf_iff.mp (List.find?_some hfind)
    have hm : m = n := infinities_agree hnone (hmem (List.mem_of_find?_eq_some hfind)) hn
    have hr : r = ((cellFmt mf).inf m, 0) := by
      show mopCell mf f M made x = _
      rw [mopCell_clean f M made hclean, hgood hnone, hfind]
      rfl
    rw [hr, hm]
    exact ⟨decode_inf (cellFmt_ieee mf) n, rfl⟩

end Sys2Proof.Safety
end

section
/-!
SUPPORT. The values of the float arithmetic, assembled (O5).
-/
namespace Sys2Proof.Safety
open Sys2Proof.Machine

/-- Settles O5, each operation by its lemma: a magnitude with bits enough is rounded once, and a value that is no number falls under a
case of its own. -/
theorem floatValues : Obligations.FloatValues := by
  intro w M a b c f g sat
  have ht := laneFmt_ok w
  have hi := laneFmt_ieee w
  refine ⟨addPat_spec ht hi M a b f, mulPat_spec ht hi M a b, fmaPat_spec ht hi M a b c f g, divPat_spec ht hi M a b, sqrtPat_spec ht hi M a,
    fun x y hx hy => ⟨fun k => cmpPat_real hx hy k, fun hi => minMax_real hx hy hi⟩, fun v => ofInteger_spec ht M sat v,
    fun k x hk hx => scalePat_real ht M sat a hk hx, fun k => scalePat_special ht hi M sat a k,
    fun n signed hn => toInt_spec hi hn signed M sat a,
    fun d e hd he => ⟨fun x hx => convert_real (ffmt_ok d) (ffmt e) M sat a hx, fun n hX => convert_inf (ffmt_ok d) (ffmt e) M sat a hX,
      fun n q p hX => convert_nan hd he M sat a hX⟩,
    fun mf made x z l hs hc hab => mopCell_real mf f M made x z l hs hc hab,
    fun mf made x => ⟨fun hn hp => mopCell_picks mf f M made x hn hp, fun hn => mopCell_infinite mf f M made x hn⟩⟩

end Sys2Proof.Safety
end

section
/-!
SUPPORT. Masks made of lanes (R142), the tree of a reduction (R158), and the float words of vectors (R148 to R151).
-/
namespace Sys2Proof.Safety
open Sys2Proof.Machine

/-! ## Masks -/

/-- The number that a mask of lanes is, before it is cut to a word. -/
def maskNat (bs : List Bool) : Nat := (bs.zip (List.range bs.length)).foldl (fun a b => if b.1 then a + 2 ^ b.2 else a) 0
theorem maskOf_eq (bs : List Bool) : maskOf bs = word (maskNat bs) := rfl
theorem maskNat_concat (bs : List Bool) (b : Bool) : maskNat (bs ++ [b]) = b.toNat * 2 ^ bs.length + maskNat bs := by
  rw [maskNat, List.length_append, List.length_singleton, List.range_succ, List.zip_append (by simp), List.foldl_append]
  cases b
  · simp [maskNat]
  · simp [maskNat, Nat.add_comm]
theorem maskNat_lt (bs : List Bool) : maskNat bs < 2 ^ bs.length := by
  induction bs using List.reverseRecOn with
  | nil => exact Nat.one_pos
  | append_singleton bs b ih =>
    have hb := Nat.mul_le_mul_right (2 ^ bs.length) (Bool.toNat_le b)
    rw [maskNat_concat, List.length_append, List.length_singleton, Nat.pow_succ]
    omega
theorem testBit_maskNat (bs : List Bool) (i : Nat) : (maskNat bs).testBit i = bs.getD i false := by
  induction bs using List.reverseRecOn with
  | nil => exact Nat.zero_testBit i
  | append_singleton bs b ih =>
    rw [maskNat_concat, Nat.mul_comm, Nat.testBit_two_pow_mul_add _ (maskNat_lt bs), ih]
    rcases lt_trichotomy i bs.length with h | h | h
    · rw [if_pos h, List.getD_append _ _ _ _ h]
    · subst h
      cases b <;> simp
    · have h1 : 1 ≤ i - bs.length := by omega
      rw [if_neg (by omega), List.getD_append_right _ _ _ _ h.le, Nat.testBit_lt_two_pow, List.getD_eq_default]
      · simpa using h1
      · exact (Bool.toNat_le b).trans_lt (Nat.one_lt_two_pow (by omega))
/-- Bit i of a mask of l lanes. -/
theorem getLsbD_maskOf (l : Nat) (f : Nat → Bool) {i : Nat} (hi : i < 64) :
    (maskOf ((List.range l).map f)).getLsbD i = true ↔ i < l ∧ f i = true := by
  rw [maskOf_eq, getLsbD_word _ hi, testBit_maskNat]
  by_cases h : i < l
  · simp [h]
  · simp [h]

/-- A word that writes a mask and raises flags. -/
theorem setK_raises (s : State) (k : BitVec 3) (m : Word) (f : Flags) : ∃ v, Performed s ((s.setK k m).raise f).done v ∧
    v = { s.me with k := v.k, fcsr := s.me.fcsr ||| f.setWidth 64, pc := s.iss.next } ∧ (∀ j, j ≠ k → v.mask j = s.me.mask j) ∧
    (k ≠ 0 → v.mask k = m) := by
  have h : (s.setK k m).raise f = s.setMe { s.me.setMask k m with fcsr := (s.me.setMask k m).fcsr ||| f.setWidth 64 } := by
    rw [State.raise, State.setK, State.me_setMe, setMe_setMe]
  rw [h]
  refine ⟨_, performed_done s _, ?_, fun j hj => Strand.mask_setMask_other s.me m hj, fun hk => ?_⟩
  · rw [Strand.setMask_k]
  · exact (Strand.mask_setMask_self s.me k m).trans (if_neg hk)

/-! ## The tree of a reduction -/

/-- A node of the tree: a lane that is off is passed over. -/
def pairUp {α : Type} (op : α → α → α) (a b : Option α) : Option α :=
  match a, b with
  | some x, some y => some (op x y)
  | some x, none => some x
  | none, y => y
/-- Node i of a level above the leaves. -/
def treeNode {α : Type} (op : α → α → α) (leaf : Nat → Option α) : Nat → Nat → Option α
  | 0, i => leaf i
  | j + 1, i => pairUp op (treeNode op leaf j (2 * i)) (treeNode op leaf j (2 * i + 1))

theorem treeNode_succ {α : Type} (op : α → α → α) (leaf : Nat → Option α) (j i : Nat) :
    treeNode op leaf (j + 1) i = pairUp op (treeNode op leaf j (2 * i)) (treeNode op leaf j (2 * i + 1)) := rfl
theorem pairUp_none {α : Type} (op : α → α → α) (a : Option α) : pairUp op a none = a := by
  cases a <;> rfl
theorem reduceLevel_get {α : Type} (op : α → α → α) : ∀ (xs : List (Option α)) (i : Nat),
    (reduceLevel op xs)[i]?.join = pairUp op (xs[2 * i]?.join) (xs[2 * i + 1]?.join)
  | [], i => by simp [reduceLevel, pairUp]
  | [a], 0 => by simp [reduceLevel, pairUp_none]
  | [a], i + 1 => by simp [reduceLevel, pairUp, Nat.mul_succ]
  | a :: b :: r, 0 => by
    simp only [reduceLevel, pairUp]
    cases a <;> cases b <;> rfl
  | a :: b :: r, i + 1 => by
    have ih := reduceLevel_get op r i
    simpa [reduceLevel, Nat.mul_succ] using ih
theorem reduceTree_eq {α : Type} (op : α → α → α) (n : Nat) : ∀ xs : List (Option α),
    reduceTree op n xs = treeNode op (fun i => xs[i]?.join) n 0 := by
  have shift (leaf leaf' : Nat → Option α) (h : ∀ i, leaf' i = pairUp op (leaf (2 * i)) (leaf (2 * i + 1))) (j : Nat) :
      ∀ i, treeNode op leaf' j i = treeNode op leaf (j + 1) i := by
    induction j with
    | zero => exact h
    | succ j ih =>
      intro i
      rw [treeNode_succ, ih, ih, ← treeNode_succ]
  induction n with
  | zero =>
    intro xs
    rw [reduceTree, treeNode, List.head?_eq_getElem?]
  | succ n ih =>
    intro xs
    rw [reduceTree, ih, shift (fun i => xs[i]?.join) _ (reduceLevel_get op xs)]
/-- Beyond its leaves the tree is empty, so that its root stands as soon as one node is left. -/
theorem treeNode_none {α : Type} (op : α → α → α) {leaf : Nat → Option α} {l : Nat} (h : ∀ i, l ≤ i → leaf i = none) (j : Nat) :
    ∀ i, l ≤ i * 2 ^ j → treeNode op leaf j i = none := by
  induction j with
  | zero => simpa [treeNode] using h
  | succ j ih =>
    intro i hi
    rw [Nat.pow_succ] at hi
    rw [treeNode, ih (2 * i) (by linarith), ih (2 * i + 1) (by linarith [Nat.two_pow_pos j]), pairUp_none]
theorem treeNode_root {α : Type} (op : α → α → α) {leaf : Nat → Option α} {l j : Nat} (h : ∀ i, l ≤ i → leaf i = none) (hl : l ≤ 2 ^ j) :
    ∀ k, treeNode op leaf (j + k) 0 = treeNode op leaf j 0
  | 0 => rfl
  | k + 1 => by
    have hpow : 2 ^ j ≤ 1 * 2 ^ (j + k) := by
      rw [one_mul]
      exact Nat.pow_le_pow_right two_pos (by omega)
    rw [← Nat.add_assoc, treeNode, treeNode_none op h (j + k) (2 * 0 + 1) (hl.trans hpow), pairUp_none]
    exact treeNode_root op h hl k

/-- The leaves of a tree over the lanes of a register, and its root with as many levels as they need. -/
theorem leaves_get {α : Type} (l : Nat) (f : Nat → Option α) (i : Nat) :
    ((List.range l).map f)[i]?.join = if i < l then f i else none := by
  by_cases h : i < l
  · simp [h]
  · simp [h]
theorem reduceTree_leaves {α : Type} (op : α → α → α) {l j n : Nat} (f : Nat → Option α) (hl : l ≤ 2 ^ j) (hn : j ≤ n) :
    reduceTree op n ((List.range l).map f) = treeNode op (fun i => if i < l then f i else none) j 0 := by
  obtain ⟨k, rfl⟩ := Nat.exists_eq_add_of_le hn
  simp only [reduceTree_eq, leaves_get]
  exact treeNode_root op (fun i hi => if_neg (not_lt.mpr hi)) hl k

/-! ## Float words -/

theorem floatBits_pos (w : BitVec 2) : 0 < floatBits w := by
  rw [floatBits, FFmt.bits]
  omega
/-- A float word of one register and its format's arithmetic. -/
theorem floats_write {s : State} {i : Instr} {d : BitVec 7} {n : Nat} {m : BitVec 1} {f g : Nat → Nat × Flags}
    (hi : exec i s = .next (s.mapLanes d n m f)) (hf : ∀ j, f j = g j) :
    ∃ u, exec i s = .next u ∧ WritesLanes s u d n (fun j => if s.on m j then some (g j).1 else none)
      ((List.range (512 / n)).foldl (fun fl j => if s.on m j then fl ||| (g j).2 else fl) 0) :=
  ⟨_, hi, funext hf ▸ mapLanes_writes s d n m f⟩
/-- The sign bit of a number of n bits is what it has from 2 ^ (n - 1) up. -/
theorem signFrom_eq {n y : Nat} (hn : 0 < n) (hy : y < 2 ^ n) (x : Nat) :
    signFrom n x y = x % 2 ^ (n - 1) + (if 2 ^ (n - 1) ≤ y then 2 ^ (n - 1) else 0) := by
  obtain ⟨k, rfl⟩ := Nat.exists_eq_succ_of_ne_zero hn.ne'
  rw [Nat.pow_succ] at hy
  rw [signFrom, Nat.succ_eq_add_one, Nat.add_sub_cancel]
  split_ifs with h
  · rw [Nat.div_eq_of_lt_le (k := 1) (by omega) (by omega), one_mul]
  · rw [Nat.div_eq_of_lt (by omega), zero_mul]

/-- VFCMP as one write of a mask with flags. -/
theorem vfcmp_eq (s : State) (k : BitVec 3) (a b : BitVec 7) (c : BitVec 3) (w : BitVec 2) : exec (.vfcmp k a b c w) s =
    (let q (i : Nat) := (laneFmt w).cmpPat c.toNat (s.lane a (floatBits w) i) (s.lane b (floatBits w) i)
     .next ((s.setK k (maskOf ((List.range (512 / floatBits w)).map fun i => (q i).1))).raise
       ((List.range (512 / floatBits w)).foldl (fun fl i => fl ||| (q i).2) 0)).done) := by
  change execVfcmp k a b c w s = _
  simp only [execVfcmp, List.map_map, orFlags_map]
  rfl

/-- Levels of VFRED's tree down to its one root. -/
def fredLevels (n : Nat) : Nat := if n = 64 then 3 else if n = 32 then 4 else 5
theorem fredLevels_fits : ∀ w : BitVec 2, 512 / (laneFmt w).bits ≤ 2 ^ fredLevels (laneFmt w).bits ∧ fredLevels (laneFmt w).bits ≤ 6 := by
  decide
/-- The three operations of VFRED (R158). -/
theorem fredCode {o : BitVec 3} (h : o.toNat ≤ 2) : o = 0 ∨ o = 1 ∨ o = 2 := by
  simp only [← BitVec.toNat_inj]
  change o.toNat = 0 ∨ o.toNat = 1 ∨ o.toNat = 2
  omega
theorem fredEmpty_eq (t : FFmt) {o : BitVec 3} (h : o.toNat ≤ 2) :
    fredEmpty t o.toNat = if o = 0 then 0 else (2 ^ t.e - 1) * 2 ^ t.f + (if o = 2 then 2 ^ (t.e + t.f) else 0) := by
  obtain rfl | rfl | rfl := fredCode h
  · rfl
  · show t.inf false = (2 ^ t.e - 1) * 2 ^ t.f + 0
    simp [FFmt.inf, FFmt.pack]
  · show t.inf true = (2 ^ t.e - 1) * 2 ^ t.f + 2 ^ (t.e + t.f)
    simp [FFmt.inf, FFmt.pack, Nat.add_comm]
theorem fredOp_eq (t : FFmt) (M : Nat) {o : BitVec 3} (h : o.toNat ≤ 2) (p q : Nat × Flags) :
    fredOp t M o.toNat p q =
      (let v := if o = 0 then t.addPat M false p.1 q.1 else t.minMaxPat (decide (o = 2)) p.1 q.1
       (v.1, p.2 ||| q.2 ||| v.2)) := by
  obtain rfl | rfl | rfl := fredCode h <;> rfl

end Sys2Proof.Safety
end

section
/-!
SUPPORT. VFRCP and VFRSQ (R150): the exact reciprocal kept to 12, 11 or 8 bits and rounded to the format.
-/
namespace Sys2Proof.Safety
open Sys2Proof.Machine

/-! ## Kept bits -/

/-- A magnitude of more than p bits kept to p of them. -/
theorem keep_spec {x : Mag} {y : ℝ} (h : MagIs x y) {p : Nat} (hp : 1 ≤ p) (hbits : p < bitLen x.m) :
    let k := x.keep p
    k.m ≠ 0 ∧ k.more = false ∧ ∀ e : ℤ, (2 : ℝ) ^ e ≤ y → y < (2 : ℝ) ^ (e + 1) →
      Nearest 0 false ((2 : ℝ) ^ (e - p + 1)) y (k.m * (2 : ℝ) ^ k.e) := by
  obtain ⟨hle, hlt⟩ := magIs_binade h (ne_zero_of_bitLen (by omega))
  have hq : x.e < x.e + (bitLen x.m : Int) - p := by omega
  obtain ⟨hnear, -⟩ := roundAt_nearest h 0 false fun _ => hq
  have hk : x.keep p = { m := (x.roundAt 0 false (x.e + (bitLen x.m : Int) - p)).1, e := x.e + (bitLen x.m : Int) - p } :=
    if_neg (by omega)
  rw [hk]
  refine ⟨fun hzero => ?_, rfl, fun e he he' => ?_⟩
  · have hlow : ((2 ^ (p - 1) : Nat) : ℝ) * (2 : ℝ) ^ (x.e + (bitLen x.m : Int) - p) ≤ y := by
      have hpow : ((2 ^ (p - 1) : Nat) : ℝ) * (2 : ℝ) ^ (x.e + (bitLen x.m : Int) - p) = 2 ^ (x.e + (bitLen x.m : Int) - 1) := by
        rw [Nat.cast_pow, Nat.cast_ofNat, ← zpow_natCast, ← two_zpow_add]
        congr 1
        omega
      rwa [hpow]
    have hge := nearest_ge (two_zpow_pos _) hnear hlow
    simp only at hzero
    rw [hzero, Nat.cast_zero, zero_mul] at hge
    exact absurd (mul_pos (Nat.cast_pos.mpr (Nat.two_pow_pos (p - 1))) (two_zpow_pos _)) (not_lt.mpr hge)
  · rw [binade_unique he he' hle hlt, show x.e + (bitLen x.m : Int) - 1 - p + 1 = x.e + (bitLen x.m : Int) - p by ring]
    exact hnear

/-! ## The exact reciprocals -/

theorem rsqMag_magIs {m : Nat} (hm : m ≠ 0) (e : Int) : MagIs (rsqMag m e) (1 / Real.sqrt (m * (2 : ℝ) ^ e)) := by
  obtain ⟨k, hk, j, hj⟩ : ∃ k : Nat, (if e % 2 = 0 then 256 else 257) = k ∧ ∃ j : Int, e + k = 2 * j := by
    split_ifs with h
    · exact ⟨_, rfl, (e + 256) / 2, by omega⟩
    · exact ⟨_, rfl, (e + 257) / 2, by omega⟩
  have hpos : (0 : ℝ) < m := Nat.cast_pos.mpr (Nat.pos_of_ne_zero hm)
  have hle : ((2 ^ k / m : Nat) : ℝ) ≤ 2 ^ k / m := by exact_mod_cast Nat.cast_div_le (α := ℝ) (m := 2 ^ k) (n := m)
  have hlt : (2 : ℝ) ^ k / m < (2 ^ k / m : Nat) + 1 := by
    rw [div_lt_iff₀' hpos]
    exact_mod_cast Nat.lt_mul_div_succ (2 ^ k) (Nat.pos_of_ne_zero hm)
  obtain ⟨d, h0, h1, hmore, hd⟩ := sqrt_rest hle hlt
  have hmag : rsqMag m e = { m := Nat.sqrt (2 ^ k / m), e := -j, more := Nat.sqrt (2 ^ k / m) * Nat.sqrt (2 ^ k / m) * m != 2 ^ k } := by
    rw [rsqMag, hk, isqrt_eq, show (e + k) / 2 = j by omega]
  rw [hmag]
  refine ⟨d, h0, h1, ?_, ?_⟩
  · rw [← hmore, bne_iff_ne, ne_eq, ne_eq, div_eq_iff hpos.ne', eq_comm]
    norm_cast
  · have hval : (m : ℝ) * 2 ^ e = (2 ^ j) ^ 2 / (2 ^ k / m) := by
      rw [show e = j + j - k by omega, zpow_sub₀ two_ne_zero, two_zpow_add, zpow_natCast]
      field_simp
    rw [hval, Real.sqrt_div (sq_nonneg _), Real.sqrt_sq (two_zpow_pos j).le, one_div_div, ← hd, zpow_neg, div_eq_mul_inv]
theorem rsqMag_bits {m : Nat} (hm : m ≠ 0) (hlt : m < 2 ^ 53) (e : Int) : 75 ≤ bitLen (rsqMag m e).m := by
  rw [rsqMag, isqrt_eq]
  refine bitLen_ge (Nat.le_sqrt.mpr ((Nat.le_div_iff_mul_le (Nat.pos_of_ne_zero hm)).mpr ?_))
  have hk : (2 : Nat) ^ 256 ≤ 2 ^ (if e % 2 = 0 then 256 else 257) := Nat.pow_le_pow_right two_pos (by split_ifs <;> omega)
  refine le_trans ?_ hk
  calc 2 ^ 74 * 2 ^ 74 * m ≤ 2 ^ 74 * 2 ^ 74 * 2 ^ 53 := Nat.mul_le_mul_left _ hlt.le
    _ ≤ 2 ^ 256 := by norm_num
/-- The exact magnitude that VFRCP or VFRSQ approximates. -/
def recipMag (rsq : Bool) (m : Nat) (e : Int) : Mag := if rsq then rsqMag m e else quotient 1 0 m e
theorem recipMag_spec (rsq : Bool) {m : Nat} (hm : m ≠ 0) (hlt : m < 2 ^ 53) (e : Int) :
    MagIs (recipMag rsq m e) (if rsq then 1 / Real.sqrt (m * (2 : ℝ) ^ e) else 1 / (m * (2 : ℝ) ^ e)) ∧ 75 ≤ bitLen (recipMag rsq m e).m := by
  cases rsq with
  | true => exact ⟨rsqMag_magIs hm e, rsqMag_bits hm hlt e⟩
  | false =>
    have h := quotient_magIs (m := 1) hm 0 e
    rw [Nat.cast_one, zpow_zero, mul_one] at h
    exact ⟨h, quotient_bits one_ne_zero hm hlt 0 e⟩

/-! ## The results -/

/-- A rounded number that is an infinity has the number's sign. -/
theorem rounded_inf {t : FFmt} (hi : t.special = .ieee) {neg n : Bool} {x : ℝ} (hx : 0 < x) {r : Nat × Flags} (h : Rounded t 0 false neg x r)
    (hn : t.decode r.1 = .inf n) : n = neg := by
  obtain ⟨e, hle, hlt⟩ := exists_mem_Ico_zpow hx one_lt_two
  obtain ⟨l, hl⟩ : ∃ l, IsLargest t l := by simp [IsLargest, hi]
  obtain ⟨y, z, -, -, -, hin, hover⟩ := h e l hle hlt hl
  rw [hn] at hin hover
  rcases le_or_gt y l with hy | hy
  · exact (hin hy).2.1
  · have := (((hover hy).2 rfl).1 hi).2.2 (by simp)
    cases this
    rfl
theorem recipPat_num {t : FFmt} {a : Nat} {n : Bool} {m : Nat} {e : Int} (hA : t.decode a = .num n m e) (rsq : Bool) : t.recipPat rsq a =
    if m = 0 then (t.inf n, flagDZ) else if rsq && n then t.invalid
    else ((t.round 0 false n ((recipMag rsq m e).keep t.approxBits)).1,
      if (t.decode (t.round 0 false n ((recipMag rsq m e).keep t.approxBits)).1).isInf then flagOF else 0) := by
  rw [FFmt.recipPat, hA]
  rfl

section
variable {t : FFmt} (ht : FmtOk t) (hi : t.special = .ieee) (a : Nat) (rsq : Bool)
include ht hi

theorem recipPat_nan : Picks t [a] (t.recipPat rsq a) False := by
  refine picks_of ht hi fun hn => ?_
  obtain ⟨n, q, p, hA⟩ := isNan_iff.mp (by simpa using hn : (t.decode a).isNan = true)
  rw [FFmt.recipPat, List.map_cons, hA]
  rfl
theorem recipPat_special {x : EReal} (hx : IsExt (t.decode a) x) :
    let r := t.recipPat rsq a
    (rsq = true → x < 0 → Invalid t r) ∧ (x = 0 → Infinite t (t.decode a).neg flagDZ r) ∧ (x = ⊤ → ExactZero t false r) ∧
    (x = ⊥ → rsq = false → ExactZero t true r) := by
  rcases inf_or_num (isExt_isNan hx) with ⟨n, hA⟩ | ⟨n, m, e, hA⟩
  · rw [hA] at hx ⊢
    have hr : t.recipPat rsq a = if rsq && n then t.invalid else (t.zero n, 0) := by
      rw [FFmt.recipPat, hA]
    have hx' : x = if n then ⊥ else ⊤ := hx
    rw [hr, hx']
    cases n with
    | false =>
      rw [Bool.and_false]
      exact ⟨fun _ h => absurd h (by simp), fun h => absurd h (by simp), fun _ => exactZero_zero ht false, fun h => absurd h (by simp)⟩
    | true =>
      rw [Bool.and_true]
      refine ⟨fun hs _ => ?_, fun h => absurd h (by simp), fun h => absurd h (by simp), fun _ hs => ?_⟩
      · rw [if_pos hs]
        exact invalid_eq hi
      · rw [if_neg (by simp [hs])]
        exact exactZero_zero ht true
  · rw [hA] at hx ⊢
    rw [recipPat_num hA, isExt_num hx]
    refine ⟨fun hs hneg => ?_, fun hzero => ?_, fun h => absurd h (EReal.coe_ne_top _), fun h => absurd h (EReal.coe_ne_bot _)⟩
    · have hlt : val n m e < 0 := EReal.coe_lt_coe_iff.mp hneg
      have hm : m ≠ 0 := mt val_zero_iff.mpr hlt.ne
      rw [if_neg hm, if_pos (by rw [hs, (val_neg_iff hm).mp hlt]; rfl)]
      exact invalid_eq hi
    · rw [if_pos (val_zero_iff.mp (EReal.coe_eq_zero.mp hzero))]
      exact infinite_eq hi n flagDZ
theorem recipPat_real (hp : 1 ≤ t.approxBits) {x : ℝ} (hx : IsReal (t.decode a) x) (hx0 : x ≠ 0) (hpos : rsq = true → 0 < x) :
    let r := t.recipPat rsq a
    let n := (t.decode a).neg
    ∃ (z : ℝ) (fl : Flags), (∀ (y : ℝ) (e : ℤ), y = (if rsq then 1 / Real.sqrt x else 1 / |x|) → (2 : ℝ) ^ e ≤ y → y < (2 : ℝ) ^ (e + 1) →
        Nearest 0 false ((2 : ℝ) ^ (e - t.approxBits + 1)) y z) ∧
      Rounded t 0 false n z (r.1, fl) ∧ (t.decode r.1 = .inf n → r.2 = flagOF) ∧ (t.decode r.1 ≠ .inf n → r.2 = 0) := by
  obtain ⟨n, m, e, hA, rfl⟩ := isReal_iff.mp hx
  have hm : m ≠ 0 := mt val_zero_iff.mpr hx0
  have hlt : m < 2 ^ 53 := (decode_num_lt hA).trans_le (Nat.pow_le_pow_right two_pos (Nat.succ_le_succ ht.f_le))
  have hsign : ¬(rsq && n) = true := by
    rw [Bool.and_eq_true]
    exact fun ⟨hs, hn⟩ => lt_asymm (hpos hs) ((val_neg_iff hm).mpr hn)
  obtain ⟨hmag, hbits⟩ := recipMag_spec rsq hm hlt e
  have hy : (if rsq then 1 / Real.sqrt (val n m e) else 1 / |val n m e|) =
      if rsq then 1 / Real.sqrt (m * (2 : ℝ) ^ e) else 1 / (m * (2 : ℝ) ^ e) := by
    cases rsq with
    | true => rw [if_pos rfl, if_pos rfl, ← val_abs n, abs_of_pos (hpos rfl)]
    | false => rw [if_neg Bool.false_ne_true, if_neg Bool.false_ne_true, val_abs]
  have hfew : t.approxBits < bitLen (recipMag rsq m e).m := (min_le_left 12 _).trans_lt (by omega)
  obtain ⟨hkm, hkmore, hnear⟩ := keep_spec hmag hp hfew
  rw [recipPat_num hA, if_neg hm, if_neg hsign, hA, hy]
  generalize (recipMag rsq m e).keep t.approxBits = k at *
  have hround : Rounded t 0 false n (k.m * (2 : ℝ) ^ k.e) (t.round 0 false n k) :=
    round_rounded ht 0 false n ⟨0, le_rfl, one_pos, by simp [hkmore], by rw [add_zero]⟩ hkm (by simp [hkmore])
  refine ⟨_, _, fun y e hy he he' => hy ▸ hnear e (hy ▸ he) (hy ▸ he'), hround, fun hinf => ?_, fun hinf => ?_⟩
  · exact if_pos (isInf_iff.mpr ⟨n, hinf⟩)
  · refine if_neg fun h => hinf ?_
    obtain ⟨b, hb⟩ := isInf_iff.mp h
    have hbn : b = n := rounded_inf hi (mag_pos hkm k.e) hround hb
    exact hbn ▸ hb

end
/-- The bits that the reciprocals of a lane format keep. -/
theorem laneFmt_approxBits : ∀ w : BitVec 2, (laneFmt w).approxBits = if (laneFmt w).f = 10 then 11 else if (laneFmt w).f = 7 then 8 else 12 := by
  decide

end Sys2Proof.Safety
end

section
/-!
SUPPORT. The float lanes (R148 to R151, R158, R159).
-/
namespace Sys2Proof.Safety
open Sys2Proof.Machine

/-- Settles O38: each word is the map of its lane operation, the tree of VFRED is the model's by `reduceTree_leaves`, and the values are those
of the lemmas about single patterns. -/
theorem vectorFloats : Obligations.VectorFloats := by
  constructor
  · intro s d a b w m k c o r t n l M x y z on R
    have L (f : Nat → Nat × Flags) := mapLanes_writes s d n m f
    have vfred := writesFlagged_done s r (word ((reduceTree (fredOp t M o.toNat) 6 ((List.range l).map
      (fun i => if on i then some (x i, (0 : Flags)) else none))).getD (fredEmpty t o.toNat, 0)).1)
    refine ⟨⟨_, rfl, L _⟩, ⟨_, rfl, L _⟩, ⟨_, rfl, L _⟩, ⟨_, rfl, L _⟩, ⟨_, rfl, L _⟩, ⟨_, rfl, L _⟩, ⟨_, rfl, L _⟩, ⟨_, rfl, L _⟩,
      ⟨_, rfl, L _⟩, ?vfsgn, ⟨_, rfl, L _⟩, ⟨_, rfl, L _⟩, ⟨_, rfl, L _⟩, ⟨_, rfl, L _⟩, ?vfcmp, ⟨_, rfl, vfred _⟩, fun ho => ?vfred⟩
    case vfsgn =>
      exact floats_write rfl fun i => congrArg (·, 0) (signFrom_eq (floatBits_pos w) (Nat.mod_lt _ (by positivity)) _)
    case vfcmp =>
      intro q
      obtain ⟨v, hp, hv, hother, hk⟩ := setK_raises s k (maskOf ((List.range l).map fun i => (q i).1))
        ((List.range l).foldl (fun fl i => fl ||| (q i).2) 0)
      exact ⟨_, v, vfcmp_eq s k a b c w, hp, hv, hother, fun h i hi => hk h ▸ getLsbD_maskOf l (fun i => (q i).1) hi⟩
    case vfred =>
      obtain ⟨hfit, hsix⟩ := fredLevels_fits w
      refine ⟨_, treeNode (fredOp t M o.toNat) (fun i => if i < l then (if on i then some (x i, 0) else none) else none), fun i hi => if_pos hi,
        fun j i => ?_, rfl, ?_⟩
      · rw [treeNode_succ]
        generalize treeNode _ _ j (2 * i) = p, treeNode _ _ j (2 * i + 1) = q
        cases p <;> cases q
        · rfl
        · rfl
        · rfl
        · exact congrArg some (fredOp_eq t M ho _ _)
      · rw [← fredEmpty_eq t ho]
        have htree := reduceTree_leaves (fredOp t M o.toNat) (fun i => if on i then some (x i, (0 : Flags)) else none) hfit hsix
        exact htree ▸ vfred _
  · intro w a b t A B sig low minus
    have ht := laneFmt_ok w
    have hi := laneFmt_ieee w
    refine ⟨fun max => ?_, classPat_eq ht hi a, fun k hk => ⟨cmpPat_unordered ht hi a b hk, fun x y hx hy => cmpPat_ordered a b hx hy k⟩,
      fun rsq => ⟨fun hn => ?_, fun x hx => recipPat_special ht hi a rsq hx, fun x hx hx0 hpos => ?_⟩⟩
    · obtain ⟨hboth, hfirst, hsecond, hflag⟩ := minMax_nan ht hi max a b
      exact ⟨hboth, hfirst, hsecond, hflag, fun x y hx hy => minMax_ordered max hx hy⟩
    · have hpick := recipPat_nan ht hi a rsq ⟨a, .head _, hn⟩
      simpa using hpick
    · have hkept : (((laneFmt w).approxBits : Nat) : Int) = if t.f = 10 then 11 else if t.f = 7 then 8 else 12 := by
        rw [laneFmt_approxBits]
        push_cast
        rfl
      have hpos' : 1 ≤ (laneFmt w).approxBits := le_min (by norm_num) (Nat.le_add_left 1 _)
      rw [← hkept]
      exact recipPat_real ht hi a rsq hpos' hx hx0 hpos

end Sys2Proof.Safety
end

section
/-!
SUPPORT. Integer lanes under the m bit (R140, R143, R144), and O35.
-/
namespace Sys2Proof.Safety
open Sys2Proof.Machine

/-! ## Numbers of a lane -/

theorem lane_lt (n i x : Nat) : lane n i x < 2 ^ n := Nat.mod_lt _ (Nat.two_pow_pos n)
theorem toSigned_of_lt {n v : Nat} (h : v < 2 ^ n) : toSigned n v = if v < 2 ^ (n - 1) then (v : Int) else (v : Int) - (2 ^ n : Nat) := by
  rw [toSigned, Nat.mod_eq_of_lt h]
theorem ofInt_lt (n : Nat) (k : Int) : ofInt n k < 2 ^ n := by
  have hpos : (0 : Int) < (2 ^ n : Nat) := by positivity
  rw [ofInt, Int.toNat_lt (Int.emod_nonneg k hpos.ne')]
  exact Int.emod_lt_of_pos k hpos
theorem ofInt_mod (n : Nat) (k : Int) : ofInt n k % 2 ^ n = ofInt n k := Nat.mod_eq_of_lt (ofInt_lt n k)
/-- A difference of lanes, made without a negative number. -/
theorem sub_mod_eq_ofInt {n x y : Nat} (hy : y < 2 ^ n) : (x + 2 ^ n - y) % 2 ^ n = ofInt n ((x : Int) - y) := by
  have hcast : ((x + 2 ^ n - y : Nat) : Int) = (x : Int) - y + (2 ^ n : Nat) := by omega
  rw [ofInt, ← Int.add_emod_right, ← hcast, ← Int.natCast_mod, Int.toNat_natCast]

/-! ## The write of integer lanes -/

theorem on_iff (s : State) (m : BitVec 1) (i : Nat) : s.on m i = true ↔ m = 0 ∨ (s.src.mask 1).getLsbD i = true := by
  rw [State.on, Bool.or_eq_true, beq_iff_eq]
/-- To raise no flag at the end of a word is to change nothing more. -/
theorem raise_zero_done (s : State) : (s.raise 0).done = s.done := by
  have hflags : s.me.fcsr ||| (0 : Flags).setWidth 64 = s.me.fcsr := by simp
  rw [State.raise, hflags, State.done, State.done, State.me_setMe, setMe_setMe]
  rfl
/-- Values of lanes count only up to the lane's width. -/
theorem WritesLanes.congr {s t : State} {v : BitVec 7} {n : Nat} {f g : Nat → Option Nat} {fl : Flags} (h : WritesLanes s t v n f fl)
    (hfg : ∀ i, i < 512 / n → ∀ o, (f i).getD o % 2 ^ n = (g i).getD o % 2 ^ n) : WritesLanes s t v n g fl := by
  obtain ⟨x, hx, hlanes⟩ := h
  exact ⟨x, hx, fun i hi => (hlanes i hi).trans (hfg i hi _)⟩
/-- A word that writes the lanes that f gives and raises nothing. -/
theorem intLanes_done (s : State) (v : BitVec 7) (n : Nat) (f : Nat → Option Nat) :
    WritesLanes s (s.setLanes v n ((List.range (512 / n)).map f)).done v n f 0 :=
  raise_zero_done _ ▸ writesLanes_done s v n f 0
/-- Integer lanes under the m bit, their values given up to the lane's width. -/
theorem mapInts_writes (s : State) (d : BitVec 7) (n : Nat) (m : BitVec 1) {f g : Nat → Nat}
    (h : ∀ i, i < 512 / n → f i % 2 ^ n = g i % 2 ^ n) :
    WritesLanes s (s.mapInts d n m f) d n (fun i => if s.on m i then some (g i) else none) 0 := by
  refine (intLanes_done s d n _).congr fun i hi o => ?_
  split
  · exact h i hi
  · rfl
/-- A word that computes integer lanes under the m bit. -/
theorem intWord_writes {s : State} {i : Instr} {d : BitVec 7} {n : Nat} {m : BitVec 1} {f g : Nat → Nat}
    (hi : exec i s = .next (s.mapInts d n m f)) (h : ∀ j, j < 512 / n → f j % 2 ^ n = g j % 2 ^ n) :
    ∃ t, exec i s = .next t ∧ WritesLanes s t d n (fun j => if s.on m j then some (g j) else none) 0 :=
  ⟨_, hi, mapInts_writes s d n m h⟩
/-- A form of three registers. -/
theorem lanes3_writes {s : State} {i : Instr} {d a b : BitVec 7} {w : BitVec 2} {m : BitVec 1} {f : Nat → Nat → Nat → Nat → Nat}
    {g : Nat → Nat} (hi : exec i s = .next (s.lanes3 d a b w m f))
    (h : ∀ j, f (laneBits w) (s.lane a (laneBits w) j) (s.lane b (laneBits w) j) (s.lane d (laneBits w) j) % 2 ^ laneBits w =
      g j % 2 ^ laneBits w) :
    ∃ t, exec i s = .next t ∧
      WritesLanes s t d (laneBits w) (fun j => if m = 0 ∨ (s.src.mask 1).getLsbD j = true then some (g j) else none) 0 := by
  simp only [← on_iff]
  exact intWord_writes hi fun j _ => h j

/-- Settles O35: each form's lane is the statement's number, or the same modulo 2^n. -/
theorem vectorIntegers : Obligations.VectorIntegers := by
  intro s d a b w m n x y z sg cut R
  have hsg (v : BitVec 7) (i : Nat) : toSigned (laneBits w) (s.lane v (laneBits w) i) = sg (lane n i (s.vs v).toNat) := toSigned_of_lt (lane_lt n i _)
  have hmod (k : Nat) : k % 2 ^ n = k % 2 ^ n % 2 ^ n := (Nat.mod_mod _ _).symm
  refine ⟨lanes3_writes rfl fun _ => hmod _, ?vsub, lanes3_writes rfl fun _ => hmod _, lanes3_writes rfl fun _ => rfl, ?vmulhSigned,
    lanes3_writes rfl fun _ => hmod _, lanes3_writes rfl fun _ => rfl, lanes3_writes rfl fun _ => rfl, lanes3_writes rfl fun _ => rfl,
    lanes3_writes rfl fun _ => hmod _, lanes3_writes rfl fun _ => rfl, ?vsha, ?vminSigned, ?vmaxSigned, ?vminUnsigned, ?vmaxUnsigned⟩
  case vsub => exact lanes3_writes rfl fun i => (sub_mod_eq_ofInt (lane_lt n i _)).trans (ofInt_mod n _).symm
  case vmulhSigned => exact lanes3_writes rfl fun i => by rw [mulhsLane, hsg, hsg]; rfl
  case vsha => exact lanes3_writes rfl fun i => by rw [shaLane, hsg]; rfl
  case vminSigned => exact lanes3_writes rfl fun i => by rw [hsg, hsg]; rfl
  case vmaxSigned => exact lanes3_writes rfl fun i => by rw [hsg, hsg]; rfl
  case vminUnsigned => exact lanes3_writes rfl fun i => congrArg (· % 2 ^ n) (Nat.min_def ..)
  case vmaxUnsigned => exact lanes3_writes rfl fun i => congrArg (· % 2 ^ n) (Nat.max_def ..)

end Sys2Proof.Safety
end

section
/-!
SUPPORT. Moves between lanes (R146, R147, R154, R156, R157), and O36.
-/
namespace Sys2Proof.Safety
open Sys2Proof.Machine

/-! ## Narrow and wide lanes (R154) -/

theorem ofInt_mod_of_le {n p : Nat} (h : n ≤ p) (k : Int) : ofInt p k % 2 ^ n = ofInt n k := by
  have hdvd : ((2 ^ n : Nat) : Int) ∣ (2 ^ p : Nat) := by exact_mod_cast Nat.pow_dvd_pow 2 h
  have hpos : (0 : Int) ≤ k % (2 ^ p : Nat) := Int.emod_nonneg k (by positivity)
  rw [ofInt, ofInt, ← Int.emod_emod_of_dvd k hdvd, ← Int.toNat_natCast (_ % _), Int.natCast_mod, Int.toNat_of_nonneg hpos]
/-- The ends of the signed range of h bits, as patterns. -/
theorem ofInt_least {h : Nat} (hh : 0 < h) : ofInt h (-(2 ^ (h - 1) : Nat)) = 2 ^ (h - 1) := by
  obtain ⟨k, rfl⟩ := Nat.exists_eq_succ_of_ne_zero hh.ne'
  have hpos := Nat.two_pow_pos k
  rw [ofInt, Nat.succ_sub_one, Nat.pow_succ, ← Int.add_emod_right,
    show -((2 ^ k : Nat) : Int) + ((2 ^ k * 2 : Nat) : Int) = (2 ^ k : Nat) by omega, Int.emod_eq_of_lt (by omega) (by omega), Int.toNat_natCast]
theorem ofInt_greatest {h : Nat} (hh : 0 < h) : ofInt h ((2 ^ (h - 1) : Nat) - 1) = 2 ^ (h - 1) - 1 := by
  obtain ⟨k, rfl⟩ := Nat.exists_eq_succ_of_ne_zero hh.ne'
  have hpos := Nat.two_pow_pos k
  rw [ofInt, Nat.succ_sub_one, Nat.pow_succ, Int.emod_eq_of_lt (by omega) (by omega)]
  omega
/-- A lane narrowed with saturation is its value clamped to the signed range of half its bits. -/
theorem narrow_saturates {n : Nat} (hn : 0 < n / 2) (x : Nat) : narrow n true x =
    if toSigned n x < -(2 ^ (n / 2 - 1) : Nat) then ofInt (n / 2) (-(2 ^ (n / 2 - 1) : Nat))
    else if ((2 ^ (n / 2 - 1) : Nat) : Int) ≤ toSigned n x then ofInt (n / 2) ((2 ^ (n / 2 - 1) : Nat) - 1)
    else ofInt (n / 2) (toSigned n x) := by
  rw [ofInt_least hn, ofInt_greatest hn]
  rfl

/-- The lanes of two registers in a row. -/
theorem laneList_append (n : Nat) (x y : VReg) : laneList n x ++ laneList n y = (List.range (512 / n + 512 / n)).map
    (fun i => if i < 512 / n then lane n i x.toNat else lane n (i - 512 / n) y.toNat) := by
  rw [List.range_add, List.map_append, List.map_map, laneList, laneList]
  congr 1
  · exact List.map_congr_left fun i hi => (if_pos (List.mem_range.mp hi)).symm
  · exact List.map_congr_left fun i _ => by simp
theorem halfLanes : ∀ w : BitVec 2, 512 / (laneBits w / 2) = 512 / laneBits w + 512 / laneBits w ∧ 0 < laneBits w / 2 ∧ laneBits w ≤ 64 := by
  decide
/-- VPACK as one write of lanes of half the width. -/
theorem vpack_eq (s : State) (d a b : BitVec 7) (w : BitVec 2) (x : BitVec 1) : exec (.vpack d a b w x) s =
    .next (s.setLanes d (laneBits w / 2) ((List.range (512 / (laneBits w / 2))).map fun i => some (narrow (laneBits w) (x == 1)
      (if i < 512 / laneBits w then s.lane a (laneBits w) i else s.lane b (laneBits w) (i - 512 / laneBits w))))).done := by
  obtain ⟨hlanes, -, -⟩ := halfLanes w
  change execVpack d a b w x s = _
  rw [execVpack, laneList_append, List.map_map, hlanes]
  rfl
/-- A half lane extended to 64 bits and cut to the lane. -/
theorem extend_zero_mod {h : Nat} (n : Nat) {v : Nat} (hh : h ≤ 64) (hv : v < 2 ^ h) : (extend false h v).toNat % 2 ^ n = v % 2 ^ n := by
  have hword : v < 2 ^ 64 := hv.trans_le (Nat.pow_le_pow_right two_pos hh)
  rw [extend, if_neg Bool.false_ne_true, word, BitVec.toNat_ofNat, Nat.mod_eq_of_lt hv, Nat.mod_eq_of_lt hword]
theorem extend_sign_mod (h : Nat) {n : Nat} (v : Nat) (hn : n ≤ 64) : (extend true h v).toNat % 2 ^ n = ofInt n (toSigned h v) := by
  rw [extend, if_pos rfl, BitVec.toNat_ofInt]
  exact ofInt_mod_of_le hn _

/-- Settles O36: the masked forms lane by lane, the others as one write each, those of R154 with the widths of a half lane. -/
theorem vectorMoves : Obligations.VectorMoves := by
  intro s d a b w m k q r e n x y l on sg cut V R top clamp both half
  obtain ⟨-, hhalf, hword⟩ := halfLanes w
  have hsg {p v : Nat} (h : v < 2 ^ p) : toSigned p v = sg p v := toSigned_of_lt h
  have hboth (i : Nat) : both i < 2 ^ n := by
    dsimp only [both]
    split
    · exact lane_lt n i _
    · exact lane_lt n (i - l) _
  refine ⟨intWord_writes rfl fun _ _ => rfl, ?vabs, intWord_writes rfl fun _ _ => rfl, intWord_writes rfl fun _ _ => rfl,
    intWord_writes rfl fun _ _ => rfl, intWord_writes rfl fun _ _ => rfl, ⟨_, rfl, intLanes_done s d n _⟩, ⟨_, rfl, intLanes_done s d n _⟩,
    ⟨_, rfl, intLanes_done s d n _⟩, ⟨_, vpack_eq s d a b w 0, intLanes_done s d (n / 2) _⟩, ?vpackSat, ?vunpack, ?vunpackSigned⟩
  case vabs => exact intWord_writes rfl fun i _ => congrArg (fun v : Int => v.natAbs % 2 ^ n) (hsg (lane_lt n i _))
  case vpackSat =>
    refine ⟨_, vpack_eq s d a b w 1, (intLanes_done s d (n / 2) _).congr fun i _ _ => congrArg (· % 2 ^ (n / 2)) ?_⟩
    exact (narrow_saturates hhalf (both i)).trans (congrArg clamp (hsg (hboth i)))
  case vunpack => exact ⟨_, rfl, (intLanes_done s d n _).congr fun i _ _ => extend_zero_mod n (by omega) (lane_lt (n / 2) _ _)⟩
  case vunpackSigned =>
    refine ⟨_, rfl, (intLanes_done s d n _).congr fun i _ _ => (extend_sign_mod (n / 2) _ hword).trans ?_⟩
    exact (congrArg (ofInt n) (hsg (lane_lt (n / 2) _ _))).trans (ofInt_mod n _).symm

end Sys2Proof.Safety
end

section
/-!
SUPPORT. Integer reductions (R158), VEXT (R157), VCMP (R145) and the mask words (R160), and O37.
-/
namespace Sys2Proof.Safety
open Sys2Proof.Machine

/-! ## What a tree makes of the lanes that are on (R158) -/

/-- A node that is empty covers no lane; a value covers the lanes js where Q says so of them. -/
def Covers {α : Type} (Q : List Nat → α → Prop) (js : List Nat) : Option α → Prop
  | none => js = []
  | some r => js ≠ [] ∧ Q js r

theorem Covers.getD {α : Type} {Q : List Nat → α → Prop} {js : List Nat} {a : Option α} (h : Covers Q js a) {z : α} (hz : Q [] z) :
    Q js (a.getD z) := by
  cases a with
  | none =>
    obtain rfl : js = [] := h
    exact hz
  | some r => exact h.2
theorem covers_pairUp {α : Type} {Q : List Nat → α → Prop} {op : α → α → α}
    (happ : ∀ js ks r t, js ≠ [] → ks ≠ [] → Q js r → Q ks t → Q (js ++ ks) (op r t)) {js ks : List Nat} {a b : Option α}
    (ha : Covers Q js a) (hb : Covers Q ks b) : Covers Q (js ++ ks) (pairUp op a b) := by
  match a, b with
  | some r, some t => exact ⟨List.append_ne_nil_of_left_ne_nil ha.1 ks, happ js ks r t ha.1 hb.1 ha.2 hb.2⟩
  | some r, none =>
    obtain rfl : ks = [] := hb
    rwa [List.append_nil, pairUp_none]
  | none, b =>
    obtain rfl : js = [] := ha
    exact hb
/-- Node i of level j covers the lanes from i 2^j up that are on. -/
theorem treeNode_covers {α : Type} {Q : List Nat → α → Prop} {op : α → α → α} {x : Nat → α} (on : Nat → Bool) (hleaf : ∀ i, Q [i] (x i))
    (happ : ∀ js ks r t, js ≠ [] → ks ≠ [] → Q js r → Q ks t → Q (js ++ ks) (op r t)) (j : Nat) : ∀ i,
    Covers Q ((List.range' (i * 2 ^ j) (2 ^ j)).filter on) (treeNode op (fun i => if on i then some (x i) else none) j i) := by
  induction j with
  | zero =>
    intro i
    rw [treeNode, pow_zero, mul_one, List.range'_one, List.filter_singleton]
    cases on i
    · rfl
    · exact ⟨List.cons_ne_nil i [], hleaf i⟩
  | succ j ih =>
    intro i
    have hsplit : List.range' (i * 2 ^ (j + 1)) (2 ^ (j + 1)) = List.range' (2 * i * 2 ^ j) (2 ^ j) ++ List.range' ((2 * i + 1) * 2 ^ j) (2 ^ j) := by
      rw [show i * 2 ^ (j + 1) = 2 * i * 2 ^ j by ring, show (2 * i + 1) * 2 ^ j = 2 * i * 2 ^ j + 2 ^ j by ring, List.range'_append_1,
        pow_succ, mul_two]
    rw [hsplit, List.filter_append]
    exact covers_pairUp happ (ih (2 * i)) (ih (2 * i + 1))
/-- The root of the tree over l lanes covers those of them that are on. -/
theorem reduceTree_covers {α : Type} {Q : List Nat → α → Prop} {op : α → α → α} {x : Nat → α} (on : Nat → Bool) (hleaf : ∀ i, Q [i] (x i))
    (happ : ∀ js ks r t, js ≠ [] → ks ≠ [] → Q js r → Q ks t → Q (js ++ ks) (op r t)) {l n : Nat} (hl : l ≤ 2 ^ n) :
    Covers Q ((List.range l).filter on) (reduceTree op n ((List.range l).map fun i => if on i then some (x i) else none)) := by
  have hlanes : (List.range' (0 * 2 ^ n) (2 ^ n)).filter (fun i => decide (i < l) && on i) = (List.range l).filter on := by
    obtain ⟨k, hk⟩ := Nat.exists_eq_add_of_le hl
    have hlow : (List.range l).filter (fun i => decide (i < l) && on i) = (List.range l).filter on :=
      List.filter_congr fun i hi => by rw [decide_eq_true (List.mem_range.mp hi), Bool.true_and]
    have hhigh : ((List.range k).map (l + ·)).filter (fun i => decide (i < l) && on i) = [] := by simp
    rw [zero_mul, hk, ← List.range_eq_range', List.range_add, List.filter_append, hlow, hhigh, List.append_nil]
  have hleaves : (fun i => if i < l then (if on i then some (x i) else none) else none) =
      fun i => if (decide (i < l) && on i) = true then some (x i) else none := by
    funext i
    simp only [Bool.and_eq_true, decide_eq_true_eq, ite_and]
  rw [reduceTree_leaves op _ hl le_rfl, hleaves, ← hlanes]
  exact treeNode_covers _ hleaf happ n 0

/-! ## VRED and VEXT -/

theorem laneBits_pos (w : BitVec 2) : 0 < laneBits w := Nat.mul_pos (by decide) (Nat.two_pow_pos _)
theorem laneCount_le : ∀ w : BitVec 2, 512 / laneBits w ≤ 2 ^ 6 := by
  decide
theorem redOp_lt {n x y : Nat} (o : Nat) (sx : Bool) (hx : x < 2 ^ n) (hy : y < 2 ^ n) : redOp n o sx x y < 2 ^ n := by
  have hpick (p : Prop) [Decidable p] {u v : Nat} (hu : u < 2 ^ n) (hv : v < 2 ^ n) : (if p then u else v) < 2 ^ n := by
    split <;> assumption
  unfold redOp
  extract_lets le
  split
  · exact Nat.mod_lt _ (Nat.two_pow_pos n)
  · exact hpick _ hx hy
  · exact hpick _ hy hx
  · exact Nat.and_lt_two_pow _ hy
  · exact Nat.or_lt_two_pow hx hy
  · exact Nat.xor_lt_two_pow hx hy
theorem redEmpty_lt {n : Nat} (hn : 0 < n) (o : Nat) (sx : Bool) : redEmpty n o sx < 2 ^ n := by
  have hhalf : 2 ^ (n - 1) < 2 ^ n := Nat.pow_lt_pow_right one_lt_two (by omega)
  have hpos := Nat.two_pow_pos n
  unfold redEmpty
  split
  · split <;> omega
  · split <;> omega
  · omega
  · exact hpos

/-- The number that a value of n bits is extended to, without its reduction to n bits. -/
theorem extend_of_lt {n r : Nat} (h : r < 2 ^ n) (e : BitVec 1) : extend (e == 1) n r =
    if e = 1 then BitVec.ofInt 64 (if r < 2 ^ (n - 1) then (r : Int) else (r : Int) - (2 ^ n : Nat)) else BitVec.ofNat 64 r := by
  rw [extend, toSigned_of_lt h, Nat.mod_eq_of_lt h]
  simp only [beq_iff_eq]
  rfl

/-- The value that comes first of those of the lanes js by the order `le` of their numbers v; z where there is no lane. -/
def EndOf (le : Int → Int → Prop) (v : Nat → Int) (x : Nat → Nat) (z : Nat) (js : List Nat) (r : Nat) : Prop :=
  (∀ i, i ∈ js → le (v r) (v (x i))) ∧ (js ≠ [] → ∃ i, i ∈ js ∧ r = x i) ∧ (js = [] → r = z)

theorem EndOf.nil (le : Int → Int → Prop) (v : Nat → Int) (x : Nat → Nat) (z : Nat) : EndOf le v x z [] z :=
  ⟨by simp, by simp, fun _ => rfl⟩
theorem EndOf.single {le : Int → Int → Prop} (hrefl : ∀ p, le p p) (v : Nat → Int) (x : Nat → Nat) (z i : Nat) : EndOf le v x z [i] (x i) :=
  ⟨by simp [hrefl], by simp, by simp⟩
theorem EndOf.append {le : Int → Int → Prop} (htrans : ∀ p q r, le p q → le q r → le p r) {v : Nat → Int} {x : Nat → Nat} {z r t u : Nat}
    {js ks : List Nat} (hjs : js ≠ []) (hks : ks ≠ []) (hr : EndOf le v x z js r) (ht : EndOf le v x z ks t)
    (hu : u = r ∧ le (v r) (v t) ∨ u = t ∧ le (v t) (v r)) : EndOf le v x z (js ++ ks) u := by
  obtain ⟨hrle, hrmem, -⟩ := hr
  obtain ⟨htle, htmem, -⟩ := ht
  obtain ⟨i, hi, hri⟩ := hrmem hjs
  obtain ⟨k, hk, htk⟩ := htmem hks
  have hnil : js ++ ks ≠ [] := List.append_ne_nil_of_left_ne_nil hjs ks
  rcases hu with ⟨rfl, hle⟩ | ⟨rfl, hle⟩
  · exact ⟨fun j hj => (List.mem_append.mp hj).elim (hrle j) fun hj => htrans _ _ _ hle (htle j hj),
      fun _ => ⟨i, List.mem_append_left ks hi, hri⟩, fun h => absurd h hnil⟩
  · exact ⟨fun j hj => (List.mem_append.mp hj).elim (fun hj => htrans _ _ _ hle (hrle j hj)) (htle j),
      fun _ => ⟨k, List.mem_append_right js hk, htk⟩, fun h => absurd h hnil⟩

/-- VRED completes with a value of the lane's width of which P holds. -/
def VredGives (s : State) (d : BitVec 5) (a : BitVec 7) (o : BitVec 3) (e : BitVec 1) (w : BitVec 2) (m : BitVec 1) (P : Nat → Prop) : Prop :=
  ∃ t r, exec (.vred d a o e w m) s = .next t ∧ WritesReg s t d (extend (e == 1) (laneBits w) r) s.iss.next ∧ r < 2 ^ laneBits w ∧ P r

section
variable (s : State) (d : BitVec 5) (a : BitVec 7) (o : BitVec 3) (e : BitVec 1) (w : BitVec 2) (m : BitVec 1)

/-- What holds of each lane, of the value over no lane, and of an operation's result where it holds of its operands, holds of VRED's value
and the lanes that are on. -/
theorem vred_gives (Q : List Nat → Nat → Prop) (hempty : Q [] (redEmpty (laneBits w) o.toNat (e == 1)))
    (hleaf : ∀ i, Q [i] (s.lane a (laneBits w) i))
    (happ : ∀ js ks r t, js ≠ [] → ks ≠ [] → r < 2 ^ laneBits w → t < 2 ^ laneBits w → Q js r → Q ks t →
      Q (js ++ ks) (redOp (laneBits w) o.toNat (e == 1) r t)) :
    VredGives s d a o e w m (Q ((List.range (512 / laneBits w)).filter (s.on m))) := by
  have hroot := reduceTree_covers (Q := fun js r => r < 2 ^ laneBits w ∧ Q js r) (s.on m) (fun i => ⟨lane_lt _ i _, hleaf i⟩)
    (fun js ks r t hjs hks ⟨hr, hQr⟩ ⟨ht, hQt⟩ => ⟨redOp_lt o.toNat (e == 1) hr ht, happ js ks r t hjs hks hr ht hQr hQt⟩) (laneCount_le w)
  exact ⟨_, _, rfl, writesReg_done s d _, hroot.getD ⟨redEmpty_lt (laneBits_pos w) _ _, hempty⟩⟩
theorem vred_sum : VredGives s d a 0 e w m
    (fun r => r = (((List.range (512 / laneBits w)).filter (s.on m)).map (s.lane a (laneBits w))).sum % 2 ^ laneBits w) := by
  refine vred_gives s d a 0 e w m (fun js r => r = (js.map (s.lane a (laneBits w))).sum % 2 ^ laneBits w) (Nat.zero_mod _).symm
    (fun i => (Nat.mod_eq_of_lt (lane_lt _ i _)).symm) ?_
  rintro js ks - - - - - - rfl rfl
  rw [List.map_append, List.sum_append]
  exact (Nat.add_mod _ _ _).symm
/-- The operations that are a fold from a unit. -/
theorem vred_fold (op : Nat → Nat → Nat) [Std.Associative op] (hop : redOp (laneBits w) o.toNat (e == 1) = op)
    (hunit : ∀ v, v < 2 ^ laneBits w → op (redEmpty (laneBits w) o.toNat (e == 1)) v = v ∧ op v (redEmpty (laneBits w) o.toNat (e == 1)) = v) :
    VredGives s d a o e w m (fun r => r =
      (((List.range (512 / laneBits w)).filter (s.on m)).map (s.lane a (laneBits w))).foldl op (redEmpty (laneBits w) o.toNat (e == 1))) := by
  refine vred_gives s d a o e w m (fun js r => r = (js.map (s.lane a (laneBits w))).foldl op (redEmpty (laneBits w) o.toNat (e == 1)))
    rfl (fun i => (hunit _ (lane_lt _ i _)).1.symm) fun js ks r t _ _ hr _ hQr hQt => ?_
  rw [List.map_append, List.foldl_append, ← hQr, hQt, hop, ← List.foldl_assoc (op := op), (hunit r hr).2]
section
variable {e} {sx : Bool} (he : (e == 1) = sx) (v : Nat → Int)
include he

/-- The operations that pick an operand, with X as the Bool sx. -/
theorem vred_picks {le : Int → Int → Prop} (hrefl : ∀ p, le p p) (htrans : ∀ p q r, le p q → le q r → le p r)
    (hop : ∀ p q, redOp (laneBits w) o.toNat sx p q = p ∧ le (v p) (v q) ∨ redOp (laneBits w) o.toNat sx p q = q ∧ le (v q) (v p)) :
    VredGives s d a o e w m
      (EndOf le v (s.lane a (laneBits w)) (redEmpty (laneBits w) o.toNat sx) ((List.range (512 / laneBits w)).filter (s.on m))) := by
  subst he
  exact vred_gives s d a o e w m (EndOf le v (s.lane a (laneBits w)) (redEmpty (laneBits w) o.toNat (e == 1))) (EndOf.nil ..)
    (fun i => EndOf.single hrefl ..) fun js ks r t hjs hks _ _ hr ht => hr.append htrans hjs hks ht (hop r t)
theorem vred_least (hop : ∀ p q, redOp (laneBits w) o.toNat sx p q = if decide (v p ≤ v q) then p else q) : VredGives s d a o e w m
    (EndOf (· ≤ ·) v (s.lane a (laneBits w)) (redEmpty (laneBits w) o.toNat sx) ((List.range (512 / laneBits w)).filter (s.on m))) := by
  refine vred_picks s d a o w m he v le_refl (fun _ _ _ => le_trans) fun p q => ?_
  rw [hop]
  by_cases h : v p ≤ v q
  · exact Or.inl ⟨if_pos (decide_eq_true h), h⟩
  · exact Or.inr ⟨if_neg (mt of_decide_eq_true h), le_of_not_ge h⟩
theorem vred_greatest (hop : ∀ p q, redOp (laneBits w) o.toNat sx p q = if decide (v p ≤ v q) then q else p) : VredGives s d a o e w m
    (EndOf (fun r p => p ≤ r) v (s.lane a (laneBits w)) (redEmpty (laneBits w) o.toNat sx)
      ((List.range (512 / laneBits w)).filter (s.on m))) := by
  refine vred_picks s d a o w m he v le_refl (fun _ _ _ h h' => le_trans h' h) fun p q => ?_
  rw [hop]
  by_cases h : v p ≤ v q
  · exact Or.inr ⟨if_pos (decide_eq_true h), h⟩
  · exact Or.inl ⟨if_neg (mt of_decide_eq_true h), le_of_not_ge h⟩

end
end

/-! ## VCMP -/

theorem vcmp_writes (s : State) (k : BitVec 3) (a b : BitVec 7) (c : BitVec 3) (w : BitVec 2) {f : Nat → Prop}
    (h : ∀ i, condHolds c.toNat (laneBits w) (s.lane a (laneBits w) i) (s.lane b (laneBits w) i) = true ↔ f i) :
    ∃ t v, exec (.vcmp k a b c w) s = .next t ∧ WritesMask s t k v ∧
      ∀ i, i < 64 → (v.getLsbD i = true ↔ i < 512 / laneBits w ∧ f i) :=
  ⟨_, _, rfl, writesMask_done s k _, fun i hi => (getLsbD_maskOf _ _ hi).trans (and_congr_right fun _ => h i)⟩

/-- Settles O37: VRED by what its operation keeps along the tree, VEXT and the masks by what one write of theirs holds. -/
theorem reductionsAndMasks : Obligations.ReductionsAndMasks := by
  intro s d k p q a b w m e i n x y l act sg ext red ends u
  have hsg {v : Nat} (h : v < 2 ^ n) : toSigned n v = sg v := toSigned_of_lt h
  have hext {v : Nat} (h : v < 2 ^ n) : extend (e == 1) n v = ext v := extend_of_lt h e
  have hsx (j : Nat) : toSigned n (x j) = sg (x j) := hsg (lane_lt n j _)
  have hsy (j : Nat) : toSigned n (y j) = sg (y j) := hsg (lane_lt n j _)
  have hred {o : BitVec 3} {P P' : Nat → Prop} (hP : ∀ r, r < 2 ^ n → P r → P' r) (h : VredGives s d a o e w m P) : red o P' := by
    obtain ⟨t, r, ht, hw, hlt, hr⟩ := h
    exact ⟨t, r, ht, hext hlt ▸ hw, hP r hlt hr⟩
  have hends {o : BitVec 3} {le : Int → Int → Prop} {v v' : Nat → Int} {z : Nat} (hv : ∀ r, r < 2 ^ n → v r = v' r)
      (h : VredGives s d a o e w m (EndOf le v (s.lane a n) z act)) : ends o le v' z := by
    refine hred (fun r hr ⟨hle, hmem, hnil⟩ => ⟨fun i hi => ?_, hmem, hnil⟩) h
    rw [← hv r hr, ← hv _ (lane_lt n i _)]
    exact hle i hi
  have hcast (p q : Nat) : decide (p ≤ q) = decide (u p ≤ u q) := decide_eq_decide.mpr Nat.cast_le.symm
  have hunsigned (h : e = 0) : (e == 1) = false := by rw [h]; rfl
  have hcmp {c : BitVec 3} {f : Nat → Prop} := vcmp_writes s k a b c w (f := f)
  refine ⟨hred (fun _ _ h => h) (vred_sum s d a e w m), ?vand, ?vor, ?vxor, fun he => ⟨?least, ?greatest⟩, fun he => ⟨?leastSigned, ?greatestSigned⟩,
    ⟨_, rfl, hext (lane_lt n _ _) ▸ writesReg_done s d _⟩,
    ⟨hcmp fun j => ?eq, hcmp fun j => ?ne, hcmp fun j => ?lt, hcmp fun j => ?ge, hcmp fun j => ?ltu, hcmp fun j => ?geu⟩,
    ⟨_, rfl, writesMask_done s k _⟩, ⟨_, rfl, writesMask_done s k _⟩, ⟨_, rfl, writesMask_done s k _⟩, ⟨_, rfl, writesMask_done s k _⟩,
    result_writes_eq rfl (congrArg word (popcWord_eq_countP _))⟩
  case vand =>
    refine hred (fun _ _ h => h) (vred_fold s d a 3 e w m (· &&& ·) rfl fun v hv => ?_)
    have hmask : v &&& (2 ^ n - 1) = v := (Nat.and_two_pow_sub_one_eq_mod v n).trans (Nat.mod_eq_of_lt hv)
    exact ⟨(Nat.and_comm _ _).trans hmask, hmask⟩
  case vor => exact hred (fun _ _ h => h) (vred_fold s d a 4 e w m (· ||| ·) rfl fun v _ => ⟨Nat.zero_or v, Nat.or_zero v⟩)
  case vxor => exact hred (fun _ _ h => h) (vred_fold s d a 5 e w m (· ^^^ ·) rfl fun v _ => ⟨Nat.zero_xor v, Nat.xor_zero v⟩)
  case least => exact hends (fun _ _ => rfl) (vred_least s d a 1 w m (hunsigned he) u fun p q => by rw [← hcast]; rfl)
  case greatest => exact hends (fun _ _ => rfl) (vred_greatest s d a 2 w m (hunsigned he) u fun p q => by rw [← hcast]; rfl)
  case leastSigned => exact hends (fun _ => hsg) (vred_least s d a 1 w m (beq_iff_eq.mpr he) (toSigned n) fun _ _ => rfl)
  case greatestSigned => exact hends (fun _ => hsg) (vred_greatest s d a 2 w m (beq_iff_eq.mpr he) (toSigned n) fun _ _ => rfl)
  case eq => exact beq_iff_eq
  case ne => exact bne_iff_ne
  case lt => exact decide_eq_true_iff.trans (by rw [← hsx, ← hsy]; rfl)
  case ge => exact decide_eq_true_iff.trans (by rw [← hsx, ← hsy]; rfl)
  case ltu => exact decide_eq_true_iff
  case geu => exact decide_eq_true_iff

end Sys2Proof.Safety
end

section
/-!
SUPPORT. The matrix words at issue: their hazards in order, and the tile operation that enters the strand's queue (R164 to R172, R175), and
O41.
-/
namespace Sys2Proof.Safety
open Sys2Proof.Machine

/-! ## MODEW -/

theorem modeKc_eq (w : Word) : modeKc w = w.toNat / 2 ^ 32 := Nat.mod_eq_of_lt (by have := w.isLt; omega)
theorem modeWord_zero (mf vb : Nat) : modeWord 0 mf vb = BitVec.ofNat 64 (2 ^ 16 + mf * 2 ^ 12 + vb) := by
  rw [modeWord, zero_mul, zero_add, word]
theorem gridClass_add_two (mf : Nat) : gridClass (mf + 2) = 2 := if_neg (by omega)
theorem edge_eq (mf : Nat) : edge mf = if mf = 0 then 8 else if mf = 1 then 16 else 32 := by
  match mf with
  | 0 => rfl
  | 1 => rfl
  | mf + 2 => simp [edge, gridClass_add_two]
theorem blockSize_eq (mf : Nat) : blockSize mf = if mf = 0 then 8 else if mf = 1 then 16 else 64 := by
  match mf with
  | 0 => rfl
  | 1 => rfl
  | mf + 2 => simp [blockSize, gridClass_add_two]
theorem inBlock_iff (x : Strand) (v : Nat) :
    x.inBlock v = true ↔ modeM x.modew = true ∧ modeVb x.modew ≤ v ∧ v < modeVb x.modew + blockSize (modeMf x.modew) := by
  rw [Strand.inBlock, Bool.and_eq_true, decide_eq_true_eq]

/-! ## MODE (R164) -/

section
variable {s : State} (f : BitVec 4) (v : BitVec 7)

theorem modeM_busy (h : s.me.toc ≠ 0) : exec (.modeM f v) s = .next (s.trap causeMode 1) := congrArg Host.Outcome.next (if_pos h)
theorem modeM_misplaced (h : s.me.toc = 0) (hv : v.toNat % blockSize f.toNat ≠ 0) : exec (.modeM f v) s = .next (s.trap causeMode 2) :=
  congrArg Host.Outcome.next ((if_neg (not_not.mpr h)).trans (if_pos hv))
theorem modeM_beyond (h : s.me.toc = 0) (hv : v.toNat % blockSize f.toNat = 0) (hlim : s.me.vlim.toNat < v.toNat + blockSize f.toNat) :
    exec (.modeM f v) s = .next (s.trap causeMode 3) :=
  congrArg Host.Outcome.next ((if_neg (not_not.mpr h)).trans ((if_neg (not_not.mpr hv)).trans (if_pos hlim)))
theorem modeM_enters (h : s.me.toc = 0) (hv : v.toNat % blockSize f.toNat = 0) (hlim : v.toNat + blockSize f.toNat ≤ s.me.vlim.toNat) :
    exec (.modeM f v) s = .next (s.setMe { s.me with modew := modeWord 0 f.toNat v.toNat }).done :=
  congrArg Host.Outcome.next ((if_neg (not_not.mpr h)).trans ((if_neg (not_not.mpr hv)).trans (if_neg (not_lt.mpr hlim))))

end

/-! ## The queue of tile operations (R167) -/

/-- The tile operation that a word leaves. -/
def tileOpOf (s : State) (kind : TileKind) (rm : Nat) : TileOp :=
  { toid := s.nextId, key := s.key, kind := kind, k6 := s.src.mask 6, k7 := s.src.mask 7, rm := BitVec.ofNat 3 rm,
    since := s.cycle s.pt, gates := s.gatesEngine s.me.gates (engineHome s.pt) }
/-- A word goes on with a tile operation at the end of the queue, TOC one higher and MODEW w. -/
structure EntersTile (s t : State) (o : TileOp) (w : Word) : Prop where
  queue : t.tileOps = s.tileOps ++ [o]
  strand : t.strand s.key = { s.me with modew := w, toc := s.me.toc + 1, pc := s.iss.next }
  others : StrandsKeptBut s t s.key
  mem : MemKept s t
  rest : t = { s with strands := t.strands, tileOps := t.tileOps, nextId := s.nextId + 1, iss := { s.iss with res := .done } }

theorem entersTile_done (s : State) (o : TileOp) (w : Word) : EntersTile s
    (State.setMe { s with tileOps := s.tileOps ++ [o], nextId := s.nextId + 1 } { s.me with modew := w, toc := s.me.toc + 1 }).done o w := by
  obtain ⟨hstrand, hothers, hmem, hrest⟩ := performed_done { s with tileOps := s.tileOps ++ [o], nextId := s.nextId + 1 }
    { s.me with modew := w, toc := s.me.toc + 1 }
  exact ⟨rfl, hstrand, hothers, hmem, hrest⟩
theorem issueTile_enters (s : State) (kind : TileKind) (rm : Nat) : EntersTile s (s.issueTile kind rm).done (tileOpOf s kind rm) s.me.modew :=
  entersTile_done s (tileOpOf s kind rm) s.me.modew
theorem issueTile_eq (s : State) (kind : TileKind) (rm : Nat) : s.issueTile kind rm =
    State.setMe { s with tileOps := s.tileOps ++ [tileOpOf s kind rm], nextId := s.nextId + 1 } { s.me with toc := s.me.toc + 1 } := rfl
/-- A tile operation whose word also writes MODEW. -/
theorem issueTile_modew_enters (s : State) (kind : TileKind) (rm : Nat) (w : Word) :
    EntersTile s ((s.issueTile kind rm).setMe { (s.issueTile kind rm).me with modew := w }).done (tileOpOf s kind rm) w := by
  rw [issueTile_eq, State.me_setMe, setMe_setMe]
  exact entersTile_done s (tileOpOf s kind rm) w

/-! ## MZERO, MTRN and MSCALE -/

section
variable {s : State} (f : State → State)

theorem gridOp_vector (h : modeM s.me.modew = false) : s.gridOp f = s.trap causeMode 4 := by
  rw [State.gridOp, h]
  rfl
theorem gridOp_full (h : modeM s.me.modew = true) (hf : s.full .toc = true) : s.gridOp f = s.block := by
  rw [State.gridOp, h, hf]
  rfl
theorem gridOp_goes (h : modeM s.me.modew = true) (hf : s.full .toc = false) : s.gridOp f = (f s).done := by
  rw [State.gridOp, h, hf]
  rfl
/-- MZERO clears KC. -/
theorem mzero_enters (h : modeM s.me.modew = true) (hf : s.full .toc = false) : ∃ t, exec .mzero s = .next t ∧
    EntersTile s t (tileOpOf s .zero 0) (modeWord 0 (modeMf s.me.modew) (modeVb s.me.modew)) := by
  have hkept : (s.issueTile .zero 0).me.modew = s.me.modew := by
    rw [issueTile_eq, State.me_setMe]
  refine ⟨_, congrArg Host.Outcome.next (gridOp_goes _ h hf), ?_⟩
  dsimp only
  rw [hkept]
  exact issueTile_modew_enters ..

end

/-! ## MOP and MOPN (R168, R169) -/

section
variable {s : State} (neg : Bool) {a b : BitVec 7} (c q : BitVec 3) {f : BitVec 4}

theorem outer_vector (h : modeM s.me.modew = false) : s.outer neg a b c q f = s.trap causeMode 4 := by
  rw [State.outer, h]
  rfl
variable (h : modeM s.me.modew = true)
include h
theorem outer_class (hc : gridClass f.toNat ≠ gridClass (modeMf s.me.modew)) : s.outer neg a b c q f = s.trap causeMode 5 := by
  rw [State.outer, h]
  exact if_pos hc
variable (hc : gridClass f.toNat = gridClass (modeMf s.me.modew))
include hc
theorem outer_block (hb : (s.me.inBlock a.toNat || s.me.inBlock b.toNat) = true) : s.outer neg a b c q f = s.trap causeMode 6 := by
  rw [State.outer, h]
  exact (if_neg (not_not.mpr hc)).trans (if_pos hb)
variable (hb : ¬(s.me.inBlock a.toNat || s.me.inBlock b.toNat) = true)
include hb
theorem outer_full (hf : s.full .toc = true) : s.outer neg a b c q f = s.block := by
  rw [State.outer, h]
  exact (if_neg (not_not.mpr hc)).trans ((if_neg hb).trans (if_pos hf))
theorem outer_enters (hf : s.full .toc = false) : ∃ t, s.outer neg a b c q f = t ∧ EntersTile s t
    (tileOpOf s (.mop neg f (s.vs a) (s.vs b) (s.src.scale c) (s.src.scale q) (BitVec.ofNat 32 (modeKc s.me.modew))) (s.mode 7))
    (modeWord (addKc (modeKc s.me.modew) (mopK f.toNat)) (modeMf s.me.modew) (modeVb s.me.modew)) := by
  refine ⟨_, ?_, issueTile_modew_enters ..⟩
  rw [State.outer, h]
  exact (if_neg (not_not.mpr hc)).trans ((if_neg hb).trans (if_neg (Bool.eq_false_iff.mp hf)))

end

/-- Settles O41: the hazards of each word in their order, then the write of MODEW or the tile operation. -/
theorem matrixWords : Obligations.MatrixWords := by
  intro s a b v c q f d r x n T M mf vb kc cls size edge block M0 Enters word
  have hn : blockSize f.toNat = n := blockSize_eq _
  have hkc : modeKc x.modew = kc := modeKc_eq _
  have htrap {i : Instr} {code : Word} (h : exec i s = .next (s.trap causeMode code)) : T i code := ⟨_, h, traps_trap s _ _ _⟩
  have hnext {i : Instr} {t u : State} (hi : exec i s = .next t) (h : t = u) : exec i s = .next u := h ▸ hi
  have henters {i : Instr} {kind : TileKind} {rm : Nat} {w : Word} {t : State} (hi : exec i s = .next t)
      (h : EntersTile s t (tileOpOf s kind rm) w) : Enters i kind rm w :=
    ⟨t, _, hi, h.queue, rfl, rfl, rfl, rfl, rfl, rfl, h.strand, h.others, h.mem, h.rest⟩
  have hvector (hM : M = false) (neg : Bool) := outer_vector neg (a := a) (b := b) c q (f := f) hM
  refine ⟨fun h => ⟨htrap (modeM_busy f v h), htrap (congrArg Host.Outcome.next (if_pos h))⟩,
    fun h => ⟨fun hv => htrap (modeM_misplaced f v h (hn ▸ hv)), fun hv hlim => htrap (modeM_beyond f v h (hn ▸ hv) (hn ▸ hlim)), fun hv hlim => ?modeM,
      ⟨_, congrArg Host.Outcome.next (if_neg (not_not.mpr h)), performed_done s _⟩⟩, ?mqry,
    fun hM => ⟨htrap (hnext rfl (hvector hM false)), htrap (hnext rfl (hvector hM true)), htrap (hnext rfl (gridOp_vector _ hM)),
      htrap (hnext rfl (gridOp_vector _ hM)), htrap (hnext rfl (gridOp_vector _ hM))⟩,
    fun hM => ⟨fun hf => ⟨hnext rfl (gridOp_full _ hM hf), hnext rfl (gridOp_full _ hM hf), hnext rfl (gridOp_full _ hM hf)⟩,
      fun hf => ⟨?mzero, henters (hnext rfl (gridOp_goes _ hM hf)) (issueTile_enters ..),
        henters (hnext rfl (gridOp_goes _ hM hf)) (issueTile_enters ..)⟩, fun neg i hi => ?mop⟩⟩
  case modeM =>
    rw [← modeWord_zero]
    exact ⟨_, modeM_enters f v h (hn ▸ hv) (hn ▸ hlim), performed_done s _⟩
  case mqry =>
    refine result_writes_eq rfl ?_
    rw [hkc, edge_eq]
    rfl
  case mzero =>
    obtain ⟨t, ht, h⟩ := mzero_enters hM hf
    exact henters ht h
  case mop =>
    have hexec : exec i s = .next (s.outer neg a b c q f) := by
      obtain ⟨rfl, rfl⟩ | ⟨rfl, rfl⟩ := hi <;> rfl
    have hblock : (s.me.inBlock a.toNat || s.me.inBlock b.toNat) = true ↔ block a ∨ block b := by
      rw [Bool.or_eq_true, inBlock_iff, inBlock_iff, blockSize_eq]
      rfl
    refine ⟨fun hc => htrap (hnext hexec (outer_class neg c q hM hc)), fun hc hb => htrap (hnext hexec (outer_block neg c q hM hc (hblock.mpr hb))),
      fun hc hb hf => hnext hexec (outer_full neg c q hM hc (mt hblock.mp hb) hf), fun hc hb hf => ?_⟩
    obtain ⟨t, ht, h⟩ := outer_enters neg c q hM hc (mt hblock.mp hb) hf
    rw [hkc] at h
    exact henters (hnext hexec ht) h

end Sys2Proof.Safety
end

section
/-!
SUPPORT. MDRAIN at issue (R173, R174): its hazards and checks in order, the tile operation that it leaves, and its stores and merge; O42.
-/
namespace Sys2Proof.Safety
open Sys2Proof.Machine

/-! ## Sizes (R163, R174) -/

theorem gridClass_eq_zero_iff (mf : Nat) : gridClass mf = 0 ↔ mf = 0 := by
  match mf with
  | 0 => decide
  | 1 => decide
  | mf + 2 => simp [gridClass_add_two]
theorem cellBytes_eq (mf : Nat) : cellBits mf / 8 = if mf = 0 then 8 else 4 := by
  simp only [cellBits, gridClass_eq_zero_iff]
  split <;> rfl
theorem mergeTy_eq (mf : Nat) : mergeTy mf = if mf = 0 then 2 else 0 := by simp only [mergeTy, gridClass_eq_zero_iff]
theorem drainHalves_eq : ∀ f : BitVec 4,
    drainHalves f.toNat = if f = 0 then 16 else if f = 1 then 8 else if f = 2 ∨ f = 3 then 4 else if f = 8 then 1 else 2 := by decide
theorem drainBytes_eq (mf : Nat) (f : BitVec 4) : drainBytes mf f.toNat = (if mf = 0 then 8 else if mf = 1 then 16 else 32) ^ 2 *
    (if f = 0 then 16 else if f = 1 then 8 else if f = 2 ∨ f = 3 then 4 else if f = 8 then 1 else 2) / 2 := by
  rw [drainBytes, edge_eq, drainHalves_eq, pow_two]
theorem blockSize_pos (mf : Nat) : 0 < blockSize mf := by
  rw [blockSize_eq]
  split_ifs <;> decide
theorem drainRegs_pos (mf : Nat) (f : BitVec 4) : 0 < drainRegs mf f.toNat := by
  have hedge : 64 ≤ edge mf * edge mf := by
    rw [edge_eq]
    split_ifs <;> decide
  have hhalf : 0 < drainHalves f.toNat := by
    rw [drainHalves_eq]
    split_ifs <;> decide
  have := Nat.le_mul_of_pos_right (edge mf * edge mf) hhalf
  unfold drainRegs drainBytes
  omega
/-- Two ranges that hold a number each meet where each begins before the other ends. -/
theorem rangesMeet_iff {a n b m : Nat} (hn : 0 < n) (hm : 0 < m) : rangesMeet a n b m = true ↔ a < b + m ∧ b < a + n := by
  simp [rangesMeet, hn, hm]

/-! ## What a drain leaves (R167, R174) -/

/-- A drain goes on with a tile operation at the end of the queue and TOC one higher. -/
structure EntersDrain (s t : State) (kind : TileKind) : Prop where
  queue : t.tileOps = s.tileOps ++ [tileOpOf s kind (s.mode 7)]
  regs : RegsKept s.me { t.strand s.key with toc := s.me.toc }
  pc : (t.strand s.key).pc = s.iss.next
  toc : (t.strand s.key).toc = s.me.toc + 1
  others : StrandsKeptBut s t s.key
  mem : MemKept s t
  rest : t = { s with strands := t.strands, regions := t.regions, tileOps := t.tileOps, ops := t.ops, posts := t.posts, nextId := t.nextId
                      iss := { s.iss with res := .done } }

/-- The state of a drain short of its strand. -/
def drainBase (s : State) (kind : TileKind) (ops : List Op) (posts : List Part) (n : Nat) : State :=
  { s with tileOps := s.tileOps ++ [tileOpOf s kind (s.mode 7)], ops := ops, posts := posts, nextId := n }

theorem entersDrain_done (s : State) (kind : TileKind) (ops : List Op) (posts : List Part) (n : Nat) (regions : List Region) {y : Strand}
    (hregs : RegsKept s.me { y with toc := s.me.toc }) (htoc : y.toc = s.me.toc + 1) :
    EntersDrain s (State.setMe { drainBase s kind ops posts n with regions := regions } y).done kind := by
  obtain ⟨hstrand, hothers, hmem, hrest⟩ := performed_done { drainBase s kind ops posts n with regions := regions } y
  have hstrand : (State.setMe { drainBase s kind ops posts n with regions := regions } y).done.strand s.key = { y with pc := s.iss.next } := hstrand
  refine ⟨rfl, ?_, congrArg Strand.pc hstrand, (congrArg Strand.toc hstrand).trans htoc, hothers, hmem, hrest⟩
  rw [hstrand]
  exact hregs.trans rfl
theorem drain_done_enters (s : State) (kind : TileKind) (ops : List Op) (posts : List Part) (n : Nat) :
    EntersDrain s ((drainBase s kind ops posts n).setMe { s.me with toc := s.me.toc + 1 }).done kind :=
  entersDrain_done s kind ops posts n s.regions rfl rfl
/-- The same with the quiet count returned to 0 (R63). -/
theorem drain_touch_enters (s : State) (kind : TileKind) (ops : List Op) (posts : List Part) (n : Nat) :
    EntersDrain s (((drainBase s kind ops posts n).setMe { s.me with toc := s.me.toc + 1 }).touch s.key).done kind := by
  have htouch (u : State) (x : Strand) : (u.setMe x).touch u.key =
      State.setMe { u with regions := ((u.setMe x).rearm u.key).regions } { x with quiet := 0, busy := true, busyTake := true } := by
    have hstrand : ((u.setMe x).rearm u.key).strand u.key = x := u.me_setMe x
    rw [State.touch, State.modStrand, hstrand]
    exact setMe_setMe { u with regions := ((u.setMe x).rearm u.key).regions } x _
  rw [show s.key = (drainBase s kind ops posts n).key from rfl, htouch]
  exact entersDrain_done s kind ops posts n _ rfl rfl

theorem issueDrain_register (s : State) (f : BitVec 4) (v : BitVec 7) (root : Nat) : ∃ t, (s.issueDrain f (some v) root [] []).done = t ∧
    EntersDrain s t (.drainReg f v none) ∧ t.ops = s.ops ∧ t.posts = s.posts :=
  ⟨_, rfl, drain_done_enters s (.drainReg f v none) s.ops s.posts (s.nextId + 1 + 1), rfl, rfl⟩
/-- The merge of a drain to registers waits in an operation. -/
theorem issueDrain_register_merge (s : State) (f : BitVec 4) (v : BitVec 7) (root : Nat) {merge : List (Home × Act)} (h : merge ≠ []) :
    ∃ t o, (s.issueDrain f (some v) root [] merge).done = t ∧ EntersDrain s t (.drainReg f v (some (s.nextId + 1))) ∧ t.ops = s.ops ++ [o] ∧
      o.oid = s.nextId + 1 ∧ o.cls = some .toc ∧ o.fin = .drain ∧ o.later = merge ∧ t.posts = s.posts := by
  cases merge with
  | nil => exact absurd rfl h
  | cons x r =>
    exact ⟨_, _, rfl, drain_touch_enters s (.drainReg f v (some (s.nextId + 1))) _ s.posts (s.nextId + 1 + 1), rfl, rfl, rfl, rfl, rfl, rfl⟩
/-- The operation of a drain to memory, and its parts but for their homes and acts. -/
def drainOp (s : State) : Op := { oid := s.nextId + 1, party := .strand s.key, rcb := s.me.rcbp.toNat, cls := some .toc, fin := .drain }
def drainPart (s : State) (root : Nat) : Part :=
  { pid := 0, oid := s.nextId + 1, party := .strand s.key, src := s.pt, home := .absent, lane := 0
    gates := { needs := [.tile s.nextId], scope := .system, own := false } :: gatesFor s.me.gates clsW, cls := clsW, act := .read [], root := root
    write := true }
/-- Parts posted in the course of a drain. -/
theorem drainBase_postAll (s : State) (kind : TileKind) (ops : List Op) (posts : List Part) (n : Nat) (x : Strand) (proto : Part)
    (ps : List (Home × Act)) : ∃ q, ((drainBase s kind ops posts n).setMe x).postAll proto ps =
      (drainBase s kind ops (posts ++ q) (n + ps.length)).setMe x ∧ q.map (fun p => (p.home, p.act)) = ps ∧
      ∀ p ∈ q, p.oid = proto.oid ∧ p.gates = proto.gates := by
  obtain ⟨q, hq, hmap, hpart⟩ := postAll_posts proto ps ((drainBase s kind ops posts n).setMe x)
  refine ⟨q, hq, hmap, fun p hp => ?_⟩
  obtain ⟨hoid, -, hgates, -⟩ := hpart p hp
  exact ⟨hoid, hgates⟩
theorem issueDrain_memory_eq (s : State) (f : BitVec 4) (root : Nat) (stores merge : List (Home × Act)) :
    s.issueDrain f none root stores merge = (((((drainBase s (.drainMem f (s.nextId + 1)) (s.ops ++ [drainOp s]) s.posts (s.nextId + 1 + 1)).setMe
      { s.me with toc := s.me.toc + 1 }).postAll (drainPart s root) stores).postAll (drainPart s root) merge).touch s.key) := rfl
/-- The stores and the merge of a drain to memory are posted behind its tile operation. -/
theorem issueDrain_memory (s : State) (f : BitVec 4) (root : Nat) (stores merge : List (Home × Act)) :
    ∃ t o q, (s.issueDrain f none root stores merge).done = t ∧ EntersDrain s t (.drainMem f (s.nextId + 1)) ∧ t.ops = s.ops ++ [o] ∧
      o.oid = s.nextId + 1 ∧ o.cls = some .toc ∧ o.fin = .drain ∧ t.posts = s.posts ++ q ∧ q.map (fun p => (p.home, p.act)) = stores ++ merge ∧
      ∀ p ∈ q, p.oid = s.nextId + 1 ∧ { needs := [.tile s.nextId], scope := .system, own := false } ∈ p.gates := by
  obtain ⟨q1, h1, hmap1, hpart1⟩ := drainBase_postAll s (.drainMem f (s.nextId + 1)) (s.ops ++ [drainOp s]) s.posts (s.nextId + 1 + 1)
    { s.me with toc := s.me.toc + 1 } (drainPart s root) stores
  obtain ⟨q2, h2, hmap2, hpart2⟩ := drainBase_postAll s (.drainMem f (s.nextId + 1)) (s.ops ++ [drainOp s]) (s.posts ++ q1)
    (s.nextId + 1 + 1 + stores.length) { s.me with toc := s.me.toc + 1 } (drainPart s root) merge
  rw [issueDrain_memory_eq, h1, h2]
  refine ⟨_, drainOp s, q1 ++ q2, rfl, drain_touch_enters .., rfl, rfl, rfl, rfl, List.append_assoc _ _ _, ?_, fun p hp => ?_⟩
  · rw [List.map_append, hmap1, hmap2]
  · obtain ⟨hoid, hgates⟩ := (List.mem_append.mp hp).elim (hpart1 p) (hpart2 p)
    rw [hoid, hgates]
    exact ⟨rfl, List.mem_cons_self⟩

/-! ## The checks of MDRAIN (R173, R174) -/

/-- The store of a drain's image at a pointer. -/
def imageAccess (mf : Nat) (f : BitVec 4) (p : Word) : Access :=
  { p := p, o := (ptrOff p : Nat), pieces := [((ptrOff p : Nat), drainBytes mf f.toNat)], right := .write }
/-- The merge of a drain as parts: none where the word has none. -/
def mergeOf (s : State) (p : Word) : Option Land → List (Home × Act)
  | none => []
  | some l => s.mergeParts (modeMf s.me.modew) p l

section
variable {s : State} (d m : BitVec 5) (g : BitVec 1) (f : BitVec 4) (v : BitVec 7)

theorem mdrain_vector (h : modeM s.me.modew = false) : exec (.mdrain d m g f) s = .next (s.trap causeMode 4) :=
  congrArg Host.Outcome.next (if_pos (by rw [h]; rfl))
theorem mdrainReg_vector (h : modeM s.me.modew = false) : exec (.mdrainReg m g f v) s = .next (s.trap causeMode 4) :=
  congrArg Host.Outcome.next (if_pos (by rw [h]; rfl))

variable (h : modeM s.me.modew = true)
include h

theorem mdrainReg_place (hv : s.me.vlim.toNat < v.toNat + drainRegs (modeMf s.me.modew) f.toNat ∨
      rangesMeet v.toNat (drainRegs (modeMf s.me.modew) f.toNat) (modeVb s.me.modew) (blockSize (modeMf s.me.modew)) = true) :
    exec (.mdrainReg m g f v) s = .next (s.trap causeMode 7) :=
  congrArg Host.Outcome.next ((if_neg (by rw [h]; decide)).trans (if_pos hv))
/-- With its registers in place a drain to registers goes on with its merge, then with its operation. -/
theorem mdrainReg_merges (hv : ¬(s.me.vlim.toNat < v.toNat + drainRegs (modeMf s.me.modew) f.toNat ∨
      rangesMeet v.toNat (drainRegs (modeMf s.me.modew) f.toNat) (modeVb s.me.modew) (blockSize (modeMf s.me.modew)) = true)) :
    ∃ k, exec (.mdrainReg m g f v) s = .next (s.drainMerge m g 0 (some .absent) k) ∧ (s.full .toc = true → ∀ l, k l = s.block) ∧
      (s.full .toc = false → ∀ l, ∃ root, k l = (s.issueDrain f (some v) root [] (mergeOf s (s.rs m) l)).done) := by
  refine ⟨_, congrArg Host.Outcome.next ((if_neg (by rw [h]; decide)).trans (if_neg hv)), fun hf l => if_pos hf, fun hf l => ?_⟩
  have hroom : ¬s.full .toc = true := Bool.eq_false_iff.mp hf
  cases l with
  | none => exact ⟨0, if_neg hroom⟩
  | some l => exact ⟨landRoot l, if_neg hroom⟩

theorem mdrain_fails {c : BitVec 6} {x : Word} (hd : s.checkLate (imageAccess (modeMf s.me.modew) f (s.rs d)) = .error (c, x)) :
    exec (.mdrain d m g f) s = .next (s.trap c x) := by
  refine congrArg Host.Outcome.next ((if_neg (by rw [h]; decide)).trans ?_)
  rw [imageAccess] at hd
  rw [hd]
/-- With its image checked a drain to memory goes on with its merge, then with its operation. -/
theorem mdrain_merges {dest : Option Land} (hd : s.checkLate (imageAccess (modeMf s.me.modew) f (s.rs d)) = .ok dest) :
    ∃ k, exec (.mdrain d m g f) s = .next (s.drainMerge m g (s.rs d) dest k) ∧ (s.full .toc = true → ∀ l, k l = s.block) ∧
      (s.full .toc = false → ∀ b l, dest = some b → ∃ root, k l = (s.issueDrain f none root
        ((lines s.pt b (imageAccess (modeMf s.me.modew) f (s.rs d)).pieces).map (fun y => (y.1, Act.writeBuf y.2)))
        (mergeOf s (s.rs m) l)).done) := by
  rw [imageAccess] at hd
  refine ⟨_, congrArg Host.Outcome.next ((if_neg (by rw [h]; decide)).trans (by rw [hd])), fun hf l => if_pos hf, fun hf b l hb => ?_⟩
  have hroom : ¬s.full .toc = true := Bool.eq_false_iff.mp hf
  subst hb
  cases l with
  | none => exact ⟨_, if_neg hroom⟩
  | some l => exact ⟨_, if_neg hroom⟩

end

section
variable {s : State} (m : BitVec 5) (p : Word) (k : Option Land → State)

theorem drainMerge_without : s.drainMerge m 0 p none k = s.trap causeRights (addrXval p (ptrOff p : Nat)) ∧
    ∀ b, s.drainMerge m 0 p (some b) k = k none := ⟨rfl, fun _ => rfl⟩
theorem drainMerge_fails {c : BitVec 6} {x : Word} (dest : Option Land) (h : s.checkLate (mergeAccess (modeMf s.me.modew) (s.rs m)) = .error (c, x)) :
    s.drainMerge m 1 p dest k = s.trap c x := by
  simp only [State.drainMerge, if_neg (show (1 : BitVec 1) ≠ 0 by decide), h]
theorem drainMerge_checked {l : Option Land} (h : s.checkLate (mergeAccess (modeMf s.me.modew) (s.rs m)) = .ok l) :
    s.drainMerge m 1 p none k = s.trap causeRights (addrXval p (ptrOff p : Nat)) ∧ ∀ b,
    (l = none → s.drainMerge m 1 p (some b) k = s.trap causeRights (addrXval (s.rs m) (ptrOff (s.rs m) : Nat))) ∧
    ∀ a, l = some a → s.drainMerge m 1 p (some b) k = k (some a) := by
  simp only [State.drainMerge, if_neg (show (1 : BitVec 1) ≠ 0 by decide), h]
  exact ⟨trivial, fun b => ⟨fun hl => by rw [hl], fun a hl => by rw [hl]⟩⟩

end

/-- The merge is one part, at the home of its first byte. -/
theorem mergeParts_eq (s : State) (mf : Nat) (p : Word) (l : Land) : s.mergeParts mf p l =
    match lines s.pt l [(((p.toNat % 2 ^ 53 : Nat) : Int), if mf = 0 then 8 else 4)] with
    | [] => []
    | (h, y) :: r => [(h, Act.amax (y ++ r.flatMap Prod.snd) (if mf = 0 then 2 else 0))] := by
  rw [State.mergeParts, cellBytes_eq, mergeTy_eq, ptrOff]
  generalize lines s.pt l _ = ls
  cases ls <;> rfl

/-- Settles O42: the hazards and checks in their order, then the tile operation with its stores and merge. -/
theorem drainsEnter : Obligations.DrainsEnter := by
  intro s d m g f v x M mf vb size cells halves bytes regs D P off z image merge T Tile Frame amax mem reg
  have hbytes : drainBytes (modeMf s.me.modew) f.toNat = bytes := drainBytes_eq _ f
  have hregs : drainRegs (modeMf s.me.modew) f.toNat = regs := by rw [drainRegs, hbytes]
  have hsize : blockSize (modeMf s.me.modew) = size := blockSize_eq _
  have himage : imageAccess (modeMf s.me.modew) f (s.rs d) = image := by
    rw [imageAccess, hbytes]
    rfl
  have hmerge : mergeAccess (modeMf s.me.modew) (s.rs m) = merge := by
    rw [mergeAccess, cellBytes_eq]
    rfl
  have hamax (l : Land) : mergeOf s (s.rs m) (some l) = amax l := mergeParts_eq s _ _ l
  have htrap {i : Instr} {c : BitVec 6} {xv : Word} (h : exec i s = .next (s.trap c xv)) : T i c xv := ⟨_, h, traps_trap s _ _ _⟩
  have htile {t : State} {kind : TileKind} (h : EntersDrain s t kind) : Tile t kind := ⟨_, h.queue, rfl, rfl, rfl, rfl, rfl⟩
  have hframe {t : State} {kind : TileKind} (h : EntersDrain s t kind) : Frame t := ⟨h.regs, h.pc, h.toc, h.others, h.mem, h.rest⟩
  have hnext {i : Instr} {t u : State} (hi : exec i s = .next t) (h : t = u) : exec i s = .next u := h ▸ hi
  refine ⟨fun hM => ⟨htrap (mdrain_vector d m g f hM), htrap (mdrainReg_vector m g f v hM)⟩, fun hM => ⟨fun hv => ?place, fun hlim hblock => ?registers,
    fun c xv hi => ?image, fun dest hi => ?memory⟩⟩
  all_goals have hmeet : rangesMeet v.toNat regs vb size = true ↔ v.toNat < vb + size ∧ vb < v.toNat + regs :=
    rangesMeet_iff (hregs ▸ drainRegs_pos _ f) (hsize ▸ blockSize_pos _)
  case place => exact htrap (mdrainReg_place m g f v hM (by rw [hregs, hsize]; exact hv.imp_right hmeet.mpr))
  case registers =>
    have hplace : ¬(s.me.vlim.toNat < v.toNat + regs ∨ rangesMeet v.toNat regs vb size = true) :=
      not_or.mpr ⟨not_lt.mpr hlim, mt hmeet.mp hblock⟩
    obtain ⟨k, hk, hfull, hgoes⟩ := mdrainReg_merges m g f v hM (by rw [hregs, hsize]; exact hplace)
    have hplain {l : Option Land} (hf : s.full .toc = false) (hl : mergeOf s (s.rs m) l = []) : ∃ t, k l = t ∧
        Tile t (.drainReg f v none) ∧ t.ops = s.ops ∧ t.posts = s.posts ∧ Frame t := by
      obtain ⟨root, hr⟩ := hgoes hf l
      obtain ⟨t, ht, h, hops, hposts⟩ := issueDrain_register s f v root
      exact ⟨t, by rw [hr, hl, ht], htile h, hops, hposts, hframe h⟩
    refine ⟨fun hg => ?alone, fun hg => ⟨fun c xv hm => ?fails, fun hm => ?far, fun l hm hf => ?waits, fun l hm hf hl => ?merges, fun l hm hf hl => ?nowhere⟩⟩
    all_goals subst hg
    case alone =>
      have hexec := hnext hk ((drainMerge_without m 0 k).2 _)
      refine ⟨fun hf => hnext hexec (hfull hf _), fun hf => ?_⟩
      obtain ⟨t, ht, h⟩ := hplain (l := none) hf rfl
      exact ⟨t, hnext hexec ht, h⟩
    case fails => exact htrap (hnext hk (drainMerge_fails m 0 k _ (hmerge ▸ hm)))
    case far => exact htrap (hnext hk (((drainMerge_checked m 0 k (hmerge ▸ hm)).2 _).1 rfl))
    all_goals have hexec := hnext hk (((drainMerge_checked m 0 k (hmerge ▸ hm)).2 _).2 l rfl)
    case waits => exact hnext hexec (hfull hf _)
    case merges =>
      obtain ⟨root, hr⟩ := hgoes hf (some l)
      rw [hamax] at hr
      obtain ⟨t, o, ht, h, hops, hoid, hcls, hfin, hlater, hposts⟩ := issueDrain_register_merge s f v root hl
      exact ⟨t, o, hnext hexec (hr.trans ht), htile h, hops, hoid, hcls, hfin, hlater, hposts, hframe h⟩
    case nowhere =>
      obtain ⟨t, ht, h⟩ := hplain (l := some l) hf ((hamax l).trans hl)
      exact ⟨t, hnext hexec ht, h⟩
  case image => exact htrap (mdrain_fails d m g f hM (himage ▸ hi))
  case memory =>
    obtain ⟨k, hk, hfull, hgoes⟩ := mdrain_merges d m g f hM (himage ▸ hi)
    refine ⟨fun hg hd => ?imageFar, fun hg => ⟨fun c xv hm => ?fails, fun ml hm => ⟨fun hd => ?imageFirst, fun hd hml => ?mergeFar⟩⟩,
      fun l parts hd hparts => ?goes⟩
    case imageFar =>
      subst hg hd
      exact htrap (hnext hk (drainMerge_without m _ k).1)
    case fails =>
      subst hg
      exact htrap (hnext hk (drainMerge_fails m _ k _ (hmerge ▸ hm)))
    case imageFirst =>
      subst hg hd
      exact htrap (hnext hk (drainMerge_checked m _ k (hmerge ▸ hm)).1)
    case mergeFar =>
      obtain ⟨b, rfl⟩ := Option.ne_none_iff_exists'.mp hd
      subst hg
      exact htrap (hnext hk (((drainMerge_checked m _ k (hmerge ▸ hm)).2 b).1 hml))
    case goes =>
      subst hd
      have hexec : ∃ a, mergeOf s (s.rs m) a = parts ∧ exec mem s = .next (k a) := by
        obtain ⟨rfl, rfl⟩ | ⟨rfl, a, hm, rfl⟩ := hparts
        · exact ⟨none, rfl, hnext hk ((drainMerge_without m _ k).2 l)⟩
        · exact ⟨some a, hamax a, hnext hk (((drainMerge_checked m _ k (hmerge ▸ hm)).2 l).2 a rfl)⟩
      obtain ⟨a, ha, hexec⟩ := hexec
      refine ⟨fun hf => hnext hexec (hfull hf a), fun hf => ?_⟩
      obtain ⟨root, hr⟩ := hgoes hf l a rfl
      rw [ha, himage] at hr
      obtain ⟨t, o, q, ht, h, hops, hoid, hcls, hfin, hposts, hmap, hq⟩ := issueDrain_memory s f root _ parts
      exact ⟨t, o, q, hnext hexec (hr.trans ht), htile h, hops, hoid, hcls, hfin, hposts, hmap, hq, hframe h⟩

end Sys2Proof.Safety
end

section
/-!
SUPPORT. O48 fails where TOC stands at 63: the operation that is applied then leaves the cycle in which TOC fell among the strand's
`relieved`, which holds the strand's next word of that counter back (R223), and the statement keeps `relieved` as it was.
-/
namespace Sys2Proof.Safety
open Sys2Proof.Machine

/-- A counter that falls from 63 is noted with its cycle (R223). -/
theorem subCount_relieves {s : State} {key : Nat} {c : Cls} (h : Config.counterMax ≤ (s.strand key).count c) :
    (c, s.cycle (key / 16)) ∈ ((s.subCount key c).strand key).relieved := by
  rw [State.subCount, State.strand_modStrand]
  simp only [if_pos h, List.mem_cons_self]

/-- MZERO in the queue of strand 0 of tile 0. -/
def zeroOp (toid : Nat) : TileOp := { toid := toid, key := 0, kind := .zero, k6 := 0, k7 := 0, rm := 0, since := 0 }
/-- The strand is in matrix mode, its grid of F64 in the registers from 8 up, and waits for as many MZERO as TOC can count. -/
def fullQueue : State :=
  { State.reset with strands := [(0, { st := .running, vlim := 128, modew := modeWord 0 0 8, toc := 63 })], tileOps := (List.range 63).map zeroOp }
theorem fullQueue_oldest : fullQueue.tileOpsOf 0 = zeroOp 0 :: (List.range' 1 62).map zeroOp := rfl
/-- Nothing keeps the oldest back, and TOC stands at 63 until it is applied. -/
theorem fullQueue_applies : ∃ u t : State, exec (.tileOpApply 0 0) fullQueue = .next t ∧ t = u.subCount 0 .toc ∧ (u.strand 0).toc = 63 :=
  ⟨_, _, rfl, rfl, rfl⟩

/-- Refutes O48: the strand's note of the cycle in which TOC fell from 63 is new. -/
theorem not_tileApplies : ¬ Obligations.TileApplies := by
  intro h
  obtain ⟨-, hzero, -⟩ := h fullQueue 0 0 (zeroOp 0) ((List.range' 1 62).map zeroOp)
  obtain ⟨t, ht, -, ⟨hstrand, -⟩, -⟩ := hzero fullQueue_oldest (.inr nofun) rfl
  obtain ⟨u, t', ht', hfell, htoc⟩ := fullQueue_applies
  cases ht'.symm.trans ht
  have hnoted : (Cls.toc, u.cycle 0) ∈ (t.strand 0).relieved := hfell ▸ subCount_relieves (key := 0) (c := .toc) htoc.ge
  rw [show (t.strand 0).relieved = [] from congrArg Strand.relieved hstrand] at hnoted
  exact List.not_mem_nil hnoted

end Sys2Proof.Safety
end

section
/-!
SUPPORT. The pennant words at issue (R178 to R187, R344): where they aim, what they do on the issuing tile, and O26.
-/
namespace Sys2Proof.Safety
open Sys2Proof.Machine

/-! ## Where a word aims (R178, R180) -/

section
variable {s : State} {x : BitVec 1} {t : BitVec 6} {o : BitVec 2}

/-- That a PWR lands over a dead router matters only where another word is refused (R350, R368). -/
theorem penTarget_lands : s.penTarget x t o true = s.penTarget x t o ∨ s.penTarget x t o = .ok .absent := by
  unfold State.penTarget
  dsimp only
  split_ifs
  · exact .inl rfl
  · exact .inl rfl
  · exact .inl rfl
  · exact .inl rfl
  · exact .inl rfl
  · cases s.physTile _ _ with
    | none => exact .inl rfl
    | some q =>
      dsimp only
      cases s.refusedPath s.pt q with
      | false => exact .inl rfl
      | true =>
        by_cases hq : q = s.pt
        · rw [if_pos hq]
          exact .inl (if_pos hq).symm
        · exact .inr (if_neg hq)
theorem penTarget_lands_here {i : Nat} (h : s.penTarget x t o = .ok (.here i)) : s.penTarget x t o true = .ok (.here i) :=
  penTarget_lands.elim (·.trans h) fun ha => absurd (ha.symm.trans h) nofun
theorem penTarget_lands_error {c : BitVec 6 × Word} (h : s.penTarget x t o = .error c) : s.penTarget x t o true = .error c :=
  penTarget_lands.elim (·.trans h) fun ha => absurd (ha.symm.trans h) nofun
end

/-! ## Samples (R185)

`put` writes the results to the destinations of a word on its own tile, `fin` those of an operation at its completion. -/

section
variable {s : State} {x : BitVec 1} {t : BitVec 6} {o : BitVec 2} (g : BitVec 5) (kind : Nat) (expect : BitVec 32)
  (put : State → Word × Word → State) (fin : Ending)

theorem sample_error {c : BitVec 6} {w : Word} (h : s.penTarget x t o = .error (c, w)) :
    s.sample x t o g kind expect put fin = s.trap c w := by
  simp only [State.sample, h]
theorem sample_here {i : Nat} (h : s.penTarget x t o = .ok (.here i)) (hfree : s.localHeld clsR relaxed = false) :
    s.sample x t o g kind expect put fin = (put s (sampleOf (s.penSeen s.pt i) kind expect)).done := by
  simp only [State.sample, h, hfree]
  rfl
theorem sample_held {i : Nat} (h : s.penTarget x t o = .ok (.here i)) (hheld : s.localHeld clsR relaxed = true) :
    s.sample x t o g kind expect put fin = s.block := by
  simp only [State.sample, h, hheld]
  rfl
theorem sample_tile {q i : Nat} (h : s.penTarget x t o = .ok (.tile q i)) : s.sample x t o g kind expect put fin =
    s.penRemote .ldc fin 0 0 clsR (s.ord o g) [(.pens q, .penSample i kind expect)] := by
  simp only [State.sample, h]
theorem sample_absent (h : s.penTarget x t o = .ok .absent) : s.sample x t o g kind expect put fin =
    s.penRemote .ldc fin (sampleAbsent kind).1 (sampleAbsent kind).2 clsR (s.ord o g) [] := by
  simp only [State.sample, h]
theorem sample_cross {chip cp die n i : Nat} (h : s.penTarget x t o = .ok (.cross chip cp die n i)) : s.sample x t o g kind expect put fin =
    s.issueCross chip cp (5 + kind) 0 false clsR [die, n, i, expect.toNat] := by
  simp only [State.sample, h]
end

/-! ## Acquires (R339) -/

/-- The gate that an acquiring access lays on all that follows. -/
def acquireGate (needs : List Need) (scope : TileSet) : GateRec :=
  { gate := { needs := needs, scope := scope, own := true, far := true }, r := true, w := true, e := true, x := scope.isSystem }
/-- A strand's access with these parts is issued: as an acquire it gates what follows, and a relaxed one does not. -/
def acquires (s : State) (key : Nat) (ord : Ord) (needs : List Need) : State :=
  if ord.acq then s.modStrand key (fun y => { y with gates := y.gates ++ [acquireGate needs ord.scope] }) else s
/-- The gates that this adds. -/
def gatesBehind (ord : Ord) (needs : List Need) : List GateRec := if ord.acq then [acquireGate needs ord.scope] else []
theorem strand_acquires (s : State) (key : Nat) (ord : Ord) (needs : List Need) :
    (acquires s key ord needs).strand key = { s.strand key with gates := (s.strand key).gates ++ gatesBehind ord needs } := by
  unfold acquires gatesBehind
  split
  · exact State.strand_modStrand ..
  · rw [List.append_nil]
theorem strandsKept_acquires (s : State) (key : Nat) (ord : Ord) (needs : List Need) : StrandsKeptBut s (acquires s key ord needs) key := by
  unfold acquires
  split
  · exact fun _ hk => State.strand_modStrand_other _ _ hk
  · exact fun _ _ => rfl
theorem acquires_rest (s : State) (key : Nat) (ord : Ord) (needs : List Need) :
    acquires s key ord needs = { s with strands := (acquires s key ord needs).strands } := by
  unfold acquires
  split <;> rfl
theorem acquires_iss (s : State) (key : Nat) (ord : Ord) (needs : List Need) : (acquires s key ord needs).iss = s.iss := by rw [acquires_rest]

/-! ## Local writes (R181) -/

theorem done_eq {s u : State} (hi : u.iss = s.iss) :
    u.done = { u.setStrand s.key { u.strand s.key with pc := s.iss.next } with iss := { s.iss with res := .done } } := by
  have hk : u.key = s.key := by rw [State.key, hi, State.key]
  rw [State.done, State.setMe, State.me, hk, hi]
theorem strand_done {s u : State} (hi : u.iss = s.iss) : u.done.strand s.key = { u.strand s.key with pc := s.iss.next } := by
  rw [done_eq hi]
  exact State.strand_setStrand ..
theorem strandsKept_done {s u : State} (hi : u.iss = s.iss) (h : StrandsKeptBut s u s.key) : StrandsKeptBut s u.done s.key := by
  rw [done_eq hi]
  exact fun k hne => (State.strand_setStrand_other u _ hne).trans (h k hne)

/-- The record of a local write of the issuing strand. -/
def localOf (s : State) (idx : Nat) (act : PenAct) (e : Option (BitVec 5)) : LocalWrite :=
  { pid := s.nextId, pt := s.pt, due := s.cycle s.pt + 2, idx := idx, act := act, key := s.key, e := e, oid := none }
/-- A word whose local write is recorded goes on, whatever gates it lays on what follows. -/
theorem writesLocally_of {s u : State} {idx : Nat} {act : PenAct} {e : Option (BitVec 5)} (G : List GateRec)
    (hme : u.strand s.key = { s.me with quiet := 0, busy := true, busyTake := true, gates := G }) (hs : StrandsKeptBut s u s.key)
    (hl : u.locals = s.locals ++ [localOf s idx act e]) (hr : u.regions = (s.rearm s.key).regions)
    (hu : u = { s with strands := u.strands, regions := u.regions, locals := u.locals, nextId := s.nextId + 1 }) :
    WritesLocally s u.done idx act e := by
  have hi : u.iss = s.iss := by rw [hu]
  have hst := strand_done hi
  have hkept := strandsKept_done hi hs
  rw [hme] at hst
  rw [done_eq hi, hme] at hst hkept ⊢
  rw [WritesLocally, hst]
  refine ⟨rfl, rfl, fun k => by cases k <;> rfl, rfl, rfl, rfl, hkept, .of_eq ?_, hl, hr, ?_⟩
  · exact (congrArg State.mem hu :)
  · conv => lhs; rw [hu]
    rfl

/-- The issuing strand's local write with its quiet count at 0 (R63, R181). -/
def locallyWritten (s : State) (idx : Nat) (act : PenAct) (e : Option (BitVec 5)) : State := (s.localWrite idx act e none).touch s.key
theorem strand_locallyWritten (s : State) (idx : Nat) (act : PenAct) (e : Option (BitVec 5)) :
    (locallyWritten s idx act e).strand s.key = { s.me with quiet := 0, busy := true, busyTake := true } := State.strand_modStrand ..
theorem locallyWritten_writes (s : State) (idx : Nat) (act : PenAct) (e : Option (BitVec 5)) :
    WritesLocally s (locallyWritten s idx act e).done idx act e :=
  writesLocally_of s.me.gates (strand_locallyWritten ..) (fun _ hk => State.strand_modStrand_other _ _ hk) rfl rfl rfl
theorem locallyWritten_acquires_writes (s : State) (idx : Nat) (act : PenAct) (e : Option (BitVec 5)) (ord : Ord) (needs : List Need) :
    WritesLocally s (acquires (locallyWritten s idx act e) s.key ord needs).done idx act e := by
  have hrest := acquires_rest (locallyWritten s idx act e) s.key ord needs
  refine writesLocally_of (s.me.gates ++ gatesBehind ord needs) ?_ (fun k hk => ?_) ?_ ?_ ?_
  · rw [strand_acquires, strand_locallyWritten]
  · exact (strandsKept_acquires _ _ _ _ k hk).trans (State.strand_modStrand_other _ _ hk)
  · exact (congrArg State.locals hrest :)
  · exact (congrArg State.regions hrest :)
  · rw [hrest]
    rfl

/-! ## PWR (R183, R344) -/

/-- The release of a word has earlier accesses still open in its scope (R340). -/
def ReleaseOpen (s : State) (o : BitVec 2) (g : BitVec 5) : Prop :=
  (o = 2 ∨ o = 3) ∧ (s.relGate (.strand s.key) true (s.scope s.key g.toNat)).any (fun q => s.gateClosed q (.pens s.pt)) = true
theorem releaseOpen_iff (s : State) (o : BitVec 2) (g : BitVec 5) :
    (s.relGate (.strand s.key) (s.ord o g).rel (s.ord o g).scope).any (fun q => s.gateClosed q (.pens s.pt)) = true ↔ ReleaseOpen s o g := by
  have hrel : (s.ord o g).rel = true ↔ o = 2 ∨ o = 3 := by simp [State.ord]
  rw [ReleaseOpen, ← hrel]
  cases (s.ord o g).rel with
  | false => simp [State.relGate]
  | true => exact (and_iff_right rfl).symm

/-- The operation and the record of a PWR that is held back. -/
def heldOp (s : State) : Op :=
  { oid := s.nextId, party := .strand s.key, rcb := s.me.rcbp.toNat, cls := some .stc, fin := .none, engine := some (.pens s.pt) }
def heldRelease (s : State) (idx : Nat) (v : Word) (scope : TileSet) : HeldRel :=
  { oid := s.nextId, pt := s.pt, party := .strand s.key, idx := idx, v := v, stamp := s.stampMe
    gates := s.relGate (.strand s.key) true scope ++ gatesFor s.me.gates clsW }
/-- The state of a PWR that is held back, short of the end of the word. -/
def holdsRelease (s : State) (idx : Nat) (v : Word) (scope : TileSet) : State :=
  ((State.fresh { s with ops := s.ops ++ [heldOp s], heldRels := s.heldRels ++ [heldRelease s idx v scope] }).addCount s.key .stc).touch s.key
theorem strand_holdsRelease (s : State) (idx : Nat) (v : Word) (scope : TileSet) : (holdsRelease s idx v scope).strand s.key =
    { s.me with stc := s.me.stc + 1, quiet := 0, busy := true, busyTake := true } := by
  rw [holdsRelease, State.touch, State.strand_modStrand, State.rearm, State.strand_modRegion, State.addCount, State.strand_modStrand]
  rfl
theorem strandsKept_holdsRelease (s : State) (idx : Nat) (v : Word) (scope : TileSet) : StrandsKeptBut s (holdsRelease s idx v scope) s.key := by
  intro k hk
  rw [holdsRelease, State.touch, State.strand_modStrand_other _ _ hk, State.rearm, State.strand_modRegion, State.addCount,
    State.strand_modStrand_other _ _ hk]
  rfl

section
variable {s : State} {x : BitVec 1} {t : BitVec 6} {o : BitVec 2} {i : Nat} (v : BitVec 5) (g : BitVec 5)

theorem pwr_error {c : BitVec 6} {w : Word} (h : s.penTarget x t o true = .error (c, w)) : exec (.pwr x v t o g) s = .next (s.trap c w) := by
  change execPwr x v t o g s = _
  simp only [execPwr, h]
theorem pwr_writes (h : s.penTarget x t o true = .ok (.here i)) (hrel : ¬ReleaseOpen s o g) (hfree : s.localHeld clsW relaxed = false) :
    exec (.pwr x v t o g) s = .next (locallyWritten s i (.set (s.rs v) s.stampMe) none).done := by
  change execPwr x v t o g s = _
  simp only [execPwr, h, if_neg (mt (releaseOpen_iff s o g).mp hrel), hfree]
  rfl
theorem pwr_held (h : s.penTarget x t o true = .ok (.here i)) (hrel : ¬ReleaseOpen s o g) (hheld : s.localHeld clsW relaxed = true) :
    exec (.pwr x v t o g) s = .next s.block := by
  change execPwr x v t o g s = _
  simp only [execPwr, h, if_neg (mt (releaseOpen_iff s o g).mp hrel), hheld]
  rfl
theorem pwr_release_full (h : s.penTarget x t o true = .ok (.here i)) (hrel : ReleaseOpen s o g) (hfull : s.full .stc = true) :
    exec (.pwr x v t o g) s = .next s.block := by
  change execPwr x v t o g s = _
  simp only [execPwr, h, if_pos ((releaseOpen_iff s o g).mpr hrel), hfull]
  rfl
theorem pwr_release (h : s.penTarget x t o true = .ok (.here i)) (hrel : ReleaseOpen s o g) (hfull : s.full .stc = false) :
    exec (.pwr x v t o g) s = .next (holdsRelease s i (s.rs v) (s.scope s.key g.toNat)).done := by
  have hord : (s.ord o g).rel = true := by
    obtain ⟨rfl | rfl, -⟩ := hrel <;> rfl
  change execPwr x v t o g s = _
  simp only [execPwr, h]
  rw [if_pos ((releaseOpen_iff s o g).mpr hrel), hfull, hord]
  rfl
end

/-! ## PADD and PCLR (R186, R187) -/

section
variable {s : State} {x : BitVec 1} {t : BitVec 6} {o : BitVec 2} {i : Nat} (e f : BitVec 5) (g : BitVec 5)

theorem padd_error {c : BitVec 6} {w : Word} (h : s.penTarget x t o = .error (c, w)) : exec (.padd x e f t o g) s = .next (s.trap c w) := by
  change execPadd x e f t o g s = _
  simp only [execPadd, h]
theorem padd_held (h : s.penTarget x t o = .ok (.here i)) (hheld : s.localHeld clsRW (s.ord o g) = true) :
    exec (.padd x e f t o g) s = .next s.block := by
  change execPadd x e f t o g s = _
  simp only [execPadd, h, hheld]
  rfl
/-- A PADD on its own tile leaves a local write and, as an acquire, a gate on it. -/
theorem padd_writes (h : s.penTarget x t o = .ok (.here i)) (hfree : s.localHeld clsRW (s.ord o g) = false) : exec (.padd x e f t o g) s =
    .next (acquires (locallyWritten s i (.add (s.rs f) s.stampMe) (some e)) s.key (s.ord o g) [.part s.nextId]).done := by
  change execPadd x e f t o g s = _
  simp only [execPadd, h, hfree]
  rfl

/-- What holds a PCLR back: an acquire, and no FENCE (R339). -/
def ClearFree (s : State) : Prop := s.localHeld 0 {} = false ∧ ∀ q ∈ s.me.gates, q.gate.far = true → s.gateClosed q.gate (.pens s.pt) = false
theorem clearFree_iff (s : State) : (s.localHeld 0 relaxed || s.me.gates.any (fun q => q.gate.far && s.gateClosed q.gate (.pens s.pt))) = true ↔
    ¬ClearFree s := by
  rw [← Bool.not_eq_false, not_iff_not, ClearFree]
  simp [relaxed]
theorem pclr_held (hp : s.me.p = true) (h : ¬ClearFree s) : exec (.pclr e) s = .next s.block := by
  change execPclr e s = _
  rw [execPclr, hp, if_neg (by simp), if_pos ((clearFree_iff s).mpr h)]
theorem pclr_clears (hp : s.me.p = true) (h : ClearFree s) :
    exec (.pclr e) s = .next (locallyWritten s ((s.rs e).toNat % 64) .clear none).done := by
  change execPclr e s = _
  rw [execPclr, hp, if_neg (by simp), if_neg (mt (clearFree_iff s).mp (not_not.mpr h))]
  rfl
end

/-! ## The words on the issuing tile -/

theorem writesRegs_done (s : State) (e f : BitVec 5) (v w : Word) : WritesRegs s ((s.setS e v).setS f w).done e f v w s.iss.next := by
  have hset : (s.setS e v).setS f w = s.setMe ((s.me.setReg e v).setReg f w) := by
    rw [State.setS, State.me_setS, State.setS, setMe_setMe]
  rw [hset]
  refine ⟨_, performed_done s _, ?_, fun r => ?_⟩
  · rw [Strand.setReg_s, Strand.setReg_s]
  · refine (Strand.reg_setReg (s.me.setReg e v) f w r).trans ?_
    rw [Strand.reg_setReg]
    split_ifs <;> rfl

/-- Settles O26: each word by what `penTarget` answers and what `localHeld` says. -/
theorem localPennantWords : Obligations.LocalPennantWords := by
  intro s x e f v t o g i p stamp rel
  refine ⟨fun h hfree => ⟨?prd, ?psame, ?pstamp⟩, fun h hheld => ⟨?prdHeld, ?psameHeld, ?pstampHeld⟩,
    fun h hfree hrel => ?pwr, fun h hheld hrel => ?pwrHeld, fun h hfree => ?padd, fun h hheld => ?paddHeld, fun hp => ⟨fun hfree => ?pclr, fun hheld => ?pclrHeld⟩, fun c w h j hj => ?errors,
    fun h hrel hfull => ?releaseFull, fun h hrel hfull => ?release⟩
  case prd => exact ⟨_, congrArg Host.Outcome.next (sample_here g 0 0 _ _ h hfree), writesRegs_done ..⟩
  case psame => exact ⟨_, congrArg Host.Outcome.next (sample_here g 1 _ _ _ h hfree), writesReg_done ..⟩
  case pstamp => exact ⟨_, congrArg Host.Outcome.next (sample_here g 2 0 _ _ h hfree), writesReg_done ..⟩
  case prdHeld => exact congrArg Host.Outcome.next (sample_held g 0 0 _ _ h hheld)
  case psameHeld => exact congrArg Host.Outcome.next (sample_held g 1 _ _ _ h hheld)
  case pstampHeld => exact congrArg Host.Outcome.next (sample_held g 2 0 _ _ h hheld)
  case pwr => exact ⟨_, pwr_writes v g (penTarget_lands_here h) hrel hfree, locallyWritten_writes ..⟩
  case pwrHeld => exact pwr_held v g (penTarget_lands_here h) hrel hheld
  case padd => exact ⟨_, padd_writes e f g h hfree, locallyWritten_acquires_writes ..⟩
  case paddHeld => exact padd_held e f g h hheld
  case pclr => exact ⟨_, pclr_clears v hp hfree, locallyWritten_writes ..⟩
  case pclrHeld => exact pclr_held v hp hheld
  case errors =>
    have htrap : exec j s = .next (s.trap c w) := by
      simp only [List.mem_cons, List.not_mem_nil, or_false] at hj
      rcases hj with rfl | rfl | rfl | rfl | rfl
      · exact congrArg Host.Outcome.next (sample_error g 0 0 _ _ h)
      · exact congrArg Host.Outcome.next (sample_error g 1 _ _ _ h)
      · exact congrArg Host.Outcome.next (sample_error g 2 0 _ _ h)
      · exact pwr_error v g (penTarget_lands_error h)
      · exact padd_error e f g h
    exact ⟨_, htrap, traps_trap ..⟩
  case releaseFull => exact pwr_release_full v g (penTarget_lands_here h) hrel hfull
  case release =>
    have hst := strand_done (s := s) (u := holdsRelease s i (s.rs v) (s.scope s.key g.toNat)) rfl
    rw [strand_holdsRelease] at hst
    refine ⟨_, heldOp s, pwr_release v g (penTarget_lands_here h) hrel hfull, rfl, rfl, rfl, rfl, ?_, ?_, ?_,
      strandsKept_done rfl (strandsKept_holdsRelease s i _ _), .of_eq rfl, rfl⟩
    · rw [hst]
      rfl
    · rw [hst]
    · rw [hst]
end Sys2Proof.Safety
end

section
/-!
SUPPORT. The pennant words towards other tiles and panels (R178 to R190, R253, R321): the operation or message that each issues, and O27.
-/
namespace Sys2Proof.Safety
open Sys2Proof.Machine

/-! ## The operation -/

/-- The parts of an operation that the strand issues now, by number (R337). -/
def partNeeds (s : State) (n : Nat) : List Need := (List.range n).map (fun i => Need.part (s.nextId + 1 + i))
/-- The operation as it is recorded. -/
def recorded (s : State) (op : Op) : Op :=
  { op with oid := s.nextId, party := .strand s.key, rcb := s.me.rcbp.toNat, stamp := s.me.pidx.setWidth 32, issued := s.cycle s.pt }
/-- An operation of a strand is counted in its class, if it has one. -/
def counted (u : State) (key : Nat) (c : Option Cls) : State := match c with | some c => u.addCount key c | none => u
theorem counted_rest (u : State) (key : Nat) (c : Option Cls) : counted u key c = { u with strands := (counted u key c).strands } := by
  cases c <;> rfl
theorem counted_gates (u : State) (key : Nat) (c : Option Cls) : ((counted u key c).strand key).gates = (u.strand key).gates := by
  cases c with
  | none => rfl
  | some c =>
    refine (congrArg Strand.gates (State.strand_modStrand ..)).trans ?_
    cases c <;> rfl

section
variable (s : State) (op : Op) (cls : Nat) (ord : Ord) (lane root : Nat) (write : Bool) (parts : List (Home × Act))

/-- The issue of an operation in one equation: recorded, its parts posted, counted, and as an acquire a gate (R337, R339). -/
theorem issueOp_eq : ∃ q, s.issueOp op cls ord lane root write parts =
    acquires (counted { s with ops := s.ops ++ [recorded s op], posts := s.posts ++ q, nextId := s.nextId + 1 + parts.length } s.key op.cls)
      s.key ord (partNeeds s parts.length) := by
  unfold State.issueOp
  extract_lets party x gates oid op' first s1 s2 s3 needs
  obtain ⟨q, hq, -, -⟩ := postAll_posts _ parts s1
  refine ⟨q, ?_⟩
  change acquires (counted s2 s.key op.cls) s.key ord (partNeeds s parts.length) = _
  rw [show s2 = { s1 with posts := s1.posts ++ q, nextId := s1.nextId + parts.length } from hq]
  rfl
/-- The operation stands last, with the results that the word gave it. -/
theorem issueOp_ops : (s.issueOp op cls ord lane root write parts).ops = s.ops ++ [recorded s op] := by
  obtain ⟨q, hq⟩ := issueOp_eq s op cls ord lane root write parts
  rw [hq, acquires_rest, counted_rest]
end

section
variable {s : State} {c : Cls} (fin : Ending) (res res2 : Word) (cls : Nat) (ord : Ord) (parts : List (Home × Act))

theorem penRemote_full (h : s.full c = true) : s.penRemote c fin res res2 cls ord parts = s.block := by
  rw [State.penRemote, if_pos h]
/-- The operation of a pennant word, before its end. -/
def penIssued (s : State) (c : Cls) : State :=
  let t := s.issueOp { oid := 0, party := .strand 0, rcb := 0, cls := some c, fin := fin, res := res, res2 := res2 } cls ord 1 0 false parts
  if bitOf 1 cls then t.touch s.key else t
theorem penRemote_goes (h : s.full c = false) :
    s.penRemote c fin res res2 cls ord parts = (penIssued fin res res2 cls ord parts s c).done := by
  rw [State.penRemote, h, if_neg nofun]
  rfl
theorem penIssued_issues : Issues s (penIssued fin res res2 cls ord parts s c).done (some c) fin
    (parts.map (fun x => (x.1, x.2, s.relGate (.strand s.key) ord.rel ord.scope ++ gatesFor s.me.gates cls))) := by
  have h := issueOp_issued s { oid := 0, party := .strand 0, rcb := 0, cls := some c, fin := fin, res := res, res2 := res2 } cls ord 1 0 false parts
  rw [penIssued]
  split
  · exact (h.touch (issueOp_regions ..)).done
  · exact h.done
theorem penIssued_op : ∃ op, (penIssued fin res res2 cls ord parts s c).done.ops = s.ops ++ [op] ∧ op.res = res ∧ op.res2 = res2 := by
  refine ⟨recorded s { oid := 0, party := .strand 0, rcb := 0, cls := some c, fin := fin, res := res, res2 := res2 }, ?_, rfl, rfl⟩
  rw [← issueOp_ops s _ cls ord 1 0 false parts, penIssued]
  split <;> rfl
end

/-! ## Each word -/

/-- What a pennant word does that aims at another tile, at none or at another panel. -/
def ActsAway (s : State) (target : Except (BitVec 6 × Word) PenTarget) (i : Instr) (c : Cls) (fin : Ending) (gates : List Gate) (act : Nat → Act)
    (res : Word × Word) : Prop :=
  (∀ q k, target = .ok (.tile q k) → (s.full c = true → exec i s = .next s.block) ∧
    (s.full c = false → ∃ u, exec i s = .next u ∧ Issues s u (some c) fin [(.pens q, act k, gates)])) ∧
  (target = .ok .absent → (s.full c = true → exec i s = .next s.block) ∧
    (s.full c = false → ∃ u op, exec i s = .next u ∧ Issues s u (some c) fin [] ∧ u.ops = s.ops ++ [op] ∧ op.res = res.1 ∧ op.res2 = res.2)) ∧
  (∀ chip cp die n k, target = .ok (.cross chip cp die n k) → (s.freeTag = none → exec i s = .next s.block) ∧
    (s.freeTag ≠ none → ∃ u, exec i s = .next u ∧ Sends s u chip []))

theorem actsAway {s : State} {target : Except (BitVec 6 × Word) PenTarget} {i : Instr} {c : Cls} {fin : Ending} {cls : Nat} {ord : Ord}
    {act : Nat → Act} {res : Word × Word} {kind : Nat} {ord' : Ord} {args : Nat → Nat → Nat → List Nat}
    (htile : ∀ q k, target = .ok (.tile q k) → exec i s = .next (s.penRemote c fin 0 0 cls ord [(.pens q, act k)]))
    (habsent : target = .ok .absent → exec i s = .next (s.penRemote c fin res.1 res.2 cls ord []))
    (hcross : ∀ chip cp die n k, target = .ok (.cross chip cp die n k) →
      exec i s = .next (s.issueCross chip cp kind 0 false cls (args die n k) ord')) :
    ActsAway s target i c fin (s.relGate (.strand s.key) ord.rel ord.scope ++ gatesFor s.me.gates cls) act res := by
  refine ⟨fun q k h => ⟨fun hf => ?_, fun hf => ?_⟩, fun h => ⟨fun hf => ?_, fun hf => ?_⟩, fun chip cp die n k h => ⟨fun hf => ?_, fun hf => ?_⟩⟩
  · rw [htile q k h, penRemote_full _ _ _ _ _ _ hf]
  · rw [htile q k h, penRemote_goes _ _ _ _ _ _ hf]
    exact ⟨_, rfl, penIssued_issues ..⟩
  · rw [habsent h, penRemote_full _ _ _ _ _ _ hf]
  · rw [habsent h, penRemote_goes _ _ _ _ _ _ hf]
    obtain ⟨op, hop⟩ := penIssued_op (s := s) (c := c) fin res.1 res.2 cls ord []
    exact ⟨_, op, rfl, penIssued_issues .., hop⟩
  · rw [hcross _ _ _ _ _ h, issueCross_none _ _ _ _ _ _ _ _ _ _ hf]
  · rw [hcross _ _ _ _ _ h]
    exact ⟨_, rfl, issueCross_sends _ _ _ _ _ _ _ _ _ _ hf⟩

section
variable {s : State} {x : BitVec 1} {t : BitVec 6} {o : BitVec 2} (v e f : BitVec 5) (g : BitVec 5)

theorem pwr_tile {q k : Nat} (h : s.penTarget x t o true = .ok (.tile q k)) : exec (.pwr x v t o g) s =
    .next (s.penRemote .stc .none 0 0 clsW (s.ord o g) [(.pens q, .penWrite k (s.rs v) s.stampMe)]) := by
  change execPwr x v t o g s = _
  simp only [execPwr, h]
theorem pwr_absent (h : s.penTarget x t o true = .ok .absent) : exec (.pwr x v t o g) s =
    .next (s.penRemote .stc .none 0 0 clsW (s.ord o g) []) := by
  change execPwr x v t o g s = _
  simp only [execPwr, h]
theorem pwr_cross {chip cp die n k : Nat} (h : s.penTarget x t o true = .ok (.cross chip cp die n k)) : exec (.pwr x v t o g) s =
    .next (s.issueCross chip cp 4 0 false clsW [die, n, k, (s.rs v).toNat, s.stampMe.toNat] (s.ord o g)) := by
  change execPwr x v t o g s = _
  simp only [execPwr, h]
theorem padd_tile {q k : Nat} (h : s.penTarget x t o = .ok (.tile q k)) : exec (.padd x e f t o g) s =
    .next (s.penRemote .ldc (.word e) 0 0 clsRW (s.ord o g) [(.pens q, .penAdd k (s.rs f) s.stampMe)]) := by
  change execPadd x e f t o g s = _
  simp only [execPadd, h]
theorem padd_absent (h : s.penTarget x t o = .ok .absent) : exec (.padd x e f t o g) s =
    .next (s.penRemote .ldc (.word e) 0 0 clsRW (s.ord o g) []) := by
  change execPadd x e f t o g s = _
  simp only [execPadd, h]
theorem padd_cross {chip cp die n k : Nat} (h : s.penTarget x t o = .ok (.cross chip cp die n k)) : exec (.padd x e f t o g) s =
    .next (s.issueCross chip cp 8 0 false clsRW [die, n, k, (s.rs f).toNat, s.stampMe.toNat] (s.ord o g)) := by
  change execPadd x e f t o g s = _
  simp only [execPadd, h]
end

/-- A bunting's members that name a tile and are not refused on their way, each with its write (R321, R350). -/
def buntingWrites (s : State) (v : Word) (ms : List Nat) : List (Home × Act) :=
  ms.filterMap (fun m => match s.physTile (bitsOf 14 7 m) (bitsOf 6 8 m) with
    | none => none
    | some q => if s.refusedPath s.pt q then none else some (Home.pens q, Act.penWrite (bitsOf 0 6 m) v s.stampMe))
/-- The same with gates, and the fields of a member as numbers. -/
theorem buntingWrites_gated (s : State) (v : Word) (ms : List Nat) (G : List Gate) : (buntingWrites s v ms).map (fun x => (x.1, x.2, G)) =
    ms.filterMap (fun m => (s.physTile (m / 2 ^ 14 % 128) (m / 64 % 256)).bind (fun q =>
      if s.refusedPath s.pt q then none else some (Home.pens q, Act.penWrite (m % 64) v s.stampMe, G))) := by
  rw [buntingWrites, List.map_filterMap]
  refine List.filterMap_congr fun m _ => ?_
  have hidx : bitsOf 0 6 m = m % 64 := congrArg (· % 64) (Nat.div_one m)
  rw [hidx]
  change _ = Option.bind (s.physTile (bitsOf 14 7 m) (bitsOf 6 8 m)) _
  cases s.physTile (bitsOf 14 7 m) (bitsOf 6 8 m) with
  | none => rfl
  | some q =>
    rw [Option.bind_some]
    dsimp only
    split <;> rfl

section
variable {s : State} (b : BitVec 6) (v : BitVec 5) (o : BitVec 2) (g : BitVec 5)

theorem pmc_invalid (h : s.bunting s.me.rcbp.toNat b.toNat = none) : exec (.pmc b v o g) s = .next (s.trap causeRights (word b.toNat)) := by
  change execPmc b v o g s = _
  simp only [execPmc, h]
theorem pmc_writes {ms : List Nat} (h : s.bunting s.me.rcbp.toNat b.toNat = some ms) : exec (.pmc b v o g) s =
    .next (s.penRemote .stc .none 0 0 clsW (s.ord o g) (buntingWrites s (s.rs v) ms)) := by
  change execPmc b v o g s = _
  simp only [execPmc, h]
  rfl
end

/-- Settles O27: a word is what `penRemote` or `issueCross` does of its target. -/
theorem remotePennantWords : Obligations.RemotePennantWords := by
  intro s x e f v t b o g stamp G R ones
  have hsample : ∀ (i : Instr) (kind : Nat) (expect : BitVec 32) (put : State → Word × Word → State) (fin : Ending),
      exec i s = .next (s.sample x t o g kind expect put fin) →
      ActsAway s (s.penTarget x t o) i .ldc fin (G 1) (fun k => .penSample k kind expect) (sampleAbsent kind) :=
    fun i kind expect put fin hi => actsAway (ord := s.ord o g) (fun q k h => hi.trans (congrArg _ (sample_tile g kind expect put fin h)))
      (fun h => hi.trans (congrArg _ (sample_absent g kind expect put fin h)))
      (fun chip cp die n k h => hi.trans (congrArg _ (sample_cross g kind expect put fin h)))
  refine ⟨?pwr, hsample _ 0 0 _ _ rfl, hsample _ 1 _ _ _ rfl, hsample _ 2 0 _ _ rfl, ?padd, fun h => ?invalid, fun ms h hf => ?full, fun ms h hf => ?pmc⟩
  case pwr =>
    exact actsAway (ord := s.ord o g) (fun q k h => pwr_tile v g h) (fun h => pwr_absent v g h) (fun chip cp die n k h => pwr_cross v g h)
  case padd =>
    exact actsAway (ord := s.ord o g) (fun q k h => padd_tile e f g h) (fun h => padd_absent e f g h) (fun chip cp die n k h => padd_cross e f g h)
  case invalid => exact ⟨_, pmc_invalid b v o g h, traps_trap ..⟩
  case full => rw [pmc_writes b v o g h, penRemote_full _ _ _ _ _ _ hf]
  case pmc =>
    rw [pmc_writes b v o g h, penRemote_goes _ _ _ _ _ _ hf]
    have hissues := penIssued_issues (s := s) (c := .stc) .none 0 0 clsW (s.ord o g) (buntingWrites s (s.rs v) ms)
    rw [buntingWrites_gated] at hissues
    refine ⟨_, rfl, (congrArg (Issues s _ _ _) (List.filterMap_congr fun m _ => ?_)).mp hissues⟩
    cases s.physTile (m / 2 ^ 14 % 128) (m / 64 % 256) <;> rfl
end Sys2Proof.Safety
end

section
/-!
SUPPORT. The gates that a strand's accesses leave on what follows (R339), and O23.
-/
namespace Sys2Proof.Safety
open Sys2Proof.Machine

/-! ## Issues -/

theorem gates_done {s u : State} (hi : u.iss = s.iss) : (u.done.strand s.key).gates = (u.strand s.key).gates := by rw [strand_done hi]
theorem gates_touch (u : State) (key : Nat) : ((u.touch key).strand key).gates = (u.strand key).gates := by
  rw [State.touch, State.strand_modStrand, State.rearm, State.strand_modRegion]

section
variable (s : State) (op : Op) (cls : Nat) (ord : Ord) (lane root : Nat) (write : Bool) (parts : List (Home × Act))

theorem issueOp_iss : (s.issueOp op cls ord lane root write parts).iss = s.iss := by rw [(issueOp_issued s op cls ord lane root write parts).rest]
theorem issueOp_gates : ((s.issueOp op cls ord lane root write parts).strand s.key).gates =
    s.me.gates ++ gatesBehind ord (partNeeds s parts.length) := by
  obtain ⟨q, hq⟩ := issueOp_eq s op cls ord lane root write parts
  rw [hq, strand_acquires, counted_gates]
  rfl
theorem issueOp_done_gates : ((s.issueOp op cls ord lane root write parts).done.strand s.key).gates =
    s.me.gates ++ gatesBehind ord (partNeeds s parts.length) :=
  (gates_done (issueOp_iss ..)).trans (issueOp_gates ..)
theorem issueOp_touch_done_gates : (((s.issueOp op cls ord lane root write parts).touch s.key).done.strand s.key).gates =
    s.me.gates ++ gatesBehind ord (partNeeds s parts.length) :=
  (gates_done (u := (s.issueOp op cls ord lane root write parts).touch s.key) (issueOp_iss ..)).trans ((gates_touch ..).trans (issueOp_gates ..))
end

/-- A word issues and leaves these gates behind the strand's own. -/
def Leaves (s : State) (i : Instr) (G : List GateRec) : Prop := ∃ u, exec i s = .next u ∧ (u.strand s.key).gates = s.me.gates ++ G

section
variable {s : State} {i : Instr} {o : BitVec 2} {g : BitVec 5} {needs : List Need}

theorem Leaves.acquire (h : Leaves s i (gatesBehind (s.ord o g) needs)) (ho : o = 1 ∨ o = 3) :
    Leaves s i [acquireGate needs (s.scope s.key g.toNat)] := by
  obtain rfl | rfl := ho <;> exact h
theorem Leaves.relaxed (h : Leaves s i (gatesBehind (s.ord o g) needs)) (ho : ¬(o = 1 ∨ o = 3)) : Leaves s i [] := by
  have hacq : (s.ord o g).acq = false := by simpa [State.ord] using ho
  rwa [gatesBehind, hacq] at h
end

/-! ## Loads and atomics -/

section
variable {s : State} {l : Land} {o : Int}

theorem ldScalar_goes {t : BitVec 5} {p : Word} {w : BitVec 2} {sx : Bool} {ord : Ord} {plain : Bool}
    (h : s.check { p := p, o := o, pieces := [(o, 2 ^ w.toNat)], right := .read, crossOk := plain } = .ok l) (hl : ∀ k, l ≠ .cross k)
    (hf : s.full .ldc = false) : s.ldScalar t p o w sx ord plain =
      (s.issueLoad l [(o, 2 ^ w.toNat)] (2 ^ w.toNat) (.bytes t (2 ^ w.toNat) sx) (addrXval p o) ord).done := by
  simp only [State.ldScalar, State.access, h]
  cases l with
  | cross k => exact absurd rfl (hl k)
  | scratch q b => rw [hf]; rfl
  | refused q b => rw [hf]; rfl
  | flat r b => rw [hf]; rfl
  | absent => rw [hf]; rfl

theorem issueLoad_gates (s : State) (l : Land) (pieces : List (Int × Nat)) (n : Nat) (fin : Ending) (addr : Word) (ord : Ord) :
    ((s.issueLoad l pieces n fin addr ord).done.strand s.key).gates = s.me.gates ++ gatesBehind ord (partNeeds s (lines s.pt l pieces).length) := by
  refine (issueOp_done_gates ..).trans ?_
  rw [List.length_map]

/-- An atomic of the issuing strand: one part where the access has a home. -/
theorem atomicOp_leaves {i : Instr} {major n : Nat} {d b v : BitVec 5} {y c : BitVec 2} {g : BitVec 5}
    (hi : exec i s = .next (s.atomicOp major d b v y c g)) (hn : (if y.toNat < 2 then 4 else 8) = n)
    (h : s.check { p := s.rs b, o := effOff (s.rs b) 0 0, pieces := [(effOff (s.rs b) 0 0, n)], right := .atomic, crossOk := c == 0
                   condOk := effOff (s.rs b) 0 0 % (n : Int) == 0 } = .ok l) (hl : ∀ k, l ≠ .cross k) (hf : s.full .ldc = false) :
    Leaves s i (gatesBehind (s.ord c g) (if lines s.pt l [(effOff (s.rs b) 0 0, n)] = [] then [] else [.part (s.nextId + 1)])) := by
  have hparts : ∀ f, (if lines s.pt l [(effOff (s.rs b) 0 0, n)] = [] then [] else [Need.part (s.nextId + 1)]) =
      partNeeds s (onePart (lines s.pt l [(effOff (s.rs b) 0 0, n)]) f).length := by
    intro f
    cases lines s.pt l [(effOff (s.rs b) 0 0, n)] <;> rfl
  refine ⟨_, hi, ?_⟩
  simp only [State.atomicOp, hn, State.access, h, hf]
  cases l with
  | cross k => exact absurd rfl (hl k)
  | scratch q a => exact (issueOp_touch_done_gates ..).trans (by rw [hparts])
  | refused q a => exact (issueOp_touch_done_gates ..).trans (by rw [hparts])
  | flat r a => exact (issueOp_touch_done_gates ..).trans (by rw [hparts])
  | absent => exact (issueOp_touch_done_gates ..).trans (by rw [hparts])
/-- The atomics by their majors. -/
theorem exec_atomic {i : Instr} {d b v : BitVec 5} {y o : BitVec 2} {g : BitVec 5}
    (h : i ∈ [Instr.aadd d b v y o g, .amin d b v y o g, .amax d b v y o g, .afmax d b v y o g, .aand d b v y o g, .aor d b v y o g,
      .axor d b v y o g, .aswp d b v y o g, .acas d b v y o g]) : ∃ major, exec i s = .next (s.atomicOp major d b v y o g) := by
  simp only [List.mem_cons, List.not_mem_nil, or_false] at h
  rcases h with rfl | rfl | rfl | rfl | rfl | rfl | rfl | rfl | rfl <;> exact ⟨_, rfl⟩
end

/-! ## Pennant words -/

section
variable {s : State} {x : BitVec 1} {e f : BitVec 5} {k : BitVec 6} {o : BitVec 2} {g : BitVec 5} {i : Instr}

theorem penIssued_leaves {c : Cls} {fin : Ending} {res res2 : Word} {cls : Nat} {ord : Ord} {parts : List (Home × Act)} (hf : s.full c = false)
    (hi : exec i s = .next (s.penRemote c fin res res2 cls ord parts)) : Leaves s i (gatesBehind ord (partNeeds s parts.length)) := by
  refine ⟨_, hi, ?_⟩
  rw [penRemote_goes _ _ _ _ _ _ hf, penIssued]
  split
  · exact issueOp_touch_done_gates ..
  · exact issueOp_done_gates ..
/-- The words that read a pennant of another tile issue one operation, with the part if the tile is there. -/
theorem exec_reads_tile {q j : Nat} (h : s.penTarget x k o = .ok (.tile q j))
    (hi : i ∈ [Instr.prd x e f k o g, .psame x e f k o g, .pstamp x e k o g, .padd x e f k o g]) :
    ∃ fin cls act, exec i s = .next (s.penRemote .ldc fin 0 0 cls (s.ord o g) [(.pens q, act)]) := by
  simp only [List.mem_cons, List.not_mem_nil, or_false] at hi
  rcases hi with rfl | rfl | rfl | rfl
  · exact ⟨_, _, _, congrArg Host.Outcome.next (sample_tile g 0 0 _ _ h)⟩
  · exact ⟨_, _, _, congrArg Host.Outcome.next (sample_tile g 1 _ _ _ h)⟩
  · exact ⟨_, _, _, congrArg Host.Outcome.next (sample_tile g 2 0 _ _ h)⟩
  · exact ⟨_, _, _, padd_tile e f g h⟩
theorem exec_reads_absent (h : s.penTarget x k o = .ok .absent)
    (hi : i ∈ [Instr.prd x e f k o g, .psame x e f k o g, .pstamp x e k o g, .padd x e f k o g]) :
    ∃ fin res res2 cls, exec i s = .next (s.penRemote .ldc fin res res2 cls (s.ord o g) []) := by
  simp only [List.mem_cons, List.not_mem_nil, or_false] at hi
  rcases hi with rfl | rfl | rfl | rfl
  · exact ⟨_, _, _, _, congrArg Host.Outcome.next (sample_absent g 0 0 _ _ h)⟩
  · exact ⟨_, _, _, _, congrArg Host.Outcome.next (sample_absent g 1 _ _ _ h)⟩
  · exact ⟨_, _, _, _, congrArg Host.Outcome.next (sample_absent g 2 0 _ _ h)⟩
  · exact ⟨_, _, _, _, padd_absent e f g h⟩

/-- A word that only writes registers lays no gate. -/
theorem WritesReg.gates {t : State} {d : BitVec 5} {v pc : Word} (h : WritesReg s t d v pc) : (t.strand s.key).gates = s.me.gates ++ [] := by
  obtain ⟨y, ⟨hy, -⟩, hx, -⟩ := h
  rw [hy, hx, List.append_nil]
theorem WritesRegs.gates {t : State} {v w pc : Word} (h : WritesRegs s t e f v w pc) : (t.strand s.key).gates = s.me.gates ++ [] := by
  obtain ⟨y, ⟨hy, -⟩, hx, -⟩ := h
  rw [hy, hx, List.append_nil]
/-- A sample of an own pennant lays no gate. -/
theorem sample_here_leaves {j : Nat} (h : s.penTarget x k o = .ok (.here j)) (hfree : s.localHeld clsR relaxed = false)
    (hi : i ∈ [Instr.prd x e f k o g, .psame x e f k o g, .pstamp x e k o g]) : Leaves s i [] := by
  simp only [List.mem_cons, List.not_mem_nil, or_false] at hi
  rcases hi with rfl | rfl | rfl
  · exact ⟨_, congrArg Host.Outcome.next (sample_here g 0 0 _ _ h hfree), (writesRegs_done ..).gates⟩
  · exact ⟨_, congrArg Host.Outcome.next (sample_here g 1 _ _ _ h hfree), (writesReg_done ..).gates⟩
  · exact ⟨_, congrArg Host.Outcome.next (sample_here g 2 0 _ _ h hfree), (writesReg_done ..).gates⟩
theorem padd_here_leaves {j : Nat} (h : s.penTarget x k o = .ok (.here j)) (hfree : s.localHeld clsRW (s.ord o g) = false) :
    Leaves s (.padd x e f k o g) (gatesBehind (s.ord o g) [.part s.nextId]) := by
  have hiss : (acquires (locallyWritten s j (.add (s.rs f) s.stampMe) (some e)) s.key (s.ord o g) [.part s.nextId]).iss = s.iss := acquires_iss ..
  refine ⟨_, padd_writes e f g h hfree, (gates_done hiss).trans ?_⟩
  rw [strand_acquires, strand_locallyWritten]
end

/-- Settles O23: the gates behind an operation are those that its `ord` field asks for, over the parts that it has now. -/
theorem acquireGatesWhatFollows : Obligations.AcquireGatesWhatFollows := by
  intro s t b w x g d l v e f y o k P off n m acq scope A Adds first On
  have hoff : effOff (s.rs b) 0 0 = off := by simp [effOff, off, P, ptrOff]
  have on : ∀ i needs, Leaves s i (gatesBehind (s.ord o g) needs) → On i needs := fun i needs h => ⟨h.acquire, h.relaxed⟩
  refine ⟨fun h hf => ?ldAcq, fun h hl hf => ?ld, fun h hl hf i hi => ?atomic, fun q j h hf i hi => ?tile, fun h hf i hi => ?absent,
    fun j h hfree i hi => sample_here_leaves h hfree hi, fun j h hfree => on _ _ (padd_here_leaves h hfree)⟩
  case ldAcq =>
    have hl : ∀ c, l ≠ .cross c := fun c hc => by
      subst hc
      cases check_cross h
    rw [← hoff] at h ⊢
    exact ⟨_, congrArg Host.Outcome.next (ldScalar_goes h hl hf), issueLoad_gates ..⟩
  case ld =>
    have hoffd : effOff (s.rs b) 0 d.toInt = off + d.toInt := by simp [effOff, off, P, ptrOff]
    rw [← hoffd] at h
    exact ⟨_, congrArg Host.Outcome.next (ldScalar_goes h hl hf), issueLoad_gates ..⟩
  case atomic =>
    obtain ⟨major, hmajor⟩ := exec_atomic (s := s) hi
    rw [← hoff] at h ⊢
    exact on _ _ (atomicOp_leaves hmajor rfl h hl hf)
  case tile =>
    obtain ⟨fin, cls, act, hexec⟩ := exec_reads_tile h hi
    exact on _ _ (penIssued_leaves hf hexec)
  case absent =>
    obtain ⟨fin, res, res2, cls, hexec⟩ := exec_reads_absent h hi
    exact on _ _ (penIssued_leaves hf hexec)
end Sys2Proof.Safety
end

section
/-!
SUPPORT. Writes of the pennant file (R176, R177, R181 to R183, R186, R189), said once for each way in which one comes about, and O47.
-/
namespace Sys2Proof.Safety
open Sys2Proof.Machine

/-! ## What local samples see (R181, R182) -/

/-- The pennants of a tile that the present cycle has written, as its samples see them. -/
def penPast (s : State) (pt : Nat) : List (Nat × Pennant) := if (s.tile pt).penCycle = some (s.cycle pt) then (s.tile pt).penOld else []
theorem penSeen_eq (s : State) (pt i : Nat) : s.penSeen pt i = ((penPast s pt).lookup i).getD (s.pen pt i) := by
  rw [State.penSeen, penPast]
  split <;> rfl
theorem tile_writePen (s : State) (pt idx : Nat) (p : Pennant) : (s.writePen pt idx p).tile pt = { s.tile pt with
    penCycle := some (s.cycle pt)
    penOld := if ((penPast s pt).lookup idx).isSome then penPast s pt else (idx, s.pen pt idx) :: penPast s pt } := State.tile_modTile _ pt _
theorem penPast_writePen (s : State) (pt idx : Nat) (p : Pennant) : penPast (s.writePen pt idx p) pt =
    if ((penPast s pt).lookup idx).isSome then penPast s pt else (idx, s.pen pt idx) :: penPast s pt := by
  have hcycle : (s.writePen pt idx p).cycle pt = s.cycle pt := by
    rw [State.cycle, tile_writePen]
    rfl
  rw [penPast, hcycle, tile_writePen, if_pos rfl]
/-- A pennant is seen as it stood before the first write of the cycle. -/
theorem penSeen_writePen (s : State) (pt idx i : Nat) (p : Pennant) : (s.writePen pt idx p).penSeen pt i = s.penSeen pt i := by
  rw [penSeen_eq, penSeen_eq, penPast_writePen, s.pen_writePen]
  by_cases hi : i = idx
  · subst hi
    cases hl : (penPast s pt).lookup i <;> simp [hl]
  · have hne : (i == idx) = false := beq_eq_false_iff_ne.mpr hi
    split_ifs
    · rfl
    · rw [List.lookup_cons, hne]

/-! ## One write -/

/-- Pennant idx of a tile takes the write; no other and no byte of memory changes, and the tile's samples of the cycle still see
the file as it stood before. -/
structure Lands (s t : State) (pt idx : Nat) (a : PenAct) : Prop where
  written : t.pen pt idx = (s.pen pt idx).write a
  others  : ∀ e, e ≠ pt * 64 + idx → SMap.get t.pens e {} = SMap.get s.pens e {}
  mem     : MemKept s t
  seen    : ∀ i, t.penSeen pt i = s.penSeen pt i

/-- What counts for a landed write: pennants, memory, time and the tile's record of the cycle. -/
theorem Lands.of_writePen {s t : State} {pt idx : Nat} {a : PenAct} (hpens : t.pens = (s.writePen pt idx ((s.pen pt idx).write a)).pens)
    (hmem : t.mem = s.mem) (hseen : ∀ i, t.penSeen pt i = (s.writePen pt idx ((s.pen pt idx).write a)).penSeen pt i) :
    Lands s t pt idx a where
  written := by
    rw [State.pen, hpens]
    exact (s.pen_writePen pt idx idx _).trans (if_pos rfl)
  others e he := by
    rw [hpens]
    exact SMap.get_put_other _ _ _ he
  mem := .of_eq hmem
  seen i := (hseen i).trans (penSeen_writePen ..)

/-- The write by its kind: value and stamp replaced, the operand added to the value, all three cleared. -/
theorem Lands.kinds {s t : State} {pt idx : Nat} {a : PenAct} (h : Lands s t pt idx a) :
    let p := s.pen pt idx
    let q := t.pen pt idx
    (∀ v st, a = .set v st → q.value = v ∧ q.stamp = st ∧ q.hoist = p.hoist + 1) ∧
    (∀ v st, a = .add v st → q.value = p.value + v ∧ q.stamp = st ∧ q.hoist = p.hoist + 1) ∧
    (a = .clear → q.value = 0 ∧ q.stamp = 0 ∧ q.hoist = 0) ∧
    (∀ e, e ≠ pt * 64 + idx → SMap.get t.pens e {} = SMap.get s.pens e {}) ∧ MemKept s t ∧ ∀ i, t.penSeen pt i = s.penSeen pt i := by
  dsimp only
  rw [h.written]
  refine ⟨?set, ?add, ?clear, h.others, h.mem, h.seen⟩
  case set =>
    rintro v st rfl
    exact ⟨rfl, rfl, rfl⟩
  case add =>
    rintro v st rfl
    exact ⟨rfl, rfl, rfl⟩
  case clear =>
    rintro rfl
    exact ⟨rfl, rfl, rfl⟩

/-! ## Local writes (R181, R183, R186) -/

section
variable {s : State} {pt : Nat}

theorem localWriteApply_waits (h : s.localDue pt = none) : exec (.localWriteApply pt) s = .next s := by
  change execLocalWriteApply pt s = _
  rw [execLocalWriteApply, h]

/-- The pennant file with a local write applied, before its strand hears of it. -/
def landedLocal (s : State) (pt : Nat) (l : LocalWrite) : State :=
  State.writePen { s with locals := s.locals.filter (fun q => q.pid != l.pid) } pt l.idx ((s.pen pt l.idx).write l.act)
/-- What the strand of a local write has of it: its held-back release is applied, and its PADD returns the value that it replaced. -/
def landedStrand (s : State) (pt : Nat) (l : LocalWrite) (x : Strand) : Strand :=
  let y := if l.oid.isSome then { x with relAt := some (s.cycle pt) } else x
  match l.e with | some e => y.setReg e (s.pen pt l.idx).value | none => y

theorem modStrand_modStrand (s : State) (key : Nat) (f g : Strand → Strand) :
    (s.modStrand key f).modStrand key g = s.modStrand key (fun x => g (f x)) := by
  simp only [State.modStrand, State.strand_setStrand]
  simp only [State.setStrand, put_put]
theorem localWriteApply_silent {l : LocalWrite} (h : s.localDue pt = some l) (he : l.e = none) (ho : l.oid = none) :
    exec (.localWriteApply pt) s = .next (landedLocal s pt l) := by
  change execLocalWriteApply pt s = _
  simp only [execLocalWriteApply, h, he, ho]
  rfl
theorem localWriteApply_heard {l : LocalWrite} (h : s.localDue pt = some l) (hl : l.e ≠ none ∨ l.oid ≠ none) :
    exec (.localWriteApply pt) s = .next ((landedLocal s pt l).modStrand l.key (landedStrand s pt l)) := by
  change execLocalWriteApply pt s = _
  simp only [execLocalWriteApply, h]
  obtain ⟨pid, tile, due, idx, act, key, e, oid⟩ := l
  match e, oid with
  | none, none => exact absurd hl (by simp)
  | none, some o => rfl
  | some d, none => rfl
  | some d, some o => exact congrArg Host.Outcome.next (modStrand_modStrand (landedLocal s pt _) key
      (fun x => { x with relAt := some (s.cycle pt) }) fun x => x.setReg d (s.pen pt idx).value)

theorem landedLocal_lands (l : LocalWrite) : Lands s (landedLocal s pt l) pt l.idx l.act := .of_writePen rfl rfl fun _ => rfl
theorem landedLocal_heard_lands (l : LocalWrite) (f : Strand → Strand) :
    Lands s ((landedLocal s pt l).modStrand l.key f) pt l.idx l.act := .of_writePen rfl rfl fun _ => rfl
theorem landedStrand_reg {l : LocalWrite} {e : BitVec 5} (he : l.e = some e) (x : Strand) (r : BitVec 5) :
    (landedStrand s pt l x).reg r = if r = 0 then 0 else if r = e then (s.pen pt l.idx).value else x.reg r := by
  simp only [landedStrand, he, Strand.reg_setReg]
  split_ifs <;> rfl
theorem landedStrand_relAt {l : LocalWrite} (he : l.e = none) (ho : l.oid ≠ none) (x : Strand) :
    landedStrand s pt l x = { x with relAt := some (s.cycle pt) } := by
  simp only [landedStrand, he, if_pos (Option.isSome_iff_ne_none.mpr ho)]
end

/-! ## Deposits (R182, R186, R190) -/

section
variable {s : State} {pt : Nat}

theorem deposit_waits (h : ∀ d, s.deposits.find? (fun d => d.pt == pt) = some d →
    (s.localDue pt).isSome = true ∨ (s.tile pt).lastDeposit = some (s.cycle pt)) : exec (.deposit pt) s = .next s := by
  change execDeposit pt s = _
  cases hd : s.deposits.find? (fun d => d.pt == pt) with
  | none => simp only [execDeposit, hd]
  | some d =>
    have hbusy : ((s.localDue pt).isSome || (s.tile pt).lastDeposit == some (s.cycle pt)) = true := by simpa using h d hd
    simp only [execDeposit, hd]
    rw [if_pos hbusy]

/-- The pennant file with a deposit applied. -/
def landedDeposit (s : State) (pt : Nat) (d : Deposit) : State :=
  State.writePen { s with deposits := s.deposits.erase d } pt d.idx ((s.pen pt d.idx).write d.act)
/-- The operation of a PADD from another tile takes the value that it replaced. -/
def returnOld (s : State) (d : Deposit) (old : Word) : State :=
  match d.act, d.oid with | .add _ _, some o => s.modOp o (fun o => { o with res := old }) | _, _ => s
/-- Another panel hears the value before and the hoist count after. -/
def answerDeposit (s : State) (pt : Nat) (d : Deposit) (old : Pennant) : State :=
  if d.answer then s.give (some (pt / 144)) [3, old.value.toNat, (old.hoist + 1).toNat] else s

/-- The state that a deposit leaves. -/
def afterDeposit (s : State) (pt : Nat) (d : Deposit) : State :=
  (answerDeposit (returnOld (landedDeposit s pt d) d (s.pen pt d.idx).value) pt d (s.pen pt d.idx)).modTile pt
    (fun x => { x with lastDeposit := some (s.cycle pt) })

theorem deposit_goes {d : Deposit} (hd : s.deposits.find? (fun d => d.pt == pt) = some d) (hlocal : s.localDue pt = none)
    (hlast : (s.tile pt).lastDeposit ≠ some (s.cycle pt)) : exec (.deposit pt) s = .next (afterDeposit s pt d) := by
  change execDeposit pt s = _
  have hfree : ¬((s.localDue pt).isSome || (s.tile pt).lastDeposit == some (s.cycle pt)) = true := by simp [hlocal, hlast]
  simp only [execDeposit, hd]
  rw [if_neg hfree]
  rfl
theorem op?_modOp (s : State) (q : Nat) {f : Op → Op} (hf : ∀ o, (f o).oid = o.oid) : (s.modOp q f).op? q = (s.op? q).map f := by
  have hp : (fun o : Op => o.oid == q) ∘ (fun o : Op => if o.oid == q then f o else o) = fun o => o.oid == q := by
    funext o
    dsimp only [Function.comp_apply]
    split <;> simp [hf]
  rw [State.op?, State.modOp, List.find?_map, hp, State.op?]
  refine Option.map_congr fun o ho => ?_
  rw [if_pos (List.find?_some (p := fun o : Op => o.oid == q) ho)]
/-- The return of the old value and the answer change nothing else. -/
theorem returnOld_rest (u : State) (d : Deposit) (old : Word) : returnOld u d old = { u with ops := (returnOld u d old).ops } := by
  unfold returnOld
  split <;> rfl
theorem answerDeposit_rest (u : State) (d : Deposit) (old : Pennant) :
    answerDeposit u pt d old = { u with answers := u.answers ++ if d.answer then [(some (pt / 144), [3, old.value.toNat, (old.hoist + 1).toNat])] else [] } := by
  unfold answerDeposit
  split
  · rfl
  · rw [List.append_nil]
theorem returnOld_add {u : State} {d : Deposit} {v old : Word} {st : BitVec 32} {q : Nat} {o : Op} (ha : d.act = .add v st) (hq : d.oid = some q)
    (ho : u.op? q = some o) : ((returnOld u d old).op? q).map Op.res = some old := by
  simp only [returnOld, ha, hq]
  rw [op?_modOp _ _ (f := fun o => { o with res := old }) fun _ => rfl, ho]
  rfl

theorem afterDeposit_eq (s : State) (pt : Nat) (d : Deposit) : afterDeposit s pt d =
    State.modTile { landedDeposit s pt d with
      ops := (returnOld (landedDeposit s pt d) d (s.pen pt d.idx).value).ops
      answers := s.answers ++ if d.answer then [(some (pt / 144), [3, (s.pen pt d.idx).value.toNat, ((s.pen pt d.idx).hoist + 1).toNat])] else [] } pt
      (fun x => { x with lastDeposit := some (s.cycle pt) }) := by
  rw [afterDeposit, answerDeposit_rest, returnOld_rest]
  rfl
theorem afterDeposit_lands (s : State) (pt : Nat) (d : Deposit) : Lands s (afterDeposit s pt d) pt d.idx d.act := by
  rw [afterDeposit_eq]
  refine .of_writePen rfl rfl fun i => ?_
  simp only [State.penSeen, State.cycle, State.tile_modTile]
  rfl
end

/-! ## Held-back releases (R183) -/

section
variable {s : State} {oid : Nat}

theorem pwrRelEntry_waits (h : ∀ r, s.heldRels.find? (fun r => r.oid == oid) = some r → r.openAt = none ∨ ∀ k, r.party ≠ .strand k) :
    exec (.pwrRelEntry oid) s = .next s := by
  change execPwrRelEntry oid s = _
  cases hr : s.heldRels.find? (fun r => r.oid == oid) with
  | none => simp only [execPwrRelEntry, hr]
  | some r =>
    simp only [execPwrRelEntry, hr]
    split
    next c key ho hp =>
      rcases h r hr with h | h
      · exact absurd (h.symm.trans ho) nofun
      · exact absurd hp (h key)
    · rfl
theorem pwrRelEntry_enters {r : HeldRel} {key : Nat} (hr : s.heldRels.find? (fun r => r.oid == oid) = some r) (ho : r.openAt ≠ none)
    (hp : r.party = .strand key) : exec (.pwrRelEntry oid) s = .next { s with
      heldRels := s.heldRels.filter (fun q => q.oid != oid), nextId := s.nextId + 1
      locals := s.locals ++ [{ pid := s.nextId, pt := r.pt, due := s.cycle r.pt + 2, idx := r.idx, act := .set r.v r.stamp, key := key
                               e := none, oid := some oid }] } := by
  change execPwrRelEntry oid s = _
  obtain ⟨c, hc⟩ := Option.ne_none_iff_exists'.mp ho
  simp only [execPwrRelEntry, hr, hc, hp]
  rfl
end

/-- Settles O47: each event is one write of the pennant file, whose samples of the cycle look past it. -/
theorem pennantEvents : Obligations.PennantEvents := by
  intro s pt oid Waits lands
  refine ⟨localWriteApply_waits, fun l hl => ?localWrite, fun d hd => ⟨fun h => ?depositBusy, fun hlocal hlast => ?deposit⟩, fun h => ?noDeposit,
    fun h => ?noRelease, fun r hr => ⟨fun h => ?releaseHeld, fun key ho hp => pwrRelEntry_enters hr ho hp⟩⟩
  case localWrite =>
    by_cases hears : l.e ≠ none ∨ l.oid ≠ none
    · have hstrand := (landedLocal s pt l).strand_modStrand l.key (landedStrand s pt l)
      refine ⟨_, localWriteApply_heard hl hears, (landedLocal_heard_lands l _).kinds, rfl,
        fun he ho => ?_, fun ho he => ⟨?_, ?_⟩, fun e he => ⟨fun r => ?_, ?_⟩⟩
      · exact absurd hears (by simp [he, ho])
      · rw [hstrand]
        exact landedStrand_relAt he ho _
      · exact fun k hk => State.strand_modStrand_other _ _ hk
      · rw [hstrand]
        exact landedStrand_reg he _ r
      · exact fun k hk => State.strand_modStrand_other _ _ hk
    · obtain ⟨he, ho⟩ : l.e = none ∧ l.oid = none := by simpa using hears
      exact ⟨_, localWriteApply_silent hl he ho, (landedLocal_lands l).kinds, rfl, fun _ _ => rfl, fun h => absurd ho h,
        fun e h => absurd (he.symm.trans h) nofun⟩
  case depositBusy => exact deposit_waits fun d' h' => by cases hd.symm.trans h'; exact h
  case deposit =>
    refine ⟨afterDeposit s pt d, deposit_goes hd hlocal hlast, (afterDeposit_lands s pt d).kinds, ?_⟩
    rw [afterDeposit_eq]
    refine ⟨rfl, rfl, ?_, fun v st q o ha hq ho => ?_, fun h => ?_, rfl, fun h => ?_⟩
    · rw [State.tile_modTile]
    · exact returnOld_add (u := landedDeposit s pt d) ha hq ho
    · simp [h]
    · simp [h]
  case noDeposit => exact deposit_waits fun d hd => absurd (h.symm.trans hd) nofun
  case noRelease => exact pwrRelEntry_waits fun r hr => absurd (h.symm.trans hr) nofun
  case releaseHeld => exact pwrRelEntry_waits fun r' h' => by cases hr.symm.trans h'; exact h

end Sys2Proof.Safety
end

section
/-!
SUPPORT. O51 fails in a state that no run reaches: a request tag whose slot lies beyond the four bits that an event word has for it.
-/
namespace Sys2Proof.Safety
open Sys2Proof.Machine

/-- A load from another panel under tag 0 of tile 0, issued at time 0 and recorded for slot 16, which no tile has. -/
def wideSlot : Request := { cp := 0, stamp := 0, kind := 0, n := 1, sx := false, slot := 16, issued := 0, chip := 0, oid := none }
/-- The request waits, and TMO is 0. -/
def wideSlotWaits : State := { State.reset with tmo := 0, tiles := [(0, { tags := [(0, { req := some wideSlot })] })] }
/-- The slot reaches into the field of the kind (R209): the event word is of kind 6, an eviction's, and leaves TP clear. -/
theorem wideSlot_timesOut : ∃ t, exec (.requestTimeout 0 0) wideSlotWaits = .next t ∧ (t.tile 0).tp = false := ⟨_, rfl, rfl⟩

/-- Refutes O51: a request not answered within TMO does not raise the timeout event where its slot does not fit its field. -/
theorem not_panelEvents : ¬ Obligations.PanelEvents := by
  intro h
  obtain ⟨-, -, -, -, -, htimeout, -⟩ := h wideSlotWaits 0 0 0 false 0 0 [] 0 0 0 0 0 0 0 false 0
  obtain ⟨-, hlate⟩ := htimeout wideSlot rfl
  obtain ⟨t, ht, -, hset, -⟩ := hlate (Nat.le_refl 0)
  obtain ⟨u, hu, hclear⟩ := wideSlot_timesOut
  cases hu.symm.trans ht
  exact absurd (hset.symm.trans hclear) (by decide)

end Sys2Proof.Safety
end
